-- ==== Sys2Proof/Word.lean ====
section
/-! DEFINITION. The word types of the block: the 32-bit register word, the byte of its memories. -/

namespace Sys2Proof

/-- A 32-bit register word (spec 02 R47). -/
abbrev Word := BitVec 32

/-- The smallest addressable unit of every memory of the block (spec 00 R15). -/
abbrev Byte := BitVec 8

end Sys2Proof
end

