-- ==== Sys2Proof/Config.lean ====
section
/-! DEFINITION. What an implementation fixes: the package sizes and their figures (spec 00 Table 0.1),
the chips and blocks of a tray, the package modes, and the free values (opaque constants: nothing
in Lean can evaluate them). -/

namespace Sys2Proof

/-- The three package sizes of spec 00 R2. -/
inductive PkgSize where
  | wfk2 | wfk4 | wfk8
deriving DecidableEq, Repr

/-- The W-dies of a package (spec 00 Table 0.1). -/
def PkgSize.dies : PkgSize → Nat
  | .wfk2 => 2
  | .wfk4 => 4
  | .wfk8 => 8

/-- A register window of the tray: W-die `d`, the package pages on die 0, or the IKB on package LTL port `p`
(spec 02 R67, R69, R70). -/
inductive Chip where
  | wdie (d : Nat)
  | pkg
  | ikb (p : Nat)
deriving DecidableEq, Repr

/-- A number of its own for every window: W-dies 0–7, the package 8, IKBs from 16. -/
def Chip.code : Chip → Nat
  | .wdie d => d % 8
  | .pkg => 8
  | .ikb p => 16 + p % 64

/-- Whether the window is an IKB's (spec 00 R1). -/
def Chip.isIkb : Chip → Bool
  | .ikb _ => true
  | _ => false

/-- The part on which errors of a window's pages count: the package pages lie on die 0 (spec 02 R552). -/
def Chip.part : Chip → Chip
  | .pkg => .wdie 0
  | u => u

/-- The register blocks of both parts (spec 02 Tables 2.9, 2.10 and 2.11). `ras` is RAS on the IKB and HIST
on the W-die; `ltl n` is one of the eight LTL pages of a W-die, `link` the IKB's. -/
inductive Blk where
  | top | clk | aon | time | launch | cntcfg | snap | health | gov | optab | abft | watch | trace | xrx
  | evr | mbox | core | coder | link | prism | auth | ras | pwr | therm | bbx | nvm | dramc | scrub
  | ctx | police | sched | route | codec | merge | feat | lens | drift | opt | ports | torus | mirror
  | d2d | pcie | barrier | pkg | pkgmode | pkgroute
  | ltl (n : Nat)
deriving DecidableEq, Repr

/-- A number of its own for every block. -/
def Blk.code : Blk → Nat
  | .top => 0 | .clk => 1 | .aon => 2 | .time => 3 | .launch => 4 | .cntcfg => 5 | .snap => 6 | .health => 7
  | .gov => 8 | .optab => 9 | .abft => 10 | .watch => 11 | .trace => 12 | .xrx => 13 | .evr => 14 | .mbox => 15
  | .core => 16 | .coder => 17 | .link => 18 | .prism => 19 | .auth => 20 | .ras => 21 | .pwr => 22 | .therm => 23
  | .bbx => 24 | .nvm => 25 | .dramc => 26 | .scrub => 27 | .ctx => 28 | .police => 29 | .sched => 30
  | .route => 31 | .codec => 32 | .merge => 33 | .feat => 34 | .lens => 35 | .drift => 36 | .opt => 37
  | .ports => 38 | .torus => 39 | .mirror => 40 | .d2d => 41 | .pcie => 42 | .barrier => 43 | .pkg => 44
  | .pkgmode => 45 | .pkgroute => 46
  | .ltl n => 48 + n % 8

/-- The four modes, with the AON.MODE code of each (spec 04 Table 4.8). -/
inductive Mode where
  | noon | afternoon | dusk | midnight
deriving DecidableEq, Repr

/-- The AON.MODE code of a mode (spec 04 Table 4.8). -/
def Mode.code : Mode → Nat
  | .noon => 0
  | .afternoon => 1
  | .dusk => 2
  | .midnight => 3

/-- The mode of an AON.MODE code (spec 04 Table 4.8). -/
def Mode.ofCode (n : Nat) : Mode :=
  match n % 4 with
  | 0 => .noon
  | 1 => .afternoon
  | 2 => .dusk
  | _ => .midnight

namespace Config

/-- A free value of `w` bits: nothing constrains it. The step applies it to the counter `State.freeCtr`,
which every use advances. -/
opaque freeValue : Nat → Nat

/-- The next state of a Prism rule's 64-bit LFSR, whose polynomial the spec does not give (spec 09 R284). -/
opaque prismStep : Nat → Nat

/-- Whether a Prism rule's LFSR in a state selects a frame at probability 2^-N_LOG; which bits decide is not given. -/
opaque prismHit : Nat → Nat → Bool

/-- The FP32 encoding of an exponential whose rounding 400-bit bounds do not settle; no operand is known to need it. -/
opaque hardRound : Nat → Nat

/-- A constant of a part that the spec does not give, by what it is, the part's number and an index: 0 the minimum
security version in fuses, 1 the part's identity, 2 and 3 the firmware and fleet key hashes in fuses (spec 16 R486, R491,
Table 16.7), 4 a port's address (spec 10 Table 10.10), 5 a block's stepping (spec 02 R50), 6 where the boot ROM
keeps a die's image (spec 18 Table 18.3), 7 FIELD_ID (spec 17 Table 17.8), 8 which core memory a
core address lies in (spec 16 R504). -/
opaque partConst : Nat → Nat → Nat → Nat

end Config

end Sys2Proof
end

