-- ==== Sys2Proof/Syntax.lean ====
section
/-! DEFINITION. The commands of the block: one constructor per row of spec/opcode_table.json, with the operands this
model gives it (the table gives none): the window, port or die it reaches, the data of a write, the content of a
frame, the reading of a sensor. -/

namespace Sys2Proof

/-- A TSYNC payload as it arrives at an IKB (spec 05 Table 5.3): stamps in quarter nanoseconds since the epoch, the
Meridian counter in ticks and 1/256 ticks; `turn` is the time from its arrival to the ECHO's departure, `delay` the
one-way delay, both in quarter nanoseconds, which the link fixes. -/
structure Tsync where
  seq : Nat
  seqPrev : Nat
  t1 : Nat
  t4Prev : Nat
  merTick : Nat
  merFrac : Nat
  wfkValid : Bool
  fleetLock : Bool
  merSet : Bool
  turn : Nat
deriving DecidableEq, Repr

/-- A PTP message on an optical port (spec 05 R156): its messageType and domainNumber, whether it uses a feature that
Table 5.5 does not list, and an Announce's stepsRemoved and timeTraceable. -/
structure PtpMessage where
  kind : Nat
  domain : Nat
  unlisted : Bool
  stepsRemoved : Nat
  locked : Bool
deriving DecidableEq, Repr

/-- A branch retirement on the trace interface (spec 03 Table 3.8). -/
structure Retire where
  taken : Bool
  ind : Bool
  addr : Nat
  target : Nat
  priv : Nat
  parity : Bool
deriving DecidableEq, Repr

/-- A beat on a checksum tap (spec 03 Table 3.5): `data` is the row, element 0 in the lowest bits; `parity` tells
whether its parity is right. -/
structure Beat where
  kind : Nat
  fmt : Nat
  tag : Nat
  gen : Nat
  first : Bool
  last : Bool
  data : Nat
  parity : Bool
deriving DecidableEq, Repr


/-- A marker as it is sampled at the boundary (spec 03 Table 3.11): MRK_STEP, MRK_PHASE, whether its parity is right,
whether the 64-entry intake queue is full, and whether MRK_KIND carries a reserved code instead of the marker's own. -/
structure Marker where
  step : Nat
  phase : Nat
  parity : Bool
  full : Bool
  reserved : Bool
deriving DecidableEq, Repr

/-- An event record (spec 15 Table 15.4), its payload as one 128-bit number, least significant byte first. -/
structure EvRec where
  seq : Nat
  code : Nat
  page : Nat
  unit : Nat
  part : Nat
  sev : Nat
  esc : Bool := false
  inj : Bool := false
  hw : Bool := false
  payload : Nat := 0
deriving DecidableEq, Repr

/-- The fabric header (spec 10 Table 10.9): coordinates as 18-bit numbers, X lowest. -/
structure FabricHdr where
  kind : Nat
  timeLocked : Bool := false
  spine : Bool := false
  blocked : Nat := 3
  side : Nat := 3
  flow : Nat := 0
  seq : Nat := 0
  created : Nat := 0
  job : Nat := 0
  dieIndex : Nat := 0
  hops : Nat := 0
  dst : Nat := 0
  rdir : Nat := 0
  rank : Nat := 0
  src : Nat := 0
  len : Nat := 0
deriving DecidableEq, Repr

/-- A Lemtar frame: its header, what follows it (a body's numbers as its chapter lays them out; `hdr.len` is its length
in bytes), the deadline of a reduction that it carries, and the die index that a record in it concerns. -/
structure FabricFrame where
  hdr : FabricHdr
  body : List Nat := []
  deadline : Option Nat := none
  about : Option Nat := none
deriving DecidableEq, Repr

/-- A sample of a mirror frame (spec 10 Table 10.12): the switch's stamp, its port, the captured bytes. -/
structure MirrorSample where
  sec : Nat
  ns : Nat
  port : Nat
  data : List Nat
deriving DecidableEq, Repr

/-- A barrier frame as its receiver reads it (spec 17 Table 17.7): RESENT, SEQ, ACK, the payload's bytes, and whether a check of
R521 drops it. -/
structure BarFrame where
  resent : Bool := false
  seq : Nat
  ack : Nat
  payload : List Nat
  bad : Bool := false
deriving DecidableEq, Repr

/-- What the barrier sends at its times (spec 17 Table 17.8): a HEARTBEAT of either end, a SENSE group with its readings, TIME. -/
inductive BarPeriodic where
  | heartbeat (fromField : Bool)
  | sense (group : Nat) (vals : List Nat)
  | time
deriving DecidableEq, Repr
/-- The commands. -/
inductive Instr where
  /-- PKGROUTE_ADD, R46. -/
  | pkgrouteAdd
  /-- PKGROUTE_REMOVE, R46. -/
  | pkgrouteRemove
  /-- PKGROUTE_LOOKUP, R46. -/
  | pkgrouteLookup
  /-- PKGROUTE_DISCARD_STAGED, R46. -/
  | pkgrouteDiscardStaged
  /-- PKGROUTE_REWRITE, R46. -/
  | pkgrouteRewrite
  /-- TABLE_SWAP_ROUTE, R297. -/
  | tableSwapRoute
  /-- TABLE_SWAP_PORTS, R308. -/
  | tableSwapPorts (d : Nat)
  /-- TABLE_SWAP_CTX_SEED, R326. -/
  | tableSwapCtxSeed (d : Nat)
  /-- TABLE_SWAP_DRAM_SEED, R328. -/
  | tableSwapDramSeed (d : Nat) (beyond : Bool)
  /-- TABLE_SWAP_CODEC, R357. -/
  | tableSwapCodec (d instant : Nat)
  /-- FABRIC_FRAME_INGRESS, R31. -/
  | fabricFrameIngress (d : Nat) (request flat : Bool) (job key q : Nat) (frame : FabricFrame)
  /-- FABRIC_FRAME_ARRIVAL, R311. -/
  | fabricFrameArrival (P inq : Nat) (frame : FabricFrame) (fcs : Bool)
  /-- FABRIC_FRAME_REROUTE, R311. -/
  | fabricFrameReroute (P q : Nat)
  /-- SPINE_FRAME_RECEIVE, R41. -/
  | spineFrameReceive (P source : Nat) (frame : FabricFrame)
  /-- REORDER_WINDOW_CLOSE, R41. -/
  | reorderWindowClose (source flow : Nat)
  /-- SPINE_FLOW_CLOSE, R41. -/
  | spineFlowClose (source flow : Nat)
  /-- FLOW_ID_FREE, R41. -/
  | flowIdFree (d id : Nat)
  /-- NOTICE_REPEAT, R44. -/
  | noticeRepeat (seq : Nat)
  /-- NOTICE_ACK, R458. -/
  | noticeAck (job seq : Nat)
  /-- MIRROR_FRAME, R313. -/
  | mirrorFrame (P switch : Nat) (samples : List MirrorSample) (malformed : Bool)
  /-- MIRROR_SAMPLE_RELEASE, R314. -/
  | mirrorSampleRelease
  /-- SOFT_RESET, R52. -/
  | softReset (u : Chip) (b : Blk) (r : Nat)
  /-- SOFT_RESET_DONE, R52. -/
  | softResetDone (u : Chip) (b : Blk)
  /-- ERR_CLEAR, R54. -/
  | errClear (u : Chip) (b : Blk)
  /-- LOCK_SET, R56. -/
  | lockSet (u : Chip) (b : Blk)
  /-- FREEZE_WRITE, R53. -/
  | freezeWrite (u : Chip) (b : Blk) (value : Nat)
  /-- RC_READ, R53. -/
  | rcRead (u : Chip) (b : Blk) (off r : Nat)
  /-- INT_FORCE, R64. -/
  | intForce (u : Chip) (b : Blk) (value : Nat)
  /-- INT_RAW_CLEAR, R66. -/
  | intRawClear (u : Chip) (b : Blk) (value : Nat)
  /-- MSIX_UNMASK, R66. -/
  | msixUnmask (vector : Option Nat)
  /-- LOW_WORD_READ, R57. -/
  | lowWordRead (u : Chip) (b : Blk) (off r : Nat)
  /-- HIGH_WORD_READ, R57. -/
  | highWordRead (u : Chip) (b : Blk) (off r : Nat)
  /-- LOW_WORD_WRITE, R58. -/
  | lowWordWrite (u : Chip) (b : Blk) (off r value : Nat)
  /-- HIGH_WORD_WRITE, R58. -/
  | highWordWrite (u : Chip) (b : Blk) (off r value : Nat)
  /-- REG_PORT_REQUEST, R86. -/
  | regPortRequest (p addr : Nat) (write : Bool) (be data : Nat) (addrOk dataOk secure : Bool)
  /-- PCIE_BAR0_ACCESS, R59. -/
  | pcieBar0Access (write : Bool) (addr len data : Nat)
  /-- PROXY_ACCESS, R71. -/
  | proxyAccess (p r : Nat) (write wide : Bool) (addr value : Nat)
  /-- REGISTER_WRITE, R19. -/
  | registerWrite (u : Chip) (b : Blk) (off r value : Nat) (secure : Bool)
  /-- IKB_PORST, R82. -/
  | ikbPorst (p : Nat)
  /-- IKB_RST, R82. -/
  | ikbRst (p : Nat)
  /-- VIKB_PG_FALL, R77. -/
  | vikbPgFall (p : Nat)
  /-- VIKB_RETURN, R125. -/
  | vikbReturn (p : Nat)
  /-- EVT_OCCURRENCE, R89. -/
  | evtOccurrence (p input : Nat)
  /-- TAP_BEAT, R92. -/
  | tapBeat (p n : Nat) (b : Beat)
  /-- TILE_TIMEOUT, R92. -/
  | tileTimeout (p n tag : Nat)
  /-- TILE_CHECK_DONE, R220. -/
  | tileCheckDone (p n tag : Nat)
  /-- REDUNDANCY_NO_PAIR, R227. -/
  | redundancyNoPair (p n tag : Nat)
  /-- TRACE_RETIRE, R198. -/
  | traceRetire (p n : Nat) (r : Retire)
  /-- TRC_SLEEP_RISE, R201. -/
  | trcSleepRise (p n : Nat)
  /-- TRC_SLEEP_FALL, R201. -/
  | trcSleepFall (p n : Nat)
  /-- XRX_DIGEST, R171. -/
  | xrxDigest (p port dir digest gap : Nat) (parity : Bool)
  /-- SENSE_CONVERSION, R245. -/
  | senseConversion (p r vcode icode : Nat)
  /-- GOV_HARD_RELEASE, R250. -/
  | govHardRelease (p : Nat)
  /-- THERM_SAMPLE, R99. -/
  | thermSample (p site code : Nat) (parity : Bool)
  /-- THERM_SITE_STALE, R99. -/
  | thermSiteStale (p site : Nat)
  /-- GOV_ACK_RISE, R101. -/
  | govAckRise (p : Nat)
  /-- GOV_ACK_FALL, R101. -/
  | govAckFall (p : Nat)
  /-- GOV_ACK_TIMEOUT, R101. -/
  | govAckTimeout (p : Nat)
  /-- GOV_ACK_ABORT, R101. -/
  | govAckAbort (p : Nat)
  /-- AVS_ACK_RISE, R103. -/
  | avsAckRise (p slaveAck : Nat) (err : Bool) (rdata : Nat)
  /-- AVS_TIMEOUT, R103. -/
  | avsTimeout (p : Nat)
  /-- RAIL_PG_RISE, R255. -/
  | railPgRise (p rails : Nat)
  /-- RAIL_PG_FALL, R248. -/
  | railPgFall (p r : Nat)
  /-- MARKER_STEP_BEGIN, R182. -/
  | markerStepBegin (p : Nat) (m : Marker)
  /-- MARKER_STEP_END, R106. -/
  | markerStepEnd (p : Nat) (m : Marker)
  /-- MARKER_PHASE, R182. -/
  | markerPhase (p : Nat) (m : Marker)
  /-- MARKER_CKPT_BEGIN, R235. -/
  | markerCkptBegin (p : Nat) (m : Marker)
  /-- MARKER_CKPT_END, R236. -/
  | markerCkptEnd (p : Nat) (m : Marker)
  /-- POISON_INDICATION, R232. -/
  | poisonIndication (p kind unit gen : Nat) (parity full : Bool)
  /-- REFCLK_WINDOW, R110. -/
  | refclkWindow (p count : Nat)
  /-- NW_RECALIBRATE, R110. -/
  | nwRecalibrate (p trim : Nat)
  /-- XTAL_QUALIFIED, R111. -/
  | xtalQualified (d : Nat)
  /-- PLL_LOCK, R109. -/
  | pllLock (u : Chip)
  /-- SOURCE_LOSS, R119. -/
  | sourceLoss (u : Chip) (row : Nat)
  /-- SOURCE_RECOVERY, R120. -/
  | sourceRecovery (u : Chip)
  /-- CLK_DOM_SRC_WRITE, R116. -/
  | clkDomSrcWrite (u : Chip) (value : Nat)
  /-- CLK_SWITCH_DONE, R116. -/
  | clkSwitchDone (u : Chip)
  /-- CLK_BLK_EN_WRITE, R121. -/
  | clkBlkEnWrite (u : Chip) (k value : Nat)
  /-- LENS_DIV_WRITE, R114. -/
  | lensDivWrite (d value : Nat)
  /-- DOMAIN_IDLE_STOP, R122. -/
  | domainIdleStop (u : Chip) (dom : Nat)
  /-- DOMAIN_WAKE, R122. -/
  | domainWake (u : Chip) (dom cause : Nat)
  /-- PLL_IDLE_OFF, R123. -/
  | pllIdleOff (u : Chip)
  /-- VIKB_OFF_REQ, R125. -/
  | vikbOffReq (p : Nat)
  /-- POWER_DOWN_ENTRY_DONE, R125. -/
  | powerDownEntryDone (p : Nat)
  /-- MODE_ARM, R137. -/
  | modeArm
  /-- MODE_CANCEL, R139. -/
  | modeCancel
  /-- MODE_LAUNCH, R138. -/
  | modeLaunch
  /-- MODE_TRANSITION_DONE, R138. -/
  | modeTransitionDone
  /-- MIDNIGHT_BUFFER_FLUSH, R135. -/
  | midnightBufferFlush (d : Nat)
  /-- HEALTH_BUFFER_FLUSH, R135. -/
  | healthBufferFlush (d : Nat)
  /-- THERM_CONVERSION, R141. -/
  | thermConversion (d : Nat) (sites : List (Option Nat))
  /-- DRAM_SUPPLY_FALL, R140. -/
  | dramSupplyFall (d : Nat)
  /-- SELF_REFRESH_BREAK, R140. -/
  | selfRefreshBreak (d : Nat)
  /-- ADDEND_COMMIT, R144. -/
  | addendCommit (u : Chip) (r hi : Nat)
  /-- TIME_NOW_CAPTURE, R145. -/
  | timeNowCapture (u : Chip) (r : Nat)
  /-- TIME_STEP_WRITE, R147. -/
  | timeStepWrite (u : Chip) (step : Nat)
  /-- OFFSET_IN_WRITE, R158. -/
  | offsetInWrite (d sample : Nat)
  /-- PARENT_TIMEOUT, R149. -/
  | parentTimeout (u : Chip)
  /-- TIME_REACQUIRE, R150. -/
  | timeReacquire (u : Chip)
  /-- TSYNC_SEND, R152. -/
  | tsyncSend (d : Nat)
  /-- TSYNC_RECEIVE, R153. -/
  | tsyncReceive (p : Nat) (f : Tsync)
  /-- ECHO_RECEIVE, R153. -/
  | echoReceive (p seq : Nat) (valid lock : Bool) (t3 : Nat)
  /-- PTP_MESSAGE_RECEIVE, R156. -/
  | ptpMessageReceive (port : Nat) (m : PtpMessage)
  /-- ANNOUNCE_TIMEOUT, R156. -/
  | announceTimeout (d : Nat)
  /-- MER_SET_WRITE, R160. -/
  | merSetWrite (d ticks : Nat)
  /-- MERIDIAN_FRAME, R160. -/
  | meridianFrame (port tick frac delay : Nat)
  /-- LAUNCH_ARM, R164. -/
  | launchArm (u : Chip) (r slot : Nat)
  /-- LAUNCH_DISARM, R164. -/
  | launchDisarm (u : Chip) (slot : Nat)
  /-- LAUNCH_FIRE, R165. -/
  | launchFire (u : Chip) (slot : Nat)
  /-- LAUNCH_MARK, R169. -/
  | launchMark (u : Chip) (markId : Nat) (late : Bool)
  /-- LAUNCH_PULSE, R168. -/
  | launchPulse (p line : Nat)
  /-- PULSE_END, R168. -/
  | pulseEnd (p line : Nat)
  /-- LAUNCH_GOV_STEP, R257. -/
  | launchGovStep (p entry : Nat)
  /-- LAUNCH_ABFT_CHECK, R236. -/
  | launchAbftCheck (p desc : Nat)
  /-- LAUNCH_PRISM, R288. -/
  | launchPrism (u : Chip) (arg : Nat)
  /-- LAUNCH_MODE, R138. -/
  | launchMode (p mode : Nat)
  /-- LAUNCH_MODEL_SWAP, R420. -/
  | launchModelSwap (d m base instant : Nat)
  /-- LAUNCH_NOTIFY, R166. -/
  | launchNotify (u : Chip) (slot : Nat)
  /-- BANK_CLEAR, R183. -/
  | bankClear (p b : Nat)
  /-- SNAP_GENERATOR, R185. -/
  | snapGenerator (p : Nat)
  /-- SNAP_READOUT_DONE, R187. -/
  | snapReadoutDone (p : Nat)
  /-- KEYFRAME_NOW, R191. -/
  | keyframeNow (p : Nat)
  /-- TRACE_RECORD_CLOSE, R195. -/
  | traceRecordClose (p n : Nat)
  /-- BRANCH_MAP_TIMEOUT, R197. -/
  | branchMapTimeout (p n : Nat)
  /-- TRACE_SYNC_NOW, R198. -/
  | traceSyncNow (p : Nat)
  /-- TRACE_AUTH_WRITE, R200. -/
  | traceAuthWrite (p value : Nat) (secure : Bool)
  /-- TRACE_SAMPLE_WINDOW, R203. -/
  | traceSampleWindow (p n : Nat)
  /-- WATCH_REPORT_FORM, R208. -/
  | watchReportForm (p : Nat)
  /-- ABFT_MODE_WRITE, R229. -/
  | abftModeWrite (p value : Nat)
  /-- POISON_CLEAR_ALL, R231. -/
  | poisonClearAll (p : Nat)
  /-- IFC_PENDING_WRITE, R235. -/
  | ifcPendingWrite (p value : Nat)
  /-- IFC_EXPECT_WRITE, R233. -/
  | ifcExpectWrite (p k digest : Nat)
  /-- IFC_DEADLINE, R236. -/
  | ifcDeadline (p : Nat)
  /-- IFC_WAIT_EXPIRY, R236. -/
  | ifcWaitExpiry (p : Nat)
  /-- IFC_TIMEOUT, R236. -/
  | ifcTimeout (p : Nat)
  /-- GOV_EPOCH, R256. -/
  | govEpoch (p : Nat)
  /-- BREAK_PERSIST, R260. -/
  | breakPersist (p : Nat)
  /-- BREAK_CLOSE, R259. -/
  | breakClose (p : Nat)
  /-- RAISE_HOLD_EXPIRY, R260. -/
  | raiseHoldExpiry (p : Nat)
  /-- GOV_PERSIST_AT_ROOT, R260. -/
  | govPersistAtRoot (job index : Nat)
  /-- OPTAB_WRITE, R252. -/
  | optabWrite (p r e w value : Nat)
  /-- ADC_OFFSET_CAL, R247. -/
  | adcOffsetCal (p r : Nat) (voltage current : Int)
  /-- LTL_HELLO, R279. -/
  | ltlHello (p : Nat) (toIkb : Bool) (lanes : Nat) (known : Bool)
  /-- LTL_CREDIT, R274. -/
  | ltlCredit (p : Nat) (toIkb : Bool) (totals : List Nat)
  /-- CREDIT_SEND, R274. -/
  | creditSend (p : Nat) (fromIkb : Bool)
  /-- LTL_STATUS, R276. -/
  | ltlStatus (p last irq : Nat)
  /-- STATUS_SEND, R273. -/
  | statusSend (p : Nat)
  /-- LTL_ACK, R277. -/
  | ltlAck (p cls fseq : Nat)
  /-- LTL_RESEND, R276. -/
  | ltlResend (p seq : Nat)
  /-- LTL_RING_LOST, R276. -/
  | ltlRingLost (p oldest : Nat)
  /-- RESEND_REPEAT, R276. -/
  | resendRepeat (p : Nat)
  /-- LTL_LEVEL_CMD, R212. -/
  | ltlLevelCmd (p level : Nat)
  /-- LTL_KEYFRAME_REQ, R191. -/
  | ltlKeyframeReq (p : Nat)
  /-- LTL_MODE, R139. -/
  | ltlMode (p mode : Nat)
  /-- LTL_IRQ_STATE, R64. -/
  | ltlIrqState (p levels : Nat)
  /-- LTL_WIDTH, R280. -/
  | ltlWidth (p : Nat) (toIkb : Bool) (lanes codeword : Nat)
  /-- WIDTH_CHANGE_POINT, R280. -/
  | widthChangePoint (p lat : Nat)
  /-- LTL_GOODBYE, R281. -/
  | ltlGoodbye (p reason : Nat)
  /-- LTL_GOV_REPORT, R257. -/
  | ltlGovReport (p fseq : Nat) (body : List Nat)
  /-- GOV_REPORT_REPEAT, R277. -/
  | govReportRepeat (p : Nat)
  /-- LTL_JOB_IDX, R257. -/
  | ltlJobIdx (p idx : Nat) (apply : Bool)
  /-- LTL_EVENTS, R276. -/
  | ltlEvents (p : Nat) (recs : List EvRec) (bad : List Nat)
  /-- LTL_HEALTH, R319. -/
  | ltlHealth (p : Nat) (body : List Nat)
  /-- LTL_PROXY_REQ, R283. -/
  | ltlProxyReq (p tag : Nat) (write wide : Bool) (addr data : Nat)
  /-- LTL_PROXY_RSP, R283. -/
  | ltlProxyRsp (p tag : Nat) (err : Bool) (data : Nat)
  /-- LTL_PROXY_WAIT, R283. -/
  | ltlProxyWait (p tag : Nat)
  /-- PROXY_TIMEOUT, R283. -/
  | proxyTimeout (p : Nat)
  /-- LTL_WATCH_REPORT, R209. -/
  | ltlWatchReport (p : Nat) (body : List Nat)
  /-- LTL_TAG_RECORDS, R172. -/
  | ltlTagRecords (p : Nat) (body : List Nat)
  /-- LTL_SNAPSHOT, R189. -/
  | ltlSnapshot (p : Nat) (body : List Nat)
  /-- LTL_TRACE_RECORD, R195. -/
  | ltlTraceRecord (p : Nat) (body : List Nat)
  /-- LTL_LOAD, R489. -/
  | ltlLoad (p off : Nat) (bytes : List Nat)
  /-- LINK_DOWN, R281. -/
  | linkDown (p : Nat) (atIkb : Bool)
  /-- TRAINING_STATE_DONE, R279. -/
  | trainingStateDone (p lanes lat : Nat)
  /-- TRAINING_TIMEOUT, R279. -/
  | trainingTimeout (p : Nat)
  /-- LINK_UP, R279. -/
  | linkUp (p : Nat)
  /-- LANE_FAIL, R280. -/
  | laneFail (p lane lat : Nat)
  /-- LOW_POWER_IDLE_ENTRY, R280. -/
  | lowPowerIdleEntry (p : Nat)
  /-- LINK_REFRESH, R280. -/
  | linkRefresh (p : Nat)
  /-- LINK_SHED_EVAL, R278. -/
  | linkShedEval (p : Nat)
  /-- LTL_RETRAIN, R290. -/
  | ltlRetrain (p : Nat) (atIkb : Bool)
  /-- FORCE_ONE_LANE_WRITE, R280. -/
  | forceOneLaneWrite (p : Nat) (atIkb : Bool) (value : Nat)
  /-- PRISM_RULE_ARM, R284. -/
  | prismRuleArm (u : Chip) (rule : Nat)
  /-- PRISM_RULE_DISARM, R291. -/
  | prismRuleDisarm (u : Chip) (rule : Nat)
  /-- PRISM_HALT, R286. -/
  | prismHalt (u : Chip)
  /-- PRISM_REORDER_RELEASE, R285. -/
  | prismReorderRelease (u : Chip)
  /-- PRISM_WINDOW_END, R288. -/
  | prismWindowEnd (u : Chip) (rule : Nat)
  /-- D2D_LINK_DOWN, R294. -/
  | d2dLinkDown (d k : Nat)
  /-- D2D_RETRAIN_DONE, R294. -/
  | d2dRetrainDone (d k : Nat)
  /-- ELECTION_CLOSE, R295. -/
  | electionClose (straps : List Nat) (failed : Nat)
  /-- DIE_PATH_LOSS, R296. -/
  | diePathLoss (d : Nat)
  /-- DRAM_READ_ERROR, R300. -/
  | dramReadError (d addr cls : Nat) (unc check link : Bool) (owner kind : Nat)
  /-- DRAM_BW_CAP_WRITE, R302. -/
  | dramBwCapWrite (d k value : Nat)
  /-- ELS_OUTPUT_LOSS, R304. -/
  | elsOutputLoss (P : Nat)
  /-- ELS_SWAP_PREP, R304. -/
  | elsSwapPrep (d value : Nat)
  /-- RING_LOCK_LOSS, R305. -/
  | ringLockLoss (d lane : Nat)
  /-- OPT_SWEEP_START, R305. -/
  | optSweepStart (d lanes : Nat)
  /-- OPT_SWEEP_DONE, R305. -/
  | optSweepDone (d lane heater : Nat)
  /-- OPT_LANE_FAIL, R306. -/
  | optLaneFail (P lane : Nat)
  /-- PORT_ROLE_STAGE, R308. -/
  | portRoleStage (P value : Nat)
  /-- PEER_ID_SEND, R309. -/
  | peerIdSend (P : Nat)
  /-- PEER_ID_RECEIVE, R309. -/
  | peerIdReceive (P tray coord size : Nat)
  /-- PEER_ID_TIMEOUT, R309. -/
  | peerIdTimeout (P : Nat)
  /-- BAR2_BASE_WRITE, R316. -/
  | bar2BaseWrite (value : Nat)
  /-- BAR2_ACCESS, R316. -/
  | bar2Access (write : Bool) (addr len : Nat) (data : Nat) (poisoned : Bool)
  /-- PCIE_FLR, R535. -/
  | pcieFlr
  /-- CTX_READ, R342. -/
  | ctxRead (d : Nat)
  /-- CTX_WRITE, R342. -/
  | ctxWrite (d : Nat)
  /-- CTX_PIN, R325. -/
  | ctxPin (d : Nat)
  /-- CTX_UNPIN, R325. -/
  | ctxUnpin (d : Nat)
  /-- CTX_REOPEN_CMD, R342. -/
  | ctxReopenCmd (d : Nat)
  /-- CTX_CLOSE, R342. -/
  | ctxClose (d : Nat)
  /-- CTX_LOOKUP, R342. -/
  | ctxLookup (d : Nat)
  /-- CTX_REOPEN_TIMER, R321. -/
  | ctxReopenTimer (d slot : Nat)
  /-- CTX_DRAIN_DONE, R320. -/
  | ctxDrainDone (d slot : Nat)
  /-- CTX_MIGRATION_DONE, R326. -/
  | ctxMigrationDone (d slot : Nat)
  /-- DRAM_SEED_SWEEP_DONE, R328. -/
  | dramSeedSweepDone (d : Nat)
  /-- IMBALANCE_CHECK, R329. -/
  | imbalanceCheck (moved : List Nat)
  /-- CTX_FRAME_ACCEPT, R330. -/
  | ctxFrameAccept (d slot pre bytes : Nat) (port : Option Nat) (body : List Nat)
  /-- POLICE_WRITE, R331. -/
  | policeWrite (d off value : Nat)
  /-- LEVEL_UP_CHECK, R334. -/
  | levelUpCheck (d : Nat)
  /-- LEVEL_DOWN_CHECK, R334. -/
  | levelDownCheck (d : Nat)
  /-- EGRESS_ENQUEUE, R339. -/
  | egressEnqueue (P q : Nat) (frame : FabricFrame)
  /-- EGRESS_TRANSMIT, R336. -/
  | egressTransmit (P : Nat)
  /-- OPTICAL_CREDIT_SEND, R338. -/
  | opticalCreditSend (P : Nat)
  /-- OPTICAL_CREDIT_RECEIVE, R338. -/
  | opticalCreditReceive (P : Nat) (totals : List Nat)
  /-- TRANSIT_WAIT_TIMEOUT, R339. -/
  | transitWaitTimeout (P : Nat)
  /-- RESULT_DEADLINE_DISCARD, R339. -/
  | resultDeadlineDiscard (P : Nat)
  /-- CODEC_ROW_TAKE, R348. -/
  | codecRowTake (d : Nat)
  /-- CODEC_BLOCK_TIMEOUT, R348. -/
  | codecBlockTimeout (d slot : Nat)
  /-- CODEC_BLOCK_DONE, R365. -/
  | codecBlockDone (d slot : Nat)
  /-- CODEC_RING_TAIL_WRITE, R369. -/
  | codecRingTailWrite (d value : Nat)
  /-- CODEC_ENCODE, R369. -/
  | codecEncode (d : Nat)
  /-- CODEC_DECODE, R369. -/
  | codecDecode (d : Nat)
  /-- CODEC_SAVE, R370. -/
  | codecSave (d : Nat)
  /-- CODEC_RESTORE, R370. -/
  | codecRestore (d : Nat)
  /-- CODEC_TABLE_WRITE, R357. -/
  | codecTableWrite (d k word value : Nat)
  /-- CODEC_CONFIG_WRITE, R350. -/
  | codecConfigWrite (d off value : Nat)
  /-- MERGE_CONTRIBUTION, R375. -/
  | mergeContribution (p source tag sub value flags : Nat)
  /-- MERGE_PARTIAL_RECEIVE, R388. -/
  | mergePartialReceive (d : Nat) (frame : FabricFrame)
  /-- MERGE_FORWARD_INSTANT, R390. -/
  | mergeForwardInstant (d slot : Nat)
  /-- MERGE_ROOT_FINALISE, R392. -/
  | mergeRootFinalise (d slot : Nat)
  /-- MERGE_RESULT_DOWN, R389. -/
  | mergeResultDown (d : Nat) (frame : FabricFrame)
  /-- MERGE_LINGER_END, R394. -/
  | mergeLingerEnd (d slot : Nat)
  /-- JS_START, R397. -/
  | jsStart (job : Nat)
  /-- JS_END, R402. -/
  | jsEnd (job : Nat)
  /-- BCAST_START_RECEIVE, R399. -/
  | bcastStartReceive (sender bid : Nat) (cfg : List Nat)
  /-- BCAST_COMMIT_RECEIVE, R400. -/
  | bcastCommitReceive (sender bid instant : Nat)
  /-- BCAST_ABORT_RECEIVE, R401. -/
  | bcastAbortReceive (sender bid : Nat)
  /-- BCAST_END_RECEIVE, R402. -/
  | bcastEndReceive (sender bid instant : Nat)
  /-- BCAST_ACK_RECEIVE, R398. -/
  | bcastAckReceive (sender bid kind : Nat)
  /-- BCAST_HOP_TIMEOUT, R398. -/
  | bcastHopTimeout (bid kind child : Nat)
  /-- JS_REPORT_RECEIVE, R398. -/
  | jsReportReceive (sender bid kind status dieIndex acks : Nat)
  /-- JS_DEADLINE, R401. -/
  | jsDeadline (job : Nat)
  /-- JS_COMMIT_CHECK, R400. -/
  | jsCommitCheck (job : Nat)
  /-- JS_STAGED_EXPIRY, R401. -/
  | jsStagedExpiry (bid : Nat)
  /-- JS_END_REPEAT, R402. -/
  | jsEndRepeat (job : Nat)
  /-- FEAT_BINDING_WRITE, R406. -/
  | featBindingWrite (d k off value : Nat)
  /-- LENS_LOAD, R419. -/
  | lensLoad (d : Nat)
  /-- LENS_LOAD_DONE, R419. -/
  | lensLoadDone (d : Nat)
  /-- LENS_BATCH_TIMEOUT, R422. -/
  | lensBatchTimeout (d m : Nat)
  /-- LENS_BATCH_SCORED, R423. -/
  | lensBatchScored (d : Nat)
  /-- LENS_LINGER_END, R420. -/
  | lensLingerEnd (d m : Nat)
  /-- LENS_EXPORT_FLUSH, R426. -/
  | lensExportFlush (d : Nat)
  /-- DRIFT_READ, R435. -/
  | driftRead (d : Nat)
  /-- DRIFT_WRITE, R435. -/
  | driftWrite (d : Nat)
  /-- DRIFT_RESET, R435. -/
  | driftReset (d : Nat)
  /-- PAGE_ERROR, R438. -/
  | pageError (u : Chip) (b : Blk) (code sev info : Nat)
  /-- FATAL_WARM_START, R440. -/
  | fatalWarmStart (p : Nat)
  /-- CHANNEL_FAULT, R442. -/
  | channelFault (u : Chip) (k cause : Nat) (unrec : Bool)
  /-- CHANNEL_RETRY, R442. -/
  | channelRetry (u : Chip) (k : Nat) (ok : Bool)
  /-- CHANNEL_FAILED_RETRY, R442. -/
  | channelFailedRetry (u : Chip) (k : Nat) (ok : Bool)
  /-- RAS_RETIRE, R444. -/
  | rasRetire (u : Chip) (k : Nat)
  /-- RAS_COND_DONE, R445. -/
  | rasCondDone (u : Chip) (k : Nat)
  /-- RAS_CLEAR, R448. -/
  | rasClear (u : Chip) (k : Nat)
  /-- RAS_PRELOAD, R443. -/
  | rasPreload (u : Chip) (k : Nat)
  /-- EVR_SUMMARY, R455. -/
  | evrSummary (u : Chip)
  /-- EVR_CLEAR, R457. -/
  | evrClear (u : Chip)
  /-- EVR_BKT_CFG_WRITE, R454. -/
  | evrBktCfgWrite (u : Chip) (value : Nat)
  /-- BBX_PAGE_FLUSH, R460. -/
  | bbxPageFlush
  /-- BBX_FLUSH, R473. -/
  | bbxFlush (d : Nat)
  /-- BBX_PAGE_PROGRAMMED, R460. -/
  | bbxPageProgrammed
  /-- BBX_OVERRUN_SECOND, R460. -/
  | bbxOverrunSecond
  /-- BBX_COMMIT_NOW, R461. -/
  | bbxCommitNow (d : Nat)
  /-- LAST_GASP_DONE, R463. -/
  | lastGaspDone
  /-- WDOG_KICK, R465. -/
  | wdogKick (u : Chip)
  /-- WDOG_CTRL_WRITE, R465. -/
  | wdogCtrlWrite (u : Chip) (r value : Nat)
  /-- WDOG_WARN, R465. -/
  | wdogWarn (u : Chip)
  /-- WDOG_EXPIRE, R465. -/
  | wdogExpire (u : Chip)
  /-- NVM_READ, R474. -/
  | nvmRead (d : Nat)
  /-- NVM_PROGRAM, R474. -/
  | nvmProgram (d : Nat)
  /-- NVM_ERASE, R474. -/
  | nvmErase (d : Nat)
  /-- NVM_CMD_DONE, R474. -/
  | nvmCmdDone (ok : Bool) (lost : Option (Nat × Nat))
  /-- CORE_START, R477. -/
  | coreStart (u : Chip) (c : Nat)
  /-- CORE_HALT, R477. -/
  | coreHalt (u : Chip) (r c : Nat)
  /-- CORE_POWER_OFF, R477. -/
  | corePowerOff (u : Chip) (c : Nat)
  /-- CORE_POWER_ON, R477. -/
  | corePowerOn (u : Chip) (c : Nat)
  /-- CORE_PROMOTE, R495. -/
  | corePromote (d : Nat)
  /-- CORE_MEM_ACCESS, R504. -/
  | coreMemAccess (u : Chip) (r : Nat) (write : Bool) (value : Nat)
  /-- MBOX_SEND, R481. -/
  | mboxSend (u : Chip) (r m : Nat)
  /-- MBOX_POP, R482. -/
  | mboxPop (u : Chip) (m : Nat)
  /-- AUTH_VERIFY, R486. -/
  | authVerify (u : Chip)
  /-- AUTH_VERIFY_DONE, R486. -/
  | authVerifyDone (u : Chip)
  /-- AUTH_SUBMIT, R491. -/
  | authSubmit (u : Chip)
  /-- AUTH_REVOKE, R492. -/
  | authRevoke (u : Chip)
  /-- GRANT_EXPIRY, R492. -/
  | grantExpiry (u : Chip)
  /-- BG_WINDOW, R503. -/
  | bgWindow (u : Chip) (c cycles busy bg : Nat)
  /-- SRAM_SCRUB_ERROR, R501. -/
  | sramScrubError (u : Chip) (kind core : Nat) (data : Bool) (addr : Nat)
  /-- PATROL_PASS, R502. -/
  | patrolPass (d : Nat) (done : Bool)
  /-- SCRUB_RECAL, R498. -/
  | scrubRecal (d channel : Nat)
  /-- ADC_BG_RECAL, R498. -/
  | adcBgRecal (p channel : Nat)
  /-- BUS_LOW, R509. -/
  | busLow (code : Nat)
  /-- BUS_RESTORED, R509. -/
  | busRestored (code : Nat)
  /-- BUS_OV, R509. -/
  | busOv (code : Nat)
  /-- HS_FAULT, R510. -/
  | hsFault (cause code : Nat)
  /-- HS_INSERTION, R510. -/
  | hsInsertion
  /-- HS_RETRY, R510. -/
  | hsRetry
  /-- HS_OFF_OPEN, R529. -/
  | hsOffOpen
  /-- HS_ON_AFTER, R529. -/
  | hsOnAfter
  /-- BUS_CAPTURE_FREEZE, R514. -/
  | busCaptureFreeze (pairs : List (Nat × Nat))
  /-- ALARM_SAMPLE, R515. -/
  | alarmSample (levels : Nat)
  /-- ALARM_STUCK, R516. -/
  | alarmStuck (k : Nat)
  /-- ALARM_CHATTER, R517. -/
  | alarmChatter
  /-- FIELD_SUPPRESSED, R518. -/
  | fieldSuppressed
  /-- RTD_SAMPLE, R513. -/
  | rtdSample (k : Nat) (t : Int)
  /-- FAN_TACH, R513. -/
  | fanTach (k rpm : Nat)
  /-- FIELD_WATCHDOG_EXPIRY, R524. -/
  | fieldWatchdogExpiry
  /-- BARRIER_HELLO, R522. -/
  | barrierHello (toField : Bool) (f : BarFrame)
  /-- BARRIER_HEARTBEAT, R521. -/
  | barrierHeartbeat (toField : Bool) (f : BarFrame)
  /-- BARRIER_ALARM, R522. -/
  | barrierAlarm (f : BarFrame)
  /-- BARRIER_SENSE, R512. -/
  | barrierSense (f : BarFrame)
  /-- BARRIER_EVENT, R527. -/
  | barrierEvent (f : BarFrame)
  /-- BARRIER_CFG_ECHO, R523. -/
  | barrierCfgEcho (f : BarFrame)
  /-- BARRIER_MRAM_DATA, R528. -/
  | barrierMramData (f : BarFrame)
  /-- BARRIER_CMD_DONE, R533. -/
  | barrierCmdDone (f : BarFrame)
  /-- BARRIER_CFG_WRITE_FRAME, R523. -/
  | barrierCfgWriteFrame (f : BarFrame)
  /-- BARRIER_TIME, R526. -/
  | barrierTime (f : BarFrame)
  /-- BARRIER_FW_LOAD, R524. -/
  | barrierFwLoad (f : BarFrame)
  /-- BARRIER_RESEND_TIMER, R521. -/
  | barrierResendTimer (atField : Bool)
  /-- BARRIER_SILENCE, R522. -/
  | barrierSilence (atField : Bool)
  /-- BARRIER_HELLO_TIMER, R522. -/
  | barrierHelloTimer (atField : Bool)
  /-- BARRIER_PERIODIC_SEND, R520. -/
  | barrierPeriodicSend (x : BarPeriodic)
  /-- BARRIER_F_WRITE, R523. -/
  | barrierFWrite (off value : Nat)
  /-- BARRIER_REARM, R516. -/
  | barrierRearm (f : Option BarFrame)
  /-- BARRIER_MRAM_READ, R528. -/
  | barrierMramRead (f : Option BarFrame)
  /-- BARRIER_MRAM_CLEAR, R528. -/
  | barrierMramClear (f : Option BarFrame)
  /-- BARRIER_HS_OFF, R529. -/
  | barrierHsOff (f : Option BarFrame)
  /-- BARRIER_FW_START, R524. -/
  | barrierFwStart (f : Option BarFrame)
  /-- BARRIER_CMD_TIMEOUT, R532. -/
  | barrierCmdTimeout
  /-- START_WARM, R549. -/
  | startWarm (r key : Nat)
  /-- START_COLD, R549. -/
  | startCold (key : Nat)
  /-- HOST_POWER_UP, R535. -/
  | hostPowerUp
  /-- PCIE_PERST, R535. -/
  | pciePerst
  /-- PACKAGE_START_DONE, R539. -/
  | packageStartDone (nor training : Bool) (chans : List Nat)
  /-- WARM_RUN_EXPIRY, R537. -/
  | warmRunExpiry
  /-- TORUS_COORD_WRITE, R547. -/
  | torusCoordWrite (d r xyz tray : Nat)
  /-- AVS_ACK_FALL, R103. -/
  | avsAckFall (p : Nat)
  /-- UNCORRECTABLE_CODEWORD, R282. -/
  | uncorrectableCodeword (p : Nat) (toIkb crc : Bool) (frames : Nat)
  /-- OPTICAL_LINK_DOWN, R441. -/
  | opticalLinkDown (P : Nat)
  /-- OPTICAL_LINK_UP, R309. -/
  | opticalLinkUp (P lanes : Nat)
  /-- ELS_OUTPUT_RESTORED, R304. -/
  | elsOutputRestored (P : Nat)
  /-- HOST_SUPPLY_FALL, R509. -/
  | hostSupplyFall
  /-- FIELD_SIDE_RESET, R527. -/
  | fieldSideReset (watchdog : Bool)
  /-- IKB_LOAD_RETRY, R544. -/
  | ikbLoadRetry (p : Nat)
  /-- START_STEP_TIMEOUT, R544. -/
  | startStepTimeout (d step : Nat)
  /-- PACKAGE_FATAL_TIMEOUT, R440. -/
  | packageFatalTimeout (d : Nat)
deriving DecidableEq, Repr

end Sys2Proof
end

