-- ==== Sys2Proof/Machine/Bits.lean ====
section
/-! DEFINITION. Bit fields, byte order, saturation, sorted association lists, and the CRC-32C and mix64
functions that several chapters share. -/

namespace Sys2Proof.Machine

/-- Bits `lo+w-1 … lo` of `v`. -/
def bitsOf (v lo w : Nat) : Nat := v / 2 ^ lo % 2 ^ w

/-- Bit `i` of `v` as 0 or 1. -/
def bitAt (v i : Nat) : Nat := v / 2 ^ i % 2

/-- `v` with bit `i` set. -/
def setBit (v i : Nat) : Nat := if bitAt v i = 1 then v else v + 2 ^ i

/-- `v` with bit `i` cleared. -/
def clrBit (v i : Nat) : Nat := if bitAt v i = 1 then v - 2 ^ i else v

/-- The bits of `v` that `m` does not name. -/
def andNot (v m : Nat) : Nat := v - (v &&& m)

/-- A two's-complement reading of the low `w` bits. -/
def signedOf (v w : Nat) : Int :=
  if v % 2 ^ w < 2 ^ (w - 1) then (v % 2 ^ w : Nat) else ((v % 2 ^ w : Nat) : Int) - (2 ^ w : Nat)

/-- The low `w` bits of an integer, two's complement. -/
def ofSigned (i : Int) (w : Nat) : Nat := (i % ((2 ^ w : Nat) : Int)).toNat

/-- `v + n`, held at the largest `w`-bit value (spec 00 R19: a counter that saturates). -/
def satAdd (v n w : Nat) : Nat := min (v + n) (2 ^ w - 1)

/-- Ceiling of a division; 0 for a zero divisor. -/
def ceilDiv (a b : Nat) : Nat := (a + b - 1) / b

/-- Floor of the base-2 logarithm, by fuel; 0 for 0. -/
def log2Floor (n : Nat) : Nat := Nat.log2 n

/-- The little-endian bytes of `v`, `n` of them (spec 00 R15). -/
def bytesLE : Nat → Nat → List (BitVec 8)
  | 0, _ => []
  | n + 1, v => BitVec.ofNat 8 v :: bytesLE n (v / 256)

/-- The value of little-endian bytes (spec 00 R15). -/
def ofBytesLE : List (BitVec 8) → Nat
  | [] => 0
  | b :: bs => b.toNat + 256 * ofBytesLE bs

/-- The number of bits set in the low `w` bits of `v`. -/
def popCount : Nat → Nat → Nat
  | 0, _ => 0
  | w + 1, v => v % 2 + popCount w (v / 2)

/-- The position of the lowest bit set in the low `w` bits of `v`. -/
def lowestBit : Nat → Nat → Option Nat
  | 0, _ => none
  | w + 1, v => if v % 2 = 1 then some 0 else (lowestBit w (v / 2)).map (· + 1)

/-- The value under `k` in a list sorted by key. -/
def look {α : Type} (k : Nat) : List (Nat × α) → Option α
  | [] => none
  | (k', v) :: r => if k = k' then some v else look k r

/-- `v` stored under `k`, the keys strictly rising. -/
def put {α : Type} (k : Nat) (v : α) : List (Nat × α) → List (Nat × α)
  | [] => [(k, v)]
  | (k', v') :: r =>
    if k < k' then (k, v) :: (k', v') :: r
    else if k = k' then (k, v) :: r
    else (k', v') :: put k v r

/-- The list without `k`. -/
def drop {α : Type} (k : Nat) : List (Nat × α) → List (Nat × α)
  | [] => []
  | (k', v') :: r => if k = k' then drop k r else (k', v') :: drop k r

/-- The keys strictly rise: the canonical form of every sparse list of the state. -/
def risingKeys {α : Type} : List (Nat × α) → Bool
  | [] => true
  | [_] => true
  | (k, _) :: (k', v') :: r => k < k' && risingKeys ((k', v') :: r)

/-- The list with the keys of `lo … hi-1` removed. -/
def dropRange {α : Type} (lo hi : Nat) (l : List (Nat × α)) : List (Nat × α) :=
  l.filter fun e => !(lo ≤ e.1 && e.1 < hi)

/-- The element at `i` of a list of numbers, 0 beyond its end. -/
def nth (l : List Nat) (i : Nat) : Nat := l.getD i 0

/-- One bit of the reflected CRC-32C division (polynomial 0x1EDC_6F41, spec 00 Table 0.4). -/
def crcBit (c : BitVec 32) : BitVec 32 :=
  if c.getLsbD 0 then (c >>> 1) ^^^ 0x82F63B78#32 else c >>> 1

/-- One byte of the reflected CRC-32C division. -/
def crcByte (c : BitVec 32) (b : BitVec 8) : BitVec 32 :=
  crcBit (crcBit (crcBit (crcBit (crcBit (crcBit (crcBit (crcBit (c ^^^ b.zeroExtend 32))))))))

/-- CRC-32C over bytes (spec 00 Table 0.4), with the initial value and final inversion of all ones. -/
def crc32c (bs : List (BitVec 8)) : BitVec 32 :=
  (bs.foldl crcByte 0xFFFFFFFF#32) ^^^ 0xFFFFFFFF#32

end Sys2Proof.Machine
end

