-- ==== Sys2Proof/Machine/Fp.lean ====
section
/-! DEFINITION. Floating-point elements (spec 00 R16, spec 03 Table 3.6): decoding to exact values, rounding to
nearest even, and FP32 arithmetic on encodings. -/

namespace Sys2Proof.Machine

/-- An element's value; a finite one in units of 2^-149, the smallest FP32 step. -/
inductive FVal where
  | nan
  | inf (neg : Bool)
  | fin (v : Int)
deriving DecidableEq, Repr

/-- The exponent of the units of `FVal.fin`. -/
def unitExp : Nat := 149

/-- The encoding of the positive value num / den × 2^-149 in a format of `mb` fraction and `eb` exponent bits, rounded
to nearest even; beyond the largest finite value the infinity's code. -/
def roundMag (mb eb num den : Nat) : Nat :=
  if num = 0 then 0
  else
    let bias : Int := 2 ^ (eb - 1) - 1
    let e0 : Int := (Nat.log2 num : Int) - (Nat.log2 den : Int)
    let below : Bool := if 0 ≤ e0 then num < den * 2 ^ e0.toNat else num * 2 ^ (-e0).toNat < den
    let e : Int := (if below then e0 - 1 else e0) - 149
    let ex : Int := max e (1 - bias)
    let q : Int := ex - mb + 149
    let n := if q < 0 then num * 2 ^ (-q).toNat else num
    let d := if q < 0 then den else den * 2 ^ q.toNat
    let r := n / d
    let rem := 2 * (n % d)
    let r' := if rem > d || (rem = d && r % 2 = 1) then r + 1 else r
    let bits : Nat := ((ex + bias) * 2 ^ mb + r' - 2 ^ mb : Int).toNat
    min bits ((2 ^ eb - 1) * 2 ^ mb)

/-- The FP32 encoding of num / den × 2^-149. -/
def f32Ratio (num : Int) (den : Nat) : Nat :=
  if num < 0 then 0x80000000 + roundMag 23 8 num.natAbs den else roundMag 23 8 num.natAbs den

/-- The canonical FP32 NaN (spec 06 R206). -/
def f32NaN : Nat := 0x7FC00000

/-- The value of an IEEE-like encoding of `mb` fraction and `eb` exponent bits. -/
def decodeIeee (mb eb bits : Nat) : FVal :=
  let neg := bits / 2 ^ (mb + eb) % 2 = 1
  let e := bits / 2 ^ mb % 2 ^ eb
  let f := bits % 2 ^ mb
  let bias := 2 ^ (eb - 1) - 1
  if e = 2 ^ eb - 1 then (if f = 0 then .inf neg else .nan)
  else
    let m : Nat := if e = 0 then f * 2 ^ (unitExp + 1 - bias - mb) else (2 ^ mb + f) * 2 ^ (unitExp + e - bias - mb)
    .fin (if neg then -(m : Int) else m)

/-- The value of an E4M3 encoding: bias 7, no infinity, S.1111.111 a NaN. -/
def decodeE4M3 (bits : Nat) : FVal :=
  let neg := bits / 128 % 2 = 1
  let e := bits / 8 % 16
  let f := bits % 8
  if e = 15 && f = 7 then .nan
  else
    let m : Nat := if e = 0 then f * 2 ^ (unitExp - 9) else (8 + f) * 2 ^ (unitExp + e - 10)
    .fin (if neg then -(m : Int) else m)

/-- The value of an element by its Table 3.6 code: 0 INT8, 1 E4M3, 2 E5M2, 3 FP16, 4 BF16, 5 FP32, 6 INT32. -/
def decodeFmt (fmt bits : Nat) : FVal :=
  match fmt with
  | 0 => .fin (signedOf bits 8 * 2 ^ unitExp)
  | 1 => decodeE4M3 bits
  | 2 => decodeIeee 2 5 bits
  | 3 => decodeIeee 10 5 bits
  | 4 => decodeIeee 7 8 bits
  | 5 => decodeIeee 23 8 bits
  | _ => .fin (signedOf bits 32 * 2 ^ unitExp)

/-- The bits of an element, and the elements in a beat, by its format. -/
def fmtBits (fmt : Nat) : Nat :=
  match fmt with
  | 0 => 8
  | 1 => 8
  | 2 => 8
  | 3 => 16
  | 4 => 16
  | _ => 32
def fmtPerBeat (fmt : Nat) : Nat := 512 / fmtBits fmt

/-- The FP32 encoding of a value. -/
def FVal.f32 : FVal → Nat
  | .nan => f32NaN
  | .inf neg => if neg then 0xFF800000 else 0x7F800000
  | .fin v => f32Ratio v 1

/-- FP32 arithmetic on encodings, each result rounded to nearest even. -/
def fadd (a b : Nat) : Nat :=
  match decodeIeee 23 8 a, decodeIeee 23 8 b with
  | .fin x, .fin y => if a = 0x80000000 ∧ b = 0x80000000 then a else f32Ratio (x + y) 1
  | .inf n, .inf m => if n = m then (FVal.inf n).f32 else f32NaN
  | .inf n, .fin _ => (FVal.inf n).f32
  | .fin _, .inf n => (FVal.inf n).f32
  | _, _ => f32NaN
def fneg (a : Nat) : Nat := if bitAt a 31 = 1 then a - 0x80000000 else a + 0x80000000
def fsub (a b : Nat) : Nat := fadd a (fneg b)
def fabs (a : Nat) : Nat := a % 0x80000000
def fmul (a b : Nat) : Nat :=
  match decodeIeee 23 8 a, decodeIeee 23 8 b with
  | .fin x, .fin y => if x * y = 0 then (if bitAt a 31 = bitAt b 31 then 0 else 0x80000000) else f32Ratio (x * y) (2 ^ unitExp)
  | .inf n, .inf m => (FVal.inf (n != m)).f32
  | .inf n, .fin y => if y = 0 then f32NaN else (FVal.inf (n != (y < 0))).f32
  | .fin x, .inf n => if x = 0 then f32NaN else (FVal.inf (n != (x < 0))).f32
  | _, _ => f32NaN

/-- Whether a > b for FP32 encodings; false when either is a NaN. -/
def fgt (a b : Nat) : Bool :=
  match decodeIeee 23 8 a, decodeIeee 23 8 b with
  | .fin x, .fin y => y < x
  | .inf false, .fin _ => true
  | .fin _, .inf true => true
  | .inf false, .inf true => true
  | _, _ => false

/-- Whether an FP32 encoding is an infinity, or a NaN. -/
def fIsInf (a : Nat) : Bool := a % 0x80000000 = 0x7F800000
def fIsNaN (a : Nat) : Bool := 0x7F800000 < a % 0x80000000

/-- The key that orders non-NaN FP32 encodings, −0 below +0 (spec 06 R206). -/
def f32Key (a : Nat) : Int := if bitAt a 31 = 1 then -(a % 0x80000000 : Nat) - 1 else (a : Int)

/-- The compensated sum of spec 07 R219: sum and correction. -/
structure CompSum where
  s : Nat := 0
  c : Nat := 0
deriving DecidableEq, Repr

/-- comp_add of spec 07 R219. -/
def CompSum.add (a : CompSum) (x : Nat) : CompSum :=
  let t := fadd a.s x
  let c := if fgt (fabs x) (fabs a.s) then fadd a.c (fadd (fsub x t) a.s) else fadd a.c (fadd (fsub a.s t) x)
  { s := t, c := c }

/-- value() of spec 07 R219. -/
def CompSum.value (a : CompSum) : Nat := fadd a.s a.c

/-- The compensated sum of a list, in order. -/
def compSum (l : List Nat) : CompSum := l.foldl CompSum.add {}

/-- mix64 of spec 06 R207. -/
def mix64 (z0 : Nat) : Nat :=
  let z1 := z0 ^^^ (z0 / 2 ^ 33)
  let z2 := z1 * 0xFF51AFD7ED558CCD % 2 ^ 64
  let z3 := z2 ^^^ (z2 / 2 ^ 33)
  let z4 := z3 * 0xC4CEB9FE1A85EC53 % 2 ^ 64
  z4 ^^^ (z4 / 2 ^ 33)

/-- The term of element `i` with encoding `bits` in the digest of spec 06 R207. -/
def digestTerm (i bits : Nat) : Nat := mix64 (bits ^^^ (i * 0x9E3779B97F4A7C15 % 2 ^ 64))

/-- Bytes of the unsigned LEB128 varint of `v` (spec 06 R190), by fuel. -/
def varint : Nat → Nat → List Nat
  | 0, _ => []
  | n + 1, v => if v < 128 then [v] else (v % 128 + 128) :: varint n (v / 128)

/-- Zigzag of a signed difference (spec 06 R199). -/
def zigzag (d : Int) : Nat := if 0 ≤ d then (2 * d).toNat else (-2 * d - 1).toNat

end Sys2Proof.Machine
end

