-- ==== Sys2Proof/Machine/State.lean ====
section
/-! DEFINITION. The state of a tray as plain data, the faults and refusals, and the state after reset. -/

namespace Sys2Proof.Machine

/-- A scheduler notice awaiting acknowledgement at die 0 (spec 01 R44, spec 15 R458). -/
structure Notice where
  seq : Nat
  job : Nat
  dieIndex : Nat
  code : Nat
  payload : Nat
  ranks : List Nat := []
  sends : Nat
  lastSend : Nat
deriving DecidableEq, Repr

/-- The faults a channel's window holds (spec 15 R443): the FAULT_SEC instant and the bin of each, latest first. -/
structure Window where
  recov : List (Nat × Nat) := []
  unrecov : List (Nat × Nat) := []
deriving DecidableEq, Repr

/-- The retry episode or FAILED state of a channel (spec 15 R442). -/
structure Episode where
  start : Nat
  cause : Nat
  bin : Nat
  stale : Bool
  inj : Bool
  retries : Nat
  failedAt : Nat
deriving DecidableEq, Repr

/-- The Local Time Clock of a part (spec 05 R142), the one-bit remainder of the sleep path (R143) among it. -/
structure Ltc where
  sec : Nat := 0
  ns : Nat := 0
  frac : Nat := 0
  rem : Nat := 0
deriving DecidableEq, Repr

/-- A rate servo (spec 05 R147 to R149): its latest outputs (newest first, at most 64), the runs of updates within
LOCK_NS and beyond UNLOCK_NS, whether the next sample is the first after a return, the instant of the latest sample,
and whether the parent reports locked. -/
structure Servo where
  outputs : List Nat := []
  lockRun : Nat := 0
  unlockRun : Nat := 0
  firstAfter : Bool := false
  lastSample : Nat := 0
  parentLocked : Bool := false
  held : Nat := 0
deriving DecidableEq, Repr

/-- A Meridian counter (spec 05 R160): its value in 2^-40 tick, its rate per 20 ns in the same unit, and its servo's
state and samples. -/
structure Meridian where
  value : Nat := 0
  rate : Nat := 1099511627776
  set : Bool := false
  samples : Nat := 0
deriving DecidableEq, Repr

/-- One TSYNC exchange that an IKB holds: SEQ, t1, t2, t3, the stamps in quarter nanoseconds (spec 05 R153). -/
structure Exchange where
  seq : Nat
  t1 : Nat
  t2 : Nat
  t3 : Nat
deriving DecidableEq, Repr

/-- A committed last-gasp block (spec 15 Table 15.9): its block of the black-box ring, the instant, and what the header
and body hold; a capture is kept under die × 128 + page, its four words as one number. -/
structure GaspBlock where
  block : Nat
  at' : Nat
  cause : Nat
  seen : Nat
  time : Nat
  meridian : Nat
  mode : Nat
  hseq : Nat
  seq : Nat
  captures : List (Nat × Nat)
  links : List Nat
  records : List EvRec
  told : Bool := false
deriving DecidableEq, Repr


/-- A tagging record (spec 05 Table 5.8). -/
structure TagRec where
  digest : Nat
  port : Nat
  dir : Nat
  fleetLock : Bool
  localLock : Bool
  stamp : Nat
deriving DecidableEq, Repr

/-- A snapshot capture whose read-out runs, or its record (spec 06 Table 6.3). -/
structure SnapRec where
  seq : Nat
  markId : Nat
  flags : Nat
  mode : Nat
  shed : Nat
  sec : Nat
  ns : Nat
  merTick : Nat
  merFrac : Nat
  mask : Nat
  forward : Bool
deriving DecidableEq, Repr

/-- The trace stream of a sequencer (spec 06 R195 to R202): its state of Table 6.7, the TRCn_SLEEP level, the pending
outcomes (oldest first) and the instant of the first, last_target, retires since the last SYNC, whether a SYNC is
demanded, the next SYNC's reason, the open gap, the packets of the buffer (oldest first) with the instant of the first,
whether an overflow is open and the retires it lost, the last traced address, and RSEQ. -/
structure Stream where
  st : Nat := 0
  sleep : Bool := false
  map : List Bool := []
  mapAt : Nat := 0
  lastTarget : Option Nat := none
  sinceSync : Nat := 0
  syncNow : Bool := false
  reason : Nat := 1
  gapBits : Nat := 0
  gapTime : Nat := 0
  gapCount : Nat := 0
  buf : List (List Nat) := []
  bufAt : Nat := 0
  overflow : Bool := false
  lost : Nat := 0
  lastAddr : Option Nat := none
  rseq : Nat := 0
deriving DecidableEq, Repr

/-- The outcome of a tile's check (spec 07 R220, R224). -/
inductive CheckResult where
  | pass
  | mismatch (row col : Option Nat) (diff tol : Nat)
  | unchecked (reason : Nat)
deriving DecidableEq, Repr

/-- One kind of a tile's beats: opened by FIRST, closed by LAST, its format, its rows from the first on. -/
structure TileSide where
  opened : Bool := false
  closed : Bool := false
  fmt : Nat := 0
  rows : List Nat := []
deriving DecidableEq, Repr

/-- A tile on a checksum tap (spec 03 R92, spec 07 R216): a number of its own, its tag and generation, the instants of its first and latest
beat, the geometry and mode in force at its first beat (`check` as ABFT.MODE.CHECK, 0 not checked), whether it is held,
whether it is a test tile, the step it belongs to, the breach that made it unchecked, its three kinds, its check's
outcome, whether the watch has committed it. -/
structure Tile where
  id : Nat
  tag : Nat
  gen : Nat
  firstAt : Nat
  lastAt : Nat
  m : Nat
  k : Nat
  n : Nat
  check : Nat
  hold : Bool
  test : Bool
  step : Option Nat
  dead : Option Nat
  a : TileSide
  b : TileSide
  c : TileSide
  result : Option CheckResult
  committed : Bool
deriving DecidableEq, Repr

/-- A watch entry within a step (spec 06 R205 to R209): its settings as latched at STEP_BEGIN, and what it has
committed; MIN and MAX as FP32 encodings, the sum in units of 2^-149. -/
structure WatchEntry where
  name : Nat
  tagMatch : Nat
  kind : Nat
  tagMask : Nat
  shift : Nat
  bits : Nat
  taps : Nat
  rows : Nat
  cols : Nat
  fmt : Option Nat := none
  indices : List Nat := []
  gens : List Nat := []
  elements : Nat := 0
  tiles : Nat := 0
  nans : Nat := 0
  posInf : Nat := 0
  negInf : Nat := 0
  zeros : Nat := 0
  low : Option Nat := none
  high : Option Nat := none
  sum : Int := 0
  finite : Nat := 0
  digest : Nat := 0
  incomplete : Bool := false
  dup : Bool := false
  geometry : Bool := false
  mix : Bool := false
deriving DecidableEq, Repr

/-- A step as the watch sees it: its number within the IKB, MRK_STEP, whether it has ended, UNCLOSED, its enabled
entries. -/
structure WatchStep where
  id : Nat
  step : Nat
  ended : Bool
  unclosed : Bool
  entries : List (Nat × WatchEntry)
deriving DecidableEq, Repr

/-- A change of operating point under way (spec 08 R255): the index it goes to, its direction (0 up, 1 down, 2 same
frequency), whether it only prepares a staged step, whether it is a GOV_STEP's, its phase (0 voltage writes, 1 waiting
for RAIL_PG, 2 prepared, 3 frequency handshake, 4 voltage writes after it), the rails still to write. -/
structure Change where
  target : Nat
  dir : Nat
  prep : Bool
  step : Bool
  phase : Nat
  rails : List Nat
deriving DecidableEq, Repr

/-- A governor report of KIND 1 to 3 that awaits its ACK (spec 09 R277). -/
structure GovReport where
  fseq : Nat
  body : List Nat
  sends : Nat
  last : Nat
deriving DecidableEq, Repr

/-- What leaves a part at its boundary: an MSI-X message, an LTL frame up (IKB to W-die) or down, a frame on a
package optical port, a frame or record delivered to an engine of a die, a poisoned PCIe completion, a barrier frame, a register-port or PCIe response, a release of a held tile, a pin; `harmed` is a frame
that a Prism rule corrupted (spec 09 Table 9.5; point 0 PRE_CRC, 1 PRE_FEC, 2 POST_FEC). The list of a state
holds them newest first; it is the model's record of the boundary, and nothing in the block reads it. -/
inductive Out where
  | msix (vector : Nat)
  | ltlUp (port type fseq : Nat) (resent : Bool) (body : List Nat)
  | ltlDown (port type fseq : Nat) (resent : Bool) (body : List Nat)
  | optical (port : Nat) (hdr : FabricHdr) (body : List Nat)
  | delivered (die : Nat) (hdr : FabricHdr) (body : List Nat)
  | poisoned (data : Nat)
  | barrierToField (type : Nat) (body : List Nat)
  | barrierToHost (type : Nat) (body : List Nat)
  | response (chip requester : Nat) (error : Bool) (data : Nat)
  | release (port tap tag : Nat) (pass : Bool)
  | pin (chip : Nat) (name : String) (level : Nat)
  | harmed (point first count pattern : Nat) (frame : Out)
deriving DecidableEq, Repr

/-- An LTL frame that waits at an end for credit, or to be complete (spec 09 R274, R275). -/
structure TxFrame where
  type : Nat
  resent : Bool
  body : List Nat
deriving DecidableEq, Repr

/-- A frame that a Prism REORDER rule holds (spec 09 R285): its rule, its link or port and class or queue, the later
frames still awaited, the instant it was held. -/
structure HeldFrame where
  rule : Nat
  link : Nat
  cls : Nat
  left : Nat
  since : Nat
  frame : Out
deriving DecidableEq, Repr

/-- The event records of an IKB that its W-die misses (spec 09 R276): the sequences of the open gap, the RESENDs sent for
it and the instant of the last, the sequences declared lost. -/
structure EvGap where
  missing : List Nat := []
  sends : Nat := 0
  last : Nat := 0
  lost : List Nat := []
deriving DecidableEq, Repr

/-- A proxied access at a W-die's port (spec 09 R283): its requester, the frame, when it was sent (0 while more than 16
are outstanding), whether a PROXY_WAIT has come. -/
structure ProxyReq where
  r : Nat
  tag : Nat
  write : Bool
  wide : Bool
  addr : Nat
  data : Nat
  sentAt : Nat
  waited : Bool
deriving DecidableEq, Repr

/-- A frame in an egress queue (spec 11 R335): the frame, its Ethernet bytes, the optical port and queue whose receive
cells it occupies. -/
structure EgFrame where
  frame : FabricFrame
  bytes : Nat
  cells : Option (Nat × Nat)
deriving DecidableEq, Repr

/-- A sending flow of a W-die (spec 01 R41): its identifier, destination address, KIND, next SEQ, latest frame. -/
structure TxFlow where
  id : Nat
  addr : Nat
  kind : Nat
  seq : Nat
  last : Nat
deriving DecidableEq, Repr

/-- A translation entry (spec 01 Table 1.4) with its index in the table. -/
structure Xlat where
  index : Nat
  job : Nat
  key : Nat
  flat : Bool
  dieIndex : Nat
  x : Nat
  y : Nat
  z : Nat
  gen : Nat
deriving DecidableEq, Repr

/-- A configuration as CFG lays it out (Table 12.11). -/
structure CodecCfg where
  path : Nat
  level : Nat
  pred : Nat
  table : Nat
  laneW : Nat
  signed : Bool
  mask : Nat
deriving DecidableEq, Repr

/-- What links a stream's next block to its past (R370): rows t−1 and t−2 as lanes, the match window, the next SEQ, the
blocks since the last restart. -/
structure CodecLink where
  row1 : Option (List Nat) := none
  row2 : Option (List Nat) := none
  window : List Nat := []
  seq : Nat := 0
  since : Nat := 0
deriving DecidableEq, Repr

/-- A block of a context, open or closed and not yet coded (spec 12 R348): its rows, the instant of the first, and the
configuration, tables and TGEN in force at its first row. -/
structure CtxBlock where
  rows : List (List Nat)
  at' : Nat
  rawframe : Bool
  cfg : CodecCfg
  tabs : List (List Nat)
  tgen : Nat
deriving DecidableEq, Repr

/-- What the Codec keeps of a context (spec 12 R349, R350, R367, R370): its CFG word and mask, the open block, the
closed ones, what links the next block to the past, the COUNTER reference (CAP_SEQ and row), whether the next block is a
restart and begins a new segment, the segment and offset where the next byte goes, the segments' bytes by number, and
the block SEQs at which TRACE frames were lost. -/
structure CodecSt where
  cfg : Nat := 0
  mask : Nat := 0
  opened : Option CtxBlock := none
  closed : List CtxBlock := []
  link : CodecLink := {}
  ref : Option (Nat × List Nat) := none
  restart : Bool := true
  newSeg : Bool := true
  seg : Nat := 0
  off : Nat := 0
  begun : Bool := false
  segs : List (Nat × List Nat) := []
  losses : List Nat := []
deriving DecidableEq, Repr

/-- A stream context (spec 11 R319 to R326, Table 11.7): its key, its state of Table 11.2, its policer with both
buckets in 2^-16 byte and their instant, its counts (`bytes` accepted), the red frames of this second, the instant of
its kill, the slot it migrates from, whether it is to drain once migrated; its previous row of spec 14 R407 (capture
nanoseconds and lanes) and ROWSEQ. -/
structure Ctx where
  job : Nat
  dieIndex : Nat
  kind : Nat
  state : Nat := 1
  pinned : Bool := false
  spilled : Bool := false
  aware : Bool
  redMark : Bool
  queue : Nat
  cir : Nat
  pir : Nat
  cbs : Nat
  pbs : Nat
  tc : Nat
  tp : Nat
  last : Nat
  frames : Nat := 0
  yellow : Nat := 0
  red : Nat := 0
  dropped : Nat := 0
  bytes : Nat := 0
  redSec : Nat := 0
  since : Nat := 0
  origin : Option Nat := none
  closing : Bool := false
  cod : CodecSt := {}
  prevRow : Option (Nat × List Nat) := none
  rowseq : Nat := 0
deriving DecidableEq, Repr

/-- A frame in an ingest buffer (spec 11 R333), or one that waits for room in it: its context, KIND, package LTL port
(none for mirror samples and self-telemetry), colour mark, byte count of R330, body, stage-1 colour, and the LTC nanosecond and Meridian tick at which it was accepted. -/
structure IngFrame where
  ctx : Nat
  kind : Nat
  port : Option Nat
  marked : Bool
  bytes : Nat
  body : List Nat
  pre : Nat := 0
  stamp : Nat := 0
  tick : Nat := 0
deriving DecidableEq, Repr

/-- A mirror sample in die 0's window (spec 10 R314): its stamp in nanoseconds, its record as bytes, its stage-1 colour. -/
structure MirrorHeld where
  stamp : Nat
  body : List Nat
  pre : Nat
deriving DecidableEq, Repr

/-- A flow received through the spine (spec 01 R41): its sender and identifier, the next SEQ to deliver, whether its
first window has closed, the instant its window opened plus 1 (0 when none is open), the frames held, in SEQ order, the
SEQs declared lost, the instant of its latest delivery. -/
structure RxFlow where
  source : Nat
  flow : Nat
  next : Nat
  started : Bool := false
  windowAt : Nat := 0
  held : List (Nat × FabricFrame) := []
  lost : List Nat := []
  last : Nat
deriving DecidableEq, Repr

/-- A digest group (spec 13 R386): its digest, its count, its lowest ranks, ascending, each with its KNOWN_POISON bit. -/
structure DGroup where
  digest : Nat
  count : Nat
  ranks : List (Nat × Bool)
deriving DecidableEq, Repr

/-- The partial state of an operation (spec 13 Table 13.1): an exact sum; an FP32 sum in units of 2^-149 with its NaN
and infinity counts; the extreme value and its rank with the NaN count; a count or an OR; the non-zero buckets; the
first entries, value and rank; the digest groups in ascending order, none for TOO_MANY. -/
inductive Part where
  | sumI (v : Int)
  | sumF (a : Int) (nan pinf ninf : Nat)
  | ext (best : Option (Nat × Nat)) (nan : Nat)
  | num (v : Nat)
  | hist (b : List (Nat × Nat))
  | top (e : List (Nat × Nat))
  | digest (g : Option (List DGroup))
deriving DecidableEq, Repr

/-- A feed of a job (spec 13 Table 13.7); `window` in nanoseconds. -/
structure Feed where
  source : Nat
  sub : Nat := 0
  set : Nat
  mask : Nat
  fmt : Nat := 0
  uplink : Bool := false
  host : Bool := false
  mode : Nat
  dir : Nat := 0
  k : Nat := 0
  window : Nat
deriving DecidableEq, Repr

/-- A job configuration (spec 13 Table 13.6) as a node holds it, `raw` its bytes; and at the root the job's lockstep
(spec 08 R257, R260): the job point, the results of its epochs, newest first, as TAG, index and whether complete, the
highest BREAK_IDX of KIND 2 reports since the last launch. -/
structure JobCfg where
  job : Nat
  ranks : Nat
  startIdx : Nat
  raiseEpochs : Nat
  lowerLead : Nat
  raiseLead : Nat
  freqRef : List Nat
  gen : Nat
  feeds : List Feed
  entries : List Xlat
  groups : List Nat
  raw : List Nat
  point : Nat
  epochs : List (Nat × Nat × Bool) := []
  kind2 : Nat := 0
deriving DecidableEq, Repr

/-- A job that this node has staged (spec 13 R399): its configuration, when, the instant of its COMMIT, the slots of the
launches placed for it. -/
structure JobStage where
  cfg : JobCfg
  at' : Nat
  instant : Option Nat := none
  placed : List (Chip × Nat) := []
deriving DecidableEq, Repr

/-- A reduction instance on this node (spec 13 R374, R394): its key, its slot, its feed, its state and the count and the
local ranks it includes; MEMBERS, the expected count, the depth and the parent of its tree (none at the root) as at its
first sight; its base and the instants of its forwarding and finalising there; whether it has been forwarded or
finalised, whether its result was seen, whether it was killed; the end of its linger; the chunks of partials that are
not whole (sender, chunk, INCLUDED, body). -/
structure Inst where
  job : Nat
  set : Nat
  op : Nat
  sub : Nat
  tag : Nat
  die : Nat
  slot : Nat
  feed : Feed
  part : Part
  included : Nat := 0
  ranks : List Nat := []
  members : Nat
  expected : Nat
  depth : Nat
  parent : Option Nat
  base : Nat
  forwardAt : Nat
  finaliseAt : Nat
  sent : Bool := false
  seen : Bool := false
  killed : Bool := false
  lingerAt : Nat := 0
  chunks : List (Nat × Nat × Nat × List Nat) := []
deriving DecidableEq, Repr

/-- A child of a broadcast (spec 13 R398): its coordinates, the path in use (0 the first, then the retries), when the
message was last sent on it, whether its ACK and its completion report have come, whether every retry has failed, the
modules it reported for. -/
structure BKid where
  coord : Nat
  path : Nat := 0
  sentAt : Nat
  acked : Bool := false
  reported : Bool := false
  lost : Bool := false
  acks : Nat := 0
deriving DecidableEq, Repr

/-- A broadcast message that this node holds (spec 13 R398): its BID and kind (1 START, 2 COMMIT, 3 ABORT, 4 END), its
sender (none at the root), its instant and bytes, the first failure so far (a JS_FAIL reason and die index), its
children, whether it has reported. -/
structure Bcast where
  bid : Nat
  kind : Nat
  sender : Option Nat
  instant : Nat
  bytes : List Nat
  status : Nat := 0
  dieIndex : Nat := 0
  kids : List BKid := []
  done : Bool := false
deriving DecidableEq, Repr

/-- A start or end that die 0 runs as root (spec 13 R397 to R402): its job and BID, its phase (1 START out, 2 COMMIT
out, 4 END out), when GO came, the instant T and its base, the END repeats so far and the instant of the latest. -/
structure JsRun where
  job : Nat
  bid : Nat
  phase : Nat
  goAt : Nat
  base : Nat := 0
  instant : Nat := 0
  repeats : Nat := 0
  last : Nat := 0
  cfg : JobCfg
deriving DecidableEq, Repr

/-- A feature descriptor (spec 14 Table 14.1) with its edges. -/
structure LFeat where
  op : Nat
  ty : Nat
  shared : Bool
  laneA : Nat
  laneB : Nat
  featA : Nat
  featB : Nat
  a : Nat
  b : Nat
  edges : List Nat
  mult : Nat
deriving DecidableEq, Repr

/-- What a slot holds on die of a model (spec 14 Table 14.5): the header's values, the descriptors, the number of edges
in its array, the address of tree 0 in the die's DRAM, where the trees stay. -/
structure LModel where
  id : Nat
  classes : Nat
  link : Nat
  trees : Nat
  base : List Nat
  feats : List LFeat
  edges : Nat
  treesAt : Nat
deriving DecidableEq, Repr

/-- A model slot of a W-die (spec 14 R419, R420): the staged, in-force and held models; the number of swaps; the base and
instant of the latest swap's launch and when it fired. -/
structure LSlot where
  staged : Option LModel := none
  force : Option LModel := none
  held : Option LModel := none
  gen : Nat := 0
  base : Nat := 0
  instant : Nat := 0
  firedAt : Nat := 0
deriving DecidableEq, Repr

/-- The samples of one row in a batch (spec 14 R407, R422): the context's slot key, its key, the binding, the capture in
nanoseconds, ROWSEQ, FLEET_LOCK; each sample's group and codes; whether the row's samples end here, and the outputs of
those that went before, in an earlier batch. -/
structure LRow where
  ctx : Nat
  kind : Nat
  job : Nat
  dieIndex : Nat
  binding : Nat
  capture : Nat
  rowseq : Nat
  fleetLock : Bool
  samples : List (Nat × List Nat)
  last : Bool := true
  prior : List (List Nat) := []
deriving DecidableEq, Repr

/-- A batch (spec 14 R422): its slot, the swap count of its model, the model, the limits in force when it opened, when
that was, its rows, oldest first. -/
structure LBatch where
  slot : Nat
  gen : Nat
  model : LModel
  limit : Nat
  closeUs : Nat
  at' : Nat
  rows : List LRow
deriving DecidableEq, Repr

/-- The holdoff of a binding, context and group (spec 14 R425): the latest report, those suppressed since. -/
structure LHold where
  die : Nat
  binding : Nat
  job : Nat
  dieIndex : Nat
  kind : Nat
  group : Nat
  at' : Nat
  supp : Nat
deriving DecidableEq, Repr

/-- A DRIFT metric (spec 14 R427 to R429, Table 14.13): its E_ fields, whether it has had its first value, and per report
TYPE the latest report and those suppressed since. -/
structure Metric where
  enable : Bool := false
  source : Nat := 0
  feature : Nat := 0
  group : Nat := 0
  alpha : Nat := 4
  refMode : Nat := 1
  cusum : Bool := false
  zEn : Bool := false
  k : Nat := 0
  h : Nat := 0
  ref : Nat := 0
  zthr : Nat := 0
  started : Bool := false
  mean : Nat := 0
  spos : Nat := 0
  sneg : Nat := 0
  z : Nat := 0x7FC00000
  updates : Nat := 0
  holds : List (Nat × Nat × Nat) := []
deriving DecidableEq, Repr

/-- A message in a mailbox (spec 16 R481): pointer, tag, sender identity. -/
structure MboxMsg where
  ptr : Nat
  tag : Nat
  sender : Nat
deriving DecidableEq, Repr

/-- An alarm input at the field side (spec 17 R515 to R517): the procedure's variables, `t` in tenths of a millisecond,
the chatter of the running second, the instant plus 1 since when the state is active, for STUCK_S and for ALARM_CLEAR. -/
structure AlarmIn where
  lastRaw : Bool := false
  state : Bool := false
  timing : Bool := false
  stuck : Bool := false
  t : Nat := 0
  edges : Nat := 0
  chatter : Nat := 0
  chatterSec : Nat := 0
  activeAt : Nat := 0
  setAt : Nat := 0
deriving DecidableEq, Repr

/-- A sequenced barrier frame that awaits its ACK: TYPE, SEQ, payload, how often it was sent (spec 17 R521). -/
structure BarTx where
  type : Nat
  seq : Nat
  payload : List Nat
  sends : Nat
deriving DecidableEq, Repr

/-- An end of the barrier link (spec 17 R521, R522): up, the next SEQ it sends, the next it expects, the frames
unacknowledged and those that wait behind 32 of them, the instant when ACK last advanced, that of the latest valid
frame, that of the latest HELLO sent plus 1; the field side's count of bad frames. -/
structure BarEnd where
  up : Bool := false
  tx : Nat := 0
  rx : Nat := 0
  unacked : List BarTx := []
  waiting : List (Nat × List Nat) := []
  ackAt : Nat := 0
  lastRx : Nat := 0
  helloAt : Nat := 0
  bad : Nat := 0
deriving DecidableEq, Repr

/-- A coolant input (spec 17 R513): its last good value, OPEN, SHORT, VALID, the instant plus 1 since when it is above
HIGH, whether that was told. -/
structure Rtd where
  temp : Int := 0
  isOpen : Bool := false
  isShort : Bool := false
  valid : Bool := false
  highAt : Nat := 0
  told : Bool := false
deriving DecidableEq, Repr

/-- A fan (spec 17 R513): its rpm, the instant plus 1 since when it is below MIN_RPM, whether that was told. -/
structure Fan where
  rpm : Nat := 0
  lowAt : Nat := 0
  told : Bool := false
deriving DecidableEq, Repr

/-- The field side (spec 17): running, the host-side supply, its end of the link, the F words that differ from reset by
offset, the alarm inputs; the bus and hot-swap bits of Table 17.8, FAULTS and RETRIES; the instants plus 1 when a fault
opened the FET, when the bus fell low, when HS_OFF was taken, when it opened the FET; ON_AFTER_S; the code of channel 0;
whether a bus capture runs, the next capture slot; RTDs and fans; the tokens per code in 10^-9 with their instant, the
suppressed counts; FSEQ, the boot count, the ring's head and count; the time base in nanoseconds with its VALID and
instant; the image buffer as 16-byte pieces by offset, the VERSION that runs, until when its watchdog holds the PWM; the
instants of its start and of the two one-second tasks. -/
structure FieldSide where
  running : Bool := true
  hostUp : Bool := true
  link : BarEnd := {}
  cfg : List (Nat × Nat) := []
  alarms : List (Nat × AlarmIn) := []
  busLow : Bool := false
  busOv : Bool := false
  hsFault : Bool := false
  hsOn : Bool := true
  hsPg : Bool := true
  faults : Nat := 0
  retries : Nat := 0
  openAt : Nat := 0
  lowAt : Nat := 0
  offAt : Nat := 0
  offOpenAt : Nat := 0
  onAfter : Nat := 0
  ch0 : Nat := 0
  capturing : Bool := false
  capSlot : Nat := 0
  rtds : List (Nat × Rtd) := []
  fans : List (Nat × Fan) := []
  tokens : List (Nat × Nat × Nat) := []
  supp : List (Nat × Nat) := []
  fseq : Nat := 0
  boot : Nat := 0
  head : Nat := 0
  count : Nat := 0
  time : Nat := 0
  timeValid : Bool := false
  timeAt : Nat := 0
  image : List (Nat × List Nat) := []
  version : Nat := 0
  failUntil : Nat := 0
  startAt : Nat := 0
  chatAt : Nat := 0
  suppAt : Nat := 0
deriving DecidableEq, Repr

/-- The tray: a WFK package, its IKBs, its field side. Registers and scalar internal state are kept sparsely, by
field, as what differs from reset (`regs`); the structured state of each chapter follows. -/
structure State where
  /-- Commands waiting, first in, first out. -/
  pending : List Instr := []
  /-- The package size (spec 00 Table 0.1); no command changes it. -/
  size : PkgSize := .wfk8
  /-- Register fields and cells that differ from their reset value, by key. -/
  regs : List (Nat × Nat) := []
  /-- The values that frozen pages show, as they were when FREEZE was set (spec 02 R53). -/
  held : List (Nat × Nat) := []
  /-- The keys of held RC fields that a read has already cleared (spec 02 R53). -/
  heldRead : List Nat := []
  /-- Nanoseconds since power-up. -/
  now : Nat := 0
  /-- The number of free values used. -/
  freeCtr : Nat := 0
  /-- What has left the parts, newest first. -/
  out : List Out := []
  /-- Per requester, the latched high word and the key of the register it belongs to (spec 02 R57). -/
  latches : List (Nat × Nat × Nat) := []
  /-- Per requester, the held low word and the key of its register (spec 02 R58). -/
  buffers : List (Nat × Nat × Nat) := []
  /-- MSI-X table words that differ from reset, by offset (spec 02 R69). -/
  msixTable : List (Nat × Nat) := []
  /-- The vectors whose PBA bit is set (spec 02 R66). -/
  pba : List Nat := []
  /-- Event rings: the record in slot `i` of window `c` under `c · 2^25 + i` (spec 15 R456). -/
  evRing : List (Nat × EvRec) := []
  /-- The Midnight staging buffer of each W-die, oldest first (spec 04 R135). -/
  staging : List (Nat × List EvRec) := []
  /-- Black-box records that await a page, oldest first, and the pages that await programming (spec 15 R460). -/
  bbxPartial : List EvRec := []
  bbxPages : List (List EvRec) := []
  /-- Committed last-gasp blocks, newest first; they lie in the NOR over its bytes (spec 15 R462). -/
  gasps : List GaspBlock := []
  /-- The block map of the NOR (spec 15 R467, R469): spares and withdrawn blocks, erase counts by logical block, the
  physical block of each remapped one, the blocks taken from the black-box ring. -/
  norSpare : Nat := 766
  norWithdrawn : Nat := 0
  norErases : List (Nat × Nat) := []
  norMap : List (Nat × Nat) := []
  bbxShrunk : Nat := 0
  /-- Notices that await acknowledgement (spec 15 R458). -/
  notices : List Notice := []
  /-- Fault windows and episodes by `chip · 256 + channel` (spec 15 R442, R443). -/
  windows : List (Nat × Window) := []
  episodes : List (Nat × Episode) := []
  /-- Package DRAM, die `d` from `d · 2^36` (spec 10 R298): the bytes that are not zero. -/
  dram : List Host.Cell := []
  /-- Poisoned 64-byte DRAM lines, by line number (spec 10 R300). -/
  poisoned : List Nat := []
  /-- NOR bytes by logical address that are not erased, 0xFF (spec 15 R467). -/
  nor : List Host.Cell := []
  /-- Field-side MRAM bytes that are not zero (spec 17 R528). -/
  mram : List Host.Cell := []
  /-- Local time clocks, rate servos and Meridian counters by part (spec 05 R142, R147, R160). -/
  ltc : List (Nat × Ltc) := []
  servo : List (Nat × Servo) := []
  meridian : List (Nat × Meridian) := []
  /-- The TSYNC exchanges each IKB holds, newest first (spec 05 R153). -/
  exchanges : List (Nat × List Exchange) := []
  /-- Tagging records that wait in each IKB's queue, oldest first (spec 05 R172). -/
  tagQueue : List (Nat × List TagRec) := []
  /-- The snapshot whose read-out runs, by IKB (spec 06 R187). -/
  snap : List (Nat × SnapRec) := []
  /-- Trace streams by package port × 64 + sequencer (spec 06 R195). -/
  streams : List (Nat × Stream) := []
  /-- Tiles by package port × 16 + tap, oldest first (spec 03 R92). -/
  tiles : List (Nat × List Tile) := []
  /-- Generations for which an ABFT_MISMATCH has been written, by IKB (spec 07 R244). -/
  mmGens : List (Nat × List Nat) := []
  /-- The steps of the watch by IKB, oldest first (spec 06 R208). -/
  watch : List (Nat × List WatchStep) := []
  /-- The samples of each rail's averaging window, newest first, by port × 8 + rail (spec 08 R246). -/
  rails : List (Nat × List Nat) := []
  /-- The change of point under way at each IKB (spec 08 R255). -/
  change : List (Nat × Change) := []
  /-- Governor reports that await their ACK, oldest first, by IKB (spec 09 R277). -/
  reports : List (Nat × List GovReport) := []
  /-- The latest results or requests of complete epochs, newest first, by IKB (spec 08 R258). -/
  epochs : List (Nat × List Nat) := []
  /-- Frames that wait at an end of an LTL, oldest first, by window × 64 + block (spec 09 R274). -/
  txq : List (Nat × List TxFrame) := []
  /-- Frames that Prism holds, oldest first, by part (spec 09 R285). -/
  prismHeld : List (Nat × List HeldFrame) := []
  /-- Proxied accesses outstanding, oldest first, by package port (spec 09 R283). -/
  proxies : List (Nat × List ProxyReq) := []
  /-- The event records missed, by package port (spec 09 R276). -/
  gaps : List (Nat × EvGap) := []
  /-- Generations whose first poisoning was notified, by package port (spec 15 Table 15.8). -/
  noticeGens : List (Nat × List Nat) := []
  /-- Egress queues, oldest first, by package optical port × 8 + queue (spec 11 R335). -/
  egress : List (Nat × List EgFrame) := []
  /-- Sending flows by W-die, and its freed identifiers, oldest first (spec 01 R41). -/
  txFlows : List (Nat × List TxFlow) := []
  flowFree : List (Nat × List Nat) := []
  /-- The translation entries in force (spec 01 R30). -/
  xlat : List Xlat := []
  /-- Staged changes: of flat entries by KEY (none removes); the jobs staged; the jobs whose entries leave force, with
  the instant (spec 01 R46, spec 13 R399, R402). -/
  flatStage : List (Nat × Option Xlat) := []
  jobStage : List JobStage := []
  natDel : List (Nat × Nat) := []
  /-- The configurations of the jobs in force (spec 13 R399, R400). -/
  jobs : List JobCfg := []
  /-- Reduction instances (spec 13 R394); broadcasts held and job starts and ends run as root (R397 to R402). -/
  insts : List Inst := []
  bcasts : List Bcast := []
  jsRuns : List JsRun := []
  /-- L of each quantile entry of the latest complete STEP_TIME HIST result with SET 0, by job (spec 14 R429). -/
  stepHist : List (Nat × List (Option Nat)) := []
  /-- The FSEQs of governor reports of KIND 1 to 3 acted on, newest first, by package port (spec 09 R277). -/
  govSeen : List (Nat × List Nat) := []
  /-- Flows received through the spine (spec 01 R41). -/
  rxFlows : List RxFlow := []
  /-- Contexts that are not FREE, by die × 512 + slot (spec 11 R319). -/
  ctxs : List (Nat × Ctx) := []
  /-- Ingest buffers by die, oldest first, and never-shed frames that wait for room in them (spec 11 R333). -/
  ingest : List (Nat × List IngFrame) := []
  ingestWait : List (Nat × List IngFrame) := []
  /-- Closed HEALTH blocks that wait in each die's Midnight buffer, oldest first, with their contexts (spec 04 R135). -/
  healthBuf : List (Nat × List (Nat × CtxBlock)) := []
  /-- Model slots by die × 8 + slot; open and closed batches by die, oldest first (spec 14 R419 to R423). -/
  lensSlots : List (Nat × LSlot) := []
  lensOpen : List (Nat × List LBatch) := []
  lensClosed : List (Nat × List LBatch) := []
  /-- Report holdoffs; the EXPORT frame that fills at each die: when its first record came, its records (R425, R426). -/
  lensHolds : List LHold := []
  lensExport : List (Nat × Nat × List (List Nat)) := []
  /-- DRIFT metrics that are not as at reset, by (die × 512 + slot) × 64 + metric (spec 14 R435). -/
  metrics : List (Nat × Metric) := []
  /-- Mailboxes, head first, by part × 32 + mailbox; the pointer and tag that each requester holds (spec 16 R481). -/
  mboxes : List (Nat × List MboxMsg) := []
  mboxSend : List (Nat × Nat × Nat) := []
  /-- Core instruction memories as words, by part × 8 + core; words of data memory that are not zero, by part × 2^32 +
  core address (spec 16 R476). -/
  imem : List (Nat × List Nat) := []
  dmem : List (Nat × Nat) := []
  /-- The image buffer of each IKB as bytes (spec 16 R489); the BODY_HASH of verified components, by part × 2, plus 1 for
  the next image or the buffer (R486). -/
  imgBuf : List (Nat × List Nat) := []
  imgHash : List (Nat × Nat) := []
  /-- DRAM lines in which an error was corrected, with the instant of the latest (spec 10 R301). -/
  corrected : List (Nat × Nat) := []
  /-- The mirror sample window, in STAMP order (spec 10 R314). -/
  mirrorWin : List MirrorHeld := []
  /-- Sheddable bytes of the last 1 ms by die: instant, package LTL port, bytes, latest first (spec 11 R334). -/
  recent : List (Nat × List (Nat × Nat × Nat)) := []
  /-- The field side; die 0's end of the barrier link, and the offsets of F writes that await their echo (spec 17). -/
  field : FieldSide := {}
  barHost : BarEnd := {}
  barEcho : List Nat := []
deriving DecidableEq, Repr

/-- The faults: none. The spec describes what the block does on every happening that its table lists, so no
meaning ends in a fault; every error of the hardware is a state of it. -/
inductive Fault where
deriving DecidableEq, Repr

/-- The refusals. -/
inductive Refusal where
  /-- A command of the table whose meaning is not written yet; raised by `exec` alone. Safe. -/
  | notModelled (mnemonic : String)
deriving DecidableEq, Repr

/-- The tray at power-up: every register at its table's reset value, every queue and memory empty. -/
def State.reset : State := {}

/-- The outcome of a command. -/
abbrev Out' := Host.Outcome State Fault Refusal

end Sys2Proof.Machine
end

