-- ==== Sys2Proof/Machine/CodecFn.lean ====
section
/-! DEFINITION. Spec 12, the coding functions alone: rows and lanes, prediction, residual symbols, canonical prefix
codes, dynamic tables, the match search and its RFC 1951 form, the fixed-ratio groups, blocks and their headers. Bytes
are numbers below 256; bit strings are lists, first bit first. -/

namespace Sys2Proof.Machine

/-! ## Bytes, bits, lanes (R347, R355) -/

/-- `n` little-endian bytes of `v`. -/
def leBytes : Nat → Nat → List Nat
  | 0, _ => []
  | n + 1, v => v % 256 :: leBytes n (v / 256)

/-- The value of little-endian bytes. -/
def leVal : List Nat → Nat
  | [] => 0
  | b :: bs => b % 256 + 256 * leVal bs

/-- Bits of `v`, least significant first. -/
def bitsLsb : Nat → Nat → List Bool
  | 0, _ => []
  | n + 1, v => (v % 2 == 1) :: bitsLsb n (v / 2)

/-- Bits of an `n`-bit code, most significant first. -/
def bitsMsb (n v : Nat) : List Bool := (bitsLsb n v).reverse

/-- The value of bits, least significant first. -/
def bitsVal : List Bool → Nat
  | [] => 0
  | b :: bs => b.toNat + 2 * bitsVal bs

/-- Bits packed into bytes, least significant first, zero bits up to a byte boundary; by fuel. -/
def packBytes : Nat → List Bool → List Nat
  | 0, _ => []
  | n + 1, l => if l.isEmpty then [] else bitsVal (l.take 8) :: packBytes n (l.drop 8)

def packBits (l : List Bool) : List Nat := packBytes (l.length / 8 + 1) l

/-- The bits of bytes. -/
def unpackBits (l : List Nat) : List Bool := (l.map (bitsLsb 8)).flatten

/-- A list cut into pieces of `k`, the last one as long as it is; by fuel. -/
def chunks : Nat → Nat → List Nat → List (List Nat)
  | 0, _, _ => []
  | n + 1, k, l => if l.isEmpty then [] else l.take k :: chunks n k (l.drop k)

/-- The bytes of a LANE_W code. -/
def laneBytes (code : Nat) : Nat := 2 ^ (code % 4)

/-- A row as lanes of `k` bytes, padded with zero bytes (R347). -/
def lanesOf (k : Nat) (row : List Nat) : List Nat := (chunks (row.length + 1) k row).map leVal

/-- Lanes as bytes. -/
def laneRow (k : Nat) (lanes : List Nat) : List Nat := (lanes.map (leBytes k)).flatten

/-- The input of the match-search and raw paths: each row's length, then its bytes (R347). -/
def rowsFlat (rows : List (List Nat)) : List Nat := (rows.map fun r => leBytes 4 r.length ++ r).flatten

/-! ## Prediction (R351, R352) -/

/-- NEIGH: the lane before, or at lane 0 the first lane of the row before. -/
def predNeigh (cur : List Nat) (t1 : Option (List Nat)) (j : Nat) : Nat :=
  if j = 0 then (match t1 with
    | some r => nth r 0
    | none => 0)
  else nth cur (j - 1)

/-- TIME: the lane of the row before, or NEIGH. -/
def predTime (cur : List Nat) (t1 : Option (List Nat)) (j : Nat) : Nat :=
  match t1 with
  | some r => nth r j
  | none => predNeigh cur t1 j

/-- The prediction of lane `j` in a row, from the rows before it, modulo 2^w (Table 12.2). -/
def predict (pred w : Nat) (cur : List Nat) (t1 t2 : Option (List Nat)) (j : Nat) : Nat :=
  match pred with
  | 0 => 0
  | 1 => predTime cur t1 j
  | 2 => match t1, t2 with
    | some a, some b => (2 * nth a j + 2 ^ w - nth b j) % 2 ^ w
    | _, _ => predTime cur t1 j
  | 3 => predNeigh cur t1 j
  | _ => match t1 with
    | none => predNeigh cur t1 j
    | some a => if j = 0 then predTime cur t1 j else (nth cur (j - 1) + nth a j + 2 ^ w - nth a (j - 1)) % 2 ^ w

/-- The code z of a residual: 2r for r ≥ 0, −2r − 1 for r < 0 (R352). -/
def residual (w x p : Nat) : Nat :=
  let r := (x + 2 ^ w - p % 2 ^ w) % 2 ^ w
  if r < 2 ^ (w - 1) then 2 * r else 2 * (2 ^ w - r) - 1

/-- The value that a residual code gives back. -/
def unresidual (w z p : Nat) : Nat :=
  (if z % 2 = 0 then p + z / 2 else p + 2 ^ w * (z + 1) - (z + 1) / 2) % 2 ^ w

/-- The residuals of one row; the lanes of `mask` are skipped. -/
def rowResiduals (pred w mask : Nat) (row : List Nat) (t1 t2 : Option (List Nat)) : List Nat :=
  ((List.range row.length).filter fun j => bitAt mask j = 0).map fun j => residual w (nth row j) (predict pred w row t1 t2 j)

/-- The residuals of rows in scan order. -/
def residuals (pred w mask : Nat) : List (List Nat) → Option (List Nat) → Option (List Nat) → List Nat
  | [], _, _ => []
  | r :: rs, t1, t2 => rowResiduals pred w mask r t1 t2 ++ residuals pred w mask rs (some r) t1

/-! ## Symbols and codes (R354 to R356) -/

/-- A symbol with its extra bits: symbol, number of extra bits, their value. -/
structure Tok where
  sym : Nat
  extra : Nat
  value : Nat
deriving DecidableEq, Repr

/-- The number of zeros a list begins with. -/
def zeroRun : List Nat → Nat
  | 0 :: r => zeroRun r + 1
  | _ => 0

/-- The symbols of residual codes (Table 12.3); by fuel. -/
def tokens : Nat → List Nat → List Tok
  | 0, _ => []
  | _, [] => []
  | n + 1, z :: zs =>
    if z = 0 then
      let k := min 65535 (zeroRun zs + 1)
      if k = 1 then ⟨0, 0, 0⟩ :: tokens n zs
      else ⟨64 + Nat.log2 k, Nat.log2 k, k - 2 ^ Nat.log2 k⟩ :: tokens n (zs.drop (k - 1))
    else ⟨Nat.log2 z + 1, Nat.log2 z, z - 2 ^ Nat.log2 z⟩ :: tokens n zs

/-- The first code of length `l` by the canonical procedure of RFC 1951, section 3.2.2. -/
def firstCode (lens : List Nat) : Nat → Nat
  | 0 => 0
  | l + 1 => 2 * (firstCode lens l + (if l = 0 then 0 else lens.countP (· == l)))

/-- The canonical code of a symbol: its length and value; none when it is unused. -/
def canonCode (lens : List Nat) (s : Nat) : Option (Nat × Nat) :=
  let l := nth lens s
  if l = 0 then none else some (l, firstCode lens l + (lens.take s).countP (· == l))

/-- The bits of a token under a table. -/
def tokBits (lens : List Nat) (t : Tok) : Option (List Bool) :=
  (canonCode lens t.sym).map fun c => bitsMsb c.1 c.2 ++ bitsLsb t.extra t.value

/-- The bits of tokens; none when one has no code. -/
def toksBits (lens : List Nat) : List Tok → Option (List Bool)
  | [] => some []
  | t :: ts => match tokBits lens t, toksBits lens ts with
    | some a, some b => some (a ++ b)
    | _, _ => none

/-- Table 0 (Table 12.4). -/
def table0 : List Nat := 2 :: (List.replicate 8 4 ++ List.replicate 16 7 ++ List.replicate 55 9)

/-- The lengths that 40 bytes hold, and the bytes of lengths (R356). -/
def lensOfBytes (b : List Nat) : List Nat := (b.map fun x => [x % 16, x / 16 % 16]).flatten
def bytesOfLens (l : List Nat) : List Nat := (List.range 40).map fun k => nth l (2 * k) + 16 * nth l (2 * k + 1)

/-- The Kraft sum in units of 2^-15. -/
def kraft (lens : List Nat) : Nat := (lens.map fun l => if l = 0 then 0 else 2 ^ (15 - l)).sum

/-- Whether a table is valid (R356). -/
def tableValid (lens : List Nat) : Bool :=
  let used := lens.filter (· != 0)
  !used.isEmpty && decide (kraft lens ≤ 32768) && (used.length != 1 || used == [1])

/-! ## Dynamic tables (R358) -/

/-- The counts of the 80 symbols. -/
def symCounts (ts : List Tok) : List Nat := (List.range 80).map fun s => ts.countP fun t => t.sym == s

/-- The length of a symbol of count `f` of `t` in all. -/
def dynLen (f t : Nat) : Nat :=
  if f = 0 then 0
  else ((List.range 14).map (· + 1)).foldl (fun l k => if l = k && f * 2 ^ k < t then k + 1 else l) 1

/-- The symbol to lengthen: the lowest count among lengths 1 to 14, the higher symbol on a tie. -/
def dynPick (f lens : List Nat) : Option Nat :=
  (List.range 80).foldl (fun best s =>
    if 0 < nth lens s && nth lens s < 15 then
      match best with
      | none => some s
      | some b => if nth f s ≤ nth f b then some s else best
    else best) none

/-- Lengths raised until the Kraft sum is at most 1; by fuel. -/
def dynFix (f : List Nat) : Nat → List Nat → List Nat
  | 0, lens => lens
  | n + 1, lens =>
    if kraft lens ≤ 32768 then lens
    else match dynPick f lens with
      | none => lens
      | some s => dynFix f n (lens.set s (nth lens s + 1))

/-- The dynamic table of symbol counts. -/
def dynLengths (f : List Nat) : List Nat := dynFix f 1200 (f.map fun x => dynLen x f.sum)

/-! ## The main path (R353, R359) -/

/-- A main-path payload: its bytes, whether it carries a dynamic table, the predictor used. -/
structure MainPay where
  bytes : List Nat
  dyn : Bool
  pred : Nat
deriving DecidableEq, Repr

/-- The payload of one predictor: the static table or, where allowed and smaller, a dynamic one. -/
def mainPay1 (level w mask pred : Nat) (lens : List Nat) (rows : List (List Nat)) (t1 t2 : Option (List Nat)) :
    Option MainPay :=
  let zs := residuals pred w mask rows t1 t2
  let ts := tokens (zs.length + 1) zs
  let st := (toksBits lens ts).map packBits
  let dl := dynLengths (symCounts ts)
  let dy := if level < 3 then none else (toksBits dl ts).map fun b => bytesOfLens dl ++ packBits b
  match st, dy with
  | some a, some b => some (if b.length < a.length then ⟨b, true, pred⟩ else ⟨a, false, pred⟩)
  | some a, none => some ⟨a, false, pred⟩
  | none, some b => some ⟨b, true, pred⟩
  | none, none => none

/-- The payload of a configured predictor: AUTO keeps the smallest of predictors 0 to 4, the lower code on a tie, at
levels 5 to 9, and acts as TIME2 below. -/
def mainPay (level w mask pred : Nat) (lens : List Nat) (rows : List (List Nat)) (t1 t2 : Option (List Nat)) :
    Option MainPay :=
  if pred = 7 && 5 ≤ level then
    (List.range 5).foldl (fun best p =>
      match best, mainPay1 level w mask p lens rows t1 t2 with
      | none, x => x
      | some b, some x => if x.bytes.length < b.bytes.length then some x else some b
      | some b, none => some b) none
  else mainPay1 level w mask (if pred = 7 then 2 else pred) lens rows t1 t2

/-! ## The match search (R360, R361) -/

/-- DEPTH of a level (Table 12.5). -/
def searchDepth (level : Nat) : Nat := nth [4, 4, 8, 16, 16, 32, 64, 128, 512, 4096] level

/-- The hash at a position. -/
def hashAt (b : Array Nat) (i : Nat) : Nat :=
  (((b.getD i 0 <<< 10) ^^^ (b.getD (i + 1) 0 <<< 5) ^^^ b.getD (i + 2) 0) &&& 0x7FFF)

/-- The length of the match of positions `c` and `i`, at most `n`. -/
def matchLen (b : Array Nat) (c i : Nat) : Nat → Nat
  | 0 => 0
  | n + 1 => if b.getD c 0 = b.getD i 0 then matchLen b (c + 1) (i + 1) n + 1 else 0

/-- The candidates for position `i`, most recent first: positions linked under its hash, at most 32,768 back. `w` is the
length of the window, whose last two bytes begin no linked position. -/
def candidates (b : Array Nat) (w i depth : Nat) : List Nat :=
  let h := hashAt b i
  (((List.range (min i 32768)).map fun k => i - 1 - k).filter fun c =>
    hashAt b c == h && c + 3 ≤ b.size && (w ≤ c || c + 3 ≤ w)).take depth

/-- The longest match at position `i`: length and distance; the first found on a tie. -/
def findMatch (b : Array Nat) (w i depth : Nat) : Nat × Nat :=
  if b.size < i + 3 then (0, 0)
  else (candidates b w i depth).foldl (fun best c =>
    if 258 ≤ best.1 then best
    else
      let l := matchLen b c i (min 258 (b.size - i))
      if best.1 < l then (l, i - c) else best) (0, 0)

/-- An element of the match-search output: a literal, or a length and distance. -/
inductive Lz where
  | lit (b : Nat)
  | copy (len dist : Nat)
deriving DecidableEq, Repr

/-- The elements for positions from `i` on; by fuel. -/
def matchCode (b : Array Nat) (w depth : Nat) (lazy' : Bool) : Nat → Nat → List Lz
  | 0, _ => []
  | n + 1, i =>
    if b.size ≤ i then []
    else
      let m := findMatch b w i depth
      if lazy' && 3 ≤ m.1 && i + 1 < b.size && m.1 < (findMatch b w (i + 1) depth).1 then
        .lit (b.getD i 0) :: matchCode b w depth lazy' n (i + 1)
      else if 3 ≤ m.1 then .copy m.1 m.2 :: matchCode b w depth lazy' n (i + m.1)
      else .lit (b.getD i 0) :: matchCode b w depth lazy' n (i + 1)

/-- Length bases and extra bits of RFC 1951, codes 257 to 285. -/
def lenTable : List (Nat × Nat) :=
  [(3, 0), (4, 0), (5, 0), (6, 0), (7, 0), (8, 0), (9, 0), (10, 0), (11, 1), (13, 1), (15, 1), (17, 1), (19, 2), (23, 2),
   (27, 2), (31, 2), (35, 3), (43, 3), (51, 3), (59, 3), (67, 4), (83, 4), (99, 4), (115, 4), (131, 5), (163, 5),
   (195, 5), (227, 5), (258, 0)]

/-- Distance bases and extra bits of RFC 1951, codes 0 to 29. -/
def distTable : List (Nat × Nat) :=
  [(1, 0), (2, 0), (3, 0), (4, 0), (5, 1), (7, 1), (9, 2), (13, 2), (17, 3), (25, 3), (33, 4), (49, 4), (65, 5), (97, 5),
   (129, 6), (193, 6), (257, 7), (385, 7), (513, 8), (769, 8), (1025, 9), (1537, 9), (2049, 10), (3073, 10), (4097, 11),
   (6145, 11), (8193, 12), (12289, 12), (16385, 13), (24577, 13)]

/-- The last row of a table whose base is at most `v`. -/
def tableRow (t : List (Nat × Nat)) (v : Nat) : Nat :=
  (List.range t.length).foldl (fun a k => if (t.getD k (0, 0)).1 ≤ v then k else a) 0

/-- The bits of a literal or length symbol of the fixed code. -/
def fixedSym (s : Nat) : List Bool :=
  if s < 144 then bitsMsb 8 (0x30 + s)
  else if s < 256 then bitsMsb 9 (0x190 + (s - 144))
  else if s < 280 then bitsMsb 7 (s - 256)
  else bitsMsb 8 (0xC0 + (s - 280))

/-- The bits of an element. -/
def lzBits : Lz → List Bool
  | .lit x => fixedSym x
  | .copy l d =>
    let k := tableRow lenTable l
    let e := lenTable.getD k (0, 0)
    let j := tableRow distTable d
    let f := distTable.getD j (0, 0)
    fixedSym (257 + k) ++ bitsLsb e.2 (l - e.1) ++ bitsMsb 5 j ++ bitsLsb f.2 (d - f.1)

/-- The match-search payload of input bytes after a window (R360). -/
def matchPay (level : Nat) (window input : List Nat) : List Nat :=
  let b := (window ++ input).toArray
  let es := matchCode b window.length (searchDepth level) (decide (4 ≤ level)) (input.length + 1) window.length
  packBits ([false, true, false] ++ (es.map lzBits).flatten ++ fixedSym 256 ++ [false, false, false]) ++ [0, 0, 0xFF, 0xFF]

/-! ## The fixed-ratio path (R363, R364) -/

/-- The state of one lane group's attempt at an exponent: the values reconstructed and the codes, newest first, and
whether every error is within bounds. -/
structure FixTry where
  r : List Nat
  q : List Int
  ok : Bool
deriving DecidableEq, Repr

/-- One value of a group at exponent `e`. -/
def fixStep (e : Nat) (a : FixTry) (x : Nat) : FixTry :=
  match a.r with
  | [] => ⟨[x], [], true⟩
  | p :: _ =>
    let d : Int := (x : Int) - (p : Nat)
    let q0 := if e = 0 then d else (d + 2 ^ (e - 1)) / 2 ^ e
    let q := min (max q0 (-4)) 3
    let v := min (max ((p : Int) + q * 2 ^ e) 0) 65535
    let lim : Int := if e = 0 then 0 else 2 ^ (e - 1)
    ⟨v.toNat :: a.r, q :: a.q, a.ok && decide (((x : Int) - v).natAbs ≤ lim)⟩

/-- A group at exponent `e`. -/
def fixTry (e : Nat) (xs : List Nat) : FixTry := xs.foldl (fixStep e) ⟨[], [], true⟩

/-- The lowest exponent that succeeds. -/
def fixExp (xs : List Nat) : Nat := ((List.range 16).find? fun e => (fixTry e xs).ok).getD 15

/-- The position of the first element equal to `v`. -/
def firstPos (v : Nat) : List Nat → Nat
  | [] => 0
  | x :: xs => if x = v then 0 else firstPos v xs + 1

/-- The 32-byte record of a group (Table 12.6). -/
def fixRecord (xs : List Nat) : List Nat :=
  let e := fixExp xs
  let t := fixTry e xs
  let lo := xs.foldl min 65535
  let hi := xs.foldl max 0
  let qs := t.q.reverse.foldl (fun (a : Nat × Nat) q => (a.1 + ofSigned q 3 * 2 ^ a.2, a.2 + 3)) (0, 52)
  leBytes 32 (e + nth xs 0 * 2 ^ 4 + lo * 2 ^ 20 + hi * 2 ^ 36 + qs.1 + firstPos hi xs * 2 ^ 241 + firstPos lo xs * 2 ^ 247)

/-- The values that a group record gives back for `n` rows. -/
def unfix (rec' : List Nat) (n : Nat) : List Nat :=
  let v := leVal rec'
  let e := v % 16
  let first := bitsOf v 4 16
  ((List.range (n - 1)).foldl (fun (a : List Nat) i =>
    let q := signedOf (bitsOf v (52 + 3 * i) 3) 3
    (min (max (((a.headD first : Nat) : Int) + q * 2 ^ e) 0) 65535).toNat :: a) [first]).reverse

/-- A value of a SIGNED lane as it is coded. -/
def signFlip (signed : Bool) (x : Nat) : Nat := if signed then x ^^^ 0x8000 else x

/-- The values of lane `j` of rows. -/
def laneCol (rows : List (List Nat)) (j : Nat) : List Nat := rows.map fun r => nth r j

/-- The lanes of a mask below `n`. -/
def maskLanes (mask n : Nat) : List Nat := (List.range (min n 64)).filter fun j => bitAt mask j = 1

/-- Rows with the masked lanes replaced by what a decoder reconstructs. -/
def fixRows (signed : Bool) (mask : Nat) (rows : List (List Nat)) : List (List Nat) :=
  let n := (rows.headD []).length
  let cols := (maskLanes mask n).map fun j =>
    (j, (((fixTry (fixExp ((laneCol rows j).map (signFlip signed))) ((laneCol rows j).map (signFlip signed))).r).reverse.map
      (signFlip signed)))
  (List.range rows.length).map fun i =>
    cols.foldl (fun (r : List Nat) c => r.set c.1 (nth c.2 i)) (rows.getD i [])

/-- The payload of the fixed-ratio path: the mask, the groups, the main-path payload of the other lanes (R365). -/
def fixedPay (level pred mask : Nat) (signed : Bool) (lens : List Nat) (rows : List (List Nat))
    (t1 t2 : Option (List Nat)) : Option MainPay :=
  let n := (rows.headD []).length
  let groups := (maskLanes mask n).map fun j => fixRecord ((laneCol rows j).map (signFlip signed))
  (mainPay level 16 mask pred lens (fixRows signed mask rows) t1 t2).map fun m =>
    { m with bytes := leBytes 8 mask ++ groups.flatten ++ m.bytes }

/-- The exponents of a block's groups with their lanes. -/
def fixExps (mask : Nat) (signed : Bool) (rows : List (List Nat)) : List (Nat × Nat) :=
  (maskLanes mask (rows.headD []).length).map fun j => (j, fixExp ((laneCol rows j).map (signFlip signed)))

/-! ## Blocks (R365, R366) -/

/-- A coded block: the path of its payload, its header and payload as bytes, what it did. -/
structure CodedBlock where
  path : Nat
  bytes : List Nat
  input : Nat
  fallback : Bool
  noGain : Bool
  link : CodecLink
deriving DecidableEq, Repr

/-- The header of Table 12.7 and the payload, with the CRC over both. -/
def blockBytes (path : Nat) (restart dyn rawframe : Bool) (pred table laneW lanes rows tgen rowBytes seq : Nat)
    (pay : List Nat) : List Nat :=
  let h := [1 + 16 * path + 64 * restart.toNat + 128 * dyn.toNat, pred + 8 * table + 128 * rawframe.toNat] ++
    leBytes 2 (laneW % 4 + 4 * lanes) ++ leBytes 2 rows ++ leBytes 2 tgen ++
    leBytes 4 (if path = 1 || path = 3 then 0 else rowBytes) ++ leBytes 4 pay.length ++ leBytes 4 seq
  h ++ leBytes 4 (crc32c ((h ++ pay).map (BitVec.ofNat 8))).toNat ++ pay

/-- The stored rows of a stream that a block of `n` lanes may use. -/
def useRow (restart : Bool) (n : Nat) (r : Option (List Nat)) : Option (List Nat) :=
  match r with
  | some l => if !restart && l.length = n then some l else none
  | none => none

/-- The last `n` elements of a list. -/
def lastN (n : Nat) (l : List Nat) : List Nat := l.drop (l.length - n)

/-- R365: rows coded as one block. `tab` are the tables in force, `raw` demands the raw path (Midnight). -/
def codeBlock (c : CodecCfg) (tab : List (List Nat)) (tgen : Nat) (restart raw rawframe : Bool) (rows : List (List Nat))
    (st : CodecLink) : CodedBlock :=
  let k := laneBytes c.laneW
  let w := 8 * k
  let lanes := rows.map (lanesOf k)
  let n := (lanes.headD []).length
  let t1 := useRow restart n st.row1
  let t2 := if t1.isSome then useRow restart n st.row2 else none
  let win := if restart then [] else st.window
  let flat := rowsFlat rows
  let lens := tab.getD c.table table0
  let mainIn := rows.length * n * k
  let path := if rawframe then 1 else c.path
  let first : Option MainPay :=
    if raw then none
    else match path with
      | 0 => mainPay c.level w 0 c.pred lens lanes t1 t2
      | 1 => none
      | _ => fixedPay c.level c.pred c.mask c.signed lens lanes t1 t2
  let mainGood := match first with
    | some m => decide (m.bytes.length < mainIn)
    | none => false
  let fall := !raw && path != 1 && !mainGood && 2 ≤ c.level
  let mt := if raw then none else if path = 1 || fall then some (matchPay c.level win flat) else none
  let useMatch := match mt, first with
    | some m, some f => decide (m.length < f.bytes.length)
    | some _, none => true
    | none, _ => false
  let gain := !raw && (if useMatch then decide ((mt.getD []).length < flat.length) else mainGood)
  let kept := if !gain then 3 else if useMatch then 1 else path
  let pay := if kept = 3 then flat else if kept = 1 then mt.getD [] else (first.map (·.bytes)).getD []
  let dyn := kept ≠ 3 && kept ≠ 1 && (first.map (·.dyn)).getD false
  let predUsed := if kept = 3 || kept = 1 then 0 else (first.map (·.pred)).getD 0
  let seen := if kept = 2 then fixRows c.signed c.mask lanes else lanes
  let rev := seen.reverse
  let link : CodecLink :=
    { row1 := rev.head?, row2 := if rev.length < 2 then t1 else rev[1]?, window := lastN 32768 (win ++ flat),
      seq := (st.seq + 1) % 4294967296, since := if restart then 1 else st.since + 1 }
  { path := kept,
    bytes := blockBytes kept restart dyn rawframe predUsed c.table c.laneW (min n 16383) rows.length tgen
      ((rows.headD []).length) st.seq pay,
    input := if kept = 0 || kept = 2 then mainIn else flat.length, fallback := fall, noGain := !gain && !raw, link := link }

/-! ## Decoding (R369) -/

/-- The symbol whose code begins a bit string, with the bits after it. -/
def readSym (lens : List Nat) (bits : List Bool) : Option (Nat × List Bool) :=
  (List.range lens.length).findSome? fun s =>
    match canonCode lens s with
    | some (l, c) => if bits.take l = bitsMsb l c && l ≤ bits.length then some (s, bits.drop l) else none
    | none => none

/-- Residual codes read from a payload, `n` of them; by fuel. -/
def readResiduals (lens : List Nat) : Nat → Nat → List Bool → Option (List Nat)
  | _, 0, _ => some []
  | 0, _ + 1, _ => none
  | f + 1, n + 1, bits =>
    match readSym lens bits with
    | none => none
    | some (s, rest) =>
      if s = 0 then (readResiduals lens f n rest).map (0 :: ·)
      else if s ≤ 64 then
        if rest.length < s - 1 then none
        else (readResiduals lens f n (rest.drop (s - 1))).map ((2 ^ (s - 1) + bitsVal (rest.take (s - 1))) :: ·)
      else
        let c := s - 64
        let run := 2 ^ c + bitsVal (rest.take c)
        if rest.length < c || n + 1 < run then none
        else (readResiduals lens f (n + 1 - run) (rest.drop c)).map (List.replicate run 0 ++ ·)

/-- One row rebuilt from its residuals and the masked lanes' values; the residuals left. -/
def unpredictRow (pred w mask : Nat) (fixedVals : List Nat) (t1 t2 : Option (List Nat)) :
    Nat → List Nat → List Nat → List Nat × List Nat
  | 0, cur, zs => (cur, zs)
  | n + 1, cur, zs =>
    let j := cur.length
    if bitAt mask j = 1 then unpredictRow pred w mask fixedVals t1 t2 n (cur ++ [nth fixedVals j]) zs
    else unpredictRow pred w mask fixedVals t1 t2 n (cur ++ [unresidual w (zs.headD 0) (predict pred w cur t1 t2 j)]) zs.tail

/-- Rows rebuilt in scan order. -/
def unpredict (pred w mask lanes : Nat) : List (List Nat) → Option (List Nat) → Option (List Nat) → List Nat →
    List (List Nat)
  | [], _, _, _ => []
  | fx :: rest, t1, t2, zs =>
    let (row, zs') := unpredictRow pred w mask fx t1 t2 lanes [] zs
    row :: unpredict pred w mask lanes rest (some row) t1 zs'

/-- The symbol of the fixed code that begins a bit string. -/
def readFixed (bits : List Bool) : Option (Nat × List Bool) :=
  let v7 := bitsVal (bits.take 7).reverse
  let v8 := bitsVal (bits.take 8).reverse
  let v9 := bitsVal (bits.take 9).reverse
  if 7 ≤ bits.length && v7 < 24 then some (256 + v7, bits.drop 7)
  else if 8 ≤ bits.length && 0x30 ≤ v8 && v8 < 0xC0 then some (v8 - 0x30, bits.drop 8)
  else if 8 ≤ bits.length && 0xC0 ≤ v8 && v8 < 0xC8 then some (280 + (v8 - 0xC0), bits.drop 8)
  else if 9 ≤ bits.length && 0x190 ≤ v9 then some (144 + (v9 - 0x190), bits.drop 9)
  else none

/-- The bytes of the fixed-code block's elements, appended to what precedes them; by fuel. -/
def inflateFixed : Nat → List Bool → List Nat → Option (List Nat)
  | 0, _, _ => none
  | n + 1, bits, out =>
    match readFixed bits with
    | none => none
    | some (s, r) =>
      if s < 256 then inflateFixed n r (out ++ [s])
      else if s = 256 then some out
      else
        let e := lenTable.getD (s - 257) (0, 0)
        let len := e.1 + bitsVal (r.take e.2)
        let r1 := r.drop e.2
        let dc := bitsVal (r1.take 5).reverse
        let f := distTable.getD dc (0, 0)
        let dist := f.1 + bitsVal ((r1.drop 5).take f.2)
        if 285 < s || 29 < dc || out.length < dist || r1.length < 5 + f.2 then none
        else
          inflateFixed n (r1.drop (5 + f.2))
            ((List.range len).foldl (fun o _ => o ++ [nth o (o.length - dist)]) out)

/-- Rows read back from the length-prefixed form; by fuel. -/
def unflat : Nat → List Nat → Option (List (List Nat))
  | 0, l => if l.isEmpty then some [] else none
  | n + 1, l =>
    if l.isEmpty then some []
    else if l.length < 4 then none
    else
      let k := leVal (l.take 4)
      if l.length < 4 + k then none else (unflat n (l.drop (4 + k))).map ((l.drop 4).take k :: ·)

/-- A block read back: its rows, the bytes it took, and the link after it; none on a CRC mismatch, an unassigned code or
a form that does not parse. `signed` is the stream's setting. -/
def decodeBlock (tab : List (List Nat)) (signed : Bool) (st : CodecLink) (b : List Nat) :
    Option (List (List Nat) × Nat × CodecLink) :=
  let h := leVal (b.take 24)
  let payLen := bitsOf h 96 32
  let pay := (b.drop 24).take payLen
  let path := bitsOf h 4 2
  let restart := bitAt h 6 = 1
  let k := laneBytes (bitsOf h 16 2)
  let w := 8 * k
  let lanes := bitsOf h 18 14
  let n := bitsOf h 32 16
  let rowBytes := bitsOf h 64 32
  let t1 := useRow restart lanes st.row1
  let t2 := if t1.isSome then useRow restart lanes st.row2 else none
  let win := if restart then [] else st.window
  let crcOk := (crc32c ((b.take 20 ++ pay).map (BitVec.ofNat 8))).toNat == bitsOf h 160 32
  let lens0 := tab.getD (bitsOf h 11 4) table0
  let mask := if path = 2 then leVal (pay.take 8) else 0
  let ml := maskLanes mask lanes
  let groups := (List.range ml.length).map fun i => unfix (((pay.drop 8).drop (32 * i)).take 32) n
  let after := if path = 2 then pay.drop (8 + 32 * ml.length) else pay
  let lens := if bitAt h 7 = 1 then lensOfBytes (after.take 40) else lens0
  let body := if bitAt h 7 = 1 then after.drop 40 else after
  let fixVals := (List.range n).map fun i =>
    ((List.range ml.length).foldl (fun (a : List Nat) g => a.set (nth ml g) (signFlip signed (nth (groups.getD g []) i)))
      (List.replicate lanes 0))
  let rows? : Option (List (List Nat) × List (List Nat)) :=
    if path = 1 || path = 3 then
      let flat? := if path = 3 then some pay
        else (inflateFixed (8 * payLen + 1) ((unpackBits pay).drop 3) win).map (·.drop win.length)
      (flat?.bind fun l => unflat (l.length + 1) l).map fun rs => (rs, rs.map (lanesOf k))
    else
      (readResiduals lens (n * lanes + 1) (n * (lanes - ml.length)) (unpackBits body)).map fun zs =>
        let ls := unpredict (bitsOf h 8 3) w mask lanes fixVals t1 t2 zs
        (ls.map fun l => (laneRow k l).take rowBytes, ls)
  if b.length < 24 + payLen || h % 16 ≠ 1 || !crcOk then none
  else rows?.map fun r =>
    let rev := r.2.reverse
    (r.1, 24 + payLen,
      { row1 := rev.head?, row2 := if rev.length < 2 then t1 else rev[1]?, window := lastN 32768 (win ++ rowsFlat r.1),
        seq := (bitsOf h 128 32 + 1) % 4294967296, since := if restart then 1 else st.since + 1 })

end Sys2Proof.Machine
end

