-- ==== Sys2Proof/Machine/Mem.lean ====
section
/-! DEFINITION. Byte memories in canonical form: sorted by address, no entry equal to what an unlisted address
reads as. Package DRAM, NOR, MRAM and the control cores' memories are of this form. -/

namespace Sys2Proof.Machine

/-- The byte at `a`, `dflt` where nothing is listed. -/
def memRead (dflt : BitVec 8) (m : List Host.Cell) (a : Nat) : BitVec 8 := (look a m).getD dflt

/-- The memory with `b` at `a`. -/
def memWrite (dflt : BitVec 8) (m : List Host.Cell) (a : Nat) (b : BitVec 8) : List Host.Cell :=
  if b = dflt then drop a m else put a b m

/-- The memory with bytes from `a` on. -/
def memWriteList (dflt : BitVec 8) : List (BitVec 8) → Nat → List Host.Cell → List Host.Cell
  | [], _, m => m
  | b :: bs, a, m => memWriteList dflt bs (a + 1) (memWrite dflt m a b)

/-- `n` bytes from `a`. -/
def memReadList (dflt : BitVec 8) (m : List Host.Cell) : Nat → Nat → List (BitVec 8)
  | 0, _ => []
  | n + 1, a => memRead dflt m a :: memReadList dflt m n (a + 1)

/-- The canonical form: addresses strictly rise and no entry equals the unlisted byte. -/
def memWf (dflt : BitVec 8) (m : List Host.Cell) : Bool := risingKeys m && m.all fun c => c.2 != dflt

/-- What an unlisted DRAM byte reads as: a cold start clears DRAM (spec 18 Table 18.3). -/
def dramDflt : BitVec 8 := 0#8

/-- What an unlisted NOR byte reads as: an erased byte. -/
def norDflt : BitVec 8 := 0xFF#8

/-- What an unlisted MRAM byte reads as. -/
def mramDflt : BitVec 8 := 0#8

/-- The memories of a state are in canonical form. -/
def Memory.wf (s : State) : Bool :=
  memWf dramDflt s.dram && memWf norDflt s.nor && memWf mramDflt s.mram

end Sys2Proof.Machine
end

