-- ==== Sys2Proof/Machine/Fld.lean ====
section
/-! DEFINITION. What a register field is: its block, offset, bits, access code and reset value, and how a field
of a repeated register is named by its index. -/

namespace Sys2Proof.Machine

/-- The access codes of spec 00 R19. -/
inductive Acc where
  | ro | rw | w1c | w1s | wo | rc | rwl
deriving DecidableEq, Repr

/-- The reset value of a field, as its table states it: one value, a value rising with the index, a list by
index, one value per part, one per package size, or a value that a rule gives (BLK_CTRL.ENABLE by spec 04 R128,
the port roles by spec 10 Table 10.7, a W-die's core 0 in the boot ROM by spec 16 Table 16.13); `fixed n` is a constant of
the part that the spec does not give. -/
inductive Rst where
  | c (n : Nat)
  | lin (a b : Nat)
  | tab (l : List Nat)
  | part (ikb wdie : Nat)
  | size (two four eight : Nat)
  | enable
  | role
  | roleDim
  | roleSign
  | romState
  | romFlag
  | fixed (n : Nat)
deriving DecidableEq, Repr

/-- What a count does beyond its largest value: hold it, wrap, or (where no sentence of the spec says) take a free
value. -/
inductive Ovf where
  | sat | wrap | free
deriving DecidableEq, Repr

/-- A field: `code` packs block, offset in bytes and lowest bit; `w` is its width; `idx` the index of a repeated
register, which some reset values depend on. -/
structure Fld where
  code : Nat
  w : Nat
  acc : Acc
  rst : Rst
  ovf : Ovf := .free
  idx : Nat := 0
deriving DecidableEq, Repr

/-- The field of block `b` at offset `off`, bits `lo+w-1 … lo`. -/
def fld (b : Blk) (off lo w : Nat) (acc : Acc) (rst : Rst) (ovf : Ovf := .free) : Fld :=
  { code := (b.code * 65536 + off) * 32 + lo, w := w, acc := acc, rst := rst, ovf := ovf }

/-- The field `k` registers of `stride` bytes further on. -/
def Fld.at (f : Fld) (stride k : Nat) : Fld := { f with code := f.code + 32 * (stride * k), idx := k }

/-- The field `k` fields of `bits` bits further on, counted within 32-bit words. -/
def Fld.nthBits (f : Fld) (bits k : Nat) : Fld :=
  { f with code := f.code + 128 * (k / (32 / bits)) + bits * (k % (32 / bits)), idx := k }

/-- The byte offset of a field in its page. -/
def Fld.off (f : Fld) : Nat := f.code / 32 % 65536

/-- The lowest bit of a field in its register. -/
def Fld.lo (f : Fld) : Nat := f.code % 32

/-- The block number of a field. -/
def Fld.blkCode (f : Fld) : Nat := f.code / 2097152

/-- A piece of internal state of a block, held beside its registers at an offset no access reaches (0x1000 and
above), so that a reset of the block's page clears it with them. -/
def cell (b : Blk) (n : Nat) (rst : Nat := 0) : Fld := fld b (0x1000 + 4 * n) 0 128 .ro (.c rst) .wrap

/-- The pages whose BLK_CTRL.ENABLE is 1 after reset (spec 04 R128). -/
def enableAtReset (ikb : Bool) (bcode : Nat) : Nat :=
  if ikb then
    (if [0, 1, 2, 3, 4, 5, 14, 16, 18, 20].contains bcode then 1 else 0)
  else
    (if [0, 1, 22, 23, 3, 14, 24].contains bcode then 1 else 0)

/-- The default role of package optical port `P`: role, dimension, sign (spec 10 Table 10.7). -/
def defaultRole (z : PkgSize) (P : Nat) : Nat × Nat × Nat :=
  let nb : Nat × Nat × Nat := (1, P / 4, P / 2 % 2)
  match z with
  | .wfk2 => if P = 0 ∨ P = 2 then nb else if P = 1 then (2, 0, 0) else if P = 3 then (3, 0, 0) else (0, 0, 0)
  | .wfk4 => if P = 0 ∨ P = 2 ∨ P = 4 ∨ P = 6 then nb else if P = 1 ∨ P = 3 ∨ P = 5 then (2, 0, 0)
             else if P = 7 then (3, 0, 0) else (0, 0, 0)
  | .wfk8 => if P = 0 ∨ P = 2 ∨ P = 4 ∨ P = 6 ∨ P = 8 ∨ P = 10 then nb else if P % 2 = 1 then (2, 0, 0)
             else if P = 12 ∨ P = 14 then (3, 0, 0) else (0, 0, 0)

/-- The reset value of a field in window `u`. -/
def Rst.eval (z : PkgSize) (u : Chip) (f : Fld) : Rst → Nat
  | .c n => n
  | .lin base step => base + step * f.idx
  | .tab l => nth l f.idx
  | .part onIkb onWdie => if u.isIkb then onIkb else onWdie
  | .size two four eight => match z with
    | .wfk2 => two
    | .wfk4 => four
    | .wfk8 => eight
  | .enable => match u with
    | .pkg => 0
    | u => enableAtReset u.isIkb f.blkCode
  | .role => (defaultRole z (2 * u.code + f.idx)).1
  | .roleDim => (defaultRole z (2 * u.code + f.idx)).2.1
  | .roleSign => (defaultRole z (2 * u.code + f.idx)).2.2
  | .romState => if f.idx = 0 && !u.isIkb then 2 else 1
  | .romFlag => if f.idx = 0 && !u.isIkb then 1 else 0
  | .fixed n => Config.partConst n (if n = 1 && !u.isIkb then Chip.pkg.code else u.code) (f.blkCode * 64 + f.idx)

/-- The key under which window `u` holds field `f`. -/
def Fld.key (u : Chip) (f : Fld) : Nat := u.code * 4294967296 + f.code

/-- The reset value of field `f` in window `u`. -/
def Fld.reset (z : PkgSize) (u : Chip) (f : Fld) : Nat := f.rst.eval z u f % 2 ^ f.w

/-- A register of a page, or a repeated one: its offset, the stride and count of each repetition, the fields
of its first instance, and whether it is 64 bits wide. -/
structure Row where
  off : Nat
  dims : List (Nat × Nat)
  wide : Bool
  fields : List Fld
deriving DecidableEq, Repr

end Sys2Proof.Machine
end

