-- ==== Sys2Proof/Machine/RegsCommon.lean ====
section
/-! DEFINITION. Register fields, from the register tables of the spec: the common page header, TOP, CLK, AON, PKG, PKGMODE, PKGROUTE, PWR and THERM. One definition per field,
named block, register, field; and each block's registers for word access. -/

namespace Sys2Proof.Machine

/-- Table 2.1: BLK_ID [31:16] BLOCK. -/
def hdrBlkIdBlock (b : Blk) : Fld := fld b 0x0 16 16 .ro (.c 0)

/-- Table 2.1: BLK_ID [15:0] INSTANCE. -/
def hdrBlkIdInstance (b : Blk) : Fld := fld b 0x0 0 16 .ro (.c 0)

/-- Table 2.1: BLK_VER [31:24] MAJOR. -/
def hdrBlkVerMajor (b : Blk) : Fld := fld b 0x4 24 8 .ro (.c 1)

/-- Table 2.1: BLK_VER [23:16] MINOR. -/
def hdrBlkVerMinor (b : Blk) : Fld := fld b 0x4 16 8 .ro (.c 0)

/-- Table 2.1: BLK_VER [15:8] STEP. -/
def hdrBlkVerStep (b : Blk) : Fld := fld b 0x4 8 8 .ro (.fixed 5)

/-- Table 2.1: BLK_CAP0 [31:0] CAP0. -/
def hdrBlkCap0Cap0 (b : Blk) : Fld := fld b 0x8 0 32 .ro (.c 0)

/-- Table 2.1: BLK_CAP1 [31:0] CAP1. -/
def hdrBlkCap1Cap1 (b : Blk) : Fld := fld b 0xC 0 32 .ro (.c 0)

/-- Table 2.1: BLK_CTRL [0] ENABLE. -/
def hdrBlkCtrlEnable (b : Blk) : Fld := fld b 0x10 0 1 .rwl (.enable)

/-- Table 2.1: BLK_CTRL [1] SOFT_RESET. -/
def hdrBlkCtrlSoftReset (b : Blk) : Fld := fld b 0x10 1 1 .w1s (.c 0)

/-- Table 2.1: BLK_CTRL [2] FREEZE. -/
def hdrBlkCtrlFreeze (b : Blk) : Fld := fld b 0x10 2 1 .rw (.c 0)

/-- Table 2.1: BLK_STAT [0] READY. -/
def hdrBlkStatReady (b : Blk) : Fld := fld b 0x14 0 1 .ro (.c 0)

/-- Table 2.1: BLK_STAT [1] RESET_BUSY. -/
def hdrBlkStatResetBusy (b : Blk) : Fld := fld b 0x14 1 1 .ro (.c 0)

/-- Table 2.1: BLK_STAT [2] FROZEN. -/
def hdrBlkStatFrozen (b : Blk) : Fld := fld b 0x14 2 1 .ro (.c 0)

/-- Table 2.1: BLK_STAT [3] ERR_VALID. -/
def hdrBlkStatErrValid (b : Blk) : Fld := fld b 0x14 3 1 .ro (.c 0)

/-- Table 2.1: BLK_STAT [4] DROPPED_WRITE. -/
def hdrBlkStatDroppedWrite (b : Blk) : Fld := fld b 0x14 4 1 .w1c (.c 0)

/-- Table 2.1: BLK_STAT [5] LOCKED. -/
def hdrBlkStatLocked (b : Blk) : Fld := fld b 0x14 5 1 .ro (.c 0)

/-- Table 2.1: INT_RAW [30:0] SRC. -/
def hdrIntRawSrc (b : Blk) : Fld := fld b 0x20 0 31 .w1c (.c 0)

/-- Table 2.1: INT_RAW [31] ERR. -/
def hdrIntRawErr (b : Blk) : Fld := fld b 0x20 31 1 .w1c (.c 0)

/-- Table 2.1: INT_EN [31:0] EN. -/
def hdrIntEnEn (b : Blk) : Fld := fld b 0x24 0 32 .rwl (.c 0)

/-- Table 2.1: INT_PEND [31:0] PEND. -/
def hdrIntPendPend (b : Blk) : Fld := fld b 0x28 0 32 .ro (.c 0)

/-- Table 2.1: INT_FORCE [31:0] FORCE. -/
def hdrIntForceForce (b : Blk) : Fld := fld b 0x2C 0 32 .wo (.c 0)

/-- Table 2.1: ERR_FIRST [15:0] CODE. -/
def hdrErrFirstCode (b : Blk) : Fld := fld b 0x30 0 16 .ro (.c 0)

/-- Table 2.1: ERR_FIRST [31] VALID. -/
def hdrErrFirstValid (b : Blk) : Fld := fld b 0x30 31 1 .ro (.c 0)

/-- Table 2.1: ERR_FIRST_INFO [31:0] INFO. -/
def hdrErrFirstInfoInfo (b : Blk) : Fld := fld b 0x34 0 32 .ro (.c 0)

/-- Table 2.1: ERR_NEXT_COUNT [15:0] COUNT. -/
def hdrErrNextCountCount (b : Blk) : Fld := fld b 0x38 0 16 .ro (.c 0) .sat

/-- Table 2.1: ERR_CTRL [1:0] SEVERITY. -/
def hdrErrCtrlSeverity (b : Blk) : Fld := fld b 0x3C 0 2 .ro (.c 0)

/-- Table 2.1: ERR_CTRL [2] NESTED. -/
def hdrErrCtrlNested (b : Blk) : Fld := fld b 0x3C 2 1 .ro (.c 0)

/-- Table 2.1: ERR_CTRL [3] CLEAR. -/
def hdrErrCtrlClear (b : Blk) : Fld := fld b 0x3C 3 1 .w1s (.c 0)

/-- Table 2.1: CLK_REQ [0] KEEP_AWAKE. -/
def hdrClkReqKeepAwake (b : Blk) : Fld := fld b 0x40 0 1 .rw (.c 0)

/-- Table 2.1: CLK_REQ [1] WAKE_ON_INT. -/
def hdrClkReqWakeOnInt (b : Blk) : Fld := fld b 0x40 1 1 .rw (.c 1)

/-- Table 2.1: CLK_STAT [3:0] DOMAIN. -/
def hdrClkStatDomain (b : Blk) : Fld := fld b 0x44 0 4 .ro (.c 0)

/-- Table 2.1: CLK_STAT [4] RUNNING. -/
def hdrClkStatRunning (b : Blk) : Fld := fld b 0x44 4 1 .ro (.c 0)

/-- Table 2.1: CLK_STAT [5] SOURCE_READY. -/
def hdrClkStatSourceReady (b : Blk) : Fld := fld b 0x44 5 1 .ro (.c 0)

/-- Table 2.1: LOCK [0] LOCKED. -/
def hdrLockLocked (b : Blk) : Fld := fld b 0x48 0 1 .w1s (.c 0)

/-- The registers of Table 2.1. -/
def rowsHdr (b : Blk) : List Row :=
  [⟨0x0, [], false, [(hdrBlkIdBlock b), (hdrBlkIdInstance b)]⟩,
   ⟨0x4, [], false, [(hdrBlkVerMajor b), (hdrBlkVerMinor b), (hdrBlkVerStep b)]⟩,
   ⟨0x8, [], false, [(hdrBlkCap0Cap0 b)]⟩,
   ⟨0xC, [], false, [(hdrBlkCap1Cap1 b)]⟩,
   ⟨0x10, [], false, [(hdrBlkCtrlEnable b), (hdrBlkCtrlSoftReset b), (hdrBlkCtrlFreeze b)]⟩,
   ⟨0x14, [], false, [(hdrBlkStatReady b), (hdrBlkStatResetBusy b), (hdrBlkStatFrozen b), (hdrBlkStatErrValid b), (hdrBlkStatDroppedWrite b), (hdrBlkStatLocked b)]⟩,
   ⟨0x20, [], false, [(hdrIntRawSrc b), (hdrIntRawErr b)]⟩,
   ⟨0x24, [], false, [(hdrIntEnEn b)]⟩,
   ⟨0x28, [], false, [(hdrIntPendPend b)]⟩,
   ⟨0x2C, [], false, [(hdrIntForceForce b)]⟩,
   ⟨0x30, [], false, [(hdrErrFirstCode b), (hdrErrFirstValid b)]⟩,
   ⟨0x34, [], false, [(hdrErrFirstInfoInfo b)]⟩] ++
  [⟨0x38, [], false, [(hdrErrNextCountCount b)]⟩,
   ⟨0x3C, [], false, [(hdrErrCtrlSeverity b), (hdrErrCtrlNested b), (hdrErrCtrlClear b)]⟩,
   ⟨0x40, [], false, [(hdrClkReqKeepAwake b), (hdrClkReqWakeOnInt b)]⟩,
   ⟨0x44, [], false, [(hdrClkStatDomain b), (hdrClkStatRunning b), (hdrClkStatSourceReady b)]⟩,
   ⟨0x48, [], false, [(hdrLockLocked b)]⟩]

/-- Table 2.6: IRQ_ROUTE0 [1:0] LINE_p. -/
def topIIrqRoute0Line (p : Nat) : Fld := (fld .top 0x100 0 2 .rw (.c 0)) |>.nthBits 2 p

/-- Table 2.6: IRQ_ROUTE1 [1:0] LINE_q. -/
def topIIrqRoute1Line (p : Nat) : Fld := (fld .top 0x104 0 2 .rw (.c 0)) |>.nthBits 2 p

/-- Table 2.6: IRQ_FWD [3:0] FWD. -/
def topIIrqFwdFwd : Fld := fld .top 0x108 0 4 .rw (.c 0)

/-- Table 2.6: PAGE_PEND [21:0] PEND. -/
def topIPagePendPend : Fld := fld .top 0x10C 0 22 .ro (.c 0)

/-- Table 2.6: ADDR_ERR_COUNT [15:0] COUNT. -/
def topIAddrErrCountCount : Fld := fld .top 0x110 0 16 .rc (.c 0) .sat

/-- Table 2.6: ADDR_ERR_LAST [17:0] ADDR. -/
def topIAddrErrLastAddr : Fld := fld .top 0x114 0 18 .ro (.c 0)

/-- Table 2.6: ADDR_ERR_LAST [18] WRITE. -/
def topIAddrErrLastWrite : Fld := fld .top 0x114 18 1 .ro (.c 0)

/-- The registers of Table 2.6. -/
def rowsTopI : List Row :=
  [⟨0x100, [], false, [(topIIrqRoute0Line 0), (topIIrqRoute0Line 1), (topIIrqRoute0Line 2), (topIIrqRoute0Line 3), (topIIrqRoute0Line 4), (topIIrqRoute0Line 5), (topIIrqRoute0Line 6), (topIIrqRoute0Line 7), (topIIrqRoute0Line 8), (topIIrqRoute0Line 9), (topIIrqRoute0Line 10), (topIIrqRoute0Line 11), (topIIrqRoute0Line 12), (topIIrqRoute0Line 13), (topIIrqRoute0Line 14), (topIIrqRoute0Line 15)]⟩,
   ⟨0x104, [], false, [(topIIrqRoute1Line 0), (topIIrqRoute1Line 1), (topIIrqRoute1Line 2), (topIIrqRoute1Line 3), (topIIrqRoute1Line 4), (topIIrqRoute1Line 5), (topIIrqRoute1Line 6), (topIIrqRoute1Line 7), (topIIrqRoute1Line 8), (topIIrqRoute1Line 9), (topIIrqRoute1Line 10), (topIIrqRoute1Line 11), (topIIrqRoute1Line 12), (topIIrqRoute1Line 13), (topIIrqRoute1Line 14), (topIIrqRoute1Line 15)]⟩,
   ⟨0x108, [], false, [topIIrqFwdFwd]⟩,
   ⟨0x10C, [], false, [topIPagePendPend]⟩,
   ⟨0x110, [], false, [topIAddrErrCountCount]⟩,
   ⟨0x114, [], false, [topIAddrErrLastAddr, topIAddrErrLastWrite]⟩]

/-- Table 2.7: PAGE_PEND0–3 [31:0] PEND. -/
def topWPagePendPend (k : Nat) : Fld := (fld .top 0x100 0 32 .ro (.c 0)) |>.at 4 k

/-- Table 2.7: ADDR_ERR_COUNT [15:0] COUNT. -/
def topWAddrErrCountCount : Fld := fld .top 0x110 0 16 .rc (.c 0) .sat

/-- Table 2.7: ADDR_ERR_LAST [21:0] ADDR. -/
def topWAddrErrLastAddr : Fld := fld .top 0x114 0 22 .ro (.c 0)

/-- Table 2.7: ADDR_ERR_LAST [22] WRITE. -/
def topWAddrErrLastWrite : Fld := fld .top 0x114 22 1 .ro (.c 0)

/-- Table 2.7: VEC_MAP [7:0] VEC. -/
def topWVecMapVec (n : Nat) : Fld := (fld .top 0x200 0 8 .rw (.c 0)) |>.nthBits 8 n

/-- The registers of Table 2.7. -/
def rowsTopW : List Row :=
  [⟨0x100, [(4, 4)], false, [(topWPagePendPend 0)]⟩,
   ⟨0x110, [], false, [topWAddrErrCountCount]⟩,
   ⟨0x114, [], false, [topWAddrErrLastAddr, topWAddrErrLastWrite]⟩,
   ⟨0x200, [(4, 32)], false, [(topWVecMapVec 0), (topWVecMapVec 1), (topWVecMapVec 2), (topWVecMapVec 3)]⟩]

/-- Table 2.12: SIZE [3:0] DIES. -/
def pkgSizeDies : Fld := fld .pkg 0x100 0 4 .ro (.size 2 4 8)

/-- Table 2.12: SIZE [15:8] DIE_PRESENT. -/
def pkgSizeDiePresent : Fld := fld .pkg 0x100 8 8 .ro (.c 0)

/-- Table 2.12: LTL_PORTS [7:0] PORTS. -/
def pkgLtlPortsPorts : Fld := fld .pkg 0x104 0 8 .ro (.size 16 32 64)

/-- Table 2.12: CONTEXTS [15:0] CTX. -/
def pkgContextsCtx : Fld := fld .pkg 0x108 0 16 .ro (.size 1024 2048 4096)

/-- Table 2.12: IN_FLIGHT [31:0] OPS. -/
def pkgInFlightOps : Fld := fld .pkg 0x10C 0 32 .ro (.size 32768 65536 131072)

/-- Table 2.12: DRAM_GIB [15:0] GIB. -/
def pkgDramGibGib : Fld := fld .pkg 0x110 0 16 .ro (.size 128 256 512)

/-- Table 2.12: DRAM_BW [15:0] BW. -/
def pkgDramBwBw : Fld := fld .pkg 0x114 0 16 .ro (.size 2730 5460 10920)

/-- Table 2.12: OPT_PORTS [7:0] PORTS. -/
def pkgOptPortsPorts : Fld := fld .pkg 0x118 0 8 .ro (.size 4 8 16)

/-- Table 2.12: LENS [15:0] LENS_LANES. -/
def pkgLensLensLanes : Fld := fld .pkg 0x11C 0 16 .ro (.size 128 256 512)

/-- Table 2.12: LENS [31:16] LENS_MHZ. -/
def pkgLensLensMhz : Fld := fld .pkg 0x11C 16 16 .ro (.c 1200)

/-- Table 2.12: ENGINES [7:0] MERGE. -/
def pkgEnginesMerge : Fld := fld .pkg 0x120 0 8 .ro (.size 2 4 8)

/-- Table 2.12: ENGINES [15:8] CODEC. -/
def pkgEnginesCodec : Fld := fld .pkg 0x120 8 8 .ro (.size 2 4 8)

/-- Table 2.12: ENGINES [23:16] CORES. -/
def pkgEnginesCores : Fld := fld .pkg 0x120 16 8 .ro (.size 8 16 32)

/-- Table 2.12: VEC_MAP [7:0] VEC. -/
def pkgVecMapVec (n : Nat) : Fld := (fld .pkg 0x180 0 8 .rw (.c 0)) |>.nthBits 8 n

/-- Table 18.7: START_CTRL [0] WARM. -/
def pkgStartCtrlWarm : Fld := fld .pkg 0x140 0 1 .w1s (.c 0)

/-- Table 18.7: START_CTRL [1] COLD. -/
def pkgStartCtrlCold : Fld := fld .pkg 0x140 1 1 .w1s (.c 0)

/-- Table 18.7: START_CTRL [31:16] KEY. -/
def pkgStartCtrlKey : Fld := fld .pkg 0x140 16 16 .wo (.c 0)

/-- Table 18.7: START_STAT [2:0] KIND. -/
def pkgStartStatKind : Fld := fld .pkg 0x144 0 3 .ro (.c 1)

/-- Table 18.7: START_STAT [6:3] CAUSE. -/
def pkgStartStatCause : Fld := fld .pkg 0x144 3 4 .ro (.c 0)

/-- Table 18.7: START_STAT [11:7] STEP. -/
def pkgStartStatStep : Fld := fld .pkg 0x144 7 5 .ro (.c 1)

/-- Table 18.7: START_STAT [12] DONE. -/
def pkgStartStatDone : Fld := fld .pkg 0x144 12 1 .ro (.c 0)

/-- Table 18.7: START_STAT [13] FAILED. -/
def pkgStartStatFailed : Fld := fld .pkg 0x144 13 1 .ro (.c 0)

/-- Table 18.7: START_STAT [18:14] FAILED_STEP. -/
def pkgStartStatFailedStep : Fld := fld .pkg 0x144 14 5 .ro (.c 0)

/-- Table 18.7: START_STAT [19] WARM_OK. -/
def pkgStartStatWarmOk : Fld := fld .pkg 0x144 19 1 .ro (.c 0)

/-- Table 18.7: START_STAT [20] HOST_BOOT. -/
def pkgStartStatHostBoot : Fld := fld .pkg 0x144 20 1 .ro (.c 0)

/-- Table 18.7: START_STAT [23:21] WARM_RUN. -/
def pkgStartStatWarmRun : Fld := fld .pkg 0x144 21 3 .ro (.c 0)

/-- Table 18.7: START_STAT [24] JOINED. -/
def pkgStartStatJoined : Fld := fld .pkg 0x144 24 1 .ro (.c 0)

/-- Table 18.7: START_MS [31:0] MS. -/
def pkgStartMsMs : Fld := fld .pkg 0x148 0 32 .ro (.c 0)

/-- Table 18.7: WARM_RUN_CFG [15:0] RUN_S. -/
def pkgWarmRunCfgRunS : Fld := fld .pkg 0x14C 0 16 .rw (.c 0x3C)

/-- Table 18.7: WARM_RUN_CFG [18:16] RUN_LIMIT. -/
def pkgWarmRunCfgRunLimit : Fld := fld .pkg 0x14C 16 3 .rw (.c 4)

/-- The registers of Table 2.12, Table 18.7. -/
def rowsPkg : List Row :=
  [⟨0x100, [], false, [pkgSizeDies, pkgSizeDiePresent]⟩,
   ⟨0x104, [], false, [pkgLtlPortsPorts]⟩,
   ⟨0x108, [], false, [pkgContextsCtx]⟩,
   ⟨0x10C, [], false, [pkgInFlightOps]⟩,
   ⟨0x110, [], false, [pkgDramGibGib]⟩,
   ⟨0x114, [], false, [pkgDramBwBw]⟩,
   ⟨0x118, [], false, [pkgOptPortsPorts]⟩,
   ⟨0x11C, [], false, [pkgLensLensLanes, pkgLensLensMhz]⟩,
   ⟨0x120, [], false, [pkgEnginesMerge, pkgEnginesCodec, pkgEnginesCores]⟩,
   ⟨0x180, [], false, [(pkgVecMapVec 0), (pkgVecMapVec 1), (pkgVecMapVec 2)]⟩,
   ⟨0x140, [], false, [pkgStartCtrlWarm, pkgStartCtrlCold, pkgStartCtrlKey]⟩,
   ⟨0x144, [], false, [pkgStartStatKind, pkgStartStatCause, pkgStartStatStep, pkgStartStatDone, pkgStartStatFailed, pkgStartStatFailedStep, pkgStartStatWarmOk, pkgStartStatHostBoot, pkgStartStatWarmRun, pkgStartStatJoined]⟩] ++
  [⟨0x148, [], false, [pkgStartMsMs]⟩,
   ⟨0x14C, [], false, [pkgWarmRunCfgRunS, pkgWarmRunCfgRunLimit]⟩]

/-- Table 1.11: TBL_BASE [63:0] ADDR. -/
def pkgrTblBaseAddr : Fld := fld .pkgroute 0x100 0 64 .rw (.c 0)

/-- Table 1.11: TBL_CAP [19:0] ENTRIES. -/
def pkgrTblCapEntries : Fld := fld .pkgroute 0x108 0 20 .rw (.c 0)

/-- Table 1.11: GEN [31:0] IN_FORCE. -/
def pkgrGenInForce : Fld := fld .pkgroute 0x10C 0 32 .ro (.c 0)

/-- Table 1.11: STAGED [31:0] GEN. -/
def pkgrStagedGen : Fld := fld .pkgroute 0x110 0 32 .rw (.c 0)

/-- Table 1.11: CMD [2:0] OP. -/
def pkgrCmdOp : Fld := fld .pkgroute 0x114 0 3 .rw (.c 0)

/-- Table 1.11: CMD [3] GO. -/
def pkgrCmdGo : Fld := fld .pkgroute 0x114 3 1 .w1s (.c 0)

/-- Table 1.11: CMD [4] BUSY. -/
def pkgrCmdBusy : Fld := fld .pkgroute 0x114 4 1 .ro (.c 0)

/-- Table 1.11: CMD [7:5] RESULT. -/
def pkgrCmdResult : Fld := fld .pkgroute 0x114 5 3 .ro (.c 0)

/-- Table 1.11: STAGED_COUNT [19:0] ENTRIES. -/
def pkgrStagedCountEntries : Fld := fld .pkgroute 0x118 0 20 .ro (.c 0)

/-- Table 1.11: E_ENTRY0–3 [31:0] WORD. -/
def pkgrEEntryWord (k : Nat) : Fld := (fld .pkgroute 0x120 0 32 .rw (.c 0)) |>.at 4 k

/-- Table 1.11: E_INDEX [19:0] IDX. -/
def pkgrEIndexIdx : Fld := fld .pkgroute 0x130 0 20 .rw (.c 0)

/-- Table 1.11: CNT0 [15:0] REQ_UNTRANS. -/
def pkgrCnt0ReqUntrans : Fld := fld .pkgroute 0x140 0 16 .rc (.c 0) .sat

/-- Table 1.11: CNT0 [31:16] FLAT_DROP. -/
def pkgrCnt0FlatDrop : Fld := fld .pkgroute 0x140 16 16 .rc (.c 0) .sat

/-- Table 1.11: CNT1 [15:0] MEMBER_MISSING. -/
def pkgrCnt1MemberMissing : Fld := fld .pkgroute 0x144 0 16 .rc (.c 0) .sat

/-- Table 1.11: CNT1 [31:16] STALE. -/
def pkgrCnt1Stale : Fld := fld .pkgroute 0x144 16 16 .rc (.c 0) .sat

/-- Table 1.11: CNT2 [15:0] JOB0_RANK. -/
def pkgrCnt2Job0Rank : Fld := fld .pkgroute 0x148 0 16 .rc (.c 0) .sat

/-- Table 1.11: CNT2 [31:16] FLAT_NONE. -/
def pkgrCnt2FlatNone : Fld := fld .pkgroute 0x148 16 16 .rc (.c 0) .sat

/-- Table 1.11: HUB_LO [31:0] ADDR. -/
def pkgrHubLoAddr (k : Nat) : Fld := (fld .pkgroute 0x200 0 32 .rw (.c 0)) |>.at 8 k

/-- Table 1.11: HUB_HI [15:0] ADDR. -/
def pkgrHubHiAddr (k : Nat) : Fld := (fld .pkgroute 0x204 0 16 .rw (.c 0)) |>.at 8 k

/-- Table 1.11: HUB_HI [16] VALID. -/
def pkgrHubHiValid (k : Nat) : Fld := (fld .pkgroute 0x204 16 1 .rw (.c 0)) |>.at 8 k

/-- The registers of Table 1.11. -/
def rowsPkgr : List Row :=
  [⟨0x100, [], true, [pkgrTblBaseAddr]⟩,
   ⟨0x108, [], false, [pkgrTblCapEntries]⟩,
   ⟨0x10C, [], false, [pkgrGenInForce]⟩,
   ⟨0x110, [], false, [pkgrStagedGen]⟩,
   ⟨0x114, [], false, [pkgrCmdOp, pkgrCmdGo, pkgrCmdBusy, pkgrCmdResult]⟩,
   ⟨0x118, [], false, [pkgrStagedCountEntries]⟩,
   ⟨0x120, [(4, 4)], false, [(pkgrEEntryWord 0)]⟩,
   ⟨0x130, [], false, [pkgrEIndexIdx]⟩,
   ⟨0x140, [], false, [pkgrCnt0ReqUntrans, pkgrCnt0FlatDrop]⟩,
   ⟨0x144, [], false, [pkgrCnt1MemberMissing, pkgrCnt1Stale]⟩,
   ⟨0x148, [], false, [pkgrCnt2Job0Rank, pkgrCnt2FlatNone]⟩,
   ⟨0x200, [(8, 8)], false, [(pkgrHubLoAddr 0)]⟩] ++
  [⟨0x204, [(8, 8)], false, [(pkgrHubHiAddr 0), (pkgrHubHiValid 0)]⟩]

/-- Table 4.15: CUR [1:0] MODE. -/
def pkgmCurMode : Fld := fld .pkgmode 0x100 0 2 .ro (.c 3)

/-- Table 4.15: CUR [2] IN_TRANSITION. -/
def pkgmCurInTransition : Fld := fld .pkgmode 0x100 2 1 .ro (.c 0)

/-- Table 4.15: NEXT [1:0] TARGET. -/
def pkgmNextTarget : Fld := fld .pkgmode 0x104 0 2 .rw (.c 3)

/-- Table 4.15: NEXT [2] ARM. -/
def pkgmNextArm : Fld := fld .pkgmode 0x104 2 1 .w1s (.c 0)

/-- Table 4.15: NEXT [3] ARMED. -/
def pkgmNextArmed : Fld := fld .pkgmode 0x104 3 1 .ro (.c 0)

/-- Table 4.15: NEXT [4] IKB_FOLLOW. -/
def pkgmNextIkbFollow : Fld := fld .pkgmode 0x104 4 1 .rw (.c 1)

/-- Table 4.15: NEXT [5] CANCEL. -/
def pkgmNextCancel : Fld := fld .pkgmode 0x104 5 1 .w1s (.c 0)

/-- Table 4.15: NEXT_NS [29:0] NS. -/
def pkgmNextNsNs : Fld := fld .pkgmode 0x108 0 30 .rw (.c 0)

/-- Table 4.15: NEXT_SEC_LO [31:0] SEC. -/
def pkgmNextSecLoSec : Fld := fld .pkgmode 0x10C 0 32 .rw (.c 0)

/-- Table 4.15: NEXT_SEC_HI [15:0] SEC. -/
def pkgmNextSecHiSec : Fld := fld .pkgmode 0x110 0 16 .rw (.c 0)

/-- Table 4.15: STATUS [2:0] RESULT. -/
def pkgmStatusResult : Fld := fld .pkgmode 0x114 0 3 .ro (.c 0)

/-- Table 4.15: STATUS [15:8] IKB_MISSED. -/
def pkgmStatusIkbMissed : Fld := fld .pkgmode 0x114 8 8 .rc (.c 0) .sat

/-- The registers of Table 4.15. -/
def rowsPkgm : List Row :=
  [⟨0x100, [], false, [pkgmCurMode, pkgmCurInTransition]⟩,
   ⟨0x104, [], false, [pkgmNextTarget, pkgmNextArm, pkgmNextArmed, pkgmNextIkbFollow, pkgmNextCancel]⟩,
   ⟨0x108, [], false, [pkgmNextNsNs]⟩,
   ⟨0x10C, [], false, [pkgmNextSecLoSec]⟩,
   ⟨0x110, [], false, [pkgmNextSecHiSec]⟩,
   ⟨0x114, [], false, [pkgmStatusResult, pkgmStatusIkbMissed]⟩]

/-- Table 4.8: MODE [1:0] CUR_MODE. -/
def aonModeCurMode : Fld := fld .aon 0x100 0 2 .ro (.c 3)

/-- Table 4.8: MODE [3:2] TGT_MODE. -/
def aonModeTgtMode : Fld := fld .aon 0x100 2 2 .ro (.c 3)

/-- Table 4.8: MODE [4] IN_TRANSITION. -/
def aonModeInTransition : Fld := fld .aon 0x100 4 1 .ro (.c 0)

/-- Table 4.8: MODE [5] MODE_MISSED. -/
def aonModeModeMissed : Fld := fld .aon 0x100 5 1 .w1c (.c 0)

/-- Table 4.8: PWR_CTRL [0] VIKB_OFF_REQ. -/
def aonPwrCtrlVikbOffReq : Fld := fld .aon 0x104 0 1 .w1s (.c 0)

/-- Table 4.8: PWR_CTRL [1] RETAIN_BASELINE. -/
def aonPwrCtrlRetainBaseline : Fld := fld .aon 0x104 1 1 .rw (.c 1)

/-- Table 4.8: PWR_STAT [0] OFF_OK. -/
def aonPwrStatOffOk : Fld := fld .aon 0x108 0 1 .ro (.c 0)

/-- Table 4.8: PWR_STAT [1] VIKB_LOST. -/
def aonPwrStatVikbLost : Fld := fld .aon 0x108 1 1 .w1c (.c 0)

/-- Table 4.8: PWR_STAT [2] RETAINED. -/
def aonPwrStatRetained : Fld := fld .aon 0x108 2 1 .w1c (.c 0)

/-- Table 4.8: PWR_STAT [3] REFUSED. -/
def aonPwrStatRefused : Fld := fld .aon 0x108 3 1 .w1c (.c 0)

/-- Table 4.8: WAKE_CAUSE [0] REG. -/
def aonWakeCauseReg : Fld := fld .aon 0x10C 0 1 .rc (.c 0)

/-- Table 4.8: WAKE_CAUSE [1] IRQ. -/
def aonWakeCauseIrq : Fld := fld .aon 0x10C 1 1 .rc (.c 0)

/-- Table 4.8: WAKE_CAUSE [2] LTL. -/
def aonWakeCauseLtl : Fld := fld .aon 0x10C 2 1 .rc (.c 0)

/-- Table 4.8: WAKE_CAUSE [3] MARKER. -/
def aonWakeCauseMarker : Fld := fld .aon 0x10C 3 1 .rc (.c 0)

/-- Table 4.8: WAKE_CAUSE [4] LAUNCH. -/
def aonWakeCauseLaunch : Fld := fld .aon 0x10C 4 1 .rc (.c 0)

/-- Table 18.8: START_STAT [2:0] LAST. -/
def aonStartStatLast : Fld := fld .aon 0x110 0 3 .ro (.c 0)

/-- Table 18.8: START_STAT [10:3] COUNT. -/
def aonStartStatCount : Fld := fld .aon 0x110 3 8 .ro (.c 0) .sat

/-- The registers of Table 4.8, Table 18.8. -/
def rowsAon : List Row :=
  [⟨0x100, [], false, [aonModeCurMode, aonModeTgtMode, aonModeInTransition, aonModeModeMissed]⟩,
   ⟨0x104, [], false, [aonPwrCtrlVikbOffReq, aonPwrCtrlRetainBaseline]⟩,
   ⟨0x108, [], false, [aonPwrStatOffOk, aonPwrStatVikbLost, aonPwrStatRetained, aonPwrStatRefused]⟩,
   ⟨0x10C, [], false, [aonWakeCauseReg, aonWakeCauseIrq, aonWakeCauseLtl, aonWakeCauseMarker, aonWakeCauseLaunch]⟩,
   ⟨0x110, [], false, [aonStartStatLast, aonStartStatCount]⟩]

/-- Table 4.9: SRC_STAT [0] REF_READY. -/
def clkISrcStatRefReady : Fld := fld .clk 0x100 0 1 .ro (.c 0)

/-- Table 4.9: SRC_STAT [1] PLL_LOCK. -/
def clkISrcStatPllLock : Fld := fld .clk 0x100 1 1 .ro (.c 0)

/-- Table 4.9: SRC_STAT [2] PLL_ON. -/
def clkISrcStatPllOn : Fld := fld .clk 0x100 2 1 .ro (.c 0)

/-- Table 4.9: SRC_STAT [3] REF_LOST. -/
def clkISrcStatRefLost : Fld := fld .clk 0x100 3 1 .w1c (.c 0)

/-- Table 4.9: SRC_STAT [4] PLL_LOST. -/
def clkISrcStatPllLost : Fld := fld .clk 0x100 4 1 .w1c (.c 0)

/-- Table 4.9: SRC_STAT [5] NW_LOST. -/
def clkISrcStatNwLost : Fld := fld .clk 0x100 5 1 .w1c (.c 0)

/-- Table 4.9: DOM_SRC [1:0] CORE_SRC. -/
def clkIDomSrcCoreSrc : Fld := fld .clk 0x104 0 2 .rw (.c 0)

/-- Table 4.9: DOM_SRC [3:2] CNT_SRC. -/
def clkIDomSrcCntSrc : Fld := fld .clk 0x104 2 2 .rw (.c 0)

/-- Table 4.9: DOM_SRC [5:4] TIME_SRC. -/
def clkIDomSrcTimeSrc : Fld := fld .clk 0x104 4 2 .rw (.c 0)

/-- Table 4.9: DOM_SRC [7:6] SLOW_SRC. -/
def clkIDomSrcSlowSrc : Fld := fld .clk 0x104 6 2 .rw (.c 0)

/-- Table 4.9: SW_STAT [0] SW_BUSY. -/
def clkISwStatSwBusy : Fld := fld .clk 0x108 0 1 .ro (.c 0)

/-- Table 4.9: SW_STAT [1] SW_REFUSED. -/
def clkISwStatSwRefused : Fld := fld .clk 0x108 1 1 .w1c (.c 0)

/-- Table 4.9: SW_STAT [3:2] REFUSED_DOM. -/
def clkISwStatRefusedDom : Fld := fld .clk 0x108 2 2 .ro (.c 0)

/-- Table 4.9: BLK_EN [21:0] EN. -/
def clkIBlkEnEn : Fld := fld .clk 0x10C 0 22 .rw (.c 0x15403F)

/-- Table 4.9: DOM_RUN [3:0] RUN. -/
def clkIDomRunRun : Fld := fld .clk 0x110 0 4 .ro (.c 0)

/-- Table 4.9: IDLE [15:0] IDLE_DLY. -/
def clkIIdleIdleDly : Fld := fld .clk 0x114 0 16 .rw (.c 0x100)

/-- Table 4.9: IDLE [31:16] PLL_IDLE. -/
def clkIIdlePllIdle : Fld := fld .clk 0x114 16 16 .rw (.c 0x64)

/-- Table 4.9: WAKE_LEAD [15:0] LEAD. -/
def clkIWakeLeadLead : Fld := fld .clk 0x118 0 16 .rw (.c 0x28)

/-- Table 4.9: REF_MEAS [15:0] COUNT. -/
def clkIRefMeasCount : Fld := fld .clk 0x11C 0 16 .ro (.c 0)

/-- Table 4.9: LOSS_COUNT [7:0] REF. -/
def clkILossCountRef : Fld := fld .clk 0x120 0 8 .rc (.c 0) .sat

/-- Table 4.9: LOSS_COUNT [15:8] PLL. -/
def clkILossCountPll : Fld := fld .clk 0x120 8 8 .rc (.c 0) .sat

/-- Table 4.9: NW_TRIM [7:0] TRIM. -/
def clkINwTrimTrim : Fld := fld .clk 0x124 0 8 .ro (.c 0x80)

/-- The registers of Table 4.9. -/
def rowsClkI : List Row :=
  [⟨0x100, [], false, [clkISrcStatRefReady, clkISrcStatPllLock, clkISrcStatPllOn, clkISrcStatRefLost, clkISrcStatPllLost, clkISrcStatNwLost]⟩,
   ⟨0x104, [], false, [clkIDomSrcCoreSrc, clkIDomSrcCntSrc, clkIDomSrcTimeSrc, clkIDomSrcSlowSrc]⟩,
   ⟨0x108, [], false, [clkISwStatSwBusy, clkISwStatSwRefused, clkISwStatRefusedDom]⟩,
   ⟨0x10C, [], false, [clkIBlkEnEn]⟩,
   ⟨0x110, [], false, [clkIDomRunRun]⟩,
   ⟨0x114, [], false, [clkIIdleIdleDly, clkIIdlePllIdle]⟩,
   ⟨0x118, [], false, [clkIWakeLeadLead]⟩,
   ⟨0x11C, [], false, [clkIRefMeasCount]⟩,
   ⟨0x120, [], false, [clkILossCountRef, clkILossCountPll]⟩,
   ⟨0x124, [], false, [clkINwTrimTrim]⟩]

/-- Table 4.10: SRC_STAT [0] XTAL_READY. -/
def clkWSrcStatXtalReady : Fld := fld .clk 0x100 0 1 .ro (.c 0)

/-- Table 4.10: SRC_STAT [1] PLL_LOCK. -/
def clkWSrcStatPllLock : Fld := fld .clk 0x100 1 1 .ro (.c 0)

/-- Table 4.10: SRC_STAT [2] AON_ON_XTAL. -/
def clkWSrcStatAonOnXtal : Fld := fld .clk 0x100 2 1 .ro (.c 0)

/-- Table 4.10: SRC_STAT [3] XTAL_LOST. -/
def clkWSrcStatXtalLost : Fld := fld .clk 0x100 3 1 .w1c (.c 0)

/-- Table 4.10: SRC_STAT [4] PLL_LOST. -/
def clkWSrcStatPllLost : Fld := fld .clk 0x100 4 1 .w1c (.c 0)

/-- Table 4.10: DOM_SRC [9:0] SRC. -/
def clkWDomSrcSrc : Fld := fld .clk 0x104 0 10 .rw (.c 0)

/-- Table 4.10: SW_STAT [0] SW_BUSY. -/
def clkWSwStatSwBusy : Fld := fld .clk 0x108 0 1 .ro (.c 0)

/-- Table 4.10: SW_STAT [1] SW_REFUSED. -/
def clkWSwStatSwRefused : Fld := fld .clk 0x108 1 1 .w1c (.c 0)

/-- Table 4.10: SW_STAT [4:2] REFUSED_DOM. -/
def clkWSwStatRefusedDom : Fld := fld .clk 0x108 2 3 .ro (.c 0)

/-- Table 4.10: LENS_DIV [0] DIV8. -/
def clkWLensDivDiv8 : Fld := fld .clk 0x10C 0 1 .rw (.c 0)

/-- Table 4.10: BLK_EN0–3 [31:0] EN. -/
def clkWBlkEnEn (k : Nat) : Fld := (fld .clk 0x110 0 32 .rw (.tab [0x19F])) |>.at 4 k

/-- Table 4.10: DOM_RUN [4:0] RUN. -/
def clkWDomRunRun : Fld := fld .clk 0x120 0 5 .ro (.c 0)

/-- Table 4.10: IDLE [15:0] IDLE_DLY. -/
def clkWIdleIdleDly : Fld := fld .clk 0x124 0 16 .rw (.c 0x100)

/-- Table 4.10: IDLE [31:16] PLL_IDLE. -/
def clkWIdlePllIdle : Fld := fld .clk 0x124 16 16 .rw (.c 0x64)

/-- Table 4.10: WAKE_LEAD [15:0] LEAD. -/
def clkWWakeLeadLead : Fld := fld .clk 0x128 0 16 .rw (.c 0x28)

/-- Table 4.10: LOSS_COUNT [7:0] XTAL. -/
def clkWLossCountXtal : Fld := fld .clk 0x12C 0 8 .rc (.c 0) .sat

/-- Table 4.10: LOSS_COUNT [15:8] PLL. -/
def clkWLossCountPll : Fld := fld .clk 0x12C 8 8 .rc (.c 0) .sat

/-- The registers of Table 4.10. -/
def rowsClkW : List Row :=
  [⟨0x100, [], false, [clkWSrcStatXtalReady, clkWSrcStatPllLock, clkWSrcStatAonOnXtal, clkWSrcStatXtalLost, clkWSrcStatPllLost]⟩,
   ⟨0x104, [], false, [clkWDomSrcSrc]⟩,
   ⟨0x108, [], false, [clkWSwStatSwBusy, clkWSwStatSwRefused, clkWSwStatRefusedDom]⟩,
   ⟨0x10C, [], false, [clkWLensDivDiv8]⟩,
   ⟨0x110, [(4, 4)], false, [(clkWBlkEnEn 0)]⟩,
   ⟨0x120, [], false, [clkWDomRunRun]⟩,
   ⟨0x124, [], false, [clkWIdleIdleDly, clkWIdlePllIdle]⟩,
   ⟨0x128, [], false, [clkWWakeLeadLead]⟩,
   ⟨0x12C, [], false, [clkWLossCountXtal, clkWLossCountPll]⟩]

/-- Table 4.19: STAT [1:0] MODE. -/
def pwrStatMode : Fld := fld .pwr 0x100 0 2 .ro (.c 3)

/-- Table 4.19: STAT [2] IN_TRANSITION. -/
def pwrStatInTransition : Fld := fld .pwr 0x100 2 1 .ro (.c 0)

/-- Table 4.19: STAT [3] SAFE. -/
def pwrStatSafe : Fld := fld .pwr 0x100 3 1 .ro (.c 0)

/-- Table 4.19: STAT [4] SR_ACTIVE. -/
def pwrStatSrActive : Fld := fld .pwr 0x100 4 1 .ro (.c 0)

/-- Table 4.19: STAT [5] SR_HELD. -/
def pwrStatSrHeld : Fld := fld .pwr 0x100 5 1 .ro (.c 0)

/-- Table 4.19: STAT [6] DRAM_SUPPLY. -/
def pwrStatDramSupply : Fld := fld .pwr 0x100 6 1 .ro (.c 0)

/-- Table 4.19: POWER [15:0] NOW. -/
def pwrPowerNow : Fld := fld .pwr 0x104 0 16 .ro (.c 0)

/-- Table 4.19: POWER [31:16] PEAK. -/
def pwrPowerPeak : Fld := fld .pwr 0x104 16 16 .rc (.c 0)

/-- Table 4.19: RAIL [15:0] VCORE_MV. -/
def pwrRailVcoreMv : Fld := fld .pwr 0x108 0 16 .ro (.c 0)

/-- Table 4.19: RAIL [31:16] ICORE. -/
def pwrRailIcore : Fld := fld .pwr 0x108 16 16 .ro (.c 0)

/-- Table 4.19: ENERGY [63:0] MJ. -/
def pwrEnergyMj : Fld := fld .pwr 0x10C 0 64 .ro (.c 0)

/-- Table 4.19: SAFE_COUNT [15:0] COUNT. -/
def pwrSafeCountCount : Fld := fld .pwr 0x114 0 16 .rc (.c 0) .sat

/-- Table 4.19: SAFE_COUNT [31:16] SR_BREAKS. -/
def pwrSafeCountSrBreaks : Fld := fld .pwr 0x114 16 16 .rc (.c 0) .sat

/-- The registers of Table 4.19. -/
def rowsPwr : List Row :=
  [⟨0x100, [], false, [pwrStatMode, pwrStatInTransition, pwrStatSafe, pwrStatSrActive, pwrStatSrHeld, pwrStatDramSupply]⟩,
   ⟨0x104, [], false, [pwrPowerNow, pwrPowerPeak]⟩,
   ⟨0x108, [], false, [pwrRailVcoreMv, pwrRailIcore]⟩,
   ⟨0x10C, [], true, [pwrEnergyMj]⟩,
   ⟨0x114, [], false, [pwrSafeCountCount, pwrSafeCountSrBreaks]⟩]

/-- Table 4.20: MAX [11:0] CODE. -/
def thermMaxCode : Fld := fld .therm 0x100 0 12 .ro (.c 0)

/-- Table 4.20: MAX [14:12] SITE. -/
def thermMaxSite : Fld := fld .therm 0x100 12 3 .ro (.c 0)

/-- Table 4.20: MAX [15] NONE. -/
def thermMaxNone : Fld := fld .therm 0x100 15 1 .ro (.c 1)

/-- Table 4.20: LIMITS [11:0] WARN. -/
def thermLimitsWarn : Fld := fld .therm 0x104 0 12 .rw (.c 0x348)

/-- Table 4.20: LIMITS [27:16] FATAL. -/
def thermLimitsFatal : Fld := fld .therm 0x104 16 12 .ro (.c 0x398)

/-- Table 4.20: COUNTS [15:0] WARN. -/
def thermCountsWarn : Fld := fld .therm 0x108 0 16 .rc (.c 0) .sat

/-- Table 4.20: COUNTS [31:16] SENSOR_FAIL. -/
def thermCountsSensorFail : Fld := fld .therm 0x108 16 16 .rc (.c 0) .sat

/-- Table 4.20: SITE0–7 [11:0] CODE. -/
def thermSiteCode (k : Nat) : Fld := (fld .therm 0x140 0 12 .ro (.c 0)) |>.at 4 k

/-- Table 4.20: SITE0–7 [12] VALID. -/
def thermSiteValid (k : Nat) : Fld := (fld .therm 0x140 12 1 .ro (.c 0)) |>.at 4 k

/-- The registers of Table 4.20. -/
def rowsTherm : List Row :=
  [⟨0x100, [], false, [thermMaxCode, thermMaxSite, thermMaxNone]⟩,
   ⟨0x104, [], false, [thermLimitsWarn, thermLimitsFatal]⟩,
   ⟨0x108, [], false, [thermCountsWarn, thermCountsSensorFail]⟩,
   ⟨0x140, [(4, 8)], false, [(thermSiteCode 0), (thermSiteValid 0)]⟩]

end Sys2Proof.Machine
end

