-- ==== Sys2Proof/Machine/RegsIkb.lean ====
section
/-! DEFINITION. Register fields, from the register tables of the spec: the telemetry pages of the IKB, TIME and LAUNCH. One definition per field,
named block, register, field; and each block's registers for word access. -/

namespace Sys2Proof.Machine

/-- Table 5.11: CTRL [0] BASE. -/
def timeCtrlBase : Fld := fld .time 0x100 0 1 .rw (.c 1)

/-- Table 5.11: CTRL [1] REACQUIRE. -/
def timeCtrlReacquire : Fld := fld .time 0x100 1 1 .w1s (.c 0)

/-- Table 5.11: CTRL [2] SERVO_EN. -/
def timeCtrlServoEn : Fld := fld .time 0x100 2 1 .rw (.c 1)

/-- Table 5.11: CTRL [3] MER_ROOT. -/
def timeCtrlMerRoot : Fld := fld .time 0x100 3 1 .rw (.c 0)

/-- Table 5.11: CTRL [8:4] PTP_PARENT. -/
def timeCtrlPtpParent : Fld := fld .time 0x100 4 5 .rw (.c 0x1F)

/-- Table 5.11: CTRL [13:9] MER_PARENT. -/
def timeCtrlMerParent : Fld := fld .time 0x100 9 5 .rw (.c 0x1F)

/-- Table 5.11: STAT [2:0] STATE. -/
def timeStatState : Fld := fld .time 0x104 0 3 .ro (.c 0)

/-- Table 5.11: STAT [3] VALID. -/
def timeStatValid : Fld := fld .time 0x104 3 1 .ro (.c 0)

/-- Table 5.11: STAT [4] LOCAL_LOCK. -/
def timeStatLocalLock : Fld := fld .time 0x104 4 1 .ro (.c 0)

/-- Table 5.11: STAT [5] FLEET_LOCK. -/
def timeStatFleetLock : Fld := fld .time 0x104 5 1 .ro (.c 0)

/-- Table 5.11: STAT [6] MER_SET. -/
def timeStatMerSet : Fld := fld .time 0x104 6 1 .ro (.c 0)

/-- Table 5.11: STAT [7] STEPPED. -/
def timeStatStepped : Fld := fld .time 0x104 7 1 .w1c (.c 0)

/-- Table 5.11: STAT [8] LARGE_OFFSET. -/
def timeStatLargeOffset : Fld := fld .time 0x104 8 1 .w1c (.c 0)

/-- Table 5.11: STAT [12:9] DEPTH. -/
def timeStatDepth : Fld := fld .time 0x104 9 4 .ro (.c 0)

/-- Table 5.11: NOW_FRAC [31:0] FRAC. -/
def timeNowFracFrac : Fld := fld .time 0x110 0 32 .ro (.c 0)

/-- Table 5.11: NOW_NS [29:0] NS. -/
def timeNowNsNs : Fld := fld .time 0x114 0 30 .ro (.c 0)

/-- Table 5.11: NOW_SEC_LO [31:0] SEC. -/
def timeNowSecLoSec : Fld := fld .time 0x118 0 32 .ro (.c 0)

/-- Table 5.11: NOW_SEC_HI [15:0] SEC. -/
def timeNowSecHiSec : Fld := fld .time 0x11C 0 16 .ro (.c 0)

/-- Table 5.11: ADDEND_LO [31:0] ADD. -/
def timeAddendLoAdd : Fld := fld .time 0x120 0 32 .rw (.c 0)

/-- Table 5.11: ADDEND_HI [7:0] ADD. -/
def timeAddendHiAdd : Fld := fld .time 0x124 0 8 .rw (.part 4 20)

/-- Table 5.11: STEP [63:0] NS. -/
def timeStepNs : Fld := fld .time 0x128 0 64 .rw (.c 0)

/-- Table 5.11: OFFSET [31:0] OFS. -/
def timeOffsetOfs : Fld := fld .time 0x130 0 32 .ro (.c 0)

/-- Table 5.11: LOCK_THR [7:0] LOCK_NS. -/
def timeLockThrLockNs : Fld := fld .time 0x134 0 8 .rw (.part 2 10)

/-- Table 5.11: LOCK_THR [15:8] UNLOCK_NS. -/
def timeLockThrUnlockNs : Fld := fld .time 0x134 8 8 .rw (.part 8 40)

/-- Table 5.11: LOCK_THR [23:16] LOCK_CNT. -/
def timeLockThrLockCnt : Fld := fld .time 0x134 16 8 .rw (.part 16 64)

/-- Table 5.11: LOCK_THR [31:24] UNLOCK_CNT. -/
def timeLockThrUnlockCnt : Fld := fld .time 0x134 24 8 .rw (.c 4)

/-- Table 5.11: SERVO [3:0] KP_SHIFT. -/
def timeServoKpShift : Fld := fld .time 0x138 0 4 .rw (.c 2)

/-- Table 5.11: SERVO [7:4] KI_SHIFT. -/
def timeServoKiShift : Fld := fld .time 0x138 4 4 .rw (.c 6)

/-- Table 5.11: SERVO [15:8] SLEW_MAX_PPM. -/
def timeServoSlewMaxPpm : Fld := fld .time 0x138 8 8 .rw (.c 0x64)

/-- Table 5.11: PARENT_TIMEOUT [15:0] MS. -/
def timeParentTimeoutMs : Fld := fld .time 0x13C 0 16 .rw (.part 8 375)

/-- Table 5.11: MER [63:0] TICK. -/
def timeMerTick : Fld := fld .time 0x140 0 64 .ro (.c 0)

/-- Table 5.11: MER_SET [63:0] TICK. -/
def timeMerSetTick : Fld := fld .time 0x148 0 64 .rw (.c 0)

/-- Table 5.11: OFFSET_IN [31:0] OFS. -/
def timeOffsetInOfs : Fld := fld .time 0x150 0 32 .wo (.c 0)

/-- Table 5.11: LTL_ASYM [15:0] PS. -/
def timeLtlAsymPs : Fld := fld .time 0x154 0 16 .rw (.c 0)

/-- Table 5.11: LTL_SYNC [15:0] US. -/
def timeLtlSyncUs : Fld := fld .time 0x158 0 16 .rw (.c 0x3E8)

/-- Table 5.11: HOLD_COUNT [7:0] COUNT. -/
def timeHoldCountCount : Fld := fld .time 0x15C 0 8 .rc (.c 0) .sat

/-- Table 5.11: PTP_CFG [6:0] DOMAIN. -/
def timePtpCfgDomain : Fld := fld .time 0x160 0 7 .rw (.c 0)

/-- Table 5.11: PTP_CFG [7] ENABLE. -/
def timePtpCfgEnable : Fld := fld .time 0x160 7 1 .rw (.c 0)

/-- Table 5.11: PTP_CFG [11:8] LOG_SYNC. -/
def timePtpCfgLogSync : Fld := fld .time 0x160 8 4 .rw (.c 0xA)

/-- Table 5.11: PTP_CFG [15:12] LOG_ANNOUNCE. -/
def timePtpCfgLogAnnounce : Fld := fld .time 0x160 12 4 .rw (.c 0xD)

/-- Table 5.11: PTP_CFG [31:16] DISCARDED. -/
def timePtpCfgDiscarded : Fld := fld .time 0x160 16 16 .rc (.c 0)

/-- The registers of Table 5.11 on the IKB. -/
def rowsTimeOnIkb : List Row :=
  [⟨0x100, [], false, [timeCtrlBase, timeCtrlReacquire, timeCtrlServoEn]⟩,
   ⟨0x104, [], false, [timeStatState, timeStatValid, timeStatLocalLock, timeStatFleetLock, timeStatMerSet, timeStatStepped, timeStatLargeOffset]⟩,
   ⟨0x110, [], false, [timeNowFracFrac]⟩,
   ⟨0x114, [], false, [timeNowNsNs]⟩,
   ⟨0x118, [], false, [timeNowSecLoSec]⟩,
   ⟨0x11C, [], false, [timeNowSecHiSec]⟩,
   ⟨0x120, [], false, [timeAddendLoAdd]⟩,
   ⟨0x124, [], false, [timeAddendHiAdd]⟩,
   ⟨0x128, [], true, [timeStepNs]⟩,
   ⟨0x130, [], false, [timeOffsetOfs]⟩,
   ⟨0x134, [], false, [timeLockThrLockNs, timeLockThrUnlockNs, timeLockThrLockCnt, timeLockThrUnlockCnt]⟩,
   ⟨0x138, [], false, [timeServoKpShift, timeServoKiShift, timeServoSlewMaxPpm]⟩] ++
  [⟨0x13C, [], false, [timeParentTimeoutMs]⟩,
   ⟨0x140, [], true, [timeMerTick]⟩,
   ⟨0x154, [], false, [timeLtlAsymPs]⟩,
   ⟨0x15C, [], false, [timeHoldCountCount]⟩,
   ⟨0x160, [], false, [timePtpCfgLogSync, timePtpCfgLogAnnounce, timePtpCfgDiscarded]⟩]

/-- The registers of Table 5.11 on the W-die. -/
def rowsTimeOnWdie : List Row :=
  [⟨0x100, [], false, [timeCtrlBase, timeCtrlReacquire, timeCtrlServoEn, timeCtrlMerRoot, timeCtrlPtpParent, timeCtrlMerParent]⟩,
   ⟨0x104, [], false, [timeStatState, timeStatValid, timeStatLocalLock, timeStatFleetLock, timeStatMerSet, timeStatStepped, timeStatLargeOffset, timeStatDepth]⟩,
   ⟨0x110, [], false, [timeNowFracFrac]⟩,
   ⟨0x114, [], false, [timeNowNsNs]⟩,
   ⟨0x118, [], false, [timeNowSecLoSec]⟩,
   ⟨0x11C, [], false, [timeNowSecHiSec]⟩,
   ⟨0x120, [], false, [timeAddendLoAdd]⟩,
   ⟨0x124, [], false, [timeAddendHiAdd]⟩,
   ⟨0x128, [], true, [timeStepNs]⟩,
   ⟨0x130, [], false, [timeOffsetOfs]⟩,
   ⟨0x134, [], false, [timeLockThrLockNs, timeLockThrUnlockNs, timeLockThrLockCnt, timeLockThrUnlockCnt]⟩,
   ⟨0x138, [], false, [timeServoKpShift, timeServoKiShift, timeServoSlewMaxPpm]⟩] ++
  [⟨0x13C, [], false, [timeParentTimeoutMs]⟩,
   ⟨0x140, [], true, [timeMerTick]⟩,
   ⟨0x148, [], true, [timeMerSetTick]⟩,
   ⟨0x150, [], false, [timeOffsetInOfs]⟩,
   ⟨0x158, [], false, [timeLtlSyncUs]⟩,
   ⟨0x15C, [], false, [timeHoldCountCount]⟩,
   ⟨0x160, [], false, [timePtpCfgDomain, timePtpCfgEnable, timePtpCfgLogSync, timePtpCfgLogAnnounce, timePtpCfgDiscarded]⟩]

/-- Table 5.12: ARMED [23:0] SLOT. -/
def launchArmedSlot : Fld := fld .launch 0x100 0 24 .ro (.c 0)

/-- Table 5.12: LATE_LIMIT [15:0] US. -/
def launchLateLimitUs : Fld := fld .launch 0x104 0 16 .rw (.c 0xA)

/-- Table 5.12: PULSE_CFG0–3 [15:0] WIDTH. -/
def launchPulseCfgWidth (k : Nat) : Fld := (fld .launch 0x110 0 16 .rw (.c 0xFA)) |>.at 4 k

/-- Table 5.12: PULSE_CFG0–3 [16] POL. -/
def launchPulseCfgPol (k : Nat) : Fld := (fld .launch 0x110 16 1 .rw (.c 0)) |>.at 4 k

/-- Table 5.12: PULSE_CFG0–3 [17] OVERLAP. -/
def launchPulseCfgOverlap (k : Nat) : Fld := (fld .launch 0x110 17 1 .w1c (.c 0)) |>.at 4 k

/-- Table 5.12: CTRL [4:0] ACTION. -/
def launchSlotCtrlAction (s : Nat) : Fld := (fld .launch 0x200 0 5 .rw (.c 0)) |>.at 32 s

/-- Table 5.12: CTRL [5] PERIODIC. -/
def launchSlotCtrlPeriodic (s : Nat) : Fld := (fld .launch 0x200 5 1 .rw (.c 0)) |>.at 32 s

/-- Table 5.12: CTRL [6] ARM. -/
def launchSlotCtrlArm (s : Nat) : Fld := (fld .launch 0x200 6 1 .w1s (.c 0)) |>.at 32 s

/-- Table 5.12: CTRL [7] DISARM. -/
def launchSlotCtrlDisarm (s : Nat) : Fld := (fld .launch 0x200 7 1 .w1s (.c 0)) |>.at 32 s

/-- Table 5.12: CTRL [10:8] STATE. -/
def launchSlotCtrlState (s : Nat) : Fld := (fld .launch 0x200 8 3 .ro (.c 0)) |>.at 32 s

/-- Table 5.12: CTRL [11] BASE. -/
def launchSlotCtrlBase (s : Nat) : Fld := (fld .launch 0x200 11 1 .ro (.c 0)) |>.at 32 s

/-- Table 5.12: CTRL [12] LATE. -/
def launchSlotCtrlLate (s : Nat) : Fld := (fld .launch 0x200 12 1 .w1c (.c 0)) |>.at 32 s

/-- Table 5.12: CTRL [13] CONFLICT. -/
def launchSlotCtrlConflict (s : Nat) : Fld := (fld .launch 0x200 13 1 .w1c (.c 0)) |>.at 32 s

/-- Table 5.12: TIME_NS [29:0] NS. -/
def launchSlotTimeNsNs (s : Nat) : Fld := (fld .launch 0x204 0 30 .rw (.c 0)) |>.at 32 s

/-- Table 5.12: TIME_SEC_LO [31:0] SEC. -/
def launchSlotTimeSecLoSec (s : Nat) : Fld := (fld .launch 0x208 0 32 .rw (.c 0)) |>.at 32 s

/-- Table 5.12: TIME_SEC_HI [15:0] SEC. -/
def launchSlotTimeSecHiSec (s : Nat) : Fld := (fld .launch 0x20C 0 16 .rw (.c 0)) |>.at 32 s

/-- Table 5.12: PERIOD [31:0] P. -/
def launchSlotPeriodP (s : Nat) : Fld := (fld .launch 0x210 0 32 .rw (.c 0)) |>.at 32 s

/-- Table 5.12: COUNT [31:0] N. -/
def launchSlotCountN (s : Nat) : Fld := (fld .launch 0x214 0 32 .rw (.c 0)) |>.at 32 s

/-- Table 5.12: ARG [31:0] ARG. -/
def launchSlotArgArg (s : Nat) : Fld := (fld .launch 0x218 0 32 .rw (.c 0)) |>.at 32 s

/-- Table 5.12: RESULT [15:0] LATE_NS. -/
def launchSlotResultLateNs (s : Nat) : Fld := (fld .launch 0x21C 0 16 .ro (.c 0) .sat) |>.at 32 s

/-- Table 5.12: RESULT [31:16] MISSED. -/
def launchSlotResultMissed (s : Nat) : Fld := (fld .launch 0x21C 16 16 .rc (.c 0) .sat) |>.at 32 s

/-- The registers of Table 5.12 on the IKB. -/
def rowsLaunchOnIkb : List Row :=
  [⟨0x100, [], false, [launchArmedSlot]⟩,
   ⟨0x104, [], false, [launchLateLimitUs]⟩,
   ⟨0x110, [(4, 4)], false, [(launchPulseCfgWidth 0), (launchPulseCfgPol 0), (launchPulseCfgOverlap 0)]⟩,
   ⟨0x200, [(32, 16)], false, [(launchSlotCtrlAction 0), (launchSlotCtrlPeriodic 0), (launchSlotCtrlArm 0), (launchSlotCtrlDisarm 0), (launchSlotCtrlState 0), (launchSlotCtrlBase 0), (launchSlotCtrlLate 0), (launchSlotCtrlConflict 0)]⟩,
   ⟨0x204, [(32, 16)], false, [(launchSlotTimeNsNs 0)]⟩,
   ⟨0x208, [(32, 16)], false, [(launchSlotTimeSecLoSec 0)]⟩,
   ⟨0x20C, [(32, 16)], false, [(launchSlotTimeSecHiSec 0)]⟩,
   ⟨0x210, [(32, 16)], false, [(launchSlotPeriodP 0)]⟩,
   ⟨0x214, [(32, 16)], false, [(launchSlotCountN 0)]⟩,
   ⟨0x218, [(32, 16)], false, [(launchSlotArgArg 0)]⟩,
   ⟨0x21C, [(32, 16)], false, [(launchSlotResultLateNs 0), (launchSlotResultMissed 0)]⟩]

/-- The registers of Table 5.12 on the W-die. -/
def rowsLaunchOnWdie : List Row :=
  [⟨0x100, [], false, [launchArmedSlot]⟩,
   ⟨0x104, [], false, [launchLateLimitUs]⟩,
   ⟨0x200, [(32, 24)], false, [(launchSlotCtrlAction 0), (launchSlotCtrlPeriodic 0), (launchSlotCtrlArm 0), (launchSlotCtrlDisarm 0), (launchSlotCtrlState 0), (launchSlotCtrlBase 0), (launchSlotCtrlLate 0), (launchSlotCtrlConflict 0)]⟩,
   ⟨0x204, [(32, 24)], false, [(launchSlotTimeNsNs 0)]⟩,
   ⟨0x208, [(32, 24)], false, [(launchSlotTimeSecLoSec 0)]⟩,
   ⟨0x20C, [(32, 24)], false, [(launchSlotTimeSecHiSec 0)]⟩,
   ⟨0x210, [(32, 24)], false, [(launchSlotPeriodP 0)]⟩,
   ⟨0x214, [(32, 24)], false, [(launchSlotCountN 0)]⟩,
   ⟨0x218, [(32, 24)], false, [(launchSlotArgArg 0)]⟩,
   ⟨0x21C, [(32, 24)], false, [(launchSlotResultLateNs 0), (launchSlotResultMissed 0)]⟩]

/-- Table 5.13: CTRL [15:0] TX_EN. -/
def xrxCtrlTxEn : Fld := fld .xrx 0x100 0 16 .rw (.c 0)

/-- Table 5.13: CTRL [31:16] RX_EN. -/
def xrxCtrlRxEn : Fld := fld .xrx 0x100 16 16 .rw (.c 0)

/-- Table 5.13: SAMPLE_MASK [31:0] MASK. -/
def xrxSampleMaskMask : Fld := fld .xrx 0x104 0 32 .rw (.c 0)

/-- Table 5.13: SAMPLE_MATCH [31:0] MATCH. -/
def xrxSampleMatchMatch : Fld := fld .xrx 0x108 0 32 .rw (.c 0)

/-- Table 5.13: PORT_LAT [15:0] TX_LAT. -/
def xrxPortLatTxLat (n : Nat) : Fld := (fld .xrx 0x110 0 16 .rw (.c 0)) |>.at 4 n

/-- Table 5.13: PORT_LAT [31:16] RX_LAT. -/
def xrxPortLatRxLat (n : Nat) : Fld := (fld .xrx 0x110 16 16 .rw (.c 0)) |>.at 4 n

/-- Table 5.13: RECORDED [31:0] COUNT. -/
def xrxRecordedCount : Fld := fld .xrx 0x150 0 32 .rc (.c 0)

/-- Table 5.13: DROPPED [31:0] COUNT. -/
def xrxDroppedCount : Fld := fld .xrx 0x154 0 32 .rc (.c 0)

/-- Table 5.13: UNTAGGED [15:0] COUNT. -/
def xrxUntaggedCount : Fld := fld .xrx 0x158 0 16 .rc (.c 0)

/-- Table 5.13: UNTAGGED [31:16] SPACING. -/
def xrxUntaggedSpacing : Fld := fld .xrx 0x158 16 16 .rc (.c 0)

/-- The registers of Table 5.13. -/
def rowsXrx : List Row :=
  [⟨0x100, [], false, [xrxCtrlTxEn, xrxCtrlRxEn]⟩,
   ⟨0x104, [], false, [xrxSampleMaskMask]⟩,
   ⟨0x108, [], false, [xrxSampleMatchMatch]⟩,
   ⟨0x110, [(4, 16)], false, [(xrxPortLatTxLat 0), (xrxPortLatRxLat 0)]⟩,
   ⟨0x150, [], false, [xrxRecordedCount]⟩,
   ⟨0x154, [], false, [xrxDroppedCount]⟩,
   ⟨0x158, [], false, [xrxUntaggedCount, xrxUntaggedSpacing]⟩]

/-- Table 6.2: BASE_SEL0–31 [9:0] SEL_LO. -/
def cntBaseSelSelLo (k : Nat) : Fld := (fld .cntcfg 0x100 0 10 .rwl (.lin 0 2)) |>.at 4 k

/-- Table 6.2: BASE_SEL0–31 [25:16] SEL_HI. -/
def cntBaseSelSelHi (k : Nat) : Fld := (fld .cntcfg 0x100 16 10 .rwl (.lin 1 2)) |>.at 4 k

/-- Table 6.2: STEP_STAT [0] IN_STEP. -/
def cntStepStatInStep : Fld := fld .cntcfg 0x180 0 1 .ro (.c 0)

/-- Table 6.2: STEP_STAT [4:1] PHASE. -/
def cntStepStatPhase : Fld := fld .cntcfg 0x180 1 4 .ro (.c 0)

/-- Table 6.2: STEP_STAT [5] PHASE_VALID. -/
def cntStepStatPhaseValid : Fld := fld .cntcfg 0x180 5 1 .ro (.c 0)

/-- Table 6.2: BANK_CFG0–63 [3:0] GROUP. -/
def cntBankCfgGroup (k : Nat) : Fld := (fld .cntcfg 0x200 0 4 .rw (.c 0)) |>.at 4 k

/-- Table 6.2: BANK_CFG0–63 [6:4] GATE. -/
def cntBankCfgGate (k : Nat) : Fld := (fld .cntcfg 0x200 4 3 .rw (.tab [1])) |>.at 4 k

/-- Table 6.2: BANK_CFG0–63 [10:7] PHASE. -/
def cntBankCfgPhase (k : Nat) : Fld := (fld .cntcfg 0x200 7 4 .rw (.c 0)) |>.at 4 k

/-- Table 6.2: BANK_CFG0–63 [11] CLEAR. -/
def cntBankCfgClear (k : Nat) : Fld := (fld .cntcfg 0x200 11 1 .w1s (.c 0)) |>.at 4 k

/-- The registers of Table 6.2. -/
def rowsCnt : List Row :=
  [⟨0x100, [(4, 32)], false, [(cntBaseSelSelLo 0), (cntBaseSelSelHi 0)]⟩,
   ⟨0x180, [], false, [cntStepStatInStep, cntStepStatPhase, cntStepStatPhaseValid]⟩,
   ⟨0x200, [(4, 64)], false, [(cntBankCfgGroup 0), (cntBankCfgGate 0), (cntBankCfgPhase 0), (cntBankCfgClear 0)]⟩]

/-- Table 6.4: CTRL [0] GEN_EN. -/
def snapCtrlGenEn : Fld := fld .snap 0x100 0 1 .rw (.c 1)

/-- Table 6.4: CTRL [1] KEYFRAME_NOW. -/
def snapCtrlKeyframeNow : Fld := fld .snap 0x100 1 1 .w1s (.c 0)

/-- Table 6.4: CTRL [15:8] KEY_INT. -/
def snapCtrlKeyInt : Fld := fld .snap 0x100 8 8 .rw (.c 0x40)

/-- Table 6.4: CTRL [31:16] GEN_ID. -/
def snapCtrlGenId : Fld := fld .snap 0x100 16 16 .rw (.c 0)

/-- Table 6.4: PERIOD_NOON [31:0] US. -/
def snapPeriodNoonUs : Fld := fld .snap 0x104 0 32 .rw (.c 0x3E8)

/-- Table 6.4: PERIOD_AFT [31:0] US. -/
def snapPeriodAftUs : Fld := fld .snap 0x108 0 32 .rw (.c 0x3E8)

/-- Table 6.4: PERIOD_DUSK [31:0] US. -/
def snapPeriodDuskUs : Fld := fld .snap 0x10C 0 32 .rw (.c 0x2710)

/-- Table 6.4: EPOCH_NS [29:0] NS. -/
def snapEpochNsNs : Fld := fld .snap 0x110 0 30 .rw (.c 0)

/-- Table 6.4: EPOCH_SEC_LO [31:0] SEC. -/
def snapEpochSecLoSec : Fld := fld .snap 0x114 0 32 .rw (.c 0)

/-- Table 6.4: EPOCH_SEC_HI [15:0] SEC. -/
def snapEpochSecHiSec : Fld := fld .snap 0x118 0 16 .rw (.c 0)

/-- Table 6.4: SEND_MASK [63:0] BANKS. -/
def snapSendMaskBanks : Fld := fld .snap 0x120 0 64 .rw (.c 0xFFFFFFFFFFFFFFFF)

/-- Table 6.4: CAP_SEQ [31:0] SEQ. -/
def snapCapSeqSeq : Fld := fld .snap 0x128 0 32 .ro (.c 0)

/-- Table 6.4: CAP_INFO [15:0] MARK_ID. -/
def snapCapInfoMarkId : Fld := fld .snap 0x12C 0 16 .ro (.c 0)

/-- Table 6.4: CAP_INFO [23:16] FLAGS. -/
def snapCapInfoFlags : Fld := fld .snap 0x12C 16 8 .ro (.c 0)

/-- Table 6.4: CAP_NS [29:0] NS. -/
def snapCapNsNs : Fld := fld .snap 0x130 0 30 .ro (.c 0)

/-- Table 6.4: CAP_SEC_LO [31:0] SEC. -/
def snapCapSecLoSec : Fld := fld .snap 0x134 0 32 .ro (.c 0)

/-- Table 6.4: CAP_SEC_HI [15:0] SEC. -/
def snapCapSecHiSec : Fld := fld .snap 0x138 0 16 .ro (.c 0)

/-- Table 6.4: STAT_COUNTS [15:0] BUSY. -/
def snapStatCountsBusy : Fld := fld .snap 0x140 0 16 .rc (.c 0) .sat

/-- Table 6.4: STAT_COUNTS [31:16] SHED. -/
def snapStatCountsShed : Fld := fld .snap 0x140 16 16 .rc (.c 0) .sat

/-- Table 6.4: MARKERS [7:0] OVERFLOW. -/
def snapMarkersOverflow : Fld := fld .snap 0x144 0 8 .rc (.c 0) .sat

/-- Table 6.4: MARKERS [15:8] PARITY. -/
def snapMarkersParity : Fld := fld .snap 0x144 8 8 .rc (.c 0)

/-- Table 6.4: MARKERS [23:16] ORPHAN. -/
def snapMarkersOrphan : Fld := fld .snap 0x144 16 8 .rc (.c 0)

/-- Table 6.4: MARKERS [31:24] RESERVED_KIND. -/
def snapMarkersReservedKind : Fld := fld .snap 0x144 24 8 .rc (.c 0)

/-- The registers of Table 6.4. -/
def rowsSnap : List Row :=
  [⟨0x100, [], false, [snapCtrlGenEn, snapCtrlKeyframeNow, snapCtrlKeyInt, snapCtrlGenId]⟩,
   ⟨0x104, [], false, [snapPeriodNoonUs]⟩,
   ⟨0x108, [], false, [snapPeriodAftUs]⟩,
   ⟨0x10C, [], false, [snapPeriodDuskUs]⟩,
   ⟨0x110, [], false, [snapEpochNsNs]⟩,
   ⟨0x114, [], false, [snapEpochSecLoSec]⟩,
   ⟨0x118, [], false, [snapEpochSecHiSec]⟩,
   ⟨0x120, [], true, [snapSendMaskBanks]⟩,
   ⟨0x128, [], false, [snapCapSeqSeq]⟩,
   ⟨0x12C, [], false, [snapCapInfoMarkId, snapCapInfoFlags]⟩,
   ⟨0x130, [], false, [snapCapNsNs]⟩,
   ⟨0x134, [], false, [snapCapSecLoSec]⟩] ++
  [⟨0x138, [], false, [snapCapSecHiSec]⟩,
   ⟨0x140, [], false, [snapStatCountsBusy, snapStatCountsShed]⟩,
   ⟨0x144, [], false, [snapMarkersOverflow, snapMarkersParity, snapMarkersOrphan, snapMarkersReservedKind]⟩]

/-- Table 6.8: SEQ_EN [63:0] EN. -/
def traceSeqEnEn : Fld := fld .trace 0x100 0 64 .rw (.c 0)

/-- Table 6.8: AUTH [2:0] TRACE_AUTH. -/
def traceAuthTraceAuth : Fld := fld .trace 0x108 0 3 .rw (.c 0)

/-- Table 6.8: AUTH [3] AUTH_LOCK. -/
def traceAuthAuthLock : Fld := fld .trace 0x108 3 1 .w1s (.c 0)

/-- Table 6.8: CTRL [0] SYNC_NOW. -/
def traceCtrlSyncNow : Fld := fld .trace 0x10C 0 1 .w1s (.c 0)

/-- Table 6.8: CTRL [1] STAGGER. -/
def traceCtrlStagger : Fld := fld .trace 0x10C 1 1 .rw (.c 1)

/-- Table 6.8: CTRL [31:16] SYNC_INT. -/
def traceCtrlSyncInt : Fld := fld .trace 0x10C 16 16 .rw (.c 0x1000)

/-- Table 6.8: SAMPLE [15:0] ON_US. -/
def traceSampleOnUs : Fld := fld .trace 0x110 0 16 .rw (.c 0x3E8)

/-- Table 6.8: SAMPLE [31:16] PERIOD_US. -/
def traceSamplePeriodUs : Fld := fld .trace 0x110 16 16 .rw (.c 0x1F40)

/-- Table 6.8: AUTH_REFUSED [15:0] COUNT. -/
def traceAuthRefusedCount : Fld := fld .trace 0x114 0 16 .rc (.c 0) .sat

/-- Table 6.8: OVERFLOW [15:0] PACKETS. -/
def traceOverflowPackets : Fld := fld .trace 0x118 0 16 .rc (.c 0) .sat

/-- Table 6.8: OVERFLOW [31:16] PARITY. -/
def traceOverflowParity : Fld := fld .trace 0x118 16 16 .rc (.c 0)

/-- Table 6.8: SLEEP_DISCARD [31:0] COUNT. -/
def traceSleepDiscardCount : Fld := fld .trace 0x11C 0 32 .rc (.c 0)

/-- Table 6.8: SHED_RETIRES [63:0] COUNT. -/
def traceShedRetiresCount : Fld := fld .trace 0x120 0 64 .rc (.c 0)

/-- The registers of Table 6.8. -/
def rowsTrace : List Row :=
  [⟨0x100, [], true, [traceSeqEnEn]⟩,
   ⟨0x108, [], false, [traceAuthTraceAuth, traceAuthAuthLock]⟩,
   ⟨0x10C, [], false, [traceCtrlSyncNow, traceCtrlStagger, traceCtrlSyncInt]⟩,
   ⟨0x110, [], false, [traceSampleOnUs, traceSamplePeriodUs]⟩,
   ⟨0x114, [], false, [traceAuthRefusedCount]⟩,
   ⟨0x118, [], false, [traceOverflowPackets, traceOverflowParity]⟩,
   ⟨0x11C, [], false, [traceSleepDiscardCount]⟩,
   ⟨0x120, [], true, [traceShedRetiresCount]⟩]

/-- Table 6.10: TENSOR_EN [31:0] EN. -/
def watchTensorEnEn : Fld := fld .watch 0x100 0 32 .rw (.c 0)

/-- Table 6.10: OUTSIDE [31:0] COUNT. -/
def watchOutsideCount : Fld := fld .watch 0x104 0 32 .rc (.c 0)

/-- Table 6.10: SHED [31:0] COUNT. -/
def watchShedCount : Fld := fld .watch 0x108 0 32 .rc (.c 0)

/-- Table 6.10: MATCH [23:0] TAG_MATCH. -/
def watchEntryMatchTagMatch (t : Nat) : Fld := (fld .watch 0x200 0 24 .rw (.c 0)) |>.at 32 t

/-- Table 6.10: MATCH [25:24] KIND. -/
def watchEntryMatchKind (t : Nat) : Fld := (fld .watch 0x200 24 2 .rw (.c 2)) |>.at 32 t

/-- Table 6.10: MASK [23:0] TAG_MASK. -/
def watchEntryMaskTagMask (t : Nat) : Fld := (fld .watch 0x204 0 24 .rw (.c 0)) |>.at 32 t

/-- Table 6.10: INDEX [4:0] IDX_SHIFT. -/
def watchEntryIndexIdxShift (t : Nat) : Fld := (fld .watch 0x208 0 5 .rw (.c 0)) |>.at 32 t

/-- Table 6.10: INDEX [11:8] IDX_BITS. -/
def watchEntryIndexIdxBits (t : Nat) : Fld := (fld .watch 0x208 8 4 .rw (.c 0)) |>.at 32 t

/-- Table 6.10: INDEX [31:16] TAP_MASK. -/
def watchEntryIndexTapMask (t : Nat) : Fld := (fld .watch 0x208 16 16 .rw (.c 0)) |>.at 32 t

/-- Table 6.10: GEOM [8:0] ROWS. -/
def watchEntryGeomRows (t : Nat) : Fld := (fld .watch 0x20C 0 9 .rw (.c 0x40)) |>.at 32 t

/-- Table 6.10: GEOM [22:16] COLS. -/
def watchEntryGeomCols (t : Nat) : Fld := (fld .watch 0x20C 16 7 .rw (.c 0x20)) |>.at 32 t

/-- Table 6.10: NAME [15:0] NAME_ID. -/
def watchEntryNameNameId (t : Nat) : Fld := (fld .watch 0x210 0 16 .rw (.c 0)) |>.at 32 t

/-- Table 6.10: DUP_TILES [31:0] COUNT. -/
def watchEntryDupTilesCount (t : Nat) : Fld := (fld .watch 0x214 0 32 .rc (.c 0)) |>.at 32 t

/-- The registers of Table 6.10. -/
def rowsWatch : List Row :=
  [⟨0x100, [], false, [watchTensorEnEn]⟩,
   ⟨0x104, [], false, [watchOutsideCount]⟩,
   ⟨0x108, [], false, [watchShedCount]⟩,
   ⟨0x200, [(32, 32)], false, [(watchEntryMatchTagMatch 0), (watchEntryMatchKind 0)]⟩,
   ⟨0x204, [(32, 32)], false, [(watchEntryMaskTagMask 0)]⟩,
   ⟨0x208, [(32, 32)], false, [(watchEntryIndexIdxShift 0), (watchEntryIndexIdxBits 0), (watchEntryIndexTapMask 0)]⟩,
   ⟨0x20C, [(32, 32)], false, [(watchEntryGeomRows 0), (watchEntryGeomCols 0)]⟩,
   ⟨0x210, [(32, 32)], false, [(watchEntryNameNameId 0)]⟩,
   ⟨0x214, [(32, 32)], false, [(watchEntryDupTilesCount 0)]⟩]

/-- Table 6.12: SHED [2:0] LEVEL. -/
def coderShedLevel : Fld := fld .coder 0x100 0 3 .ro (.c 0)

/-- Table 6.12: SHED [6:4] LOCAL. -/
def coderShedLocal : Fld := fld .coder 0x100 4 3 .ro (.c 0)

/-- Table 6.12: SHED [10:8] COMMANDED. -/
def coderShedCommanded : Fld := fld .coder 0x100 8 3 .ro (.c 0)

/-- Table 6.12: SHED [31:16] CHANGES. -/
def coderShedChanges : Fld := fld .coder 0x100 16 16 .rc (.c 0) .sat

/-- Table 6.12: TRACE_BYTES [31:0] COUNT. -/
def coderTraceBytesCount : Fld := fld .coder 0x104 0 32 .rc (.c 0)

/-- Table 6.12: SNAP_BYTES [31:0] COUNT. -/
def coderSnapBytesCount : Fld := fld .coder 0x108 0 32 .rc (.c 0)

/-- Table 6.12: WATCH_BYTES [31:0] COUNT. -/
def coderWatchBytesCount : Fld := fld .coder 0x10C 0 32 .rc (.c 0)

/-- Table 6.12: XRX_SHED [31:0] COUNT. -/
def coderXrxShedCount : Fld := fld .coder 0x110 0 32 .rc (.c 0)

/-- The registers of Table 6.12. -/
def rowsCoder : List Row :=
  [⟨0x100, [], false, [coderShedLevel, coderShedLocal, coderShedCommanded, coderShedChanges]⟩,
   ⟨0x104, [], false, [coderTraceBytesCount]⟩,
   ⟨0x108, [], false, [coderSnapBytesCount]⟩,
   ⟨0x10C, [], false, [coderWatchBytesCount]⟩,
   ⟨0x110, [], false, [coderXrxShedCount]⟩]

/-- Table 7.9: MODE [2:0] CHECK. -/
def abftModeCheck : Fld := fld .abft 0x100 0 3 .rw (.c 0)

/-- Table 7.9: MODE [3] HOLD. -/
def abftModeHold : Fld := fld .abft 0x100 3 1 .rw (.c 0)

/-- Table 7.9: MODE [7:4] SAMPLE_N. -/
def abftModeSampleN : Fld := fld .abft 0x100 4 4 .rw (.c 4)

/-- Table 7.9: MODE [10:8] EFF_CHECK. -/
def abftModeEffCheck : Fld := fld .abft 0x100 8 3 .ro (.c 0)

/-- Table 7.9: MODE [11] EFF_HOLD. -/
def abftModeEffHold : Fld := fld .abft 0x100 11 1 .ro (.c 0)

/-- Table 7.9: MODE [12] FALLBACK. -/
def abftModeFallback : Fld := fld .abft 0x100 12 1 .ro (.c 0)

/-- Table 7.9: MODE [31:16] ENG_EN. -/
def abftModeEngEn : Fld := fld .abft 0x100 16 16 .rw (.c 0)

/-- Table 7.9: SAMPLE_SEED [23:0] SEED. -/
def abftSampleSeedSeed : Fld := fld .abft 0x104 0 24 .rw (.c 0)

/-- Table 7.9: TOL_ABS_FP16 [31:0] TOL. -/
def abftTolAbsFp16Tol : Fld := fld .abft 0x108 0 32 .rw (.c 0x3C000000)

/-- Table 7.9: TOL_ABS_BF16 [31:0] TOL. -/
def abftTolAbsBf16Tol : Fld := fld .abft 0x10C 0 32 .rw (.c 0x4000000)

/-- Table 7.9: TOL_ABS_FP32 [31:0] TOL. -/
def abftTolAbsFp32Tol : Fld := fld .abft 0x110 0 32 .rw (.c 0x4000000)

/-- Table 7.9: OPEN [7:0] TILES. -/
def abftOpenTiles : Fld := fld .abft 0x114 0 8 .ro (.c 0)

/-- Table 7.9: LAST_MM0 [23:0] TAG. -/
def abftLastMm0Tag : Fld := fld .abft 0x200 0 24 .ro (.c 0)

/-- Table 7.9: LAST_MM0 [27:24] ENGINE. -/
def abftLastMm0Engine : Fld := fld .abft 0x200 24 4 .ro (.c 0)

/-- Table 7.9: LAST_MM0 [28] ROW_FAIL. -/
def abftLastMm0RowFail : Fld := fld .abft 0x200 28 1 .ro (.c 0)

/-- Table 7.9: LAST_MM0 [29] COL_FAIL. -/
def abftLastMm0ColFail : Fld := fld .abft 0x200 29 1 .ro (.c 0)

/-- Table 7.9: LAST_MM0 [30] REDUNDANT. -/
def abftLastMm0Redundant : Fld := fld .abft 0x200 30 1 .ro (.c 0)

/-- Table 7.9: LAST_MM1 [15:0] GEN. -/
def abftLastMm1Gen : Fld := fld .abft 0x204 0 16 .ro (.c 0)

/-- Table 7.9: LAST_MM1 [23:16] ROW. -/
def abftLastMm1Row : Fld := fld .abft 0x204 16 8 .ro (.c 0xFF)

/-- Table 7.9: LAST_MM1 [30:24] COL. -/
def abftLastMm1Col : Fld := fld .abft 0x204 24 7 .ro (.c 0x7F)

/-- Table 7.9: LAST_MM_DIFF [31:0] DIFF. -/
def abftLastMmDiffDiff : Fld := fld .abft 0x208 0 32 .ro (.c 0)

/-- Table 7.9: LAST_MM_TOL [31:0] TOL. -/
def abftLastMmTolTol : Fld := fld .abft 0x20C 0 32 .ro (.c 0)

/-- Table 7.9: LAST_UNCHK [23:0] TAG. -/
def abftLastUnchkTag : Fld := fld .abft 0x220 0 24 .ro (.c 0)

/-- Table 7.9: LAST_UNCHK [27:24] ENGINE. -/
def abftLastUnchkEngine : Fld := fld .abft 0x220 24 4 .ro (.c 0)

/-- Table 7.9: LAST_UNCHK [31:28] REASON. -/
def abftLastUnchkReason : Fld := fld .abft 0x220 28 4 .ro (.c 0)

/-- Table 7.9: POISON_CTRL [0] CLEAR_ALL. -/
def abftPoisonCtrlClearAll : Fld := fld .abft 0x240 0 1 .w1s (.c 0)

/-- Table 7.9: POISON_STAT [15:0] OVERFLOW. -/
def abftPoisonStatOverflow : Fld := fld .abft 0x244 0 16 .rc (.c 0) .sat

/-- Table 7.9: PSN_COUNT [7:0] MEM. -/
def abftPsnCountMem : Fld := fld .abft 0x248 0 8 .rc (.c 0) .sat

/-- Table 7.9: PSN_COUNT [15:8] FABRIC. -/
def abftPsnCountFabric : Fld := fld .abft 0x248 8 8 .rc (.c 0) .sat

/-- Table 7.9: PSN_COUNT [23:16] ENGINE. -/
def abftPsnCountEngine : Fld := fld .abft 0x248 16 8 .rc (.c 0) .sat

/-- Table 7.9: PSN_COUNT [31:24] OTHER. -/
def abftPsnCountOther : Fld := fld .abft 0x248 24 8 .rc (.c 0) .sat

/-- Table 7.9: PSN_ERR [7:0] PARITY. -/
def abftPsnErrParity : Fld := fld .abft 0x24C 0 8 .rc (.c 0)

/-- Table 7.9: PSN_ERR [15:8] QUEUE_FULL. -/
def abftPsnErrQueueFull : Fld := fld .abft 0x24C 8 8 .rc (.c 0)

/-- Table 7.9: POISON0–15 [15:0] GEN. -/
def abftPoisonGen (k : Nat) : Fld := (fld .abft 0x280 0 16 .ro (.c 0)) |>.at 4 k

/-- Table 7.9: POISON0–15 [16] VALID. -/
def abftPoisonValid (k : Nat) : Fld := (fld .abft 0x280 16 1 .ro (.c 0)) |>.at 4 k

/-- Table 7.9: POISON0–15 [17] SOURCE. -/
def abftPoisonSource (k : Nat) : Fld := (fld .abft 0x280 17 1 .ro (.c 0)) |>.at 4 k

/-- Table 7.9: IFC_CTRL [0] PENDING. -/
def abftIfcCtrlPending : Fld := fld .abft 0x300 0 1 .rw (.c 0)

/-- Table 7.9: IFC_CTRL [1] IN_CKPT. -/
def abftIfcCtrlInCkpt : Fld := fld .abft 0x300 1 1 .ro (.c 0)

/-- Table 7.9: IFC_CTRL [2] RUNNING. -/
def abftIfcCtrlRunning : Fld := fld .abft 0x300 2 1 .ro (.c 0)

/-- Table 7.9: IFC_CTRL [3] RELEASE. -/
def abftIfcCtrlRelease : Fld := fld .abft 0x300 3 1 .ro (.c 0)

/-- Table 7.9: IFC_CTRL [4] PASS. -/
def abftIfcCtrlPass : Fld := fld .abft 0x300 4 1 .w1c (.c 0)

/-- Table 7.9: IFC_CTRL [5] FAIL. -/
def abftIfcCtrlFail : Fld := fld .abft 0x300 5 1 .w1c (.c 0)

/-- Table 7.9: IFC_CTRL [6] INCOMPLETE. -/
def abftIfcCtrlIncomplete : Fld := fld .abft 0x300 6 1 .w1c (.c 0)

/-- Table 7.9: IFC_CTRL [7] MISSED_CKPT. -/
def abftIfcCtrlMissedCkpt : Fld := fld .abft 0x300 7 1 .w1c (.c 0)

/-- Table 7.9: IFC_DL_NS [29:0] NS. -/
def abftIfcDlNsNs : Fld := fld .abft 0x304 0 30 .rw (.c 0)

/-- Table 7.9: IFC_DL_SEC_LO [31:0] SEC. -/
def abftIfcDlSecLoSec : Fld := fld .abft 0x308 0 32 .rw (.c 0)

/-- Table 7.9: IFC_DL_SEC_HI [15:0] SEC. -/
def abftIfcDlSecHiSec : Fld := fld .abft 0x30C 0 16 .rw (.c 0)

/-- Table 7.9: IFC_DESC [31:0] DESC. -/
def abftIfcDescDesc : Fld := fld .abft 0x310 0 32 .ro (.c 0)

/-- Table 7.9: IFC_TIMING [15:0] TIMEOUT_MS. -/
def abftIfcTimingTimeoutMs : Fld := fld .abft 0x314 0 16 .rw (.c 0x32)

/-- Table 7.9: IFC_TIMING [31:16] WAIT_MS. -/
def abftIfcTimingWaitMs : Fld := fld .abft 0x314 16 16 .rw (.c 0x14)

/-- Table 7.9: IFC_RESULT [15:0] PASSED. -/
def abftIfcResultPassed : Fld := fld .abft 0x318 0 16 .ro (.c 0)

/-- Table 7.9: IFC_RESULT [31:16] FAILED. -/
def abftIfcResultFailed : Fld := fld .abft 0x318 16 16 .ro (.c 0)

/-- Table 7.9: IFC_EXPECT0–255 [63:0] DIGEST. -/
def abftIfcExpectDigest (k : Nat) : Fld := (fld .abft 0x800 0 64 .rw (.c 0)) |>.at 8 k

/-- The registers of Table 7.9. -/
def rowsAbft : List Row :=
  [⟨0x100, [], false, [abftModeCheck, abftModeHold, abftModeSampleN, abftModeEffCheck, abftModeEffHold, abftModeFallback, abftModeEngEn]⟩,
   ⟨0x104, [], false, [abftSampleSeedSeed]⟩,
   ⟨0x108, [], false, [abftTolAbsFp16Tol]⟩,
   ⟨0x10C, [], false, [abftTolAbsBf16Tol]⟩,
   ⟨0x110, [], false, [abftTolAbsFp32Tol]⟩,
   ⟨0x114, [], false, [abftOpenTiles]⟩,
   ⟨0x200, [], false, [abftLastMm0Tag, abftLastMm0Engine, abftLastMm0RowFail, abftLastMm0ColFail, abftLastMm0Redundant]⟩,
   ⟨0x204, [], false, [abftLastMm1Gen, abftLastMm1Row, abftLastMm1Col]⟩,
   ⟨0x208, [], false, [abftLastMmDiffDiff]⟩,
   ⟨0x20C, [], false, [abftLastMmTolTol]⟩,
   ⟨0x220, [], false, [abftLastUnchkTag, abftLastUnchkEngine, abftLastUnchkReason]⟩,
   ⟨0x240, [], false, [abftPoisonCtrlClearAll]⟩] ++
  [⟨0x244, [], false, [abftPoisonStatOverflow]⟩,
   ⟨0x248, [], false, [abftPsnCountMem, abftPsnCountFabric, abftPsnCountEngine, abftPsnCountOther]⟩,
   ⟨0x24C, [], false, [abftPsnErrParity, abftPsnErrQueueFull]⟩,
   ⟨0x280, [(4, 16)], false, [(abftPoisonGen 0), (abftPoisonValid 0), (abftPoisonSource 0)]⟩,
   ⟨0x300, [], false, [abftIfcCtrlPending, abftIfcCtrlInCkpt, abftIfcCtrlRunning, abftIfcCtrlRelease, abftIfcCtrlPass, abftIfcCtrlFail, abftIfcCtrlIncomplete, abftIfcCtrlMissedCkpt]⟩,
   ⟨0x304, [], false, [abftIfcDlNsNs]⟩,
   ⟨0x308, [], false, [abftIfcDlSecLoSec]⟩,
   ⟨0x30C, [], false, [abftIfcDlSecHiSec]⟩,
   ⟨0x310, [], false, [abftIfcDescDesc]⟩,
   ⟨0x314, [], false, [abftIfcTimingTimeoutMs, abftIfcTimingWaitMs]⟩,
   ⟨0x318, [], false, [abftIfcResultPassed, abftIfcResultFailed]⟩,
   ⟨0x800, [(8, 256)], true, [(abftIfcExpectDigest 0)]⟩]

/-- Table 7.10: GEOM [7:0] M. -/
def abftEngGeomM (n : Nat) : Fld := (fld .abft 0x400 0 8 .rw (.c 0x80)) |>.at 32 n

/-- Table 7.10: GEOM [14:8] K. -/
def abftEngGeomK (n : Nat) : Fld := (fld .abft 0x400 8 7 .rw (.c 0x20)) |>.at 32 n

/-- Table 7.10: GEOM [22:16] N. -/
def abftEngGeomN (n : Nat) : Fld := (fld .abft 0x400 16 7 .rw (.c 0x20)) |>.at 32 n

/-- Table 7.10: GEOM [29:24] SITE. -/
def abftEngGeomSite (n : Nat) : Fld := (fld .abft 0x400 24 6 .rw (.c 0)) |>.at 32 n

/-- Table 7.10: TOL [11:0] MULT. -/
def abftEngTolMult (n : Nat) : Fld := (fld .abft 0x404 0 12 .rw (.c 0x24)) |>.at 32 n

/-- Table 7.10: TOL [16] RETIRED. -/
def abftEngTolRetired (n : Nat) : Fld := (fld .abft 0x404 16 1 .rwl (.c 0)) |>.at 32 n

/-- Table 7.10: CHECKED [31:0] COUNT. -/
def abftEngCheckedCount (n : Nat) : Fld := (fld .abft 0x408 0 32 .rc (.c 0)) |>.at 32 n

/-- Table 7.10: COUNTS [15:0] MISMATCH. -/
def abftEngCountsMismatch (n : Nat) : Fld := (fld .abft 0x40C 0 16 .rc (.c 0) .sat) |>.at 32 n

/-- Table 7.10: COUNTS [31:16] UNCHECKED. -/
def abftEngCountsUnchecked (n : Nat) : Fld := (fld .abft 0x40C 16 16 .rc (.c 0) .sat) |>.at 32 n

/-- Table 7.10: SKIPPED [31:0] COUNT. -/
def abftEngSkippedCount (n : Nat) : Fld := (fld .abft 0x410 0 32 .rc (.c 0)) |>.at 32 n

/-- Table 7.10: PAIR [15:0] SUSPECT. -/
def abftEngPairSuspect (n : Nat) : Fld := (fld .abft 0x414 0 16 .rc (.c 0)) |>.at 32 n

/-- Table 7.10: PAIR [31:16] NO_PAIR. -/
def abftEngPairNoPair (n : Nat) : Fld := (fld .abft 0x414 16 16 .rc (.c 0)) |>.at 32 n

/-- Table 7.10: LOAD [15:0] BEATS64. -/
def abftEngLoadBeats64 (n : Nat) : Fld := (fld .abft 0x418 0 16 .ro (.c 0)) |>.at 32 n

/-- Table 7.10: LOAD [31:16] PEAK64. -/
def abftEngLoadPeak64 (n : Nat) : Fld := (fld .abft 0x418 16 16 .rw (.c 0x7A12)) |>.at 32 n

/-- The registers of Table 7.10. -/
def rowsAbftEng : List Row :=
  [⟨0x400, [(32, 16)], false, [(abftEngGeomM 0), (abftEngGeomK 0), (abftEngGeomN 0), (abftEngGeomSite 0)]⟩,
   ⟨0x404, [(32, 16)], false, [(abftEngTolMult 0), (abftEngTolRetired 0)]⟩,
   ⟨0x408, [(32, 16)], false, [(abftEngCheckedCount 0)]⟩,
   ⟨0x40C, [(32, 16)], false, [(abftEngCountsMismatch 0), (abftEngCountsUnchecked 0)]⟩,
   ⟨0x410, [(32, 16)], false, [(abftEngSkippedCount 0)]⟩,
   ⟨0x414, [(32, 16)], false, [(abftEngPairSuspect 0), (abftEngPairNoPair 0)]⟩,
   ⟨0x418, [(32, 16)], false, [(abftEngLoadBeats64 0), (abftEngLoadPeak64 0)]⟩]

/-- Table 8.7: CTRL [0] LOCKSTEP_EN. -/
def govCtrlLockstepEn : Fld := fld .gov 0x100 0 1 .rw (.c 0)

/-- Table 8.7: CTRL [1] SOFT_EN. -/
def govCtrlSoftEn : Fld := fld .gov 0x100 1 1 .rw (.c 1)

/-- Table 8.7: CTRL [2] HARD_EN. -/
def govCtrlHardEn : Fld := fld .gov 0x100 2 1 .rwl (.c 1)

/-- Table 8.7: STAT [4:0] JOB_IDX. -/
def govStatJobIdx : Fld := fld .gov 0x104 0 5 .ro (.c 8)

/-- Table 8.7: STAT [9:5] CUR_IDX. -/
def govStatCurIdx : Fld := fld .gov 0x104 5 5 .ro (.c 0)

/-- Table 8.7: STAT [14:10] REQ_IDX. -/
def govStatReqIdx : Fld := fld .gov 0x104 10 5 .ro (.c 0)

/-- Table 8.7: STAT [15] HARD. -/
def govStatHard : Fld := fld .gov 0x104 15 1 .ro (.c 0)

/-- Table 8.7: STAT [16] BREAK. -/
def govStatBreak : Fld := fld .gov 0x104 16 1 .ro (.c 0)

/-- Table 8.7: STAT [17] PERSIST. -/
def govStatPersist : Fld := fld .gov 0x104 17 1 .ro (.c 0)

/-- Table 8.7: STAT [20:18] CAUSE. -/
def govStatCause : Fld := fld .gov 0x104 18 3 .ro (.c 0)

/-- Table 8.7: STAT [21] HS_BUSY. -/
def govStatHsBusy : Fld := fld .gov 0x104 21 1 .ro (.c 0)

/-- Table 8.7: STAT [22] AVS_BUSY. -/
def govStatAvsBusy : Fld := fld .gov 0x104 22 1 .ro (.c 0)

/-- Table 8.7: STAT [23] SOFT_CAP. -/
def govStatSoftCap : Fld := fld .gov 0x104 23 1 .ro (.c 0)

/-- Table 8.7: STAT [26:24] TBIN. -/
def govStatTbin : Fld := fld .gov 0x104 24 3 .ro (.c 7)

/-- Table 8.7: STAT [31:27] BREAK_IDX. -/
def govStatBreakIdx : Fld := fld .gov 0x104 27 5 .ro (.c 0)

/-- Table 8.7: STAGE [4:0] IDX. -/
def govStageIdx : Fld := fld .gov 0x108 0 5 .ro (.c 0)

/-- Table 8.7: STAGE [5] VALID. -/
def govStageValid : Fld := fld .gov 0x108 5 1 .ro (.c 0)

/-- Table 8.7: STAGE [6] VOLT_DONE. -/
def govStageVoltDone : Fld := fld .gov 0x108 6 1 .ro (.c 0)

/-- Table 8.7: STAGE [7] CUR_SET. -/
def govStageCurSet : Fld := fld .gov 0x108 7 1 .ro (.c 0)

/-- Table 8.7: STAGE [8] JOB_SET. -/
def govStageJobSet : Fld := fld .gov 0x108 8 1 .ro (.c 0)

/-- Table 8.7: HARD_CFG [15:0] HOLD_US. -/
def govHardCfgHoldUs : Fld := fld .gov 0x10C 0 16 .rw (.c 0x32)

/-- Table 8.7: BREAK_CFG [15:0] PERSIST_US. -/
def govBreakCfgPersistUs : Fld := fld .gov 0x110 0 16 .rw (.c 0x3E8)

/-- Table 8.7: BREAK_CFG [31:16] RAISE_HOLD_MS. -/
def govBreakCfgRaiseHoldMs : Fld := fld .gov 0x110 16 16 .rw (.c 0xA)

/-- Table 8.7: CAP [4:0] CAP_IDX. -/
def govCapCapIdx : Fld := fld .gov 0x114 0 5 .rw (.c 0)

/-- Table 8.7: CAP [12:8] FAILSAFE_IDX. -/
def govCapFailsafeIdx : Fld := fld .gov 0x114 8 5 .rw (.c 0x10)

/-- Table 8.7: COUNTS [15:0] HARD_STEPS. -/
def govCountsHardSteps : Fld := fld .gov 0x118 0 16 .rc (.c 0) .sat

/-- Table 8.7: COUNTS [31:16] BREAKS. -/
def govCountsBreaks : Fld := fld .gov 0x118 16 16 .rc (.c 0) .sat

/-- Table 8.7: LAST_HARD [2:0] RAIL. -/
def govLastHardRail : Fld := fld .gov 0x11C 0 3 .ro (.c 0)

/-- Table 8.7: LAST_HARD [31:16] I_NOW. -/
def govLastHardINow : Fld := fld .gov 0x11C 16 16 .ro (.c 0)

/-- Table 8.7: JOB [15:0] JOB. -/
def govJobJob : Fld := fld .gov 0x120 0 16 .rw (.c 0)

/-- Table 8.7: RAIL_LIM0–7 [15:0] ILIM. -/
def govRailLimIlim (k : Nat) : Fld := (fld .gov 0x140 0 16 .rwl (.c 0)) |>.at 4 k

/-- Table 8.7: RAIL_LIM0–7 [31:16] SLIM. -/
def govRailLimSlim (k : Nat) : Fld := (fld .gov 0x140 16 16 .rwl (.c 0)) |>.at 4 k

/-- Table 8.7: RAIL_CFG0–7 [3:0] WIN_LOG2. -/
def govRailCfgWinLog2 (k : Nat) : Fld := (fld .gov 0x160 0 4 .rw (.c 6)) |>.at 4 k

/-- Table 8.7: RAIL_CFG0–7 [6:4] HARD_N. -/
def govRailCfgHardN (k : Nat) : Fld := (fld .gov 0x160 4 3 .rw (.c 2)) |>.at 4 k

/-- Table 8.7: RAIL_CFG0–7 [23:8] SOFT_HYST. -/
def govRailCfgSoftHyst (k : Nat) : Fld := (fld .gov 0x160 8 16 .rw (.c 0x1F4)) |>.at 4 k

/-- Table 8.7: TBIN_EDGE0–6 [11:0] EDGE. -/
def govTbinEdgeEdge (k : Nat) : Fld := (fld .gov 0x180 0 12 .rw (.tab [320, 440, 520, 600, 680, 760, 840])) |>.at 4 k

/-- The registers of Table 8.7. -/
def rowsGov : List Row :=
  [⟨0x100, [], false, [govCtrlLockstepEn, govCtrlSoftEn, govCtrlHardEn]⟩,
   ⟨0x104, [], false, [govStatJobIdx, govStatCurIdx, govStatReqIdx, govStatHard, govStatBreak, govStatPersist, govStatCause, govStatHsBusy, govStatAvsBusy, govStatSoftCap, govStatTbin, govStatBreakIdx]⟩,
   ⟨0x108, [], false, [govStageIdx, govStageValid, govStageVoltDone, govStageCurSet, govStageJobSet]⟩,
   ⟨0x10C, [], false, [govHardCfgHoldUs]⟩,
   ⟨0x110, [], false, [govBreakCfgPersistUs, govBreakCfgRaiseHoldMs]⟩,
   ⟨0x114, [], false, [govCapCapIdx, govCapFailsafeIdx]⟩,
   ⟨0x118, [], false, [govCountsHardSteps, govCountsBreaks]⟩,
   ⟨0x11C, [], false, [govLastHardRail, govLastHardINow]⟩,
   ⟨0x120, [], false, [govJobJob]⟩,
   ⟨0x140, [(4, 8)], false, [(govRailLimIlim 0), (govRailLimSlim 0)]⟩,
   ⟨0x160, [(4, 8)], false, [(govRailCfgWinLog2 0), (govRailCfgHardN 0), (govRailCfgSoftHyst 0)]⟩,
   ⟨0x180, [(4, 7)], false, [(govTbinEdgeEdge 0)]⟩]

/-- Table 8.8: HARD [4:0] FSEL. -/
def optabHardFsel : Fld := fld .optab 0x100 0 5 .rwl (.c 0x1F)

/-- Table 8.8: HARD [12:8] IDX. -/
def optabHardIdx : Fld := fld .optab 0x100 8 5 .rwl (.c 0x1F)

/-- Table 8.8: HARD [31:16] FREQ_MHZ. -/
def optabHardFreqMhz : Fld := fld .optab 0x100 16 16 .rwl (.c 0)

/-- Table 8.8: CTRL [7:0] SCALE_RAILS. -/
def optabCtrlScaleRails : Fld := fld .optab 0x104 0 8 .rwl (.c 0)

/-- Table 8.8: PHASE0–15 [4:0] PREF_IDX. -/
def optabPhasePrefIdx (k : Nat) : Fld := (fld .optab 0x140 0 5 .rw (.c 0)) |>.at 4 k

/-- Table 8.8: EXCL0–7 [31:0] MASK. -/
def optabExclMask (k : Nat) : Fld := (fld .optab 0x180 0 32 .rwl (.c 0)) |>.at 4 k

/-- Table 8.8: POINT [4:0] FSEL. -/
def optabEntryPointFsel (i : Nat) : Fld := (fld .optab 0x400 0 5 .rwl (.c 0)) |>.at 32 i

/-- Table 8.8: POINT [7] VALID. -/
def optabEntryPointValid (i : Nat) : Fld := (fld .optab 0x400 7 1 .rwl (.c 0)) |>.at 32 i

/-- Table 8.8: POINT [31:16] FREQ_MHZ. -/
def optabEntryPointFreqMhz (i : Nat) : Fld := (fld .optab 0x400 16 16 .rwl (.c 0)) |>.at 32 i

/-- Table 8.8: VOLT0–3 [15:0] MV_LO. -/
def optabEntryVoltMvLo (i : Nat) (k : Nat) : Fld := (fld .optab 0x404 0 16 .rwl (.c 0)) |>.at 32 i |>.at 4 k

/-- Table 8.8: VOLT0–3 [31:16] MV_HI. -/
def optabEntryVoltMvHi (i : Nat) (k : Nat) : Fld := (fld .optab 0x404 16 16 .rwl (.c 0)) |>.at 32 i |>.at 4 k

/-- The registers of Table 8.8. -/
def rowsOptab : List Row :=
  [⟨0x100, [], false, [optabHardFsel, optabHardIdx, optabHardFreqMhz]⟩,
   ⟨0x104, [], false, [optabCtrlScaleRails]⟩,
   ⟨0x140, [(4, 16)], false, [(optabPhasePrefIdx 0)]⟩,
   ⟨0x180, [(4, 8)], false, [(optabExclMask 0)]⟩,
   ⟨0x400, [(32, 32)], false, [(optabEntryPointFsel 0), (optabEntryPointValid 0), (optabEntryPointFreqMhz 0)]⟩,
   ⟨0x404, [(32, 32), (4, 4)], false, [(optabEntryVoltMvLo 0 0), (optabEntryVoltMvHi 0 0)]⟩]

/-- Table 8.9: CHAN_EN [7:0] EN. -/
def healthChanEnEn : Fld := fld .health 0x100 0 8 .rw (.c 0)

/-- Table 8.9: CHAN_EN [15:8] FAULTED. -/
def healthChanEnFaulted : Fld := fld .health 0x100 8 8 .ro (.c 0)

/-- Table 8.9: RAIL_FAULT [7:0] PG_FALL. -/
def healthRailFaultPgFall : Fld := fld .health 0x104 0 8 .w1c (.c 0)

/-- Table 8.9: RAIL_FAULT [15:8] VOLT. -/
def healthRailFaultVolt : Fld := fld .health 0x104 8 8 .w1c (.c 0)

/-- Table 8.9: THERM_PRESENT [63:0] SITES. -/
def healthThermPresentSites : Fld := fld .health 0x108 0 64 .rw (.c 0)

/-- Table 8.9: THERM_STALE [63:0] SITES. -/
def healthThermStaleSites : Fld := fld .health 0x110 0 64 .ro (.c 0)

/-- Table 8.9: THERM_MAX [11:0] CODE. -/
def healthThermMaxCode : Fld := fld .health 0x118 0 12 .ro (.c 0)

/-- Table 8.9: THERM_MAX [17:12] SITE. -/
def healthThermMaxSite : Fld := fld .health 0x118 12 6 .ro (.c 0)

/-- Table 8.9: THERM_MAX [18] NONE. -/
def healthThermMaxNone : Fld := fld .health 0x118 18 1 .ro (.c 1)

/-- Table 8.9: THERM_ERR [15:0] PARITY. -/
def healthThermErrParity : Fld := fld .health 0x11C 0 16 .rc (.c 0) .sat

/-- Table 8.9: SCALE [15:0] SCALE. -/
def healthRailScaleScale (r : Nat) : Fld := (fld .health 0x140 0 16 .rw (.c 0)) |>.at 16 r

/-- Table 8.9: NOW [15:0] I_NOW. -/
def healthRailNowINow (r : Nat) : Fld := (fld .health 0x144 0 16 .ro (.c 0)) |>.at 16 r

/-- Table 8.9: NOW [31:16] V_NOW. -/
def healthRailNowVNow (r : Nat) : Fld := (fld .health 0x144 16 16 .ro (.c 0)) |>.at 16 r

/-- Table 8.9: STATS [15:0] I_AVG. -/
def healthRailStatsIAvg (r : Nat) : Fld := (fld .health 0x148 0 16 .ro (.c 0)) |>.at 16 r

/-- Table 8.9: STATS [31:16] I_PEAK. -/
def healthRailStatsIPeak (r : Nat) : Fld := (fld .health 0x148 16 16 .rc (.c 0)) |>.at 16 r

/-- Table 8.9: WINDOW [15:0] UV. -/
def healthRailWindowUv (r : Nat) : Fld := (fld .health 0x14C 0 16 .rw (.c 0)) |>.at 16 r

/-- Table 8.9: WINDOW [31:16] OV. -/
def healthRailWindowOv (r : Nat) : Fld := (fld .health 0x14C 16 16 .rw (.c 0)) |>.at 16 r

/-- The registers of Table 8.9. -/
def rowsHealth : List Row :=
  [⟨0x100, [], false, [healthChanEnEn, healthChanEnFaulted]⟩,
   ⟨0x104, [], false, [healthRailFaultPgFall, healthRailFaultVolt]⟩,
   ⟨0x108, [], true, [healthThermPresentSites]⟩,
   ⟨0x110, [], true, [healthThermStaleSites]⟩,
   ⟨0x118, [], false, [healthThermMaxCode, healthThermMaxSite, healthThermMaxNone]⟩,
   ⟨0x11C, [], false, [healthThermErrParity]⟩,
   ⟨0x140, [(16, 8)], false, [(healthRailScaleScale 0)]⟩,
   ⟨0x144, [(16, 8)], false, [(healthRailNowINow 0), (healthRailNowVNow 0)]⟩,
   ⟨0x148, [(16, 8)], false, [(healthRailStatsIAvg 0), (healthRailStatsIPeak 0)]⟩,
   ⟨0x14C, [(16, 8)], false, [(healthRailWindowUv 0), (healthRailWindowOv 0)]⟩]

end Sys2Proof.Machine
end

