-- ==== Sys2Proof/Machine/RegsPkg.lean ====
section
/-! DEFINITION. Register fields, from the register tables of the spec: the link, package, stream, Codec, Merge and Lens pages. One definition per field,
named block, register, field; and each block's registers for word access. -/

namespace Sys2Proof.Machine

/-- Table 9.8: CTRL [0] TRAIN_EN. -/
def ltlCtrlTrainEn (b : Blk) : Fld := fld b 0x100 0 1 .rw (.c 1)

/-- Table 9.8: CTRL [1] FORCE_ONE_LANE. -/
def ltlCtrlForceOneLane (b : Blk) : Fld := fld b 0x100 1 1 .rw (.c 0)

/-- Table 9.8: CTRL [2] LANE_SEL. -/
def ltlCtrlLaneSel (b : Blk) : Fld := fld b 0x100 2 1 .rw (.c 0)

/-- Table 9.8: CTRL [3] RETRAIN. -/
def ltlCtrlRetrain (b : Blk) : Fld := fld b 0x100 3 1 .w1s (.c 0)

/-- Table 9.8: CTRL [6:4] LEVEL_CMD. -/
def ltlCtrlLevelCmd (b : Blk) : Fld := fld b 0x100 4 3 .rw (.c 0)

/-- Table 9.8: CTRL [7] KEYFRAME_REQ. -/
def ltlCtrlKeyframeReq (b : Blk) : Fld := fld b 0x100 7 1 .w1s (.c 0)

/-- Table 9.8: STAT [2:0] STATE. -/
def ltlStatState (b : Blk) : Fld := fld b 0x104 0 3 .ro (.c 0)

/-- Table 9.8: STAT [3] UP. -/
def ltlStatUp (b : Blk) : Fld := fld b 0x104 3 1 .ro (.c 0)

/-- Table 9.8: STAT [4] LANE_USED. -/
def ltlStatLaneUsed (b : Blk) : Fld := fld b 0x104 4 1 .ro (.c 0)

/-- Table 9.8: STAT [6:5] LANE_FAILED. -/
def ltlStatLaneFailed (b : Blk) : Fld := fld b 0x104 5 2 .ro (.c 0)

/-- Table 9.8: STAT [7] RETIRED. -/
def ltlStatRetired (b : Blk) : Fld := fld b 0x104 7 1 .ro (.c 0)

/-- Table 9.8: LAT [15:0] L. -/
def ltlLatL (b : Blk) : Fld := fld b 0x108 0 16 .ro (.c 0)

/-- Table 9.8: FEC_CORR [31:0] COUNT. -/
def ltlFecCorrCount (b : Blk) : Fld := fld b 0x10C 0 32 .rc (.c 0)

/-- Table 9.8: FEC_UNCORR [31:0] COUNT. -/
def ltlFecUncorrCount (b : Blk) : Fld := fld b 0x110 0 32 .rc (.c 0)

/-- Table 9.8: RX_ERR [15:0] CRC. -/
def ltlRxErrCrc (b : Blk) : Fld := fld b 0x114 0 16 .rc (.c 0) .sat

/-- Table 9.8: RX_ERR [31:16] RX_BAD. -/
def ltlRxErrRxBad (b : Blk) : Fld := fld b 0x114 16 16 .rc (.c 0)

/-- Table 9.8: COUNTS [7:0] DOWN. -/
def ltlCountsDown (b : Blk) : Fld := fld b 0x118 0 8 .rc (.c 0) .sat

/-- Table 9.8: COUNTS [15:8] WIDTH. -/
def ltlCountsWidth (b : Blk) : Fld := fld b 0x118 8 8 .rc (.c 0)

/-- Table 9.8: COUNTS [31:16] UNCORR_LIMIT. -/
def ltlCountsUncorrLimit (b : Blk) : Fld := fld b 0x118 16 16 .rw (.c 0x10)

/-- Table 9.8: SHED_CFG [7:0] UP_PCT. -/
def ltlShedCfgUpPct (b : Blk) : Fld := fld b 0x11C 0 8 .rw (.c 0x4B)

/-- Table 9.8: SHED_CFG [15:8] DOWN_PCT. -/
def ltlShedCfgDownPct (b : Blk) : Fld := fld b 0x11C 8 8 .rw (.c 0x19)

/-- Table 9.8: SHED_CFG [31:16] DOWN_HOLD_US. -/
def ltlShedCfgDownHoldUs (b : Blk) : Fld := fld b 0x11C 16 16 .rw (.c 0x3E8)

/-- Table 9.8: CLASS_DISCARD0–7 [31:0] COUNT. -/
def ltlClassDiscardCount (b : Blk) (k : Nat) : Fld := (fld b 0x120 0 32 .rc (.c 0)) |>.at 4 k

/-- Table 9.8: POOL0–7 [11:0] FLITS. -/
def ltlPoolFlits (b : Blk) (k : Nat) : Fld := (fld b 0x140 0 12 .rw (.tab [32, 32, 32, 32, 32, 256, 896, 736])) |>.at 4 k

/-- Table 9.8: PROXY [15:0] TIMEOUTS. -/
def ltlProxyTimeouts (b : Blk) : Fld := fld b 0x160 0 16 .rc (.c 0)

/-- Table 9.8: PROXY [31:16] LATE_RSP. -/
def ltlProxyLateRsp (b : Blk) : Fld := fld b 0x160 16 16 .rc (.c 0)

/-- Table 9.8: EVT_SEQ [31:0] SEQ. -/
def ltlEvtSeqSeq (b : Blk) : Fld := fld b 0x164 0 32 .ro (.c 0)

/-- Table 9.8: EVT_LOST [15:0] COUNT. -/
def ltlEvtLostCount (b : Blk) : Fld := fld b 0x168 0 16 .rc (.c 0)

/-- Table 9.8: EVT_LOST [31:16] DUPLICATE. -/
def ltlEvtLostDuplicate (b : Blk) : Fld := fld b 0x168 16 16 .rc (.c 0)

/-- Table 9.8: IKB_OFFSET [31:0] OFS. -/
def ltlIkbOffsetOfs (b : Blk) : Fld := fld b 0x16C 0 32 .ro (.c 0)

/-- Table 9.8: IRQ_VEC [7:0] VEC. -/
def ltlIrqVecVec (b : Blk) (n : Nat) : Fld := (fld b 0x170 0 8 .rw (.c 0)) |>.nthBits 8 n

/-- The registers of Table 9.8 on the IKB. -/
def rowsLtlOnIkb (b : Blk) : List Row :=
  [⟨0x100, [], false, [(ltlCtrlTrainEn b), (ltlCtrlForceOneLane b), (ltlCtrlLaneSel b), (ltlCtrlRetrain b)]⟩,
   ⟨0x104, [], false, [(ltlStatState b), (ltlStatUp b), (ltlStatLaneUsed b), (ltlStatLaneFailed b), (ltlStatRetired b)]⟩,
   ⟨0x108, [], false, [(ltlLatL b)]⟩,
   ⟨0x10C, [], false, [(ltlFecCorrCount b)]⟩,
   ⟨0x110, [], false, [(ltlFecUncorrCount b)]⟩,
   ⟨0x114, [], false, [(ltlRxErrCrc b), (ltlRxErrRxBad b)]⟩,
   ⟨0x118, [], false, [(ltlCountsDown b), (ltlCountsWidth b), (ltlCountsUncorrLimit b)]⟩,
   ⟨0x11C, [], false, [(ltlShedCfgUpPct b), (ltlShedCfgDownPct b), (ltlShedCfgDownHoldUs b)]⟩,
   ⟨0x120, [(4, 8)], false, [(ltlClassDiscardCount b 0)]⟩]

/-- The registers of Table 9.8 on the W-die. -/
def rowsLtlOnWdie (b : Blk) : List Row :=
  [⟨0x100, [], false, [(ltlCtrlTrainEn b), (ltlCtrlForceOneLane b), (ltlCtrlLaneSel b), (ltlCtrlRetrain b), (ltlCtrlLevelCmd b), (ltlCtrlKeyframeReq b)]⟩,
   ⟨0x104, [], false, [(ltlStatState b), (ltlStatUp b), (ltlStatLaneUsed b), (ltlStatLaneFailed b), (ltlStatRetired b)]⟩,
   ⟨0x108, [], false, [(ltlLatL b)]⟩,
   ⟨0x10C, [], false, [(ltlFecCorrCount b)]⟩,
   ⟨0x110, [], false, [(ltlFecUncorrCount b)]⟩,
   ⟨0x114, [], false, [(ltlRxErrCrc b), (ltlRxErrRxBad b)]⟩,
   ⟨0x118, [], false, [(ltlCountsDown b), (ltlCountsWidth b), (ltlCountsUncorrLimit b)]⟩,
   ⟨0x140, [(4, 8)], false, [(ltlPoolFlits b 0)]⟩,
   ⟨0x160, [], false, [(ltlProxyTimeouts b), (ltlProxyLateRsp b)]⟩,
   ⟨0x164, [], false, [(ltlEvtSeqSeq b)]⟩,
   ⟨0x168, [], false, [(ltlEvtLostCount b), (ltlEvtLostDuplicate b)]⟩,
   ⟨0x16C, [], false, [(ltlIkbOffsetOfs b)]⟩] ++
  [⟨0x170, [], false, [(ltlIrqVecVec b 0), (ltlIrqVecVec b 1), (ltlIrqVecVec b 2), (ltlIrqVecVec b 3)]⟩]

/-- Table 9.9: CTRL [0] COUNT_FAULTS. -/
def prismCtrlCountFaults : Fld := fld .prism 0x100 0 1 .rw (.c 0)

/-- Table 9.9: CTRL [1] HALT. -/
def prismCtrlHalt : Fld := fld .prism 0x100 1 1 .w1s (.c 0)

/-- Table 9.9: CTRL [31:16] CAMPAIGN. -/
def prismCtrlCampaign : Fld := fld .prism 0x100 16 16 .rw (.c 0)

/-- Table 9.9: STAT [0] AUTH. -/
def prismStatAuth : Fld := fld .prism 0x104 0 1 .ro (.c 0)

/-- Table 9.9: STAT [31:16] ARMED. -/
def prismStatArmed : Fld := fld .prism 0x104 16 16 .ro (.c 0)

/-- Table 9.9: SEED [63:0] SEED. -/
def prismSeedSeed : Fld := fld .prism 0x108 0 64 .rw (.c 0)

/-- Table 9.9: CFG [1:0] ACTION. -/
def prismRuleCfgAction (r : Nat) : Fld := (fld .prism 0x200 0 2 .rw (.c 0)) |>.at 32 r

/-- Table 9.9: CFG [3:2] SELECT. -/
def prismRuleCfgSelect (r : Nat) : Fld := (fld .prism 0x200 2 2 .rw (.c 0)) |>.at 32 r

/-- Table 9.9: CFG [4] WINDOW. -/
def prismRuleCfgWindow (r : Nat) : Fld := (fld .prism 0x200 4 1 .rw (.c 0)) |>.at 32 r

/-- Table 9.9: CFG [6:5] POINT. -/
def prismRuleCfgPoint (r : Nat) : Fld := (fld .prism 0x200 5 2 .rw (.c 0)) |>.at 32 r

/-- Table 9.9: CFG [11:8] HOLD_M. -/
def prismRuleCfgHoldM (r : Nat) : Fld := (fld .prism 0x200 8 4 .rw (.c 1)) |>.at 32 r

/-- Table 9.9: CFG [15:12] PORT. -/
def prismRuleCfgPort (r : Nat) : Fld := (fld .prism 0x200 12 4 .rw (.c 0)) |>.at 32 r

/-- Table 9.9: CFG [23:16] CLASS_MASK. -/
def prismRuleCfgClassMask (r : Nat) : Fld := (fld .prism 0x200 16 8 .rw (.c 0)) |>.at 32 r

/-- Table 9.9: CFG [29:24] N_LOG. -/
def prismRuleCfgNLog (r : Nat) : Fld := (fld .prism 0x200 24 6 .rw (.c 1)) |>.at 32 r

/-- Table 9.9: EVERY_N [31:0] N. -/
def prismRuleEveryNN (r : Nat) : Fld := (fld .prism 0x204 0 32 .rw (.c 1)) |>.at 32 r

/-- Table 9.9: PATTERN [63:0] PAT. -/
def prismRulePatternPat (r : Nat) : Fld := (fld .prism 0x208 0 64 .rw (.c 0)) |>.at 32 r

/-- Table 9.9: WHERE [15:0] OFFSET. -/
def prismRuleWhereOffset (r : Nat) : Fld := (fld .prism 0x210 0 16 .rw (.c 0)) |>.at 32 r

/-- Table 9.9: WHERE [20:16] SYMBOLS. -/
def prismRuleWhereSymbols (r : Nat) : Fld := (fld .prism 0x210 16 5 .rw (.c 1)) |>.at 32 r

/-- Table 9.9: ARM [0] ARM. -/
def prismRuleArmArm (r : Nat) : Fld := (fld .prism 0x214 0 1 .w1s (.c 0)) |>.at 32 r

/-- Table 9.9: ARM [1] DISARM. -/
def prismRuleArmDisarm (r : Nat) : Fld := (fld .prism 0x214 1 1 .w1s (.c 0)) |>.at 32 r

/-- Table 9.9: ARM [2] ARMED. -/
def prismRuleArmArmed (r : Nat) : Fld := (fld .prism 0x214 2 1 .ro (.c 0)) |>.at 32 r

/-- Table 9.9: ARM [3] WIN_OPEN. -/
def prismRuleArmWinOpen (r : Nat) : Fld := (fld .prism 0x214 3 1 .ro (.c 0)) |>.at 32 r

/-- Table 9.9: SELECTED [31:0] COUNT. -/
def prismRuleSelectedCount (r : Nat) : Fld := (fld .prism 0x218 0 32 .rc (.c 0)) |>.at 32 r

/-- Table 9.9: LOSSES [15:0] SHADOWED. -/
def prismRuleLossesShadowed (r : Nat) : Fld := (fld .prism 0x21C 0 16 .rc (.c 0)) |>.at 32 r

/-- Table 9.9: LOSSES [31:16] HELD_LOST. -/
def prismRuleLossesHeldLost (r : Nat) : Fld := (fld .prism 0x21C 16 16 .rc (.c 0)) |>.at 32 r

/-- The registers of Table 9.9 on the IKB. -/
def rowsPrismOnIkb : List Row :=
  [⟨0x100, [], false, [prismCtrlCountFaults, prismCtrlHalt, prismCtrlCampaign]⟩,
   ⟨0x104, [], false, [prismStatAuth, prismStatArmed]⟩,
   ⟨0x108, [], true, [prismSeedSeed]⟩,
   ⟨0x200, [(32, 4)], false, [(prismRuleCfgAction 0), (prismRuleCfgSelect 0), (prismRuleCfgWindow 0), (prismRuleCfgPoint 0), (prismRuleCfgHoldM 0), (prismRuleCfgClassMask 0), (prismRuleCfgNLog 0)]⟩,
   ⟨0x204, [(32, 4)], false, [(prismRuleEveryNN 0)]⟩,
   ⟨0x208, [(32, 4)], true, [(prismRulePatternPat 0)]⟩,
   ⟨0x210, [(32, 4)], false, [(prismRuleWhereOffset 0), (prismRuleWhereSymbols 0)]⟩,
   ⟨0x214, [(32, 4)], false, [(prismRuleArmArm 0), (prismRuleArmDisarm 0), (prismRuleArmArmed 0), (prismRuleArmWinOpen 0)]⟩,
   ⟨0x218, [(32, 4)], false, [(prismRuleSelectedCount 0)]⟩,
   ⟨0x21C, [(32, 4)], false, [(prismRuleLossesShadowed 0), (prismRuleLossesHeldLost 0)]⟩]

/-- The registers of Table 9.9 on the W-die. -/
def rowsPrismOnWdie : List Row :=
  [⟨0x100, [], false, [prismCtrlCountFaults, prismCtrlHalt, prismCtrlCampaign]⟩,
   ⟨0x104, [], false, [prismStatAuth, prismStatArmed]⟩,
   ⟨0x108, [], true, [prismSeedSeed]⟩,
   ⟨0x200, [(32, 16)], false, [(prismRuleCfgAction 0), (prismRuleCfgSelect 0), (prismRuleCfgWindow 0), (prismRuleCfgPoint 0), (prismRuleCfgHoldM 0), (prismRuleCfgPort 0), (prismRuleCfgClassMask 0), (prismRuleCfgNLog 0)]⟩,
   ⟨0x204, [(32, 16)], false, [(prismRuleEveryNN 0)]⟩,
   ⟨0x208, [(32, 16)], true, [(prismRulePatternPat 0)]⟩,
   ⟨0x210, [(32, 16)], false, [(prismRuleWhereOffset 0), (prismRuleWhereSymbols 0)]⟩,
   ⟨0x214, [(32, 16)], false, [(prismRuleArmArm 0), (prismRuleArmDisarm 0), (prismRuleArmArmed 0), (prismRuleArmWinOpen 0)]⟩,
   ⟨0x218, [(32, 16)], false, [(prismRuleSelectedCount 0)]⟩,
   ⟨0x21C, [(32, 16)], false, [(prismRuleLossesShadowed 0), (prismRuleLossesHeldLost 0)]⟩]

/-- Table 10.3: STAT [2:0] DIE_NUM. -/
def d2dStatDieNum : Fld := fld .d2d 0x100 0 3 .ro (.c 0)

/-- Table 10.3: STAT [3] PRIMARY. -/
def d2dStatPrimary : Fld := fld .d2d 0x100 3 1 .ro (.c 0)

/-- Table 10.3: STAT [6:4] LINK_UP. -/
def d2dStatLinkUp : Fld := fld .d2d 0x100 4 3 .ro (.c 0)

/-- Table 10.3: STAT [7] PATH_OK. -/
def d2dStatPathOk : Fld := fld .d2d 0x100 7 1 .ro (.c 0)

/-- Table 10.3: REPLAYS [31:0] COUNT. -/
def d2dReplaysCount : Fld := fld .d2d 0x104 0 32 .rc (.c 0)

/-- Table 10.3: LINK_DOWNS [7:0] L0. -/
def d2dLinkDownsL0 : Fld := fld .d2d 0x108 0 8 .rc (.c 0) .sat

/-- Table 10.3: LINK_DOWNS [15:8] L1. -/
def d2dLinkDownsL1 : Fld := fld .d2d 0x108 8 8 .rc (.c 0) .sat

/-- Table 10.3: LINK_DOWNS [23:16] L2. -/
def d2dLinkDownsL2 : Fld := fld .d2d 0x108 16 8 .rc (.c 0) .sat

/-- Table 10.3: DETOURS [15:0] NONMIN. -/
def d2dDetoursNonmin : Fld := fld .d2d 0x10C 0 16 .rc (.c 0)

/-- The registers of Table 10.3. -/
def rowsD2d : List Row :=
  [⟨0x100, [], false, [d2dStatDieNum, d2dStatPrimary, d2dStatLinkUp, d2dStatPathOk]⟩,
   ⟨0x104, [], false, [d2dReplaysCount]⟩,
   ⟨0x108, [], false, [d2dLinkDownsL0, d2dLinkDownsL1, d2dLinkDownsL2]⟩,
   ⟨0x10C, [], false, [d2dDetoursNonmin]⟩]

/-- Table 10.5: CAP [7:0] GIB. -/
def dramcCapGib : Fld := fld .dramc 0x100 0 8 .ro (.c 0x40)

/-- Table 10.5: CAP [15:8] CH_ACTIVE. -/
def dramcCapChActive : Fld := fld .dramc 0x100 8 8 .ro (.c 0xFF)

/-- Table 10.5: STAT [0] TRAINED. -/
def dramcStatTrained : Fld := fld .dramc 0x104 0 1 .ro (.c 0)

/-- Table 10.5: STAT [1] RESTORED. -/
def dramcStatRestored : Fld := fld .dramc 0x104 1 1 .ro (.c 0)

/-- Table 10.5: STAT [2] SELF_REFRESH. -/
def dramcStatSelfRefresh : Fld := fld .dramc 0x104 2 1 .ro (.c 0)

/-- Table 10.5: STAT [15:8] PEND_RETIRE. -/
def dramcStatPendRetire : Fld := fld .dramc 0x104 8 8 .ro (.c 0)

/-- Table 10.5: ECC_CORR [31:0] COUNT. -/
def dramcEccCorrCount : Fld := fld .dramc 0x108 0 32 .rc (.c 0)

/-- Table 10.5: ECC_UNCORR [15:0] LINES. -/
def dramcEccUncorrLines : Fld := fld .dramc 0x10C 0 16 .rc (.c 0)

/-- Table 10.5: ECC_UNCORR [31:16] POISON_READS. -/
def dramcEccUncorrPoisonReads : Fld := fld .dramc 0x10C 16 16 .rc (.c 0)

/-- Table 10.5: LINK_ECC [15:0] CORR. -/
def dramcLinkEccCorr : Fld := fld .dramc 0x110 0 16 .rc (.c 0)

/-- Table 10.5: LINK_ECC [31:16] UNCORR. -/
def dramcLinkEccUncorr : Fld := fld .dramc 0x110 16 16 .rc (.c 0)

/-- Table 10.5: LAST_UNCORR [63:0] ADDR. -/
def dramcLastUncorrAddr : Fld := fld .dramc 0x118 0 64 .ro (.c 0)

/-- Table 10.5: LAST_INFO [2:0] CHANNEL. -/
def dramcLastInfoChannel : Fld := fld .dramc 0x120 0 3 .ro (.c 0)

/-- Table 10.5: LAST_INFO [5:3] CLASS. -/
def dramcLastInfoClass : Fld := fld .dramc 0x120 3 3 .ro (.c 0)

/-- Table 10.5: BW_CAP0–5 [15:0] CAP. -/
def dramcBwCapCap (k : Nat) : Fld := (fld .dramc 0x140 0 16 .rw (.tab [400, 300, 200, 41, 200, 100])) |>.at 4 k

/-- Table 10.5: BW_CAP0–5 [16] HARD. -/
def dramcBwCapHard (k : Nat) : Fld := (fld .dramc 0x140 16 1 .rw (.tab [0, 0, 0, 1, 0, 0])) |>.at 4 k

/-- Table 10.5: BW_OVER [5:0] CLASS. -/
def dramcBwOverClass : Fld := fld .dramc 0x160 0 6 .w1c (.c 0)

/-- Table 10.5: BW_USED0–5 [15:0] USED. -/
def dramcBwUsedUsed (k : Nat) : Fld := (fld .dramc 0x164 0 16 .ro (.c 0)) |>.at 4 k

/-- The registers of Table 10.5. -/
def rowsDramc : List Row :=
  [⟨0x100, [], false, [dramcCapGib, dramcCapChActive]⟩,
   ⟨0x104, [], false, [dramcStatTrained, dramcStatRestored, dramcStatSelfRefresh, dramcStatPendRetire]⟩,
   ⟨0x108, [], false, [dramcEccCorrCount]⟩,
   ⟨0x10C, [], false, [dramcEccUncorrLines, dramcEccUncorrPoisonReads]⟩,
   ⟨0x110, [], false, [dramcLinkEccCorr, dramcLinkEccUncorr]⟩,
   ⟨0x118, [], true, [dramcLastUncorrAddr]⟩,
   ⟨0x120, [], false, [dramcLastInfoChannel, dramcLastInfoClass]⟩,
   ⟨0x140, [(4, 6)], false, [(dramcBwCapCap 0), (dramcBwCapHard 0)]⟩,
   ⟨0x160, [], false, [dramcBwOverClass]⟩,
   ⟨0x164, [(4, 6)], false, [(dramcBwUsedUsed 0)]⟩]

/-- Table 10.6: ELS [0] PRESENT. -/
def optElsPresent : Fld := fld .opt 0x100 0 1 .ro (.c 0)

/-- Table 10.6: ELS [1] READY. -/
def optElsReady : Fld := fld .opt 0x100 1 1 .ro (.c 0)

/-- Table 10.6: ELS [3:2] OUT_OK. -/
def optElsOutOk : Fld := fld .opt 0x100 2 2 .ro (.c 0)

/-- Table 10.6: ELS [4] SWAP_PREP. -/
def optElsSwapPrep : Fld := fld .opt 0x100 4 1 .rw (.c 0)

/-- Table 10.6: SWEEP [7:0] START. -/
def optSweepStart : Fld := fld .opt 0x104 0 8 .w1s (.c 0)

/-- Table 10.6: SWEEP [15:8] BUSY. -/
def optSweepBusy : Fld := fld .opt 0x104 8 8 .ro (.c 0)

/-- Table 10.6: SWEEP [23:16] LOCKED. -/
def optSweepLocked : Fld := fld .opt 0x104 16 8 .ro (.c 0)

/-- Table 10.6: TRACK [15:0] STEP_US. -/
def optTrackStepUs : Fld := fld .opt 0x108 0 16 .rw (.c 0xA)

/-- Table 10.6: TRACK [27:16] CAPTURE. -/
def optTrackCapture : Fld := fld .opt 0x108 16 12 .rw (.c 0x40)

/-- Table 10.6: LOCK_LOSS [15:0] COUNT. -/
def optLockLossCount : Fld := fld .opt 0x10C 0 16 .rc (.c 0)

/-- Table 10.6: LANE0–7 [11:0] HEATER. -/
def optLaneHeater (k : Nat) : Fld := (fld .opt 0x140 0 12 .ro (.c 0)) |>.at 4 k

/-- Table 10.6: LANE0–7 [12] STORED_VALID. -/
def optLaneStoredValid (k : Nat) : Fld := (fld .opt 0x140 12 1 .ro (.c 0)) |>.at 4 k

/-- Table 10.6: LANE0–7 [27:16] STORED. -/
def optLaneStored (k : Nat) : Fld := (fld .opt 0x140 16 12 .rw (.c 0)) |>.at 4 k

/-- The registers of Table 10.6. -/
def rowsOpt : List Row :=
  [⟨0x100, [], false, [optElsPresent, optElsReady, optElsOutOk, optElsSwapPrep]⟩,
   ⟨0x104, [], false, [optSweepStart, optSweepBusy, optSweepLocked]⟩,
   ⟨0x108, [], false, [optTrackStepUs, optTrackCapture]⟩,
   ⟨0x10C, [], false, [optLockLossCount]⟩,
   ⟨0x140, [(4, 8)], false, [(optLaneHeater 0), (optLaneStoredValid 0), (optLaneStored 0)]⟩]

/-- Table 10.8: ROLE [1:0] ROLE. -/
def portsRoleRole (p : Nat) : Fld := (fld .ports 0x200 0 2 .ro (.role)) |>.at 64 p

/-- Table 10.8: ROLE [3:2] DIM. -/
def portsRoleDim (p : Nat) : Fld := (fld .ports 0x200 2 2 .ro (.roleDim)) |>.at 64 p

/-- Table 10.8: ROLE [4] SIGN. -/
def portsRoleSign (p : Nat) : Fld := (fld .ports 0x200 4 1 .ro (.roleSign)) |>.at 64 p

/-- Table 10.8: ROLE [9:8] NEXT. -/
def portsRoleNext (p : Nat) : Fld := (fld .ports 0x200 8 2 .rw (.role)) |>.at 64 p

/-- Table 10.8: ROLE [11:10] NEXT_DIM. -/
def portsRoleNextDim (p : Nat) : Fld := (fld .ports 0x200 10 2 .rw (.roleDim)) |>.at 64 p

/-- Table 10.8: ROLE [12] NEXT_SIGN. -/
def portsRoleNextSign (p : Nat) : Fld := (fld .ports 0x200 12 1 .rw (.roleSign)) |>.at 64 p

/-- Table 10.8: STAT [0] UP. -/
def portsStatUp (p : Nat) : Fld := (fld .ports 0x204 0 1 .ro (.c 0)) |>.at 64 p

/-- Table 10.8: STAT [2:1] LANES. -/
def portsStatLanes (p : Nat) : Fld := (fld .ports 0x204 1 2 .ro (.c 0)) |>.at 64 p

/-- Table 10.8: STAT [3] DEGRADED. -/
def portsStatDegraded (p : Nat) : Fld := (fld .ports 0x204 3 1 .ro (.c 0)) |>.at 64 p

/-- Table 10.8: STAT [4] USABLE. -/
def portsStatUsable (p : Nat) : Fld := (fld .ports 0x204 4 1 .ro (.c 0)) |>.at 64 p

/-- Table 10.8: STAT [5] PEER_MISMATCH. -/
def portsStatPeerMismatch (p : Nat) : Fld := (fld .ports 0x204 5 1 .ro (.c 0)) |>.at 64 p

/-- Table 10.8: STAT [6] RETIRED. -/
def portsStatRetired (p : Nat) : Fld := (fld .ports 0x204 6 1 .ro (.c 0)) |>.at 64 p

/-- Table 10.8: PEER [10:0] TRAY. -/
def portsPeerTray (p : Nat) : Fld := (fld .ports 0x208 0 11 .ro (.c 0)) |>.at 64 p

/-- Table 10.8: PEER [28:11] COORD. -/
def portsPeerCoord (p : Nat) : Fld := (fld .ports 0x208 11 18 .ro (.c 0)) |>.at 64 p

/-- Table 10.8: PEER [30:29] SIZE. -/
def portsPeerSize (p : Nat) : Fld := (fld .ports 0x208 29 2 .ro (.c 0)) |>.at 64 p

/-- Table 10.8: BYP_EXPECT [10:0] TRAY. -/
def portsBypExpectTray (p : Nat) : Fld := (fld .ports 0x20C 0 11 .rw (.c 0)) |>.at 64 p

/-- Table 10.8: BYP_EXPECT [11] VALID. -/
def portsBypExpectValid (p : Nat) : Fld := (fld .ports 0x20C 11 1 .rw (.c 0)) |>.at 64 p

/-- Table 10.8: ASYM [15:0] PS. -/
def portsAsymPs (p : Nat) : Fld := (fld .ports 0x210 0 16 .rw (.c 0)) |>.at 64 p

/-- Table 10.8: MAC [47:0] ADDR. -/
def portsMacAddr (p : Nat) : Fld := (fld .ports 0x214 0 48 .ro (.fixed 4)) |>.at 64 p

/-- Table 10.8: NEXT_MAC [47:0] ADDR. -/
def portsNextMacAddr (p : Nat) : Fld := (fld .ports 0x21C 0 48 .rw (.c 0)) |>.at 64 p

/-- Table 10.8: ROLE_DISCARD [31:0] COUNT. -/
def portsRoleDiscardCount (p : Nat) : Fld := (fld .ports 0x224 0 32 .rc (.c 0)) |>.at 64 p

/-- Table 10.8: FCS_ERR [31:0] COUNT. -/
def portsFcsErrCount (p : Nat) : Fld := (fld .ports 0x228 0 32 .rc (.c 0)) |>.at 64 p

/-- The registers of Table 10.8. -/
def rowsPorts : List Row :=
  [⟨0x200, [(64, 2)], false, [(portsRoleRole 0), (portsRoleDim 0), (portsRoleSign 0), (portsRoleNext 0), (portsRoleNextDim 0), (portsRoleNextSign 0)]⟩,
   ⟨0x204, [(64, 2)], false, [(portsStatUp 0), (portsStatLanes 0), (portsStatDegraded 0), (portsStatUsable 0), (portsStatPeerMismatch 0), (portsStatRetired 0)]⟩,
   ⟨0x208, [(64, 2)], false, [(portsPeerTray 0), (portsPeerCoord 0), (portsPeerSize 0)]⟩,
   ⟨0x20C, [(64, 2)], false, [(portsBypExpectTray 0), (portsBypExpectValid 0)]⟩,
   ⟨0x210, [(64, 2)], false, [(portsAsymPs 0)]⟩,
   ⟨0x214, [(64, 2)], true, [(portsMacAddr 0)]⟩,
   ⟨0x21C, [(64, 2)], true, [(portsNextMacAddr 0)]⟩,
   ⟨0x224, [(64, 2)], false, [(portsRoleDiscardCount 0)]⟩,
   ⟨0x228, [(64, 2)], false, [(portsFcsErrCount 0)]⟩]

/-- Table 10.11: DIMS [5:0] N0. -/
def torusDimsN0 : Fld := fld .torus 0x100 0 6 .rwl (.c 1)

/-- Table 10.11: DIMS [11:6] N1. -/
def torusDimsN1 : Fld := fld .torus 0x100 6 6 .rwl (.c 1)

/-- Table 10.11: DIMS [17:12] N2. -/
def torusDimsN2 : Fld := fld .torus 0x100 12 6 .rwl (.c 1)

/-- Table 10.11: COORD [17:0] XYZ. -/
def torusCoordXyz : Fld := fld .torus 0x104 0 18 .rwl (.c 0)

/-- Table 10.11: COORD [28:18] TRAY. -/
def torusCoordTray : Fld := fld .torus 0x104 18 11 .rwl (.c 0)

/-- Table 10.11: CTRL [7:0] MAX_HOPS. -/
def torusCtrlMaxHops : Fld := fld .torus 0x108 0 8 .rw (.c 0x40)

/-- Table 10.11: ETYPE [15:0] TYPE. -/
def torusEtypeType : Fld := fld .torus 0x10C 0 16 .rwl (.c 0x88B5)

/-- Table 10.11: USABLE [5:0] DIR. -/
def torusUsableDir : Fld := fld .torus 0x110 0 6 .ro (.c 0)

/-- Table 10.11: USABLE [7:6] BYPASS. -/
def torusUsableBypass : Fld := fld .torus 0x110 6 2 .ro (.c 0)

/-- Table 10.11: FORWARDED [31:0] COUNT. -/
def torusForwardedCount : Fld := fld .torus 0x114 0 32 .rc (.c 0)

/-- Table 10.11: DETOURS [15:0] SIDESTEP. -/
def torusDetoursSidestep : Fld := fld .torus 0x118 0 16 .rc (.c 0)

/-- Table 10.11: DETOURS [31:16] REVERSE. -/
def torusDetoursReverse : Fld := fld .torus 0x118 16 16 .rc (.c 0)

/-- Table 10.11: DROPS [15:0] UNROUTABLE. -/
def torusDropsUnroutable : Fld := fld .torus 0x11C 0 16 .rc (.c 0)

/-- Table 10.11: DROPS [31:16] HOPS. -/
def torusDropsHops : Fld := fld .torus 0x11C 16 16 .rc (.c 0)

/-- Table 10.11: MISWIRE [15:0] COUNT. -/
def torusMiswireCount : Fld := fld .torus 0x120 0 16 .rc (.c 0)

/-- The registers of Table 10.11. -/
def rowsTorus : List Row :=
  [⟨0x100, [], false, [torusDimsN0, torusDimsN1, torusDimsN2]⟩,
   ⟨0x104, [], false, [torusCoordXyz, torusCoordTray]⟩,
   ⟨0x108, [], false, [torusCtrlMaxHops]⟩,
   ⟨0x10C, [], false, [torusEtypeType]⟩,
   ⟨0x110, [], false, [torusUsableDir, torusUsableBypass]⟩,
   ⟨0x114, [], false, [torusForwardedCount]⟩,
   ⟨0x118, [], false, [torusDetoursSidestep, torusDetoursReverse]⟩,
   ⟨0x11C, [], false, [torusDropsUnroutable, torusDropsHops]⟩,
   ⟨0x120, [], false, [torusMiswireCount]⟩]

/-- Table 10.13: CTRL [0] ENABLE. -/
def mirrorCtrlEnable : Fld := fld .mirror 0x100 0 1 .rw (.c 0)

/-- Table 10.13: CTRL [31:16] ORDER_US. -/
def mirrorCtrlOrderUs : Fld := fld .mirror 0x100 16 16 .rw (.c 0xC8)

/-- Table 10.13: ETYPE [15:0] TYPE. -/
def mirrorEtypeType : Fld := fld .mirror 0x104 0 16 .rw (.c 0x88B6)

/-- Table 10.13: ACCEPTED [31:0] COUNT. -/
def mirrorAcceptedCount : Fld := fld .mirror 0x108 0 32 .rc (.c 0)

/-- Table 10.13: REJECTED [15:0] UNKNOWN_SWITCH. -/
def mirrorRejectedUnknownSwitch : Fld := fld .mirror 0x10C 0 16 .rc (.c 0)

/-- Table 10.13: REJECTED [31:16] MALFORMED. -/
def mirrorRejectedMalformed : Fld := fld .mirror 0x10C 16 16 .rc (.c 0)

/-- Table 10.13: ORDER [15:0] LATE. -/
def mirrorOrderLate : Fld := fld .mirror 0x110 0 16 .rc (.c 0)

/-- Table 10.13: ORDER [31:16] EARLY. -/
def mirrorOrderEarly : Fld := fld .mirror 0x110 16 16 .rc (.c 0)

/-- Table 10.13: HELD [13:0] SAMPLES. -/
def mirrorHeldSamples : Fld := fld .mirror 0x114 0 14 .ro (.c 0)

/-- Table 10.13: SWITCH0–31 [15:0] SWITCH_ID. -/
def mirrorSwitchSwitchId (k : Nat) : Fld := (fld .mirror 0x200 0 16 .rw (.c 0)) |>.at 4 k

/-- Table 10.13: SWITCH0–31 [16] VALID. -/
def mirrorSwitchValid (k : Nat) : Fld := (fld .mirror 0x200 16 1 .rw (.c 0)) |>.at 4 k

/-- The registers of Table 10.13. -/
def rowsMirror : List Row :=
  [⟨0x100, [], false, [mirrorCtrlEnable, mirrorCtrlOrderUs]⟩,
   ⟨0x104, [], false, [mirrorEtypeType]⟩,
   ⟨0x108, [], false, [mirrorAcceptedCount]⟩,
   ⟨0x10C, [], false, [mirrorRejectedUnknownSwitch, mirrorRejectedMalformed]⟩,
   ⟨0x110, [], false, [mirrorOrderLate, mirrorOrderEarly]⟩,
   ⟨0x114, [], false, [mirrorHeldSamples]⟩,
   ⟨0x200, [(4, 32)], false, [(mirrorSwitchSwitchId 0), (mirrorSwitchValid 0)]⟩]

/-- Table 10.15: LINK [2:0] SPEED. -/
def pcieLinkSpeed : Fld := fld .pcie 0x100 0 3 .ro (.c 0)

/-- Table 10.15: LINK [6:3] WIDTH. -/
def pcieLinkWidth : Fld := fld .pcie 0x100 3 4 .ro (.c 0)

/-- Table 10.15: LINK [7] UP. -/
def pcieLinkUp : Fld := fld .pcie 0x100 7 1 .ro (.c 0)

/-- Table 10.15: BAR2_BASE [8:0] GIB. -/
def pcieBar2BaseGib : Fld := fld .pcie 0x104 0 9 .rw (.c 0)

/-- Table 10.15: ERRS [15:0] POSTED. -/
def pcieErrsPosted : Fld := fld .pcie 0x108 0 16 .rc (.c 0)

/-- Table 10.15: ERRS [31:16] ABORTS. -/
def pcieErrsAborts : Fld := fld .pcie 0x108 16 16 .rc (.c 0)

/-- Table 10.15: POISON [15:0] SENT. -/
def pciePoisonSent : Fld := fld .pcie 0x10C 0 16 .rc (.c 0)

/-- Table 10.15: POISON [31:16] RECEIVED. -/
def pciePoisonReceived : Fld := fld .pcie 0x10C 16 16 .rc (.c 0)

/-- Table 10.15: CTO [3:0] RANGE. -/
def pcieCtoRange : Fld := fld .pcie 0x110 0 4 .ro (.c 0)

/-- Table 10.15: CTO [4] TOO_SHORT. -/
def pcieCtoTooShort : Fld := fld .pcie 0x110 4 1 .ro (.c 0)

/-- The registers of Table 10.15. -/
def rowsPcie : List Row :=
  [⟨0x100, [], false, [pcieLinkSpeed, pcieLinkWidth, pcieLinkUp]⟩,
   ⟨0x104, [], false, [pcieBar2BaseGib]⟩,
   ⟨0x108, [], false, [pcieErrsPosted, pcieErrsAborts]⟩,
   ⟨0x10C, [], false, [pciePoisonSent, pciePoisonReceived]⟩,
   ⟨0x110, [], false, [pcieCtoRange, pcieCtoTooShort]⟩]

/-- Table 11.7: CMD [2:0] OP. -/
def ctxCmdOp : Fld := fld .ctx 0x100 0 3 .rw (.c 0)

/-- Table 11.7: CMD [3] GO. -/
def ctxCmdGo : Fld := fld .ctx 0x100 3 1 .w1s (.c 0)

/-- Table 11.7: CMD [4] BUSY. -/
def ctxCmdBusy : Fld := fld .ctx 0x100 4 1 .ro (.c 0)

/-- Table 11.7: CMD [7:5] RESULT. -/
def ctxCmdResult : Fld := fld .ctx 0x100 5 3 .ro (.c 0)

/-- Table 11.7: CMD [16:8] SLOT. -/
def ctxCmdSlot : Fld := fld .ctx 0x100 8 9 .rw (.c 0)

/-- Table 11.7: CMD [19:17] DIE. -/
def ctxCmdDie : Fld := fld .ctx 0x100 17 3 .rw (.c 0)

/-- Table 11.7: KEY0 [16:0] DIE_INDEX. -/
def ctxKey0DieIndex : Fld := fld .ctx 0x104 0 17 .rw (.c 0)

/-- Table 11.7: KEY0 [31:24] KIND. -/
def ctxKey0Kind : Fld := fld .ctx 0x104 24 8 .rw (.c 0)

/-- Table 11.7: KEY1 [15:0] JOB. -/
def ctxKey1Job : Fld := fld .ctx 0x108 0 16 .rw (.c 0)

/-- Table 11.7: E_STATE [2:0] STATE. -/
def ctxEStateState : Fld := fld .ctx 0x110 0 3 .ro (.c 0)

/-- Table 11.7: E_STATE [3] PINNED. -/
def ctxEStatePinned : Fld := fld .ctx 0x110 3 1 .ro (.c 0)

/-- Table 11.7: E_STATE [4] SPILLED. -/
def ctxEStateSpilled : Fld := fld .ctx 0x110 4 1 .ro (.c 0)

/-- Table 11.7: E_STATE [7:5] OWNER. -/
def ctxEStateOwner : Fld := fld .ctx 0x110 5 3 .ro (.c 0)

/-- Table 11.7: E_POLICE [0] AWARE. -/
def ctxEPoliceAware : Fld := fld .ctx 0x114 0 1 .rw (.c 0)

/-- Table 11.7: E_POLICE [1] RED_MARK. -/
def ctxEPoliceRedMark : Fld := fld .ctx 0x114 1 1 .rw (.c 0)

/-- Table 11.7: E_POLICE [2] MEASURE. -/
def ctxEPoliceMeasure : Fld := fld .ctx 0x114 2 1 .ro (.c 0)

/-- Table 11.7: E_POLICE [5:3] QUEUE. -/
def ctxEPoliceQueue : Fld := fld .ctx 0x114 3 3 .rw (.c 4)

/-- Table 11.7: E_CIR [23:0] CIR. -/
def ctxECirCir : Fld := fld .ctx 0x118 0 24 .rw (.c 0)

/-- Table 11.7: E_PIR [23:0] PIR. -/
def ctxEPirPir : Fld := fld .ctx 0x11C 0 24 .rw (.c 0)

/-- Table 11.7: E_BURST [15:0] CBS. -/
def ctxEBurstCbs : Fld := fld .ctx 0x120 0 16 .rw (.c 0)

/-- Table 11.7: E_BURST [31:16] PBS. -/
def ctxEBurstPbs : Fld := fld .ctx 0x120 16 16 .rw (.c 0)

/-- Table 11.7: E_FRAMES [31:0] COUNT. -/
def ctxEFramesCount : Fld := fld .ctx 0x124 0 32 .ro (.c 0) .wrap

/-- Table 11.7: E_YELLOW [31:0] COUNT. -/
def ctxEYellowCount : Fld := fld .ctx 0x128 0 32 .ro (.c 0) .wrap

/-- Table 11.7: E_RED [31:0] COUNT. -/
def ctxERedCount : Fld := fld .ctx 0x12C 0 32 .ro (.c 0) .wrap

/-- Table 11.7: E_DROPPED [31:0] COUNT. -/
def ctxEDroppedCount : Fld := fld .ctx 0x130 0 32 .ro (.c 0) .wrap

/-- Table 11.7: E_KBYTES [31:0] COUNT. -/
def ctxEKbytesCount : Fld := fld .ctx 0x134 0 32 .ro (.c 0) .wrap

/-- Table 11.7: SUMMARY [9:0] OPEN. -/
def ctxSummaryOpen : Fld := fld .ctx 0x140 0 10 .ro (.c 0)

/-- Table 11.7: KILLS [15:0] KILLED. -/
def ctxKillsKilled : Fld := fld .ctx 0x144 0 16 .rc (.c 0) .sat

/-- Table 11.7: KILLS [31:16] REOPENED. -/
def ctxKillsReopened : Fld := fld .ctx 0x144 16 16 .rc (.c 0) .sat

/-- Table 11.7: MISC [15:0] NO_CTX. -/
def ctxMiscNoCtx : Fld := fld .ctx 0x148 0 16 .rc (.c 0) .sat

/-- Table 11.7: MISC [31:16] SPILLED. -/
def ctxMiscSpilled : Fld := fld .ctx 0x148 16 16 .rc (.c 0) .sat

/-- The registers of Table 11.7. -/
def rowsCtx : List Row :=
  [⟨0x100, [], false, [ctxCmdOp, ctxCmdGo, ctxCmdBusy, ctxCmdResult, ctxCmdSlot, ctxCmdDie]⟩,
   ⟨0x104, [], false, [ctxKey0DieIndex, ctxKey0Kind]⟩,
   ⟨0x108, [], false, [ctxKey1Job]⟩,
   ⟨0x110, [], false, [ctxEStateState, ctxEStatePinned, ctxEStateSpilled, ctxEStateOwner]⟩,
   ⟨0x114, [], false, [ctxEPoliceAware, ctxEPoliceRedMark, ctxEPoliceMeasure, ctxEPoliceQueue]⟩,
   ⟨0x118, [], false, [ctxECirCir]⟩,
   ⟨0x11C, [], false, [ctxEPirPir]⟩,
   ⟨0x120, [], false, [ctxEBurstCbs, ctxEBurstPbs]⟩,
   ⟨0x124, [], false, [ctxEFramesCount]⟩,
   ⟨0x128, [], false, [ctxEYellowCount]⟩,
   ⟨0x12C, [], false, [ctxERedCount]⟩,
   ⟨0x130, [], false, [ctxEDroppedCount]⟩] ++
  [⟨0x134, [], false, [ctxEKbytesCount]⟩,
   ⟨0x140, [], false, [ctxSummaryOpen]⟩,
   ⟨0x144, [], false, [ctxKillsKilled, ctxKillsReopened]⟩,
   ⟨0x148, [], false, [ctxMiscNoCtx, ctxMiscSpilled]⟩]

/-- Table 11.8: LEVEL [0] AUTO. -/
def policeLevelAuto : Fld := fld .police 0x100 0 1 .rw (.c 1)

/-- Table 11.8: LEVEL [15:8] UP_PCT. -/
def policeLevelUpPct : Fld := fld .police 0x100 8 8 .rw (.c 0x4B)

/-- Table 11.8: LEVEL [23:16] DOWN_PCT. -/
def policeLevelDownPct : Fld := fld .police 0x100 16 8 .rw (.c 0x19)

/-- Table 11.8: LEVEL [31:24] YELLOW_PCT. -/
def policeLevelYellowPct : Fld := fld .police 0x100 24 8 .rw (.c 0x32)

/-- Table 11.8: LEVEL_TIME [15:0] UP_US. -/
def policeLevelTimeUpUs : Fld := fld .police 0x104 0 16 .rw (.c 0x64)

/-- Table 11.8: LEVEL_TIME [31:16] DOWN_MS. -/
def policeLevelTimeDownMs : Fld := fld .police 0x104 16 16 .rw (.c 0xA)

/-- Table 11.8: BUFFER [13:0] USED_KIB. -/
def policeBufferUsedKib : Fld := fld .police 0x108 0 14 .ro (.c 0)

/-- Table 11.8: BUFFER [29:16] PEAK_KIB. -/
def policeBufferPeakKib : Fld := fld .police 0x108 16 14 .rc (.c 0)

/-- Table 11.8: DROPS [15:0] MARKED. -/
def policeDropsMarked : Fld := fld .police 0x10C 0 16 .rc (.c 0) .sat

/-- Table 11.8: DROPS [31:16] FULL. -/
def policeDropsFull : Fld := fld .police 0x10C 16 16 .rc (.c 0) .sat

/-- Table 11.8: MISC [15:0] KEYREQ. -/
def policeMiscKeyreq : Fld := fld .police 0x110 0 16 .rc (.c 0)

/-- Table 11.8: MISC [31:16] EXCEED. -/
def policeMiscExceed : Fld := fld .police 0x110 16 16 .rc (.c 0)

/-- Table 11.8: CFG [0] AWARE. -/
def policeTemplateCfgAware (k : Nat) : Fld := (fld .police 0x200 0 1 .rw (.c 0)) |>.at 16 k

/-- Table 11.8: CFG [1] RED_MARK. -/
def policeTemplateCfgRedMark (k : Nat) : Fld := (fld .police 0x200 1 1 .rw (.c 0)) |>.at 16 k

/-- Table 11.8: CFG [4:2] QUEUE. -/
def policeTemplateCfgQueue (k : Nat) : Fld := (fld .police 0x200 2 3 .rw (.tab [4, 4, 4, 4, 4, 4, 4, 7])) |>.at 16 k

/-- Table 11.8: CIR [23:0] CIR. -/
def policeTemplateCirCir (k : Nat) : Fld := (fld .police 0x204 0 24 .rw (.tab [50, 1, 100, 100, 40, 2000, 1000, 10])) |>.at 16 k

/-- Table 11.8: PIR [23:0] PIR. -/
def policeTemplatePirPir (k : Nat) : Fld := (fld .police 0x208 0 24 .rw (.tab [200, 4, 400, 1000, 400, 12500, 10000, 100])) |>.at 16 k

/-- Table 11.8: BURST [15:0] CBS. -/
def policeTemplateBurstCbs (k : Nat) : Fld := (fld .police 0x20C 0 16 .rw (.tab [1024, 64, 1024, 1024, 1024, 16384, 16384, 1024])) |>.at 16 k

/-- Table 11.8: BURST [31:16] PBS. -/
def policeTemplateBurstPbs (k : Nat) : Fld := (fld .police 0x20C 16 16 .rw (.tab [4096, 256, 4096, 16384, 4096, 65535, 65535, 4096])) |>.at 16 k

/-- Table 11.8: CIR [23:0] CIR. -/
def policePortCirCir (p : Nat) : Fld := (fld .police 0x300 0 24 .rw (.tab [6250, 6250, 6250, 6250, 6250, 6250, 6250, 6250, 10000, 10000])) |>.at 16 p

/-- Table 11.8: PIR [23:0] PIR. -/
def policePortPirPir (p : Nat) : Fld := (fld .police 0x304 0 24 .rw (.tab [12500, 12500, 12500, 12500, 12500, 12500, 12500, 12500, 100000, 100000])) |>.at 16 p

/-- Table 11.8: BURST [15:0] CBS. -/
def policePortBurstCbs (p : Nat) : Fld := (fld .police 0x308 0 16 .rw (.c 0x4000)) |>.at 16 p

/-- Table 11.8: BURST [31:16] PBS. -/
def policePortBurstPbs (p : Nat) : Fld := (fld .police 0x308 16 16 .rw (.c 0xFFFF)) |>.at 16 p

/-- Table 11.8: COLOURS [15:0] YELLOW. -/
def policePortColoursYellow (p : Nat) : Fld := (fld .police 0x30C 0 16 .rc (.c 0) .sat) |>.at 16 p

/-- Table 11.8: COLOURS [31:16] RED. -/
def policePortColoursRed (p : Nat) : Fld := (fld .police 0x30C 16 16 .rc (.c 0) .sat) |>.at 16 p

/-- The registers of Table 11.8. -/
def rowsPolice : List Row :=
  [⟨0x100, [], false, [policeLevelAuto, policeLevelUpPct, policeLevelDownPct, policeLevelYellowPct]⟩,
   ⟨0x104, [], false, [policeLevelTimeUpUs, policeLevelTimeDownMs]⟩,
   ⟨0x108, [], false, [policeBufferUsedKib, policeBufferPeakKib]⟩,
   ⟨0x10C, [], false, [policeDropsMarked, policeDropsFull]⟩,
   ⟨0x110, [], false, [policeMiscKeyreq, policeMiscExceed]⟩,
   ⟨0x200, [(16, 8)], false, [(policeTemplateCfgAware 0), (policeTemplateCfgRedMark 0), (policeTemplateCfgQueue 0)]⟩,
   ⟨0x204, [(16, 8)], false, [(policeTemplateCirCir 0)]⟩,
   ⟨0x208, [(16, 8)], false, [(policeTemplatePirPir 0)]⟩,
   ⟨0x20C, [(16, 8)], false, [(policeTemplateBurstCbs 0), (policeTemplateBurstPbs 0)]⟩,
   ⟨0x300, [(16, 10)], false, [(policePortCirCir 0)]⟩,
   ⟨0x304, [(16, 10)], false, [(policePortPirPir 0)]⟩,
   ⟨0x308, [(16, 10)], false, [(policePortBurstCbs 0), (policePortBurstPbs 0)]⟩] ++
  [⟨0x30C, [(16, 10)], false, [(policePortColoursYellow 0), (policePortColoursRed 0)]⟩]

/-- Table 11.9: PORT_CFG [15:0] RATE. -/
def schedPortPortCfgRate (p : Nat) : Fld := (fld .sched 0x200 0 16 .rw (.c 0x1F40)) |>.at 256 p

/-- Table 11.9: PORT_CFG [23:16] OVERHEAD. -/
def schedPortPortCfgOverhead (p : Nat) : Fld := (fld .sched 0x200 16 8 .rw (.c 0x14)) |>.at 256 p

/-- Table 11.9: PORT_CFG [24] CREDITED. -/
def schedPortPortCfgCredited (p : Nat) : Fld := (fld .sched 0x200 24 1 .ro (.c 0)) |>.at 256 p

/-- Table 11.9: PORT_BURST [15:0] SBURST. -/
def schedPortPortBurstSburst (p : Nat) : Fld := (fld .sched 0x204 0 16 .rw (.c 0x400)) |>.at 256 p

/-- Table 11.9: PORT_BURST [31:16] TRANSIT_WAIT_US. -/
def schedPortPortBurstTransitWaitUs (p : Nat) : Fld := (fld .sched 0x204 16 16 .rw (.c 0xC8)) |>.at 256 p

/-- Table 11.9: STATS [15:0] CREDIT_STALLS. -/
def schedPortStatsCreditStalls (p : Nat) : Fld := (fld .sched 0x208 0 16 .rc (.c 0) .sat) |>.at 256 p

/-- Table 11.9: STATS [31:16] TRANSIT_DISCARD. -/
def schedPortStatsTransitDiscard (p : Nat) : Fld := (fld .sched 0x208 16 16 .rc (.c 0) .sat) |>.at 256 p

/-- Table 11.9: RESULT_DISCARD [31:0] COUNT. -/
def schedPortResultDiscardCount (p : Nat) : Fld := (fld .sched 0x20C 0 32 .rc (.c 0)) |>.at 256 p

/-- Table 11.9: DRR [15:0] QUANTUM. -/
def schedQueueDrrQuantum (p : Nat) (q : Nat) : Fld := (fld .sched 0x280 0 16 .rw (.tab [0, 0, 9236, 9236, 4618, 2048, 2048, 2048])) |>.at 256 p |>.at 16 q

/-- Table 11.9: DRR [31:16] BURST. -/
def schedQueueDrrBurst (p : Nat) (q : Nat) : Fld := (fld .sched 0x280 16 16 .rw (.tab [0, 0, 4618, 4618, 2309, 1024, 1024, 1024])) |>.at 256 p |>.at 16 q

/-- Table 11.9: SHAPE [15:0] RATE. -/
def schedQueueShapeRate (p : Nat) (q : Nat) : Fld := (fld .sched 0x284 0 16 .rw (.tab [80, 4000])) |>.at 256 p |>.at 16 q

/-- Table 11.9: SHAPE [31:16] SBURST. -/
def schedQueueShapeSburst (p : Nat) (q : Nat) : Fld := (fld .sched 0x284 16 16 .rw (.c 0x100)) |>.at 256 p |>.at 16 q

/-- Table 11.9: BUF [13:0] LIMIT. -/
def schedQueueBufLimit (p : Nat) (q : Nat) : Fld := (fld .sched 0x288 0 14 .rw (.tab [64, 2048, 2048, 1024, 1024, 768, 768, 448])) |>.at 256 p |>.at 16 q

/-- Table 11.9: BUF [29:16] POOL. -/
def schedQueueBufPool (p : Nat) (q : Nat) : Fld := (fld .sched 0x288 16 14 .rw (.tab [64, 2048, 2048, 1024, 1024, 768, 768, 448])) |>.at 256 p |>.at 16 q

/-- Table 11.9: DROPS [31:0] COUNT. -/
def schedQueueDropsCount (p : Nat) (q : Nat) : Fld := (fld .sched 0x28C 0 32 .rc (.c 0)) |>.at 256 p |>.at 16 q

/-- The registers of Table 11.9. -/
def rowsSched : List Row :=
  [⟨0x200, [(256, 2)], false, [(schedPortPortCfgRate 0), (schedPortPortCfgOverhead 0), (schedPortPortCfgCredited 0)]⟩,
   ⟨0x204, [(256, 2)], false, [(schedPortPortBurstSburst 0), (schedPortPortBurstTransitWaitUs 0)]⟩,
   ⟨0x208, [(256, 2)], false, [(schedPortStatsCreditStalls 0), (schedPortStatsTransitDiscard 0)]⟩,
   ⟨0x20C, [(256, 2)], false, [(schedPortResultDiscardCount 0)]⟩,
   ⟨0x280, [(256, 2), (16, 8)], false, [(schedQueueDrrQuantum 0 0), (schedQueueDrrBurst 0 0)]⟩,
   ⟨0x284, [(256, 2), (16, 8)], false, [(schedQueueShapeRate 0 0), (schedQueueShapeSburst 0 0)]⟩,
   ⟨0x288, [(256, 2), (16, 8)], false, [(schedQueueBufLimit 0 0), (schedQueueBufPool 0 0)]⟩,
   ⟨0x28C, [(256, 2), (16, 8)], false, [(schedQueueDropsCount 0 0)]⟩]

/-- Table 11.10: CTX_SEED [63:0] SEED. -/
def routeCtxSeedSeed : Fld := fld .route 0x100 0 64 .ro (.c 0)

/-- Table 11.10: CTX_SEED_NEXT [63:0] SEED. -/
def routeCtxSeedNextSeed : Fld := fld .route 0x108 0 64 .rw (.c 0)

/-- Table 11.10: DRAM_SEED [63:0] SEED. -/
def routeDramSeedSeed : Fld := fld .route 0x110 0 64 .ro (.c 0)

/-- Table 11.10: DRAM_SEED_NEXT [63:0] SEED. -/
def routeDramSeedNextSeed : Fld := fld .route 0x118 0 64 .rw (.c 0)

/-- Table 11.10: IMB_CFG [7:0] RATIO. -/
def routeImbCfgRatio : Fld := fld .route 0x120 0 8 .rw (.c 8)

/-- Table 11.10: IMB_CFG [15:8] HOLD_S. -/
def routeImbCfgHoldS : Fld := fld .route 0x120 8 8 .rw (.c 0xA)

/-- Table 11.10: IMB_CFG [23:16] MIN_PCT. -/
def routeImbCfgMinPct : Fld := fld .route 0x120 16 8 .rw (.c 0xA)

/-- Table 11.10: IMB_STAT [0] DIE_IMB. -/
def routeImbStatDieImb : Fld := fld .route 0x124 0 1 .ro (.c 0)

/-- Table 11.10: IMB_STAT [1] CH_IMB. -/
def routeImbStatChImb : Fld := fld .route 0x124 1 1 .ro (.c 0)

/-- Table 11.10: IMB_STAT [4:2] DIE. -/
def routeImbStatDie : Fld := fld .route 0x124 2 3 .ro (.c 0)

/-- Table 11.10: IMB_STAT [7:5] CH. -/
def routeImbStatCh : Fld := fld .route 0x124 5 3 .ro (.c 0)

/-- Table 11.10: IMB_STAT [15:8] DIE_RUN. -/
def routeImbStatDieRun : Fld := fld .route 0x124 8 8 .ro (.c 0)

/-- Table 11.10: IMB_STAT [23:16] CH_RUN. -/
def routeImbStatChRun : Fld := fld .route 0x124 16 8 .ro (.c 0)

/-- Table 11.10: MIGRATE [12:0] MOVING. -/
def routeMigrateMoving : Fld := fld .route 0x128 0 13 .ro (.c 0)

/-- Table 11.10: MIGRATE [13] SWEEP_BUSY. -/
def routeMigrateSweepBusy : Fld := fld .route 0x128 13 1 .ro (.c 0)

/-- Table 11.10: MIGRATE [22:16] SWEEP_PCT. -/
def routeMigrateSweepPct : Fld := fld .route 0x128 16 7 .ro (.c 0)

/-- Table 11.10: MIGRATE_DROP [31:0] COUNT. -/
def routeMigrateDropCount : Fld := fld .route 0x12C 0 32 .rc (.c 0)

/-- Table 11.10: DIE_LOAD0–7 [31:0] MBPS. -/
def routeDieLoadMbps (k : Nat) : Fld := (fld .route 0x130 0 32 .ro (.c 0)) |>.at 4 k

/-- Table 11.10: CH_LOAD0–7 [31:0] MBPS. -/
def routeChLoadMbps (k : Nat) : Fld := (fld .route 0x150 0 32 .ro (.c 0)) |>.at 4 k

/-- The registers of Table 11.10. -/
def rowsRoute : List Row :=
  [⟨0x100, [], true, [routeCtxSeedSeed]⟩,
   ⟨0x108, [], true, [routeCtxSeedNextSeed]⟩,
   ⟨0x110, [], true, [routeDramSeedSeed]⟩,
   ⟨0x118, [], true, [routeDramSeedNextSeed]⟩,
   ⟨0x120, [], false, [routeImbCfgRatio, routeImbCfgHoldS, routeImbCfgMinPct]⟩,
   ⟨0x124, [], false, [routeImbStatDieImb, routeImbStatChImb, routeImbStatDie, routeImbStatCh, routeImbStatDieRun, routeImbStatChRun]⟩,
   ⟨0x128, [], false, [routeMigrateMoving, routeMigrateSweepBusy, routeMigrateSweepPct]⟩,
   ⟨0x12C, [], false, [routeMigrateDropCount]⟩,
   ⟨0x130, [(4, 8)], false, [(routeDieLoadMbps 0)]⟩,
   ⟨0x150, [(4, 8)], false, [(routeChLoadMbps 0)]⟩]

/-- Table 12.11: CTRL [0] RING_EN. -/
def codecCtrlRingEn : Fld := fld .codec 0x100 0 1 .rw (.c 0)

/-- Table 12.11: CTRL [4:1] LEVEL_FLOOR. -/
def codecCtrlLevelFloor : Fld := fld .codec 0x100 1 4 .ro (.c 0)

/-- Table 12.11: CTRL [5] MIDNIGHT. -/
def codecCtrlMidnight : Fld := fld .codec 0x100 5 1 .ro (.c 0)

/-- Table 12.11: BLOCK [7:0] ROWS_MAX. -/
def codecBlockRowsMax : Fld := fld .codec 0x104 0 8 .rw (.c 0x10)

/-- Table 12.11: BLOCK [20:8] BLOCK_KIB. -/
def codecBlockBlockKib : Fld := fld .codec 0x104 8 13 .rw (.c 0x400)

/-- Table 12.11: TIMING [15:0] CLOSE_MS. -/
def codecTimingCloseMs : Fld := fld .codec 0x108 0 16 .rw (.c 0x64)

/-- Table 12.11: TIMING [23:16] RESTART_INT. -/
def codecTimingRestartInt : Fld := fld .codec 0x108 16 8 .rw (.c 0x10)

/-- Table 12.11: FIXED [3:0] E_MAX. -/
def codecFixedEMax : Fld := fld .codec 0x10C 0 4 .rw (.c 0xF)

/-- Table 12.11: RING_BASE [63:0] ADDR. -/
def codecRingBaseAddr : Fld := fld .codec 0x110 0 64 .rw (.c 0)

/-- Table 12.11: RING_SIZE [4:0] LOG2. -/
def codecRingSizeLog2 : Fld := fld .codec 0x118 0 5 .rw (.c 4)

/-- Table 12.11: RING_PTR [15:0] HEAD. -/
def codecRingPtrHead : Fld := fld .codec 0x11C 0 16 .ro (.c 0)

/-- Table 12.11: RING_PTR [31:16] TAIL. -/
def codecRingPtrTail : Fld := fld .codec 0x11C 16 16 .rw (.c 0)

/-- Table 12.11: TLOG_BASE [63:0] ADDR. -/
def codecTlogBaseAddr : Fld := fld .codec 0x120 0 64 .rw (.c 0)

/-- Table 12.11: TGEN [15:0] GEN. -/
def codecTgenGen : Fld := fld .codec 0x128 0 16 .ro (.c 0)

/-- Table 12.11: TGEN [31:16] STAGED_BAD. -/
def codecTgenStagedBad : Fld := fld .codec 0x128 16 16 .ro (.c 0)

/-- Table 12.11: IN_KIB [31:0] COUNT. -/
def codecInKibCount : Fld := fld .codec 0x130 0 32 .rc (.c 0)

/-- Table 12.11: OUT_KIB [31:0] COUNT. -/
def codecOutKibCount : Fld := fld .codec 0x134 0 32 .rc (.c 0)

/-- Table 12.11: PATHS [15:0] NO_GAIN. -/
def codecPathsNoGain : Fld := fld .codec 0x138 0 16 .rc (.c 0) .sat

/-- Table 12.11: PATHS [31:16] FALLBACK. -/
def codecPathsFallback : Fld := fld .codec 0x138 16 16 .rc (.c 0) .sat

/-- Table 12.11: ERRS [15:0] OUT_FULL. -/
def codecErrsOutFull : Fld := fld .codec 0x13C 0 16 .rc (.c 0)

/-- Table 12.11: ERRS [31:16] REF_MISSING. -/
def codecErrsRefMissing : Fld := fld .codec 0x13C 16 16 .rc (.c 0)

/-- Table 12.11: LOSSY [15:0] GROUPS. -/
def codecLossyGroups : Fld := fld .codec 0x140 0 16 .rc (.c 0)

/-- Table 12.11: LOSSY [31:16] OVER_EMAX. -/
def codecLossyOverEmax : Fld := fld .codec 0x140 16 16 .rc (.c 0)

/-- Table 12.11: CSEL [8:0] SLOT. -/
def codecCselSlot : Fld := fld .codec 0x180 0 9 .rw (.c 0)

/-- Table 12.11: CCFG [31:0] CFG. -/
def codecCcfgCfg : Fld := fld .codec 0x184 0 32 .rw (.c 0)

/-- Table 12.11: CMASK [63:0] FIXED_MASK. -/
def codecCmaskFixedMask : Fld := fld .codec 0x188 0 64 .rw (.c 0)

/-- Table 12.11: CFG [1:0] PATH. -/
def codecTemplateCfgPath (k : Nat) : Fld := (fld .codec 0x200 0 2 .rw (.tab [1, 0, 0, 0, 0, 1, 1, 0])) |>.at 16 k

/-- Table 12.11: CFG [5:2] LEVEL. -/
def codecTemplateCfgLevel (k : Nat) : Fld := (fld .codec 0x200 2 4 .rw (.tab [6, 4, 4, 4, 5, 2, 2, 4])) |>.at 16 k

/-- Table 12.11: CFG [8:6] PRED. -/
def codecTemplateCfgPred (k : Nat) : Fld := (fld .codec 0x200 6 3 .rw (.tab [0, 1, 1, 1, 7, 0, 0, 1])) |>.at 16 k

/-- Table 12.11: CFG [12:9] TABLE. -/
def codecTemplateCfgTable (k : Nat) : Fld := (fld .codec 0x200 9 4 .rw (.c 0)) |>.at 16 k

/-- Table 12.11: CFG [14:13] LANE_W. -/
def codecTemplateCfgLaneW (k : Nat) : Fld := (fld .codec 0x200 13 2 .rw (.tab [0, 1, 1, 3, 3, 0, 0, 3])) |>.at 16 k

/-- Table 12.11: CFG [15] SIGNED. -/
def codecTemplateCfgSigned (k : Nat) : Fld := (fld .codec 0x200 15 1 .rw (.c 0)) |>.at 16 k

/-- Table 12.11: CFG [23:16] SEGS. -/
def codecTemplateCfgSegs (k : Nat) : Fld := (fld .codec 0x200 16 8 .rw (.tab [64, 16, 64, 32, 128, 128, 64, 16])) |>.at 16 k

/-- Table 12.11: MASK [63:0] FIXED_MASK. -/
def codecTemplateMaskFixedMask (k : Nat) : Fld := (fld .codec 0x208 0 64 .rw (.c 0)) |>.at 16 k

/-- Table 12.11: LEN0–9 [31:0] LEN. -/
def codecTableLenLen (k : Nat) (j : Nat) : Fld := (fld .codec 0x400 0 32 .rw (.c 0)) |>.at 64 k |>.at 4 j

/-- The registers of Table 12.11. -/
def rowsCodec : List Row :=
  [⟨0x100, [], false, [codecCtrlRingEn, codecCtrlLevelFloor, codecCtrlMidnight]⟩,
   ⟨0x104, [], false, [codecBlockRowsMax, codecBlockBlockKib]⟩,
   ⟨0x108, [], false, [codecTimingCloseMs, codecTimingRestartInt]⟩,
   ⟨0x10C, [], false, [codecFixedEMax]⟩,
   ⟨0x110, [], true, [codecRingBaseAddr]⟩,
   ⟨0x118, [], false, [codecRingSizeLog2]⟩,
   ⟨0x11C, [], false, [codecRingPtrHead, codecRingPtrTail]⟩,
   ⟨0x120, [], true, [codecTlogBaseAddr]⟩,
   ⟨0x128, [], false, [codecTgenGen, codecTgenStagedBad]⟩,
   ⟨0x130, [], false, [codecInKibCount]⟩,
   ⟨0x134, [], false, [codecOutKibCount]⟩,
   ⟨0x138, [], false, [codecPathsNoGain, codecPathsFallback]⟩] ++
  [⟨0x13C, [], false, [codecErrsOutFull, codecErrsRefMissing]⟩,
   ⟨0x140, [], false, [codecLossyGroups, codecLossyOverEmax]⟩,
   ⟨0x180, [], false, [codecCselSlot]⟩,
   ⟨0x184, [], false, [codecCcfgCfg]⟩,
   ⟨0x188, [], true, [codecCmaskFixedMask]⟩,
   ⟨0x200, [(16, 8)], false, [(codecTemplateCfgPath 0), (codecTemplateCfgLevel 0), (codecTemplateCfgPred 0), (codecTemplateCfgTable 0), (codecTemplateCfgLaneW 0), (codecTemplateCfgSigned 0), (codecTemplateCfgSegs 0)]⟩,
   ⟨0x208, [(16, 8)], true, [(codecTemplateMaskFixedMask 0)]⟩,
   ⟨0x400, [(64, 16), (4, 10)], false, [(codecTableLenLen 0 0)]⟩]

/-- Table 13.11: CTRL [0] RES_EN. -/
def mergeCtrlResEn : Fld := fld .merge 0x100 0 1 .rw (.c 0)

/-- Table 13.11: CTRL [1] SPARSE_EN. -/
def mergeCtrlSparseEn : Fld := fld .merge 0x100 1 1 .rw (.c 1)

/-- Table 13.11: HOP_ALLOW [15:0] NS. -/
def mergeHopAllowNs : Fld := fld .merge 0x104 0 16 .rw (.c 0x7D0)

/-- Table 13.11: SLOTS [14:0] IN_USE. -/
def mergeSlotsInUse : Fld := fld .merge 0x108 0 15 .ro (.c 0)

/-- Table 13.11: SLOTS [30:16] PEAK. -/
def mergeSlotsPeak : Fld := fld .merge 0x108 16 15 .rc (.c 0)

/-- Table 13.11: STATE_BASE [63:0] ADDR. -/
def mergeStateBaseAddr : Fld := fld .merge 0x110 0 64 .rw (.c 0)

/-- Table 13.11: COUNT_A [15:0] LATE. -/
def mergeCountALate : Fld := fld .merge 0x118 0 16 .rc (.c 0) .sat

/-- Table 13.11: COUNT_A [31:16] DUP. -/
def mergeCountADup : Fld := fld .merge 0x118 16 16 .rc (.c 0) .sat

/-- Table 13.11: COUNT_B [15:0] NO_SLOT. -/
def mergeCountBNoSlot : Fld := fld .merge 0x11C 0 16 .rc (.c 0) .sat

/-- Table 13.11: COUNT_B [31:16] MALFORMED. -/
def mergeCountBMalformed : Fld := fld .merge 0x11C 16 16 .rc (.c 0) .sat

/-- Table 13.11: COUNT_C [15:0] POISONED. -/
def mergeCountCPoisoned : Fld := fld .merge 0x120 0 16 .rc (.c 0)

/-- Table 13.11: COUNT_C [31:16] DISCARDED. -/
def mergeCountCDiscarded : Fld := fld .merge 0x120 16 16 .rc (.c 0)

/-- Table 13.11: RESULTS [15:0] FORMED. -/
def mergeResultsFormed : Fld := fld .merge 0x124 0 16 .rc (.c 0)

/-- Table 13.11: RESULTS [31:16] PARTIAL. -/
def mergeResultsPartial : Fld := fld .merge 0x124 16 16 .rc (.c 0)

/-- Table 13.11: RES_MISSED [15:0] COUNT. -/
def mergeResMissedCount : Fld := fld .merge 0x128 0 16 .rc (.c 0)

/-- Table 13.11: RES_BASE [63:0] ADDR. -/
def mergeResBaseAddr : Fld := fld .merge 0x130 0 64 .rw (.c 0)

/-- Table 13.11: RES_SIZE [4:0] LOG2. -/
def mergeResSizeLog2 : Fld := fld .merge 0x138 0 5 .rw (.c 4)

/-- Table 13.11: RES_PTR [15:0] HEAD. -/
def mergeResPtrHead : Fld := fld .merge 0x13C 0 16 .ro (.c 0)

/-- Table 13.11: RES_PTR [31:16] TAIL. -/
def mergeResPtrTail : Fld := fld .merge 0x13C 16 16 .rw (.c 0)

/-- Table 13.11: QUANTILE0–7 [19:0] PPM. -/
def mergeQuantilePpm (k : Nat) : Fld := (fld .merge 0x140 0 20 .rw (.tab [500000, 900000, 990000, 999000, 999900, 1000000])) |>.at 4 k

/-- Table 13.11: QUANTILE0–7 [31] VALID. -/
def mergeQuantileValid (k : Nat) : Fld := (fld .merge 0x140 31 1 .rw (.tab [1, 1, 1, 1, 1, 1])) |>.at 4 k

/-- Table 13.11: JS_CMD [1:0] OP. -/
def mergeJsCmdOp : Fld := fld .merge 0x180 0 2 .rw (.c 0)

/-- Table 13.11: JS_CMD [2] GO. -/
def mergeJsCmdGo : Fld := fld .merge 0x180 2 1 .w1s (.c 0)

/-- Table 13.11: JS_CMD [3] BUSY. -/
def mergeJsCmdBusy : Fld := fld .merge 0x180 3 1 .ro (.c 0)

/-- Table 13.11: JS_CMD [6:4] RESULT. -/
def mergeJsCmdResult : Fld := fld .merge 0x180 4 3 .ro (.c 0)

/-- Table 13.11: JS_CMD [31:16] JOB. -/
def mergeJsCmdJob : Fld := fld .merge 0x180 16 16 .rw (.c 0)

/-- Table 13.11: JS_CFG [63:0] ADDR. -/
def mergeJsCfgAddr : Fld := fld .merge 0x184 0 64 .rw (.c 0)

/-- Table 13.11: JS_TIMING [15:0] HOP_TIMEOUT_US. -/
def mergeJsTimingHopTimeoutUs : Fld := fld .merge 0x18C 0 16 .rw (.c 0x32)

/-- Table 13.11: JS_TIMING [31:16] DEADLINE_US. -/
def mergeJsTimingDeadlineUs : Fld := fld .merge 0x18C 16 16 .rw (.c 0x1388)

/-- Table 13.11: JS_LEAD [15:0] COMMIT_LEAD_US. -/
def mergeJsLeadCommitLeadUs : Fld := fld .merge 0x190 0 16 .rw (.c 0x3E8)

/-- Table 13.11: JS_STAT [15:0] REPORTS. -/
def mergeJsStatReports : Fld := fld .merge 0x194 0 16 .ro (.c 0)

/-- Table 13.11: JS_STAT [31:16] RETRIES. -/
def mergeJsStatRetries : Fld := fld .merge 0x194 16 16 .rc (.c 0)

/-- Table 13.11: JS_FAIL [3:0] REASON. -/
def mergeJsFailReason : Fld := fld .merge 0x198 0 4 .ro (.c 0)

/-- Table 13.11: JS_FAIL [20:4] DIE_INDEX. -/
def mergeJsFailDieIndex : Fld := fld .merge 0x198 4 17 .ro (.c 0)

/-- The registers of Table 13.11. -/
def rowsMerge : List Row :=
  [⟨0x100, [], false, [mergeCtrlResEn, mergeCtrlSparseEn]⟩,
   ⟨0x104, [], false, [mergeHopAllowNs]⟩,
   ⟨0x108, [], false, [mergeSlotsInUse, mergeSlotsPeak]⟩,
   ⟨0x110, [], true, [mergeStateBaseAddr]⟩,
   ⟨0x118, [], false, [mergeCountALate, mergeCountADup]⟩,
   ⟨0x11C, [], false, [mergeCountBNoSlot, mergeCountBMalformed]⟩,
   ⟨0x120, [], false, [mergeCountCPoisoned, mergeCountCDiscarded]⟩,
   ⟨0x124, [], false, [mergeResultsFormed, mergeResultsPartial]⟩,
   ⟨0x128, [], false, [mergeResMissedCount]⟩,
   ⟨0x130, [], true, [mergeResBaseAddr]⟩,
   ⟨0x138, [], false, [mergeResSizeLog2]⟩,
   ⟨0x13C, [], false, [mergeResPtrHead, mergeResPtrTail]⟩] ++
  [⟨0x140, [(4, 8)], false, [(mergeQuantilePpm 0), (mergeQuantileValid 0)]⟩,
   ⟨0x180, [], false, [mergeJsCmdOp, mergeJsCmdGo, mergeJsCmdBusy, mergeJsCmdResult, mergeJsCmdJob]⟩,
   ⟨0x184, [], true, [mergeJsCfgAddr]⟩,
   ⟨0x18C, [], false, [mergeJsTimingHopTimeoutUs, mergeJsTimingDeadlineUs]⟩,
   ⟨0x190, [], false, [mergeJsLeadCommitLeadUs]⟩,
   ⟨0x194, [], false, [mergeJsStatReports, mergeJsStatRetries]⟩,
   ⟨0x198, [], false, [mergeJsFailReason, mergeJsFailDieIndex]⟩]

/-- Table 14.11: STORE [18:0] EDGES_USED. -/
def featStoreEdgesUsed : Fld := fld .feat 0x100 0 19 .ro (.c 0)

/-- Table 14.11: DESC [14:0] DESC_USED. -/
def featDescDescUsed : Fld := fld .feat 0x104 0 15 .ro (.c 0)

/-- Table 14.11: LANE_MISSING [31:0] COUNT. -/
def featLaneMissingCount : Fld := fld .feat 0x108 0 32 .rc (.c 0)

/-- Table 14.11: NAN_X [31:0] COUNT. -/
def featNanXCount : Fld := fld .feat 0x10C 0 32 .rc (.c 0)

/-- Table 14.11: NO_MODEL [31:0] COUNT. -/
def featNoModelCount : Fld := fld .feat 0x110 0 32 .rc (.c 0)

/-- Table 14.11: KEY [15:0] JOB. -/
def featBindingKeyJob (k : Nat) : Fld := (fld .feat 0x200 0 16 .rw (.c 0)) |>.at 32 k

/-- Table 14.11: KEY [23:16] KIND. -/
def featBindingKeyKind (k : Nat) : Fld := (fld .feat 0x200 16 8 .rw (.c 4)) |>.at 32 k

/-- Table 14.11: KEY [24] VALID. -/
def featBindingKeyValid (k : Nat) : Fld := (fld .feat 0x200 24 1 .rw (.c 0)) |>.at 32 k

/-- Table 14.11: KEY [27:25] SLOT. -/
def featBindingKeySlot (k : Nat) : Fld := (fld .feat 0x200 25 3 .rw (.c 0)) |>.at 32 k

/-- Table 14.11: GROUPS [8:0] G. -/
def featBindingGroupsG (k : Nat) : Fld := (fld .feat 0x204 0 9 .rw (.c 0x100)) |>.at 32 k

/-- Table 14.11: GROUPS [29:16] STRIDE. -/
def featBindingGroupsStride (k : Nat) : Fld := (fld .feat 0x204 16 14 .rw (.c 0x10)) |>.at 32 k

/-- Table 14.11: BASE [13:0] LANE. -/
def featBindingBaseLane (k : Nat) : Fld := (fld .feat 0x208 0 14 .rw (.c 6)) |>.at 32 k

/-- Table 14.11: REPORT [3:0] CLASS. -/
def featBindingReportClass (k : Nat) : Fld := (fld .feat 0x20C 0 4 .rw (.c 0)) |>.at 32 k

/-- Table 14.11: REPORT [4] HOST. -/
def featBindingReportHost (k : Nat) : Fld := (fld .feat 0x20C 4 1 .rw (.c 1)) |>.at 32 k

/-- Table 14.11: REPORT [5] UPLINK. -/
def featBindingReportUplink (k : Nat) : Fld := (fld .feat 0x20C 5 1 .rw (.c 0)) |>.at 32 k

/-- Table 14.11: REPORT [31:16] HOLDOFF_MS. -/
def featBindingReportHoldoffMs (k : Nat) : Fld := (fld .feat 0x20C 16 16 .rw (.c 0x64)) |>.at 32 k

/-- Table 14.11: THR [31:0] THR. -/
def featBindingThrThr (k : Nat) : Fld := (fld .feat 0x210 0 32 .rw (.c 0x7FC00000)) |>.at 32 k

/-- Table 14.11: SAMPLES [31:0] COUNT. -/
def featBindingSamplesCount (k : Nat) : Fld := (fld .feat 0x214 0 32 .rc (.c 0)) |>.at 32 k

/-- Table 14.11: REPORTS [15:0] REPORTS. -/
def featBindingReportsReports (k : Nat) : Fld := (fld .feat 0x218 0 16 .rc (.c 0) .sat) |>.at 32 k

/-- Table 14.11: REPORTS [31:16] SUPPRESSED. -/
def featBindingReportsSuppressed (k : Nat) : Fld := (fld .feat 0x218 16 16 .rc (.c 0) .sat) |>.at 32 k

/-- The registers of Table 14.11. -/
def rowsFeat : List Row :=
  [⟨0x100, [], false, [featStoreEdgesUsed]⟩,
   ⟨0x104, [], false, [featDescDescUsed]⟩,
   ⟨0x108, [], false, [featLaneMissingCount]⟩,
   ⟨0x10C, [], false, [featNanXCount]⟩,
   ⟨0x110, [], false, [featNoModelCount]⟩,
   ⟨0x200, [(32, 16)], false, [(featBindingKeyJob 0), (featBindingKeyKind 0), (featBindingKeyValid 0), (featBindingKeySlot 0)]⟩,
   ⟨0x204, [(32, 16)], false, [(featBindingGroupsG 0), (featBindingGroupsStride 0)]⟩,
   ⟨0x208, [(32, 16)], false, [(featBindingBaseLane 0)]⟩,
   ⟨0x20C, [(32, 16)], false, [(featBindingReportClass 0), (featBindingReportHost 0), (featBindingReportUplink 0), (featBindingReportHoldoffMs 0)]⟩,
   ⟨0x210, [(32, 16)], false, [(featBindingThrThr 0)]⟩,
   ⟨0x214, [(32, 16)], false, [(featBindingSamplesCount 0)]⟩,
   ⟨0x218, [(32, 16)], false, [(featBindingReportsReports 0), (featBindingReportsSuppressed 0)]⟩]

/-- Table 14.12: BATCH [13:0] SAMPLES. -/
def lensBatchSamples : Fld := fld .lens 0x100 0 14 .rw (.c 0x1000)

/-- Table 14.12: BATCH [31:16] CLOSE_US. -/
def lensBatchCloseUs : Fld := fld .lens 0x100 16 16 .rw (.c 0x3E8)

/-- Table 14.12: LINGER [15:0] MS. -/
def lensLingerMs : Fld := fld .lens 0x104 0 16 .rw (.c 0xA)

/-- Table 14.12: STAT [0] SCORING. -/
def lensStatScoring : Fld := fld .lens 0x108 0 1 .ro (.c 0)

/-- Table 14.12: STAT [1] STOPPED. -/
def lensStatStopped : Fld := fld .lens 0x108 1 1 .ro (.c 1)

/-- Table 14.12: STAT [4:2] CUR_SLOT. -/
def lensStatCurSlot : Fld := fld .lens 0x108 2 3 .ro (.c 0)

/-- Table 14.12: STAT [11:8] ONE_IN. -/
def lensStatOneIn : Fld := fld .lens 0x108 8 4 .ro (.c 1)

/-- Table 14.12: STORE [14:0] USED_KIB. -/
def lensStoreUsedKib : Fld := fld .lens 0x10C 0 15 .ro (.c 0)

/-- Table 14.12: EVALS [63:0] COUNT. -/
def lensEvalsCount : Fld := fld .lens 0x110 0 64 .ro (.c 0) .wrap

/-- Table 14.12: SCORED [31:0] COUNT. -/
def lensScoredCount : Fld := fld .lens 0x118 0 32 .rc (.c 0)

/-- Table 14.12: SHED [31:0] COUNT. -/
def lensShedCount : Fld := fld .lens 0x11C 0 32 .rc (.c 0)

/-- Table 14.12: ANOMALY [15:0] MASK_EMPTY. -/
def lensAnomalyMaskEmpty : Fld := fld .lens 0x120 0 16 .rc (.c 0) .sat

/-- Table 14.12: ANOMALY [31:16] STALE_MODEL. -/
def lensAnomalyStaleModel : Fld := fld .lens 0x120 16 16 .rc (.c 0) .sat

/-- Table 14.12: POISON [15:0] BATCHES. -/
def lensPoisonBatches : Fld := fld .lens 0x124 0 16 .rc (.c 0)

/-- Table 14.12: RPT_BASE [63:0] ADDR. -/
def lensRptBaseAddr : Fld := fld .lens 0x128 0 64 .rw (.c 0)

/-- Table 14.12: RPT_SIZE [4:0] LOG2. -/
def lensRptSizeLog2 : Fld := fld .lens 0x130 0 5 .rw (.c 0xC)

/-- Table 14.12: RPT_PTR [15:0] HEAD. -/
def lensRptPtrHead : Fld := fld .lens 0x134 0 16 .ro (.c 0)

/-- Table 14.12: RPT_PTR [31:16] TAIL. -/
def lensRptPtrTail : Fld := fld .lens 0x134 16 16 .rw (.c 0)

/-- Table 14.12: RPT_MISSED [31:0] COUNT. -/
def lensRptMissedCount : Fld := fld .lens 0x138 0 32 .rc (.c 0)

/-- Table 14.12: LOAD_CMD [2:0] SLOT. -/
def lensLoadCmdSlot : Fld := fld .lens 0x140 0 3 .rw (.c 0)

/-- Table 14.12: LOAD_CMD [3] GO. -/
def lensLoadCmdGo : Fld := fld .lens 0x140 3 1 .w1s (.c 0)

/-- Table 14.12: LOAD_CMD [4] BUSY. -/
def lensLoadCmdBusy : Fld := fld .lens 0x140 4 1 .ro (.c 0)

/-- Table 14.12: LOAD_CMD [7:5] RESULT. -/
def lensLoadCmdResult : Fld := fld .lens 0x140 5 3 .ro (.c 0)

/-- Table 14.12: LOAD_CMD [24:8] INDEX. -/
def lensLoadCmdIndex : Fld := fld .lens 0x140 8 17 .ro (.c 0)

/-- Table 14.12: LOAD_CMD [25] IS_FEATURE. -/
def lensLoadCmdIsFeature : Fld := fld .lens 0x140 25 1 .ro (.c 0)

/-- Table 14.12: STAGED_ADDR [63:0] ADDR. -/
def lensSlotStagedAddrAddr (m : Nat) : Fld := (fld .lens 0x200 0 64 .rw (.c 0)) |>.at 32 m

/-- Table 14.12: STAGED_ID [31:0] ID. -/
def lensSlotStagedIdId (m : Nat) : Fld := (fld .lens 0x208 0 32 .ro (.c 0)) |>.at 32 m

/-- Table 14.12: FORCE_ID [31:0] ID. -/
def lensSlotForceIdId (m : Nat) : Fld := (fld .lens 0x20C 0 32 .ro (.c 0)) |>.at 32 m

/-- Table 14.12: STAT [0] STAGED_VALID. -/
def lensSlotStatStagedValid (m : Nat) : Fld := (fld .lens 0x210 0 1 .ro (.c 0)) |>.at 32 m

/-- Table 14.12: STAT [1] IN_FORCE. -/
def lensSlotStatInForce (m : Nat) : Fld := (fld .lens 0x210 1 1 .ro (.c 0)) |>.at 32 m

/-- Table 14.12: STAT [2] OLD_HELD. -/
def lensSlotStatOldHeld (m : Nat) : Fld := (fld .lens 0x210 2 1 .ro (.c 0)) |>.at 32 m

/-- Table 14.12: STAT [12:8] CLASSES. -/
def lensSlotStatClasses (m : Nat) : Fld := (fld .lens 0x210 8 5 .ro (.c 0)) |>.at 32 m

/-- Table 14.12: STAT [14:13] LINK. -/
def lensSlotStatLink (m : Nat) : Fld := (fld .lens 0x210 13 2 .ro (.c 0)) |>.at 32 m

/-- Table 14.12: STAT [31:15] TREES. -/
def lensSlotStatTrees (m : Nat) : Fld := (fld .lens 0x210 15 17 .ro (.c 0)) |>.at 32 m

/-- Table 14.12: FEATURES [12:0] COUNT. -/
def lensSlotFeaturesCount (m : Nat) : Fld := (fld .lens 0x214 0 13 .ro (.c 0)) |>.at 32 m

/-- Table 14.12: SAMPLES [31:0] COUNT. -/
def lensSlotSamplesCount (m : Nat) : Fld := (fld .lens 0x218 0 32 .rc (.c 0)) |>.at 32 m

/-- The registers of Table 14.12. -/
def rowsLens : List Row :=
  [⟨0x100, [], false, [lensBatchSamples, lensBatchCloseUs]⟩,
   ⟨0x104, [], false, [lensLingerMs]⟩,
   ⟨0x108, [], false, [lensStatScoring, lensStatStopped, lensStatCurSlot, lensStatOneIn]⟩,
   ⟨0x10C, [], false, [lensStoreUsedKib]⟩,
   ⟨0x110, [], true, [lensEvalsCount]⟩,
   ⟨0x118, [], false, [lensScoredCount]⟩,
   ⟨0x11C, [], false, [lensShedCount]⟩,
   ⟨0x120, [], false, [lensAnomalyMaskEmpty, lensAnomalyStaleModel]⟩,
   ⟨0x124, [], false, [lensPoisonBatches]⟩,
   ⟨0x128, [], true, [lensRptBaseAddr]⟩,
   ⟨0x130, [], false, [lensRptSizeLog2]⟩,
   ⟨0x134, [], false, [lensRptPtrHead, lensRptPtrTail]⟩] ++
  [⟨0x138, [], false, [lensRptMissedCount]⟩,
   ⟨0x140, [], false, [lensLoadCmdSlot, lensLoadCmdGo, lensLoadCmdBusy, lensLoadCmdResult, lensLoadCmdIndex, lensLoadCmdIsFeature]⟩,
   ⟨0x200, [(32, 8)], true, [(lensSlotStagedAddrAddr 0)]⟩,
   ⟨0x208, [(32, 8)], false, [(lensSlotStagedIdId 0)]⟩,
   ⟨0x20C, [(32, 8)], false, [(lensSlotForceIdId 0)]⟩,
   ⟨0x210, [(32, 8)], false, [(lensSlotStatStagedValid 0), (lensSlotStatInForce 0), (lensSlotStatOldHeld 0), (lensSlotStatClasses 0), (lensSlotStatLink 0), (lensSlotStatTrees 0)]⟩,
   ⟨0x214, [(32, 8)], false, [(lensSlotFeaturesCount 0)]⟩,
   ⟨0x218, [(32, 8)], false, [(lensSlotSamplesCount 0)]⟩]

/-- Table 14.13: CMD [1:0] OP. -/
def driftCmdOp : Fld := fld .drift 0x100 0 2 .rw (.c 0)

/-- Table 14.13: CMD [2] GO. -/
def driftCmdGo : Fld := fld .drift 0x100 2 1 .w1s (.c 0)

/-- Table 14.13: CMD [3] BUSY. -/
def driftCmdBusy : Fld := fld .drift 0x100 3 1 .ro (.c 0)

/-- Table 14.13: CMD [5:4] RESULT. -/
def driftCmdResult : Fld := fld .drift 0x100 4 2 .ro (.c 0)

/-- Table 14.13: CMD [14:6] SLOT. -/
def driftCmdSlot : Fld := fld .drift 0x100 6 9 .rw (.c 0)

/-- Table 14.13: CMD [20:15] METRIC. -/
def driftCmdMetric : Fld := fld .drift 0x100 15 6 .rw (.c 0)

/-- Table 14.13: ZCFG [2:0] QMID. -/
def driftZcfgQmid : Fld := fld .drift 0x104 0 3 .rw (.c 0)

/-- Table 14.13: ZCFG [5:3] QHI. -/
def driftZcfgQhi : Fld := fld .drift 0x104 3 3 .rw (.c 1)

/-- Table 14.13: Z_DIV [31:0] DIV. -/
def driftZDivDiv : Fld := fld .drift 0x108 0 32 .rw (.c 0x3FA40B78)

/-- Table 14.13: HOLDOFF [15:0] MS. -/
def driftHoldoffMs : Fld := fld .drift 0x10C 0 16 .rw (.c 0x64)

/-- Table 14.13: NAN_SKIPS [31:0] COUNT. -/
def driftNanSkipsCount : Fld := fld .drift 0x110 0 32 .rc (.c 0)

/-- Table 14.13: ALARMS [31:0] COUNT. -/
def driftAlarmsCount : Fld := fld .drift 0x114 0 32 .rc (.c 0)

/-- Table 14.13: E_CFG [0] ENABLE. -/
def driftECfgEnable : Fld := fld .drift 0x140 0 1 .rw (.c 0)

/-- Table 14.13: E_CFG [3:1] SOURCE. -/
def driftECfgSource : Fld := fld .drift 0x140 1 3 .rw (.c 0)

/-- Table 14.13: E_CFG [15:4] FEATURE. -/
def driftECfgFeature : Fld := fld .drift 0x140 4 12 .rw (.c 0)

/-- Table 14.13: E_CFG [23:16] GROUP. -/
def driftECfgGroup : Fld := fld .drift 0x140 16 8 .rw (.c 0)

/-- Table 14.13: E_CFG [27:24] ALPHA_LOG2. -/
def driftECfgAlphaLog2 : Fld := fld .drift 0x140 24 4 .rw (.c 4)

/-- Table 14.13: E_CFG [28] REF_MODE. -/
def driftECfgRefMode : Fld := fld .drift 0x140 28 1 .rw (.c 1)

/-- Table 14.13: E_CFG [29] CUSUM_EN. -/
def driftECfgCusumEn : Fld := fld .drift 0x140 29 1 .rw (.c 0)

/-- Table 14.13: E_CFG [30] Z_EN. -/
def driftECfgZEn : Fld := fld .drift 0x140 30 1 .rw (.c 0)

/-- Table 14.13: E_K [31:0] K. -/
def driftEKK : Fld := fld .drift 0x144 0 32 .rw (.c 0)

/-- Table 14.13: E_H [31:0] H. -/
def driftEHH : Fld := fld .drift 0x148 0 32 .rw (.c 0)

/-- Table 14.13: E_REF [31:0] REF. -/
def driftERefRef : Fld := fld .drift 0x14C 0 32 .rw (.c 0)

/-- Table 14.13: E_ZTHR [31:0] ZTHR. -/
def driftEZthrZthr : Fld := fld .drift 0x150 0 32 .rw (.c 0)

/-- Table 14.13: E_MEAN [31:0] MEAN. -/
def driftEMeanMean : Fld := fld .drift 0x154 0 32 .ro (.c 0)

/-- Table 14.13: E_SPOS [31:0] SPOS. -/
def driftESposSpos : Fld := fld .drift 0x158 0 32 .ro (.c 0)

/-- Table 14.13: E_SNEG [31:0] SNEG. -/
def driftESnegSneg : Fld := fld .drift 0x15C 0 32 .ro (.c 0)

/-- Table 14.13: E_Z [31:0] Z. -/
def driftEZZ : Fld := fld .drift 0x160 0 32 .ro (.c 0x7FC00000)

/-- Table 14.13: E_COUNT [31:0] UPDATES. -/
def driftECountUpdates : Fld := fld .drift 0x164 0 32 .ro (.c 0) .wrap

/-- The registers of Table 14.13. -/
def rowsDrift : List Row :=
  [⟨0x100, [], false, [driftCmdOp, driftCmdGo, driftCmdBusy, driftCmdResult, driftCmdSlot, driftCmdMetric]⟩,
   ⟨0x104, [], false, [driftZcfgQmid, driftZcfgQhi]⟩,
   ⟨0x108, [], false, [driftZDivDiv]⟩,
   ⟨0x10C, [], false, [driftHoldoffMs]⟩,
   ⟨0x110, [], false, [driftNanSkipsCount]⟩,
   ⟨0x114, [], false, [driftAlarmsCount]⟩,
   ⟨0x140, [], false, [driftECfgEnable, driftECfgSource, driftECfgFeature, driftECfgGroup, driftECfgAlphaLog2, driftECfgRefMode, driftECfgCusumEn, driftECfgZEn]⟩,
   ⟨0x144, [], false, [driftEKK]⟩,
   ⟨0x148, [], false, [driftEHH]⟩,
   ⟨0x14C, [], false, [driftERefRef]⟩,
   ⟨0x150, [], false, [driftEZthrZthr]⟩,
   ⟨0x154, [], false, [driftEMeanMean]⟩] ++
  [⟨0x158, [], false, [driftESposSpos]⟩,
   ⟨0x15C, [], false, [driftESnegSneg]⟩,
   ⟨0x160, [], false, [driftEZZ]⟩,
   ⟨0x164, [], false, [driftECountUpdates]⟩]

end Sys2Proof.Machine
end

