-- ==== Sys2Proof/Machine/RegsSys.lean ====
section
/-! DEFINITION. Register fields, from the register tables of the spec: the fault, history, mailbox, core, authorisation, scrub and barrier pages. One definition per field,
named block, register, field; and each block's registers for word access. -/

namespace Sys2Proof.Machine

/-- Table 15.14: CFG [7:0] RETRY0_MS. -/
def rasCfgRetry0Ms : Fld := fld .ras 0x100 0 8 .rw (.c 1)

/-- Table 15.14: CFG [15:8] RETRY1_MS. -/
def rasCfgRetry1Ms : Fld := fld .ras 0x100 8 8 .rw (.c 0xA)

/-- Table 15.14: CFG [23:16] RETRY2_MS. -/
def rasCfgRetry2Ms : Fld := fld .ras 0x100 16 8 .rw (.c 0x64)

/-- Table 15.14: CFG [31:24] WINDOW_H. -/
def rasCfgWindowH : Fld := fld .ras 0x100 24 8 .rw (.c 0x18)

/-- Table 15.14: LIMITS [4:0] REC_LIMIT. -/
def rasLimitsRecLimit : Fld := fld .ras 0x104 0 5 .rw (.c 0x10)

/-- Table 15.14: LIMITS [10:8] UNREC_LIMIT. -/
def rasLimitsUnrecLimit : Fld := fld .ras 0x104 8 3 .rw (.c 4)

/-- Table 15.14: STAT [0] FATAL_PENDING. -/
def rasStatFatalPending : Fld := fld .ras 0x108 0 1 .ro (.c 0)

/-- Table 15.14: STAT [1] FATAL_SAFE. -/
def rasStatFatalSafe : Fld := fld .ras 0x108 1 1 .w1c (.c 0)

/-- Table 15.14: STAT [15:8] RETIRED_N. -/
def rasStatRetiredN : Fld := fld .ras 0x108 8 8 .ro (.c 0)

/-- Table 15.14: FAULT_SEC [31:0] SEC. -/
def rasFaultSecSec : Fld := fld .ras 0x10C 0 32 .ro (.c 0)

/-- Table 15.14: WDOG_CTRL [0] EN. -/
def rasWdogCtrlEn : Fld := fld .ras 0x110 0 1 .rwl (.c 0)

/-- Table 15.14: WDOG_CTRL [1] KICK. -/
def rasWdogCtrlKick : Fld := fld .ras 0x110 1 1 .w1s (.c 0)

/-- Table 15.14: WDOG_CTRL [31:16] PERIOD_MS. -/
def rasWdogCtrlPeriodMs : Fld := fld .ras 0x110 16 16 .rwl (.c 0x3E8)

/-- Table 15.14: WDOG_STAT [0] WARNED. -/
def rasWdogStatWarned : Fld := fld .ras 0x114 0 1 .w1c (.c 0)

/-- Table 15.14: WDOG_STAT [1] EXPIRED. -/
def rasWdogStatExpired : Fld := fld .ras 0x114 1 1 .w1c (.c 0)

/-- Table 15.14: STATE [2:0] STATE. -/
def rasChannelStateState (c : Nat) : Fld := (fld .ras 0x200 0 3 .ro (.c 0)) |>.at 16 c

/-- Table 15.14: STATE [3] COND_BOUND. -/
def rasChannelStateCondBound (c : Nat) : Fld := (fld .ras 0x200 3 1 .ro (.c 0)) |>.at 16 c

/-- Table 15.14: STATE [7:4] RETRY. -/
def rasChannelStateRetry (c : Nat) : Fld := (fld .ras 0x200 4 4 .ro (.c 0)) |>.at 16 c

/-- Table 15.14: STATE [15:8] REC_24H. -/
def rasChannelStateRec24h (c : Nat) : Fld := (fld .ras 0x200 8 8 .ro (.c 0)) |>.at 16 c

/-- Table 15.14: STATE [23:16] UNREC_24H. -/
def rasChannelStateUnrec24h (c : Nat) : Fld := (fld .ras 0x200 16 8 .ro (.c 0)) |>.at 16 c

/-- Table 15.14: TOTALS [15:0] RECOVERED. -/
def rasChannelTotalsRecovered (c : Nat) : Fld := (fld .ras 0x204 0 16 .rc (.c 0) .sat) |>.at 16 c

/-- Table 15.14: TOTALS [31:16] UNRECOVERED. -/
def rasChannelTotalsUnrecovered (c : Nat) : Fld := (fld .ras 0x204 16 16 .rc (.c 0) .sat) |>.at 16 c

/-- Table 15.14: LAST [15:0] CAUSE. -/
def rasChannelLastCause (c : Nat) : Fld := (fld .ras 0x208 0 16 .ro (.c 0)) |>.at 16 c

/-- Table 15.14: LAST [22:16] BIN. -/
def rasChannelLastBin (c : Nat) : Fld := (fld .ras 0x208 16 7 .ro (.c 0)) |>.at 16 c

/-- Table 15.14: LAST [23] STALE. -/
def rasChannelLastStale (c : Nat) : Fld := (fld .ras 0x208 23 1 .ro (.c 0)) |>.at 16 c

/-- Table 15.14: LAST [24] INJECTED. -/
def rasChannelLastInjected (c : Nat) : Fld := (fld .ras 0x208 24 1 .ro (.c 0)) |>.at 16 c

/-- Table 15.14: CTRL [0] RETIRE. -/
def rasChannelCtrlRetire (c : Nat) : Fld := (fld .ras 0x20C 0 1 .w1s (.c 0)) |>.at 16 c

/-- Table 15.14: CTRL [1] COND_DONE. -/
def rasChannelCtrlCondDone (c : Nat) : Fld := (fld .ras 0x20C 1 1 .w1s (.c 0)) |>.at 16 c

/-- Table 15.14: CTRL [2] CLEAR. -/
def rasChannelCtrlClear (c : Nat) : Fld := (fld .ras 0x20C 2 1 .w1s (.c 0)) |>.at 16 c

/-- Table 15.14: CTRL [3] PRELOAD. -/
def rasChannelCtrlPreload (c : Nat) : Fld := (fld .ras 0x20C 3 1 .w1s (.c 0)) |>.at 16 c

/-- Table 15.14: CTRL [12:8] PRELOAD_REC. -/
def rasChannelCtrlPreloadRec (c : Nat) : Fld := (fld .ras 0x20C 8 5 .rw (.c 0)) |>.at 16 c

/-- Table 15.14: CTRL [15:13] PRELOAD_UNREC. -/
def rasChannelCtrlPreloadUnrec (c : Nat) : Fld := (fld .ras 0x20C 13 3 .rw (.c 0)) |>.at 16 c

/-- The registers of Table 15.14 on the IKB. -/
def rowsRasOnIkb : List Row :=
  [⟨0x100, [], false, [rasCfgRetry0Ms, rasCfgRetry1Ms, rasCfgRetry2Ms, rasCfgWindowH]⟩,
   ⟨0x104, [], false, [rasLimitsRecLimit, rasLimitsUnrecLimit]⟩,
   ⟨0x108, [], false, [rasStatFatalPending, rasStatFatalSafe, rasStatRetiredN]⟩,
   ⟨0x10C, [], false, [rasFaultSecSec]⟩,
   ⟨0x110, [], false, [rasWdogCtrlEn, rasWdogCtrlKick, rasWdogCtrlPeriodMs]⟩,
   ⟨0x114, [], false, [rasWdogStatWarned, rasWdogStatExpired]⟩,
   ⟨0x200, [(16, 48)], false, [(rasChannelStateState 0), (rasChannelStateCondBound 0), (rasChannelStateRetry 0), (rasChannelStateRec24h 0), (rasChannelStateUnrec24h 0)]⟩,
   ⟨0x204, [(16, 48)], false, [(rasChannelTotalsRecovered 0), (rasChannelTotalsUnrecovered 0)]⟩,
   ⟨0x208, [(16, 48)], false, [(rasChannelLastCause 0), (rasChannelLastBin 0), (rasChannelLastStale 0), (rasChannelLastInjected 0)]⟩,
   ⟨0x20C, [(16, 48)], false, [(rasChannelCtrlRetire 0), (rasChannelCtrlCondDone 0), (rasChannelCtrlClear 0), (rasChannelCtrlPreload 0), (rasChannelCtrlPreloadRec 0), (rasChannelCtrlPreloadUnrec 0)]⟩]

/-- The registers of Table 15.14 on the W-die. -/
def rowsRasOnWdie : List Row :=
  [⟨0x100, [], false, [rasCfgRetry0Ms, rasCfgRetry1Ms, rasCfgRetry2Ms, rasCfgWindowH]⟩,
   ⟨0x104, [], false, [rasLimitsRecLimit, rasLimitsUnrecLimit]⟩,
   ⟨0x108, [], false, [rasStatFatalPending, rasStatFatalSafe, rasStatRetiredN]⟩,
   ⟨0x10C, [], false, [rasFaultSecSec]⟩,
   ⟨0x110, [], false, [rasWdogCtrlEn, rasWdogCtrlKick, rasWdogCtrlPeriodMs]⟩,
   ⟨0x114, [], false, [rasWdogStatWarned, rasWdogStatExpired]⟩,
   ⟨0x200, [(16, 48)], false, [(rasChannelStateState 0), (rasChannelStateCondBound 0), (rasChannelStateRetry 0), (rasChannelStateRec24h 0), (rasChannelStateUnrec24h 0)]⟩,
   ⟨0x204, [(16, 48)], false, [(rasChannelTotalsRecovered 0), (rasChannelTotalsUnrecovered 0)]⟩,
   ⟨0x208, [(16, 48)], false, [(rasChannelLastCause 0), (rasChannelLastBin 0), (rasChannelLastStale 0), (rasChannelLastInjected 0)]⟩,
   ⟨0x20C, [(16, 48)], false, [(rasChannelCtrlRetire 0), (rasChannelCtrlCondDone 0), (rasChannelCtrlClear 0), (rasChannelCtrlPreload 0), (rasChannelCtrlPreloadRec 0), (rasChannelCtrlPreloadUnrec 0)]⟩]

/-- Table 15.15: SEQ [31:0] NEXT. -/
def evrSeqNext : Fld := fld .evr 0x100 0 32 .ro (.c 0)

/-- Table 15.15: CTRL [0] CLEAR. -/
def evrCtrlClear : Fld := fld .evr 0x104 0 1 .w1s (.c 0)

/-- Table 15.15: CTRL [2:1] SCOPE. -/
def evrCtrlScope : Fld := fld .evr 0x104 1 2 .rw (.c 0)

/-- Table 15.15: RING_BASE [63:0] ADDR. -/
def evrRingBaseAddr : Fld := fld .evr 0x108 0 64 .rw (.c 0)

/-- Table 15.15: HEAD [24:0] IDX. -/
def evrHeadIdx : Fld := fld .evr 0x110 0 25 .ro (.c 0)

/-- Table 15.15: TAIL [24:0] IDX. -/
def evrTailIdx : Fld := fld .evr 0x114 0 25 .rw (.c 0)

/-- Table 15.15: MAP_SEL [9:0] IDX. -/
def evrMapSelIdx : Fld := fld .evr 0x118 0 10 .rw (.c 0)

/-- Table 15.15: MAP_DATA [9:0] BUCKET. -/
def evrMapDataBucket : Fld := fld .evr 0x11C 0 10 .rw (.c 0)

/-- Table 15.15: BKT_SEL [9:0] IDX. -/
def evrBktSelIdx : Fld := fld .evr 0x120 0 10 .rw (.c 0)

/-- Table 15.15: BKT_CFG [15:0] RATE. -/
def evrBktCfgRate : Fld := fld .evr 0x124 0 16 .rw (.c 0x64)

/-- Table 15.15: BKT_CFG [31:16] BURST. -/
def evrBktCfgBurst : Fld := fld .evr 0x124 16 16 .rw (.c 0x40)

/-- Table 15.15: BKT_SUPP [31:0] COUNT. -/
def evrBktSuppCount : Fld := fld .evr 0x128 0 32 .ro (.c 0)

/-- Table 15.15: WRITTEN [31:0] COUNT. -/
def evrWrittenCount : Fld := fld .evr 0x130 0 32 .rc (.c 0)

/-- Table 15.15: SUPPRESSED [31:0] COUNT. -/
def evrSuppressedCount : Fld := fld .evr 0x134 0 32 .rc (.c 0)

/-- Table 15.15: ERRS [15:0] CRC_ERR. -/
def evrErrsCrcErr : Fld := fld .evr 0x138 0 16 .rc (.c 0)

/-- Table 15.15: ERRS [31:16] OVERWRITTEN. -/
def evrErrsOverwritten : Fld := fld .evr 0x138 16 16 .rc (.c 0)

/-- Table 15.15: RD_INDEX [12:0] IDX. -/
def evrRdIndexIdx : Fld := fld .evr 0x140 0 13 .rw (.c 0)

/-- Table 15.15: RD_DATA0–7 [31:0] DATA. -/
def evrRdDataData (k : Nat) : Fld := (fld .evr 0x160 0 32 .ro (.c 0)) |>.at 4 k

/-- The registers of Table 15.15 on the IKB. -/
def rowsEvrOnIkb : List Row :=
  [⟨0x100, [], false, [evrSeqNext]⟩,
   ⟨0x104, [], false, [evrCtrlClear, evrCtrlScope]⟩,
   ⟨0x110, [], false, [evrHeadIdx]⟩,
   ⟨0x118, [], false, [evrMapSelIdx]⟩,
   ⟨0x11C, [], false, [evrMapDataBucket]⟩,
   ⟨0x120, [], false, [evrBktSelIdx]⟩,
   ⟨0x124, [], false, [evrBktCfgRate, evrBktCfgBurst]⟩,
   ⟨0x128, [], false, [evrBktSuppCount]⟩,
   ⟨0x130, [], false, [evrWrittenCount]⟩,
   ⟨0x134, [], false, [evrSuppressedCount]⟩,
   ⟨0x140, [], false, [evrRdIndexIdx]⟩,
   ⟨0x160, [(4, 8)], false, [(evrRdDataData 0)]⟩]

/-- The registers of Table 15.15 on the W-die. -/
def rowsEvrOnWdie : List Row :=
  [⟨0x100, [], false, [evrSeqNext]⟩,
   ⟨0x104, [], false, [evrCtrlClear, evrCtrlScope]⟩,
   ⟨0x108, [], true, [evrRingBaseAddr]⟩,
   ⟨0x110, [], false, [evrHeadIdx]⟩,
   ⟨0x114, [], false, [evrTailIdx]⟩,
   ⟨0x118, [], false, [evrMapSelIdx]⟩,
   ⟨0x11C, [], false, [evrMapDataBucket]⟩,
   ⟨0x120, [], false, [evrBktSelIdx]⟩,
   ⟨0x124, [], false, [evrBktCfgRate, evrBktCfgBurst]⟩,
   ⟨0x128, [], false, [evrBktSuppCount]⟩,
   ⟨0x130, [], false, [evrWrittenCount]⟩,
   ⟨0x134, [], false, [evrSuppressedCount]⟩] ++
  [⟨0x138, [], false, [evrErrsCrcErr, evrErrsOverwritten]⟩]

/-- Table 15.16: CTRL [0] COMMIT_NOW. -/
def bbxCtrlCommitNow : Fld := fld .bbx 0x100 0 1 .w1s (.c 0)

/-- Table 15.16: CTRL [1] FLUSH. -/
def bbxCtrlFlush : Fld := fld .bbx 0x100 1 1 .w1s (.c 0)

/-- Table 15.16: CTRL [7:4] TRIG_EN. -/
def bbxCtrlTrigEn : Fld := fld .bbx 0x100 4 4 .rwl (.c 0xF)

/-- Table 15.16: CTRL [31:16] FLUSH_MS. -/
def bbxCtrlFlushMs : Fld := fld .bbx 0x100 16 16 .rw (.c 0xA)

/-- Table 15.16: STAT [0] LG_READY. -/
def bbxStatLgReady : Fld := fld .bbx 0x104 0 1 .ro (.c 0)

/-- Table 15.16: STAT [1] LG_BUSY. -/
def bbxStatLgBusy : Fld := fld .bbx 0x104 1 1 .ro (.c 0)

/-- Table 15.16: STAT [2] EV_READY. -/
def bbxStatEvReady : Fld := fld .bbx 0x104 2 1 .ro (.c 0)

/-- Table 15.16: STAT [3] NOR_OK. -/
def bbxStatNorOk : Fld := fld .bbx 0x104 3 1 .ro (.c 0)

/-- Table 15.16: STAT [7:4] LAST_CAUSE. -/
def bbxStatLastCause : Fld := fld .bbx 0x104 4 4 .ro (.c 0)

/-- Table 15.16: WR_PTR [10:0] BLOCK. -/
def bbxWrPtrBlock : Fld := fld .bbx 0x108 0 11 .ro (.c 0)

/-- Table 15.16: WR_PTR [18:11] PAGE. -/
def bbxWrPtrPage : Fld := fld .bbx 0x108 11 8 .ro (.c 0)

/-- Table 15.16: LG_COUNT [15:0] COMMITTED. -/
def bbxLgCountCommitted : Fld := fld .bbx 0x10C 0 16 .rc (.c 0)

/-- Table 15.16: LG_COUNT [31:16] SKIPPED. -/
def bbxLgCountSkipped : Fld := fld .bbx 0x10C 16 16 .rc (.c 0)

/-- Table 15.16: OVERRUN [31:0] COUNT. -/
def bbxOverrunCount : Fld := fld .bbx 0x110 0 32 .rc (.c 0)

/-- Table 15.16: LG_LAST [10:0] BLOCK. -/
def bbxLgLastBlock : Fld := fld .bbx 0x114 0 11 .ro (.c 0)

/-- The registers of Table 15.16. -/
def rowsBbx : List Row :=
  [⟨0x100, [], false, [bbxCtrlCommitNow, bbxCtrlFlush, bbxCtrlTrigEn, bbxCtrlFlushMs]⟩,
   ⟨0x104, [], false, [bbxStatLgReady, bbxStatLgBusy, bbxStatEvReady, bbxStatNorOk, bbxStatLastCause]⟩,
   ⟨0x108, [], false, [bbxWrPtrBlock, bbxWrPtrPage]⟩,
   ⟨0x10C, [], false, [bbxLgCountCommitted, bbxLgCountSkipped]⟩,
   ⟨0x110, [], false, [bbxOverrunCount]⟩,
   ⟨0x114, [], false, [bbxLgLastBlock]⟩]

/-- Table 15.17: STAT [0] PRESENT. -/
def nvmStatPresent : Fld := fld .nvm 0x100 0 1 .ro (.c 0)

/-- Table 15.17: STAT [1] BUSY. -/
def nvmStatBusy : Fld := fld .nvm 0x100 1 1 .ro (.c 0)

/-- Table 15.17: STAT [2] MAP_VALID. -/
def nvmStatMapValid : Fld := fld .nvm 0x100 2 1 .ro (.c 0)

/-- Table 15.17: STAT [3] MAP_COPY. -/
def nvmStatMapCopy : Fld := fld .nvm 0x100 3 1 .ro (.c 0)

/-- Table 15.17: STAT [4] RESERVE_LOW. -/
def nvmStatReserveLow : Fld := fld .nvm 0x100 4 1 .ro (.c 0)

/-- Table 15.17: BLOCKS [9:0] SPARE. -/
def nvmBlocksSpare : Fld := fld .nvm 0x104 0 10 .ro (.c 0)

/-- Table 15.17: BLOCKS [25:16] WITHDRAWN. -/
def nvmBlocksWithdrawn : Fld := fld .nvm 0x104 16 10 .ro (.c 0)

/-- Table 15.17: ERASE_MAX [16:0] COUNT. -/
def nvmEraseMaxCount : Fld := fld .nvm 0x108 0 17 .ro (.c 0)

/-- Table 15.17: ERASE_MIN [16:0] COUNT. -/
def nvmEraseMinCount : Fld := fld .nvm 0x10C 0 17 .ro (.c 0)

/-- Table 15.17: CMD [1:0] OP. -/
def nvmCmdOp : Fld := fld .nvm 0x110 0 2 .rw (.c 0)

/-- Table 15.17: CMD [2] GO. -/
def nvmCmdGo : Fld := fld .nvm 0x110 2 1 .w1s (.c 0)

/-- Table 15.17: CMD [3] BUSY. -/
def nvmCmdBusy : Fld := fld .nvm 0x110 3 1 .ro (.c 0)

/-- Table 15.17: CMD [6:4] RESULT. -/
def nvmCmdResult : Fld := fld .nvm 0x110 4 3 .ro (.c 0)

/-- Table 15.17: ADDR [27:0] ADDR. -/
def nvmAddrAddr : Fld := fld .nvm 0x114 0 28 .rw (.c 0)

/-- Table 15.17: LEN [24:0] BYTES. -/
def nvmLenBytes : Fld := fld .nvm 0x118 0 25 .rw (.c 0)

/-- Table 15.17: BUF [63:0] ADDR. -/
def nvmBufAddr : Fld := fld .nvm 0x120 0 64 .rw (.c 0)

/-- Table 15.17: CFG [15:0] STATIC_DIFF. -/
def nvmCfgStaticDiff : Fld := fld .nvm 0x128 0 16 .rw (.c 0x7D0)

/-- Table 15.17: CFG [23:16] RESERVE_LOW. -/
def nvmCfgReserveLow : Fld := fld .nvm 0x128 16 8 .rw (.c 0x10)

/-- The registers of Table 15.17. -/
def rowsNvm : List Row :=
  [⟨0x100, [], false, [nvmStatPresent, nvmStatBusy, nvmStatMapValid, nvmStatMapCopy, nvmStatReserveLow]⟩,
   ⟨0x104, [], false, [nvmBlocksSpare, nvmBlocksWithdrawn]⟩,
   ⟨0x108, [], false, [nvmEraseMaxCount]⟩,
   ⟨0x10C, [], false, [nvmEraseMinCount]⟩,
   ⟨0x110, [], false, [nvmCmdOp, nvmCmdGo, nvmCmdBusy, nvmCmdResult]⟩,
   ⟨0x114, [], false, [nvmAddrAddr]⟩,
   ⟨0x118, [], false, [nvmLenBytes]⟩,
   ⟨0x120, [], true, [nvmBufAddr]⟩,
   ⟨0x128, [], false, [nvmCfgStaticDiff, nvmCfgReserveLow]⟩]

/-- Table 16.4: SEND_PTR [63:0] PTR. -/
def mboxSendPtrPtr : Fld := fld .mbox 0x100 0 64 .rw (.c 0)

/-- Table 16.4: SEND_TAG [31:0] TAG. -/
def mboxSendTagTag : Fld := fld .mbox 0x108 0 32 .rw (.c 0)

/-- Table 16.4: SEND_GO [4:0] MBOX. -/
def mboxSendGoMbox : Fld := fld .mbox 0x10C 0 5 .wo (.c 0)

/-- Table 16.4: DROPS [15:0] FULL. -/
def mboxDropsFull : Fld := fld .mbox 0x110 0 16 .rc (.c 0) .sat

/-- Table 16.4: DROPS [31:16] CORE_OFF. -/
def mboxDropsCoreOff : Fld := fld .mbox 0x110 16 16 .rc (.c 0) .sat

/-- Table 16.4: CFG [2:0] RX. -/
def mboxMboxCfgRx (m : Nat) : Fld := (fld .mbox 0x200 0 3 .rwl (.c 0)) |>.at 16 m

/-- Table 16.4: CFG [3] POP. -/
def mboxMboxCfgPop (m : Nat) : Fld := (fld .mbox 0x200 3 1 .w1s (.c 0)) |>.at 16 m

/-- Table 16.4: CFG [7:4] COUNT. -/
def mboxMboxCfgCount (m : Nat) : Fld := (fld .mbox 0x200 4 4 .ro (.c 0)) |>.at 16 m

/-- Table 16.4: CFG [31:16] RX_SENDER. -/
def mboxMboxCfgRxSender (m : Nat) : Fld := (fld .mbox 0x200 16 16 .ro (.c 0)) |>.at 16 m

/-- Table 16.4: RX_TAG [31:0] TAG. -/
def mboxMboxRxTagTag (m : Nat) : Fld := (fld .mbox 0x204 0 32 .ro (.c 0)) |>.at 16 m

/-- Table 16.4: RX_PTR [63:0] PTR. -/
def mboxMboxRxPtrPtr (m : Nat) : Fld := (fld .mbox 0x208 0 64 .ro (.c 0)) |>.at 16 m

/-- The registers of Table 16.4 on the IKB. -/
def rowsMboxOnIkb : List Row :=
  [⟨0x100, [], true, [mboxSendPtrPtr]⟩,
   ⟨0x108, [], false, [mboxSendTagTag]⟩,
   ⟨0x10C, [], false, [mboxSendGoMbox]⟩,
   ⟨0x110, [], false, [mboxDropsFull, mboxDropsCoreOff]⟩,
   ⟨0x200, [(16, 16)], false, [(mboxMboxCfgRx 0), (mboxMboxCfgPop 0), (mboxMboxCfgCount 0), (mboxMboxCfgRxSender 0)]⟩,
   ⟨0x204, [(16, 16)], false, [(mboxMboxRxTagTag 0)]⟩,
   ⟨0x208, [(16, 16)], true, [(mboxMboxRxPtrPtr 0)]⟩]

/-- The registers of Table 16.4 on the W-die. -/
def rowsMboxOnWdie : List Row :=
  [⟨0x100, [], true, [mboxSendPtrPtr]⟩,
   ⟨0x108, [], false, [mboxSendTagTag]⟩,
   ⟨0x10C, [], false, [mboxSendGoMbox]⟩,
   ⟨0x110, [], false, [mboxDropsFull, mboxDropsCoreOff]⟩,
   ⟨0x200, [(16, 32)], false, [(mboxMboxCfgRx 0), (mboxMboxCfgPop 0), (mboxMboxCfgCount 0), (mboxMboxCfgRxSender 0)]⟩,
   ⟨0x204, [(16, 32)], false, [(mboxMboxRxTagTag 0)]⟩,
   ⟨0x208, [(16, 32)], true, [(mboxMboxRxPtrPtr 0)]⟩]

/-- Table 16.7: STAT [0] CLEAR. -/
def authStatClear : Fld := fld .auth 0x100 0 1 .ro (.c 0)

/-- Table 16.7: STAT [1] UPDATE. -/
def authStatUpdate : Fld := fld .auth 0x100 1 1 .ro (.c 0)

/-- Table 16.7: STAT [2] PRISM. -/
def authStatPrism : Fld := fld .auth 0x100 2 1 .ro (.c 0)

/-- Table 16.7: STAT [3] BUSY. -/
def authStatBusy : Fld := fld .auth 0x100 3 1 .ro (.c 0)

/-- Table 16.7: STAT [6:4] VERIFY_RESULT. -/
def authStatVerifyResult : Fld := fld .auth 0x100 4 3 .ro (.c 0)

/-- Table 16.7: STAT [10:8] TOKEN_RESULT. -/
def authStatTokenResult : Fld := fld .auth 0x100 8 3 .ro (.c 0)

/-- Table 16.7: CMD [0] SUBMIT. -/
def authCmdSubmit : Fld := fld .auth 0x104 0 1 .w1s (.c 0)

/-- Table 16.7: CMD [1] VERIFY. -/
def authCmdVerify : Fld := fld .auth 0x104 1 1 .w1s (.c 0)

/-- Table 16.7: CMD [2] REVOKE. -/
def authCmdRevoke : Fld := fld .auth 0x104 2 1 .w1s (.c 0)

/-- Table 16.7: NONCE [63:0] NONCE. -/
def authNonceNonce : Fld := fld .auth 0x108 0 64 .ro (.c 0)

/-- Table 16.7: IDENTITY [63:0] ID. -/
def authIdentityId : Fld := fld .auth 0x110 0 64 .ro (.fixed 1)

/-- Table 16.7: MIN_SVN [15:0] SVN. -/
def authMinSvnSvn : Fld := fld .auth 0x118 0 16 .ro (.fixed 0)

/-- Table 16.7: LEFT_CLEAR [31:0] S. -/
def authLeftClearS : Fld := fld .auth 0x11C 0 32 .ro (.c 0)

/-- Table 16.7: LEFT_UPDATE [31:0] S. -/
def authLeftUpdateS : Fld := fld .auth 0x120 0 32 .ro (.c 0)

/-- Table 16.7: LEFT_PRISM [31:0] S. -/
def authLeftPrismS : Fld := fld .auth 0x124 0 32 .ro (.c 0)

/-- Table 16.7: LAST_TOKEN [63:0] ID. -/
def authLastTokenId : Fld := fld .auth 0x128 0 64 .ro (.c 0)

/-- Table 16.7: TOKEN0–59 [31:0] DATA. -/
def authTokenData (k : Nat) : Fld := (fld .auth 0x200 0 32 .rw (.c 0)) |>.at 4 k

/-- The registers of Table 16.7 on the IKB. -/
def rowsAuthOnIkb : List Row :=
  [⟨0x100, [], false, [authStatClear, authStatUpdate, authStatPrism, authStatBusy, authStatVerifyResult, authStatTokenResult]⟩,
   ⟨0x104, [], false, [authCmdSubmit, authCmdVerify, authCmdRevoke]⟩,
   ⟨0x108, [], true, [authNonceNonce]⟩,
   ⟨0x110, [], true, [authIdentityId]⟩,
   ⟨0x118, [], false, [authMinSvnSvn]⟩,
   ⟨0x11C, [], false, [authLeftClearS]⟩,
   ⟨0x120, [], false, [authLeftUpdateS]⟩,
   ⟨0x124, [], false, [authLeftPrismS]⟩,
   ⟨0x128, [], true, [authLastTokenId]⟩,
   ⟨0x200, [(4, 60)], false, [(authTokenData 0)]⟩]

/-- The registers of Table 16.7 on the W-die. -/
def rowsAuthOnWdie : List Row :=
  [⟨0x100, [], false, [authStatClear, authStatUpdate, authStatPrism, authStatBusy, authStatVerifyResult, authStatTokenResult]⟩,
   ⟨0x104, [], false, [authCmdSubmit, authCmdVerify, authCmdRevoke]⟩,
   ⟨0x108, [], true, [authNonceNonce]⟩,
   ⟨0x110, [], true, [authIdentityId]⟩,
   ⟨0x118, [], false, [authMinSvnSvn]⟩,
   ⟨0x11C, [], false, [authLeftClearS]⟩,
   ⟨0x120, [], false, [authLeftUpdateS]⟩,
   ⟨0x124, [], false, [authLeftPrismS]⟩,
   ⟨0x128, [], true, [authLastTokenId]⟩,
   ⟨0x200, [(4, 60)], false, [(authTokenData 0)]⟩]

/-- Table 16.13: IMG_CUR [63:0] ADDR. -/
def coreImgCurAddr : Fld := fld .core 0x100 0 64 .ro (.c 0)

/-- Table 16.13: IMG_NEXT [63:0] ADDR. -/
def coreImgNextAddr : Fld := fld .core 0x108 0 64 .rw (.c 0)

/-- Table 16.13: CUR_INFO [15:0] IFACE. -/
def coreCurInfoIface : Fld := fld .core 0x110 0 16 .ro (.c 0)

/-- Table 16.13: CUR_INFO [31:16] COMPAT_MIN. -/
def coreCurInfoCompatMin : Fld := fld .core 0x110 16 16 .ro (.c 0)

/-- Table 16.13: NEXT_INFO [15:0] IFACE. -/
def coreNextInfoIface : Fld := fld .core 0x114 0 16 .ro (.c 0)

/-- Table 16.13: NEXT_INFO [31:16] COMPAT_MIN. -/
def coreNextInfoCompatMin : Fld := fld .core 0x114 16 16 .ro (.c 0)

/-- Table 16.13: NEXT_STAT [0] VERIFIED. -/
def coreNextStatVerified : Fld := fld .core 0x118 0 1 .ro (.c 0)

/-- Table 16.13: NEXT_STAT [1] PROMOTE. -/
def coreNextStatPromote : Fld := fld .core 0x118 1 1 .w1s (.c 0)

/-- Table 16.13: BG_CFG [7:0] BG_PCT. -/
def coreBgCfgBgPct : Fld := fld .core 0x11C 0 8 .rw (.c 5)

/-- Table 16.13: MEM_ADDR [31:0] ADDR. -/
def coreMemAddrAddr : Fld := fld .core 0x120 0 32 .rw (.c 0)

/-- Table 16.13: MEM_DATA [31:0] DATA. -/
def coreMemDataData : Fld := fld .core 0x124 0 32 .rw (.c 0)

/-- Table 16.13: IKB_LOAD [0] BUF_VALID. -/
def coreIkbLoadBufValid : Fld := fld .core 0x128 0 1 .ro (.c 0)

/-- Table 16.13: IKB_LOAD [1] FW_LOADED. -/
def coreIkbLoadFwLoaded : Fld := fld .core 0x128 1 1 .ro (.c 0)

/-- Table 16.13: IKB_SCRUB [15:0] CORR. -/
def coreIkbScrubCorr : Fld := fld .core 0x12C 0 16 .rc (.c 0)

/-- Table 16.13: IKB_SCRUB [31:16] PARITY. -/
def coreIkbScrubParity : Fld := fld .core 0x12C 16 16 .rc (.c 0)

/-- Table 16.13: BG_RECAL [7:0] ADC. -/
def coreBgRecalAdc : Fld := fld .core 0x130 0 8 .w1s (.c 0)

/-- Table 16.13: CTRL [0] START. -/
def coreCoreCtrlStart (c : Nat) : Fld := (fld .core 0x200 0 1 .w1s (.c 0)) |>.at 64 c

/-- Table 16.13: CTRL [1] HALT. -/
def coreCoreCtrlHalt (c : Nat) : Fld := (fld .core 0x200 1 1 .w1s (.c 0)) |>.at 64 c

/-- Table 16.13: CTRL [2] POWER_OFF. -/
def coreCoreCtrlPowerOff (c : Nat) : Fld := (fld .core 0x200 2 1 .w1s (.c 0)) |>.at 64 c

/-- Table 16.13: CTRL [3] POWER_ON. -/
def coreCoreCtrlPowerOn (c : Nat) : Fld := (fld .core 0x200 3 1 .w1s (.c 0)) |>.at 64 c

/-- Table 16.13: CTRL [4] USE_NEXT. -/
def coreCoreCtrlUseNext (c : Nat) : Fld := (fld .core 0x200 4 1 .rw (.c 0)) |>.at 64 c

/-- Table 16.13: STAT [2:0] STATE. -/
def coreCoreStatState (c : Nat) : Fld := (fld .core 0x204 0 3 .ro (.romState)) |>.at 64 c

/-- Table 16.13: STAT [3] ROM. -/
def coreCoreStatRom (c : Nat) : Fld := (fld .core 0x204 3 1 .ro (.romFlag)) |>.at 64 c

/-- Table 16.13: STAT [31:16] IFACE. -/
def coreCoreStatIface (c : Nat) : Fld := (fld .core 0x204 16 16 .ro (.c 0)) |>.at 64 c

/-- Table 16.13: PC [31:0] PC. -/
def coreCorePcPc (c : Nat) : Fld := (fld .core 0x208 0 32 .ro (.c 0)) |>.at 64 c

/-- Table 16.13: CAUSE [2:0] CAUSE. -/
def coreCoreCauseCause (c : Nat) : Fld := (fld .core 0x20C 0 3 .ro (.c 0)) |>.at 64 c

/-- Table 16.13: IRQ_EN0–3 [31:0] EN. -/
def coreCoreIrqEnEn (c : Nat) (k : Nat) : Fld := (fld .core 0x210 0 32 .rw (.c 0)) |>.at 64 c |>.at 4 k

/-- Table 16.13: BUSY [31:0] CYCLES. -/
def coreCoreBusyCycles (c : Nat) : Fld := (fld .core 0x220 0 32 .rc (.c 0)) |>.at 64 c

/-- Table 16.13: BG [31:0] CYCLES. -/
def coreCoreBgCycles (c : Nat) : Fld := (fld .core 0x224 0 32 .rc (.c 0)) |>.at 64 c

/-- Table 16.13: BGCTL [0] BG_ACTIVE. -/
def coreCoreBgctlBgActive (c : Nat) : Fld := (fld .core 0x228 0 1 .rw (.c 0)) |>.at 64 c

/-- Table 16.13: BGCTL [1] BG_OVER. -/
def coreCoreBgctlBgOver (c : Nat) : Fld := (fld .core 0x228 1 1 .w1c (.c 0)) |>.at 64 c

/-- Table 16.13: COMPAT [15:0] COMPAT_MIN. -/
def coreCoreCompatCompatMin (c : Nat) : Fld := (fld .core 0x22C 0 16 .ro (.c 0)) |>.at 64 c

/-- The registers of Table 16.13 on the IKB. -/
def rowsCoreOnIkb : List Row :=
  [⟨0x110, [], false, [coreCurInfoIface, coreCurInfoCompatMin]⟩,
   ⟨0x114, [], false, [coreNextInfoIface, coreNextInfoCompatMin]⟩,
   ⟨0x11C, [], false, [coreBgCfgBgPct]⟩,
   ⟨0x120, [], false, [coreMemAddrAddr]⟩,
   ⟨0x124, [], false, [coreMemDataData]⟩,
   ⟨0x128, [], false, [coreIkbLoadBufValid, coreIkbLoadFwLoaded]⟩,
   ⟨0x12C, [], false, [coreIkbScrubCorr, coreIkbScrubParity]⟩,
   ⟨0x130, [], false, [coreBgRecalAdc]⟩,
   ⟨0x200, [(64, 2)], false, [(coreCoreCtrlStart 0), (coreCoreCtrlHalt 0), (coreCoreCtrlPowerOff 0), (coreCoreCtrlPowerOn 0), (coreCoreCtrlUseNext 0)]⟩,
   ⟨0x204, [(64, 2)], false, [(coreCoreStatState 0), (coreCoreStatRom 0), (coreCoreStatIface 0)]⟩,
   ⟨0x208, [(64, 2)], false, [(coreCorePcPc 0)]⟩,
   ⟨0x20C, [(64, 2)], false, [(coreCoreCauseCause 0)]⟩] ++
  [⟨0x210, [(64, 2), (4, 4)], false, [(coreCoreIrqEnEn 0 0)]⟩,
   ⟨0x220, [(64, 2)], false, [(coreCoreBusyCycles 0)]⟩,
   ⟨0x224, [(64, 2)], false, [(coreCoreBgCycles 0)]⟩,
   ⟨0x228, [(64, 2)], false, [(coreCoreBgctlBgActive 0), (coreCoreBgctlBgOver 0)]⟩,
   ⟨0x22C, [(64, 2)], false, [(coreCoreCompatCompatMin 0)]⟩]

/-- The registers of Table 16.13 on the W-die. -/
def rowsCoreOnWdie : List Row :=
  [⟨0x100, [], true, [coreImgCurAddr]⟩,
   ⟨0x108, [], true, [coreImgNextAddr]⟩,
   ⟨0x110, [], false, [coreCurInfoIface, coreCurInfoCompatMin]⟩,
   ⟨0x114, [], false, [coreNextInfoIface, coreNextInfoCompatMin]⟩,
   ⟨0x118, [], false, [coreNextStatVerified, coreNextStatPromote]⟩,
   ⟨0x11C, [], false, [coreBgCfgBgPct]⟩,
   ⟨0x120, [], false, [coreMemAddrAddr]⟩,
   ⟨0x124, [], false, [coreMemDataData]⟩,
   ⟨0x200, [(64, 4)], false, [(coreCoreCtrlStart 0), (coreCoreCtrlHalt 0), (coreCoreCtrlPowerOff 0), (coreCoreCtrlPowerOn 0), (coreCoreCtrlUseNext 0)]⟩,
   ⟨0x204, [(64, 4)], false, [(coreCoreStatState 0), (coreCoreStatRom 0), (coreCoreStatIface 0)]⟩,
   ⟨0x208, [(64, 4)], false, [(coreCorePcPc 0)]⟩,
   ⟨0x20C, [(64, 4)], false, [(coreCoreCauseCause 0)]⟩] ++
  [⟨0x210, [(64, 4), (4, 4)], false, [(coreCoreIrqEnEn 0 0)]⟩,
   ⟨0x220, [(64, 4)], false, [(coreCoreBusyCycles 0)]⟩,
   ⟨0x224, [(64, 4)], false, [(coreCoreBgCycles 0)]⟩,
   ⟨0x228, [(64, 4)], false, [(coreCoreBgctlBgActive 0), (coreCoreBgctlBgOver 0)]⟩,
   ⟨0x22C, [(64, 4)], false, [(coreCoreCompatCompatMin 0)]⟩]

/-- Table 16.14: CTRL [0] PATROL_EN. -/
def scrubCtrlPatrolEn : Fld := fld .scrub 0x100 0 1 .rw (.c 1)

/-- Table 16.14: CTRL [1] SRAM_EN. -/
def scrubCtrlSramEn : Fld := fld .scrub 0x100 1 1 .rw (.c 1)

/-- Table 16.14: PATROL [7:0] PERIOD_H. -/
def scrubPatrolPeriodH : Fld := fld .scrub 0x104 0 8 .rw (.c 0x18)

/-- Table 16.14: SRAM [15:0] PERIOD_S. -/
def scrubSramPeriodS : Fld := fld .scrub 0x108 0 16 .rw (.c 0xA)

/-- Table 16.14: PROGRESS [6:0] PCT. -/
def scrubProgressPct : Fld := fld .scrub 0x10C 0 7 .ro (.c 0)

/-- Table 16.14: PROGRESS [7] PAUSED. -/
def scrubProgressPaused : Fld := fld .scrub 0x10C 7 1 .ro (.c 0)

/-- Table 16.14: PROGRESS [8] OVERDUE. -/
def scrubProgressOverdue : Fld := fld .scrub 0x10C 8 1 .w1c (.c 0)

/-- Table 16.14: PATROL_CORR [31:0] COUNT. -/
def scrubPatrolCorrCount : Fld := fld .scrub 0x110 0 32 .rc (.c 0)

/-- Table 16.14: PATROL_UNCORR [15:0] LINES. -/
def scrubPatrolUncorrLines : Fld := fld .scrub 0x114 0 16 .rc (.c 0)

/-- Table 16.14: SRAM_ERR [15:0] CORR. -/
def scrubSramErrCorr : Fld := fld .scrub 0x118 0 16 .rc (.c 0)

/-- Table 16.14: SRAM_ERR [31:16] PARITY. -/
def scrubSramErrParity : Fld := fld .scrub 0x118 16 16 .rc (.c 0)

/-- Table 16.14: RECAL [7:0] CHANNEL. -/
def scrubRecalChannel : Fld := fld .scrub 0x11C 0 8 .w1s (.c 0)

/-- Table 16.14: SELF [15:0] PERIOD_MS. -/
def scrubSelfPeriodMs : Fld := fld .scrub 0x120 0 16 .rw (.c 0xA)

/-- The registers of Table 16.14. -/
def rowsScrub : List Row :=
  [⟨0x100, [], false, [scrubCtrlPatrolEn, scrubCtrlSramEn]⟩,
   ⟨0x104, [], false, [scrubPatrolPeriodH]⟩,
   ⟨0x108, [], false, [scrubSramPeriodS]⟩,
   ⟨0x10C, [], false, [scrubProgressPct, scrubProgressPaused, scrubProgressOverdue]⟩,
   ⟨0x110, [], false, [scrubPatrolCorrCount]⟩,
   ⟨0x114, [], false, [scrubPatrolUncorrLines]⟩,
   ⟨0x118, [], false, [scrubSramErrCorr, scrubSramErrParity]⟩,
   ⟨0x11C, [], false, [scrubRecalChannel]⟩,
   ⟨0x120, [], false, [scrubSelfPeriodMs]⟩]

/-- Table 17.14: LINK [0] UP. -/
def barLinkUp : Fld := fld .barrier 0x100 0 1 .ro (.c 0)

/-- Table 17.14: LINK [1] FW_RUN. -/
def barLinkFwRun : Fld := fld .barrier 0x100 1 1 .ro (.c 0)

/-- Table 17.14: LINK [2] FPENDING. -/
def barLinkFpending : Fld := fld .barrier 0x100 2 1 .ro (.c 0)

/-- Table 17.14: LINK [15:8] PROTO. -/
def barLinkProto : Fld := fld .barrier 0x100 8 8 .ro (.c 0)

/-- Table 17.14: DROPS [15:0] BAD. -/
def barDropsBad : Fld := fld .barrier 0x104 0 16 .rc (.c 0) .sat

/-- Table 17.14: DROPS [31:16] OUT_OF_SEQ. -/
def barDropsOutOfSeq : Fld := fld .barrier 0x104 16 16 .rc (.c 0) .sat

/-- Table 17.14: RESENT [31:0] COUNT. -/
def barResentCount : Fld := fld .barrier 0x108 0 32 .rc (.c 0)

/-- Table 17.14: FIELD_VER [31:0] VERSION. -/
def barFieldVerVersion : Fld := fld .barrier 0x10C 0 32 .ro (.c 0)

/-- Table 17.14: ALARM [15:0] STATE. -/
def barAlarmState : Fld := fld .barrier 0x110 0 16 .ro (.c 0)

/-- Table 17.14: ALARM [31:16] STUCK. -/
def barAlarmStuck : Fld := fld .barrier 0x110 16 16 .ro (.c 0)

/-- Table 17.14: BUS [0] BUS_LOW. -/
def barBusBusLow : Fld := fld .barrier 0x114 0 1 .ro (.c 0)

/-- Table 17.14: BUS [1] BUS_OV. -/
def barBusBusOv : Fld := fld .barrier 0x114 1 1 .ro (.c 0)

/-- Table 17.14: BUS [2] HS_FAULT. -/
def barBusHsFault : Fld := fld .barrier 0x114 2 1 .ro (.c 0)

/-- Table 17.14: BUS [3] HS_ON. -/
def barBusHsOn : Fld := fld .barrier 0x114 3 1 .ro (.c 0)

/-- Table 17.14: BUS [4] HS_PG. -/
def barBusHsPg : Fld := fld .barrier 0x114 4 1 .ro (.c 0)

/-- Table 17.14: CMD [2:0] OP. -/
def barCmdOp : Fld := fld .barrier 0x118 0 3 .rw (.c 0)

/-- Table 17.14: CMD [3] GO. -/
def barCmdGo : Fld := fld .barrier 0x118 3 1 .w1s (.c 0)

/-- Table 17.14: CMD [4] BUSY. -/
def barCmdBusy : Fld := fld .barrier 0x118 4 1 .ro (.c 0)

/-- Table 17.14: CMD [7:5] RESULT. -/
def barCmdResult : Fld := fld .barrier 0x118 5 3 .ro (.c 0)

/-- Table 17.14: CMD_ARG [31:0] ARG. -/
def barCmdArgArg : Fld := fld .barrier 0x11C 0 32 .rw (.c 0)

/-- Table 17.14: CMD_ARG2 [31:0] ARG2. -/
def barCmdArg2Arg2 : Fld := fld .barrier 0x120 0 32 .rw (.c 0)

/-- Table 17.14: CMD_BUF [63:0] ADDR. -/
def barCmdBufAddr : Fld := fld .barrier 0x124 0 64 .rw (.c 0)

/-- Table 17.14: SENSE0–7 [15:0] CODE. -/
def barSenseCode (k : Nat) : Fld := (fld .barrier 0x140 0 16 .ro (.c 0)) |>.at 4 k

/-- Table 17.14: SENSE0–7 [16] VALID. -/
def barSenseValid (k : Nat) : Fld := (fld .barrier 0x140 16 1 .ro (.c 0)) |>.at 4 k

/-- Table 17.14: SENSE8–15 [15:0] CODE. -/
def barSenseICode (k : Nat) : Fld := (fld .barrier 0x160 0 16 .ro (.c 0)) |>.at 4 k

/-- Table 17.14: SENSE8–15 [16] VALID. -/
def barSenseIValid (k : Nat) : Fld := (fld .barrier 0x160 16 1 .ro (.c 0)) |>.at 4 k

/-- Table 17.14: RTD0–7 [15:0] TEMP. -/
def barRtdTemp (k : Nat) : Fld := (fld .barrier 0x180 0 16 .ro (.c 0)) |>.at 4 k

/-- Table 17.14: RTD0–7 [16] OPEN. -/
def barRtdOpen (k : Nat) : Fld := (fld .barrier 0x180 16 1 .ro (.c 0)) |>.at 4 k

/-- Table 17.14: RTD0–7 [17] SHORT. -/
def barRtdShort (k : Nat) : Fld := (fld .barrier 0x180 17 1 .ro (.c 0)) |>.at 4 k

/-- Table 17.14: RTD0–7 [18] VALID. -/
def barRtdValid (k : Nat) : Fld := (fld .barrier 0x180 18 1 .ro (.c 0)) |>.at 4 k

/-- Table 17.14: FAN0–7 [15:0] RPM. -/
def barFanRpm (k : Nat) : Fld := (fld .barrier 0x1A0 0 16 .ro (.c 0)) |>.at 4 k

/-- Table 17.14: FAN0–7 [16] STALL. -/
def barFanStall (k : Nat) : Fld := (fld .barrier 0x1A0 16 1 .ro (.c 0)) |>.at 4 k

/-- Table 17.14: FAN0–7 [31:24] DUTY. -/
def barFanDuty (k : Nat) : Fld := (fld .barrier 0x1A0 24 8 .ro (.c 0x64)) |>.at 4 k

/-- Table 17.14: HS [15:0] VIN. -/
def barHsVin : Fld := fld .barrier 0x1C0 0 16 .ro (.c 0)

/-- Table 17.14: HS [31:16] IIN. -/
def barHsIin : Fld := fld .barrier 0x1C0 16 16 .ro (.c 0)

/-- Table 17.14: HS_TEMP [15:0] FET. -/
def barHsTempFet : Fld := fld .barrier 0x1C4 0 16 .ro (.c 0)

/-- Table 17.14: HS_TEMP [20:16] FAULTS. -/
def barHsTempFaults : Fld := fld .barrier 0x1C4 16 5 .ro (.c 0)

/-- Table 17.14: HS_TEMP [23:21] RETRIES. -/
def barHsTempRetries : Fld := fld .barrier 0x1C4 21 3 .ro (.c 0)

/-- Table 17.14: ALARM_CFG [7:0] DEBOUNCE_MS. -/
def barAlarmCfgDebounceMs (k : Nat) : Fld := (fld .barrier 0x200 0 8 .rw (.c 0xA)) |>.at 4 k

/-- Table 17.14: ALARM_CFG [8] EN. -/
def barAlarmCfgEn (k : Nat) : Fld := (fld .barrier 0x200 8 1 .rw (.c 0)) |>.at 4 k

/-- Table 17.14: ALARM_CFG [9] ACTIVE_LOW. -/
def barAlarmCfgActiveLow (k : Nat) : Fld := (fld .barrier 0x200 9 1 .rw (.c 0)) |>.at 4 k

/-- Table 17.14: ALARM_CFG [27:16] STUCK_S. -/
def barAlarmCfgStuckS (k : Nat) : Fld := (fld .barrier 0x200 16 12 .rw (.c 0x3C)) |>.at 4 k

/-- Table 17.14: ALARM_CNT [15:0] CHATTER. -/
def barAlarmCntChatter (k : Nat) : Fld := (fld .barrier 0x240 0 16 .rc (.c 0) .sat) |>.at 4 k

/-- Table 17.14: ALARM_CNT [31:16] CHATTER_LIM. -/
def barAlarmCntChatterLim (k : Nat) : Fld := (fld .barrier 0x240 16 16 .rw (.c 0x10)) |>.at 4 k

/-- Table 17.14: RTD_CFG [7:0] PT1000. -/
def barRtdCfgPt1000 : Fld := fld .barrier 0x280 0 8 .rw (.c 0xFF)

/-- Table 17.14: RTD_CFG [15:8] EN. -/
def barRtdCfgEn : Fld := fld .barrier 0x280 8 8 .rw (.c 0)

/-- Table 17.14: RTD_LIM [15:0] HIGH. -/
def barRtdLimHigh : Fld := fld .barrier 0x284 0 16 .rw (.c 0x1194)

/-- Table 17.14: FAN_CFG [1:0] PULSES. -/
def barFanCfgPulses : Fld := fld .barrier 0x288 0 2 .rw (.c 1)

/-- Table 17.14: FAN_CFG [15:8] FAILSAFE_DUTY. -/
def barFanCfgFailsafeDuty : Fld := fld .barrier 0x288 8 8 .rw (.c 0x64)

/-- Table 17.14: FAN_CFG [31:16] MIN_RPM. -/
def barFanCfgMinRpm : Fld := fld .barrier 0x288 16 16 .rw (.c 0x1F4)

/-- The registers of Table 17.14. -/
def rowsBar : List Row :=
  [⟨0x100, [], false, [barLinkUp, barLinkFwRun, barLinkFpending, barLinkProto]⟩,
   ⟨0x104, [], false, [barDropsBad, barDropsOutOfSeq]⟩,
   ⟨0x108, [], false, [barResentCount]⟩,
   ⟨0x10C, [], false, [barFieldVerVersion]⟩,
   ⟨0x110, [], false, [barAlarmState, barAlarmStuck]⟩,
   ⟨0x114, [], false, [barBusBusLow, barBusBusOv, barBusHsFault, barBusHsOn, barBusHsPg]⟩,
   ⟨0x118, [], false, [barCmdOp, barCmdGo, barCmdBusy, barCmdResult]⟩,
   ⟨0x11C, [], false, [barCmdArgArg]⟩,
   ⟨0x120, [], false, [barCmdArg2Arg2]⟩,
   ⟨0x124, [], true, [barCmdBufAddr]⟩,
   ⟨0x140, [(4, 8)], false, [(barSenseCode 0), (barSenseValid 0)]⟩,
   ⟨0x160, [(4, 8)], false, [(barSenseICode 0), (barSenseIValid 0)]⟩] ++
  [⟨0x180, [(4, 8)], false, [(barRtdTemp 0), (barRtdOpen 0), (barRtdShort 0), (barRtdValid 0)]⟩,
   ⟨0x1A0, [(4, 8)], false, [(barFanRpm 0), (barFanStall 0), (barFanDuty 0)]⟩,
   ⟨0x1C0, [], false, [barHsVin, barHsIin]⟩,
   ⟨0x1C4, [], false, [barHsTempFet, barHsTempFaults, barHsTempRetries]⟩,
   ⟨0x200, [(4, 16)], false, [(barAlarmCfgDebounceMs 0), (barAlarmCfgEn 0), (barAlarmCfgActiveLow 0), (barAlarmCfgStuckS 0)]⟩,
   ⟨0x240, [(4, 16)], false, [(barAlarmCntChatter 0), (barAlarmCntChatterLim 0)]⟩,
   ⟨0x280, [], false, [barRtdCfgPt1000, barRtdCfgEn]⟩,
   ⟨0x284, [], false, [barRtdLimHigh]⟩,
   ⟨0x288, [], false, [barFanCfgPulses, barFanCfgFailsafeDuty, barFanCfgMinRpm]⟩]

end Sys2Proof.Machine
end

