-- ==== Sys2Proof/Machine/Ops.lean ====
section
/-! DEFINITION. The named operations over registers, memory and the shared machinery of every page: counts,
interrupts, event records, error capture and escalation, the safe state, last gasps, channel faults, notices. -/

namespace Sys2Proof.Machine

/-! ## Registers and cells -/

/-- The value of a field. -/
def State.rd (s : State) (u : Chip) (f : Fld) : Nat := (look (f.key u) s.regs).getD (f.reset s.size u)

/-- Whether a one-bit field is 1. -/
def State.on (s : State) (u : Chip) (f : Fld) : Bool := s.rd u f != 0

/-- The field set to `v`, of which the field's width is kept. -/
def State.wr (s : State) (u : Chip) (f : Fld) (v : Nat) : State :=
  { s with regs := if v % 2 ^ f.w = f.reset s.size u then drop (f.key u) s.regs
                   else put (f.key u) (v % 2 ^ f.w) s.regs }

/-- A free value of `w` bits, and the state after its use. -/
def State.free (s : State) (w : Nat) : Nat × State :=
  (Config.freeValue s.freeCtr % 2 ^ w, { s with freeCtr := s.freeCtr + 1 })

/-- A count raised by `n`. Beyond its largest value it holds it, wraps, or takes a free value, as the field says. -/
def State.inc (s : State) (u : Chip) (f : Fld) (n : Nat := 1) : State :=
  if s.rd u f + n < 2 ^ f.w then s.wr u f (s.rd u f + n)
  else match f.ovf with
    | .sat => s.wr u f (2 ^ f.w - 1)
    | .wrap => s.wr u f ((s.rd u f + n) % 2 ^ f.w)
    | .free => (s.free f.w).2.wr u f (s.free f.w).1

/-- Bit `i` of a field set. -/
def State.setB (s : State) (u : Chip) (f : Fld) (i : Nat) : State := s.wr u f (setBit (s.rd u f) i)

/-- Bit `i` of a field cleared. -/
def State.clrB (s : State) (u : Chip) (f : Fld) (i : Nat) : State := s.wr u f (clrBit (s.rd u f) i)

/-- Whether bit `i` of a field is 1. -/
def State.bit (s : State) (u : Chip) (f : Fld) (i : Nat) : Bool := bitAt (s.rd u f) i = 1

/-- The frame `o` leaves a part. -/
def State.emit (s : State) (o : Out) : State := { s with out := o :: s.out }

/-- A command's effect: on everything but the queue, the package size and the time, which only a tick advances. -/
def State.keep (s t : State) : State := { t with pending := s.pending, size := s.size, now := s.now }
def keeping (s : State) (o : Out') : Out' :=
  match o with
  | .next t => .next (s.keep t)
  | o => o

/-- The effect of a command that stores nothing in package DRAM, NOR or MRAM: they stay too. (The event ring's records,
which lie in DRAM, are `State.evRing`.) -/
def State.keepStores (s t : State) : State := { s.keep t with dram := s.dram, nor := s.nor, mram := s.mram }
def storeless (s : State) (o : Out') : Out' :=
  match o with
  | .next t => .next (s.keepStores t)
  | o => o

/-- The response to requester `r`'s access in window `u`. -/
def State.respond (s : State) (u : Chip) (r : Nat) (err : Bool) (data : Nat) : State :=
  s.emit (.response u.code r err data)

/-- What an access by requester `r` of window `u` is answered: on PCIe a posted write has no answer, and an error is
counted (spec 02 R59). -/
def State.answer (s : State) (u : Chip) (r : Nat) (write err : Bool) (data : Nat) : State :=
  if u.isIkb || r != 0 then s.respond u r err data
  else if write then (if err then s.inc (.wdie 0) pcieErrsPosted else s)
  else if err then (s.inc (.wdie 0) pcieErrsAborts).respond u 0 true 0
  else s.respond u 0 false data

/-- The key of requester `r`'s latch and write buffer in window `u` (spec 02 R57, R58). Requesters of an IKB: 0 the
register port, 1 the LTL proxy, 2 and 3 its cores; of a W-die: 0 PCIe, 1 + k the W-die k, 9 + c its core c. -/
def reqKey (u : Chip) (r : Nat) : Nat := u.code * 64 + r

/-- The low word that requester `r` last wrote, when it was the low word of the register at `f` (spec 02 R58). -/
def State.heldLow (s : State) (u : Chip) (r : Nat) (f : Fld) : Option Nat :=
  match look (reqKey u r) s.buffers with
  | some (k, v) => if k = f.key u then some v else none
  | none => none

/-- A write by requester `r` discards the low word it held. -/
def State.dropLow (s : State) (u : Chip) (r : Nat) : State := { s with buffers := drop (reqKey u r) s.buffers }

/-- Every field and cell of block `b` in window `u` at an offset from `lo` to below `hi` back at its reset value. -/
def State.clearPage (s : State) (u : Chip) (b : Blk) (lo hi : Nat) : State :=
  { s with regs := dropRange (u.code * 4294967296 + (b.code * 65536 + lo) * 32)
                     (u.code * 4294967296 + (b.code * 65536 + hi) * 32) s.regs }

/-- One microsecond and one millisecond in the unit of `State.now`. -/
def us : Nat := 1000
def ms : Nat := 1000000
def sec : Nat := 1000000000

/-- The number of W-dies of the tray's package. -/
def State.dies (s : State) : Nat := s.size.dies

/-- The W-die that serves package LTL port `p`, and its link (spec 02 R70). -/
def dieOfPort (p : Nat) : Chip := .wdie (p / 8)
def linkOfPort (p : Nat) : Blk := .ltl (p % 8)

/-! ## Pages -/

/-- The page number of a block on a W-die (spec 02 Table 2.11). -/
def wdiePage : Blk → Nat
  | .top => 0x00 | .clk => 0x01 | .pwr => 0x02 | .therm => 0x03 | .time => 0x04 | .launch => 0x05
  | .mbox => 0x06 | .evr => 0x07 | .bbx => 0x08 | .ras => 0x09 | .nvm => 0x0A | .auth => 0x0B | .core => 0x0C
  | .ltl n => 0x10 + n % 8 | .prism => 0x18 | .dramc => 0x20 | .scrub => 0x21 | .ctx => 0x28 | .police => 0x29
  | .sched => 0x2A | .route => 0x2B | .codec => 0x30 | .merge => 0x38 | .feat => 0x40 | .lens => 0x41
  | .drift => 0x42 | .opt => 0x48 | .ports => 0x49 | .torus => 0x4A | .mirror => 0x4B | .d2d => 0x50
  | .pcie => 0x58 | .barrier => 0x60
  | _ => 0x7F

/-- The page number of a block in a window (spec 02 Tables 2.9 to 2.11). -/
def pageNo (u : Chip) (b : Blk) : Nat :=
  match u with
  | .ikb _ => b.code
  | .wdie _ => wdiePage b
  | .pkg => match b with
    | .pkgmode => 1
    | .pkgroute => 2
    | _ => 0

/-- BLK_CTRL.ENABLE of a page (spec 02 R51). -/
def State.enabled (s : State) (u : Chip) (b : Blk) : Bool := s.on u (hdrBlkCtrlEnable b)

/-- What a happening does to a block, which does nothing while its ENABLE is 0 (spec 02 R51). -/
def State.ifOn (s : State) (u : Chip) (b : Blk) (f : State → State) : State := if s.enabled u b then f s else s

/-- The block clock enable of a page (spec 04 R121); package pages have none. -/
def State.clocked (s : State) (u : Chip) (b : Blk) : Bool :=
  match u with
  | .ikb _ => s.bit u clkIBlkEnEn (pageNo u b)
  | .wdie _ => s.bit u (clkWBlkEnEn (pageNo u b / 32)) (pageNo u b % 32)
  | .pkg => true

/-! ## Interrupts -/

/-- INT_PEND of a page (spec 02 Table 2.1). -/
def State.intPend (s : State) (u : Chip) (b : Blk) : Nat :=
  (s.rd u (hdrIntRawSrc b) + 2147483648 * s.rd u (hdrIntRawErr b)) &&& s.rd u (hdrIntEnEn b)

/-- The pages of each window, for the interrupt views (spec 02 Tables 2.9 to 2.11). -/
def ikbBlks : List Blk :=
  [.top, .clk, .aon, .time, .launch, .cntcfg, .snap, .health, .gov, .optab, .abft, .watch, .trace, .xrx, .evr, .mbox,
   .core, .coder, .link, .prism, .auth, .ras]
def wdieBlks : List Blk :=
  [.top, .clk, .pwr, .therm, .time, .launch, .mbox, .evr, .bbx, .ras, .nvm, .auth, .core, .ltl 0, .ltl 1, .ltl 2,
   .ltl 3, .ltl 4, .ltl 5, .ltl 6, .ltl 7, .prism, .dramc, .scrub, .ctx, .police, .sched, .route, .codec, .merge,
   .feat, .lens, .drift, .opt, .ports, .torus, .mirror, .d2d, .pcie, .barrier]
def pkgBlks : List Blk := [.pkg, .pkgmode, .pkgroute]

/-- A page whose clock is gated contributes nothing (spec 02 R60). -/
def State.contributes (s : State) (u : Chip) (b : Blk) : Bool := s.clocked u b && s.intPend u b != 0

/-- The level of IKB_IRQ[n] (spec 02 R64): some page routed to the line has a pending source. -/
def State.irqLine (s : State) (p n : Nat) : Bool :=
  ikbBlks.any fun b => s.contributes (.ikb p) b &&
    (if b.code < 16 then s.rd (.ikb p) (topIIrqRoute0Line b.code)
     else s.rd (.ikb p) (topIIrqRoute1Line (b.code - 16))) == n

/-- The four IKB_IRQ levels as a number. -/
def State.irqLevels (s : State) (p : Nat) : Nat :=
  (if s.irqLine p 0 then 1 else 0) + (if s.irqLine p 1 then 2 else 0) +
  (if s.irqLine p 2 then 4 else 0) + (if s.irqLine p 3 then 8 else 0)

/-- The forwarded line levels that a W-die's LTL page holds (spec 02 R64). -/
def fwdLines (b : Blk) : Fld := cell b 0

/-- The MSI-X vector that a page is mapped to (spec 02 R65). -/
def State.vecOf (s : State) (u : Chip) (b : Blk) : Nat :=
  match u with
  | .wdie _ => s.rd u (topWVecMapVec (wdiePage b))
  | _ => s.rd .pkg (pkgVecMapVec (pageNo u b))

/-- The level of MSI-X vector `v` (spec 02 R65). -/
def State.vecLevel (s : State) (v : Nat) : Bool :=
  (pkgBlks.any fun b => s.contributes .pkg b && s.vecOf .pkg b == v) ||
  (List.range s.dies).any fun d =>
    (wdieBlks.any fun b => s.contributes (.wdie d) b && s.vecOf (.wdie d) b == v) ||
    (List.range 8).any fun n => (List.range 4).any fun l =>
      s.bit (.wdie d) (fwdLines (.ltl n)) l && s.rd (.wdie d) (ltlIrqVecVec (.ltl n) l) == v

/-- MSI-X enabled in the function (spec 02 R66). -/
def msixEnable : Fld := cell .pcie 0

/-- The mask bit of a vector in the MSI-X table: bit 0 of the entry's last word, 1 after reset (PCI Express). -/
def State.msixMasked (s : State) (v : Nat) : Bool := bitAt ((look (16 * v + 12) s.msixTable).getD 1) 0 = 1

/-- The event that sends a vector's message: sent, or kept in the PBA while masked (spec 02 R66). -/
def State.msixSend (s : State) (v : Nat) : State :=
  if s.on (.wdie 0) msixEnable && !s.msixMasked v then
    { s with pba := s.pba.erase v, out := .msix v :: s.out }
  else { s with pba := if s.pba.contains v then s.pba else v :: s.pba }

/-- A vector's message on a rise of its level from 0 to 1, its PBA bit cleared on a fall (spec 02 R66). -/
def State.vecEdge (s s0 : State) (v : Nat) : State :=
  if !s0.vecLevel v && s.vecLevel v then s.msixSend v
  else if !s.vecLevel v then { s with pba := s.pba.erase v }
  else s

/-- The vector of page `b` of a W-die or the package follows a change of the page's sources. -/
def State.vecFollow (s s0 : State) (u : Chip) (b : Blk) : State := s.vecEdge s0 (s.vecOf u b)

/-! ## Prism in the transmit path (spec 09 R284, R285) -/

/-- A rule's LFSR, its candidates since ARM, the end of its window, plus 1. -/
def prismLfsr (r : Nat) : Fld := cell .prism r
def prismCand (r : Nat) : Fld := cell .prism (16 + r)
def prismWinEnd (r : Nat) : Fld := cell .prism (32 + r)

/-- The number of rules of a part. -/
def ruleCount (u : Chip) : Nat := if u.isIkb then 4 else 16

/-- Whether rule `r` takes frames of class or queue `cls` on link or port `link` as candidates that it may select. -/
def State.ruleTakes (s : State) (u : Chip) (r link cls : Nat) : Bool :=
  s.enabled u .prism && s.on u prismStatAuth && s.on u (prismRuleArmArmed r) &&
  (u.isIkb || s.rd u (prismRuleCfgPort r) == link) && s.bit u (prismRuleCfgClassMask r) cls

/-- Whether rule `r` selects a candidate, as its count and its LFSR stand. -/
def State.ruleSelects (s : State) (u : Chip) (r : Nat) : Bool :=
  (s.rd u (prismRuleCfgWindow r) == 0 || s.on u (prismRuleArmWinOpen r)) &&
  (match s.rd u (prismRuleCfgSelect r) with
   | 0 => true
   | 1 => Config.prismHit (s.rd u (prismLfsr r)) (s.rd u (prismRuleCfgNLog r))
   | _ => (s.rd u (prismCand r) + 1) % s.rd u (prismRuleEveryNN r) == 0)

/-- One candidate counted, the LFSR advanced. -/
def State.ruleCount1 (s : State) (u : Chip) (r : Nat) : State :=
  (s.wr u (prismCand r) (s.rd u (prismCand r) + 1)).wr u (prismLfsr r) (Config.prismStep (s.rd u (prismLfsr r)))

/-- A selection by rule `r` noted: counted, its interrupt bit set; shadowed by a lower rule or not. -/
def State.ruleHit (s : State) (u : Chip) (r : Nat) (shadowed : Bool) : State :=
  let s1 := (s.inc u (prismRuleSelectedCount r)).setB u (hdrIntRawSrc .prism) r
  if shadowed then s1.inc u (prismRuleLossesShadowed r) else s1

/-- The rules meet a frame: the lowest that selects it, and the state after. -/
def State.prismPick (s : State) (u : Chip) (link cls : Nat) : State × Option Nat :=
  (List.range (ruleCount u)).foldl (fun a r =>
    if a.1.ruleTakes u r link cls then
      let t := a.1.ruleCount1 u r
      if a.1.ruleSelects u r then (t.ruleHit u r a.2.isSome, some (a.2.getD r)) else (t, a.2)
    else a) (s, none)

def State.heldOf (s : State) (u : Chip) : List HeldFrame := (look u.code s.prismHeld).getD []
def State.setHeld (s : State) (u : Chip) (l : List HeldFrame) : State :=
  { s with prismHeld := if l.isEmpty then drop u.code s.prismHeld else put u.code l s.prismHeld }

/-- A frame of a class or queue is sent: the held ones of it wait for one fewer, and those that wait for none follow. -/
def State.heldStep (s : State) (u : Chip) (link cls : Nat) : State :=
  let l := (s.heldOf u).map fun h => if h.link = link ∧ h.cls = cls then { h with left := h.left - 1 } else h
  (l.filter fun h => h.left == 0).foldl (fun t h => t.emit h.frame) (s.setHeld u (l.filter fun h => h.left != 0))

/-- A frame of `bytes` bytes leaves a part on link or port `link` in class or queue `cls` through Prism. -/
def State.prismOut (s : State) (u : Chip) (link cls bytes : Nat) (o : Out) : State :=
  match s.prismPick u link cls with
  | (s1, none) => (s1.emit o).heldStep u link cls
  | (s1, some r) =>
    match s.rd u (prismRuleCfgAction r) with
    | 1 => s1
    | 2 =>
      let pt := s.rd u (prismRuleCfgPoint r)
      let off := s.rd u (prismRuleWhereOffset r)
      if pt < 2 && bytes ≤ off then (s1.emit o).heldStep u link cls
      else
        (s1.emit (.harmed pt off (if pt = 2 then s.rd u (prismRuleWhereSymbols r) else 8)
          (if pt = 2 then s.rd u (prismRulePatternPat r) % 1024 else s.rd u (prismRulePatternPat r)) o)).heldStep u link cls
    | 3 => s1.setHeld u (s1.heldOf u ++ [⟨r, link, cls, s.rd u (prismRuleCfgHoldM r), s.now, o⟩])
    | _ => (s1.emit o).heldStep u link cls

/-! ## LTL transmission (spec 09 R270 to R275) -/

/-- At an end of a link, by class: flits sent, the peer's last freed total, flits freed, frames sent (FSEQ), the peer's
pool in force; frames whose arrival the sender of a training's HELLO told; what the end knows of a link-down or link-up
whose sequence has not run. -/
def txSent (b : Blk) (c : Nat) : Fld := cell b (8 + c)
def txFreed (b : Blk) (c : Nat) : Fld := cell b (16 + c)
def rxFreed (b : Blk) (c : Nat) : Fld := cell b (24 + c)
def txFseq (b : Blk) (c : Nat) : Fld := cell b (32 + c)
def txPool (b : Blk) (c : Nat) : Fld := cell b (40 + c)
def downDue (b : Blk) : Fld := cell b 48
def upDue (b : Blk) : Fld := cell b 49
def goodbyeSent (b : Blk) : Fld := cell b 50
def lowPower (b : Blk) : Fld := cell b 51

/-- The class of a frame type (Table 9.2). -/
def frameClass (ty : Nat) : Nat := ty / 16 % 8

/-- The bytes of a frame after its header, at a model's body of it. -/
def frameLen (ty : Nat) (body : List Nat) : Nat :=
  match ty with
  | 0x20 => 32
  | 0x30 => nth body 0
  | 0x50 => 48
  | 0x51 => nth body 0
  | 0x60 => 48 + nth body 10
  | 0x70 => 4 + nth body 1
  | 0x78 => nth body 0
  | _ => 16

/-- The flits of a frame with `n` bytes after its header. -/
def flitsOf (n : Nat) : Nat := ceilDiv (8 + n) 60

/-- The frame as it leaves an end. -/
def outFrame (u : Chip) (b : Blk) (f : TxFrame) (fseq : Nat) : Out :=
  match u with
  | .ikb p => .ltlUp p f.type fseq f.resent f.body
  | _ => .ltlDown (8 * (u.code % 8) + (b.code - 48) % 8) f.type fseq f.resent f.body

def txKey (u : Chip) (b : Blk) : Nat := u.code * 64 + b.code
def State.txWaiting (s : State) (u : Chip) (b : Blk) : List TxFrame := (look (txKey u b) s.txq).getD []
def State.setTx (s : State) (u : Chip) (b : Blk) (l : List TxFrame) : State :=
  { s with txq := if l.isEmpty then drop (txKey u b) s.txq else put (txKey u b) l s.txq }

/-- Whether a frame may start: credit for its flits, or for as many as the peer's whole pool holds (R274); CREDIT is
exempt. -/
def State.hasCredit (s : State) (u : Chip) (b : Blk) (f : TxFrame) : Bool :=
  let c := frameClass f.type
  let credit := (s.rd u (txPool b c) + s.rd u (txFreed b c) + 65536 - s.rd u (txSent b c)) % 65536
  f.type == 2 || (decide (min (flitsOf (frameLen f.type f.body)) (s.rd u (txPool b c)) ≤ credit) && decide (credit < 32768) &&
    decide (0 < credit))

/-- A frame sent: its FSEQ, its flits counted, through Prism. -/
def State.transmit (s : State) (u : Chip) (b : Blk) (f : TxFrame) : State :=
  let c := frameClass f.type
  let n := frameLen f.type f.body
  let q := s.rd u (txFseq b c)
  let s1 := s.wr u (txFseq b c) ((q + 1) % 65536)
  let s2 := if f.type = 2 then s1 else s1.wr u (txSent b c) ((s1.rd u (txSent b c) + flitsOf n) % 65536)
  let s3 := if f.type = 0x0E then s2.wr u (goodbyeSent b) (nth f.body 0 + 1) else s2
  (s3.wr u (lowPower b) 0).prismOut u ((b.code - 48) % 8) c (8 + n) (outFrame u b f q)

/-- The next frame to start: of the lowest class whose first frame has credit (R275). -/
def State.nextTx (s : State) (u : Chip) (b : Blk) : Option TxFrame :=
  let l := s.txWaiting u b
  ((List.range 8).filterMap fun c => l.find? fun f => frameClass f.type == c).find? fun f => s.hasCredit u b f

/-- Frames sent while one has credit. -/
def State.pump : Nat → Chip → Blk → State → State
  | 0, _, _, s => s
  | n + 1, u, b, s =>
    match s.nextTx u b with
    | none => s
    | some f => State.pump n u b ((s.setTx u b ((s.txWaiting u b).erase f)).transmit u b f)

/-- The bytes of classes 5 to 7 that wait in LINK's transmit buffer. -/
def State.txHeld (s : State) (u : Chip) (b : Blk) : Nat :=
  (((s.txWaiting u b).filter fun f => 5 ≤ frameClass f.type).map fun f => 8 + frameLen f.type f.body).sum

/-- Whether a frame of classes 5 to 7 finds room in the 64 KiB transmit buffer of LINK (R278). -/
def State.txRoom (s : State) (p ty : Nat) (body : List Nat) : Bool :=
  frameClass ty < 5 || decide (s.txHeld (.ikb p) .link + 8 + frameLen ty body ≤ 65536)

/-- A frame offered at an end that is up. -/
def State.offer (s : State) (u : Chip) (b : Blk) (f : TxFrame) : State :=
  let l := s.txWaiting u b ++ [f]
  State.pump l.length u b (s.setTx u b l)

/-- The forwarded IKB lines whose level changed are told in IRQ_STATE (spec 02 R64); a frame sent for it may raise the
PRISM page's line in turn, at most once per rule. -/
def State.irqFollow : Nat → Nat → Nat → State → State
  | 0, _, _, s => s
  | n + 1, lv, p, s =>
    let now := s.irqLevels p &&& s.rd (.ikb p) topIIrqFwdFwd
    if now = lv then s
    else if s.on (.ikb p) (ltlStatUp .link) then State.irqFollow n now p (s.offer (.ikb p) .link ⟨0x0C, false, [now]⟩)
    else s

/-- A frame sent by an IKB to its W-die, while the link is up; one of classes 5 to 7 that finds no room is discarded
and counted (R278). -/
def State.sendUpAs (s : State) (p ty : Nat) (resent : Bool) (body : List Nat) : State :=
  let u := Chip.ikb p
  if !s.on u (ltlStatUp .link) then s
  else if !s.txRoom p ty body then s.inc u (ltlClassDiscardCount .link (frameClass ty))
  else State.irqFollow 6 (s.irqLevels p &&& s.rd u topIIrqFwdFwd) p (s.offer u .link ⟨ty, resent, body⟩)

def State.sendUp (s : State) (p ty : Nat) (body : List Nat) : State := s.sendUpAs p ty false body

/-- A frame sent by the W-die to the IKB on package port `p`, while the link is up. -/
def State.sendDown (s : State) (p ty : Nat) (body : List Nat) : State :=
  let u := dieOfPort p
  if s.on u (ltlStatUp (linkOfPort p)) then (s.offer u (linkOfPort p) ⟨ty, false, body⟩).vecFollow s u .prism else s

/-- The run of uncorrectable codewords at an end; whether a W-die does not know its IKB's version. -/
def uncorrRun (b : Blk) : Fld := cell b 57
def verBad (b : Blk) : Fld := cell b 53

/-- The two ends of a link. -/
def endChip (p : Nat) (ikb : Bool) : Chip := if ikb then .ikb p else dieOfPort p
def endBlk (p : Nat) (ikb : Bool) : Blk := if ikb then .link else linkOfPort p

/-! ## Reception (R271, R273, R274, R279) -/

/-- The bookkeeping of a frame of `ty` and `len` bytes received: the run of bad codewords ended, its flits freed. -/
def State.received (s : State) (p : Nat) (ikb : Bool) (ty len : Nat) : State :=
  (s.wr (endChip p ikb) (uncorrRun (endBlk p ikb)) 0).wr (endChip p ikb) (rxFreed (endBlk p ikb) (frameClass ty))
    ((s.rd (endChip p ikb) (rxFreed (endBlk p ikb) (frameClass ty)) + flitsOf len) % 65536)

/-- A frame of `ty` received at an end that is up: its flits freed, the run of bad codewords ended, then its effect. A
W-die serves only CONTROL and PROXY of an IKB whose version it does not know. -/
def State.recv (s : State) (p : Nat) (ikb : Bool) (ty len : Nat) (act : State → State) : State :=
  let u := endChip p ikb
  let b := endBlk p ikb
  let c := frameClass ty
  if !s.on u (ltlStatUp b) then s
  else
    let s1 := s.received p ikb ty len
    if s.on u (verBad b) && c ≠ 0 && c ≠ 4 then s1.inc u (ltlRxErrRxBad b) else act s1

/-- After a change of the interrupt sources of window `u`, page `b`: the vector's message on a rise, the PBA bit on
a fall, and the IRQ_STATE frame when a forwarded IKB line changed (spec 02 R64, R66). -/
def State.intChanged (s s0 : State) (u : Chip) (b : Blk) : State :=
  match u with
  | .ikb p => State.irqFollow 6 (s0.irqLevels p &&& s0.rd u topIIrqFwdFwd) p s
  | _ => s.vecFollow s0 u b

/-- Interrupt source `i` of a page set (spec 02 R64). -/
def State.int (s : State) (u : Chip) (b : Blk) (i : Nat) : State :=
  (s.setB u (hdrIntRawSrc b) i).intChanged s u b

/-- INT_RAW.ERR of a page set (spec 02 R54). -/
def State.intErr (s : State) (u : Chip) (b : Blk) : State :=
  (s.wr u (hdrIntRawErr b) 1).intChanged s u b

/-! ## Modes -/

/-- The mode in force on a part (spec 04 R131). -/
def State.mode (s : State) (u : Chip) : Mode :=
  match u with
  | .ikb _ => Mode.ofCode (s.rd u aonModeCurMode)
  | .wdie _ => Mode.ofCode (s.rd u pwrStatMode)
  | .pkg => Mode.ofCode (s.rd .pkg pkgmCurMode)

/-! ## Event records (spec 15 R449 to R457) -/

/-- The bucket state of a part: map, rate, burst, tokens (in 10^-9 of a token) and their instant, suppressed count,
latest suppressed code, highest suppressed severity. -/
def evrMap (k : Nat) : Fld := (fld .evr 0x1000 0 10 .rw (.lin 0 1)) |>.at 4 k
def evrRate (k : Nat) : Fld := (fld .evr 0x2000 0 16 .rw (.c 0x64)) |>.at 4 k
def evrBurst (k : Nat) : Fld := (fld .evr 0x3000 0 16 .rw (.c 0x40)) |>.at 4 k
def evrTok (k : Nat) : Fld := (fld .evr 0x4000 0 64 .rw (.c 64000000000)) |>.at 4 k
def evrTokAt (k : Nat) : Fld := (fld .evr 0x5000 0 64 .rw (.c 0)) |>.at 4 k
def evrSupp (k : Nat) : Fld := (fld .evr 0x6000 0 32 .rw (.c 0)) |>.at 4 k
def evrSuppCode (k : Nat) : Fld := (fld .evr 0x7000 0 16 .rw (.c 0)) |>.at 4 k
def evrSuppSev (k : Nat) : Fld := (fld .evr 0x8000 0 2 .rw (.c 0)) |>.at 4 k

/-- The number of suppressed records of an IKB or W-die, its next ring slot to send, and the instant of the first
staged record. -/
def evrSent : Fld := cell .evr 0x2000
def evrFirstStaged : Fld := cell .evr 0x2001

/-- The record's bytes (spec 15 Table 15.4). -/
def evBody (r : EvRec) : List (BitVec 8) :=
  bytesLE 4 r.seq ++ bytesLE 2 r.code ++ bytesLE 1 r.page ++ bytesLE 1 (r.unit % 64 + 64 * (r.part % 4)) ++
  bytesLE 1 (r.sev % 4 + (if r.esc then 4 else 0) + (if r.inj then 8 else 0) + (if r.hw then 16 else 0)) ++
  bytesLE 3 0 ++ bytesLE 16 r.payload

/-- The 32 bytes of a record, CRC-32C last (spec 15 Table 15.4). -/
def evBytes (r : EvRec) : List (BitVec 8) := evBody r ++ bytesLE 4 (crc32c (evBody r)).toNat

/-- The bucket of a code (spec 15 R454). -/
def State.evBucket (s : State) (u : Chip) (code : Nat) : Nat := s.rd u (evrMap (code / 256 % 32 * 32 + code % 32))

/-- The tokens of a bucket now, in 10^-9 of a token (spec 15 R454). -/
def State.tokensNow (s : State) (u : Chip) (k : Nat) : Nat :=
  min (s.rd u (evrBurst k) * 1000000000) (s.rd u (evrTok k) + s.rd u (evrRate k) * (s.now - s.rd u (evrTokAt k)))

/-- The records that are never suppressed (spec 15 R454). -/
def neverSuppressed (code sev : Nat) : Bool :=
  sev == 3 || [0x0F02, 0x0F03, 0x0F08, 0x0F09, 0x0F0B, 0x0601, 0x0602].contains code

/-- A suppressed record counted in its bucket (spec 15 R454, R455). -/
def State.suppress (s : State) (u : Chip) (code sev : Nat) : State :=
  let k := s.evBucket u code
  (((s.inc u (evrSupp k)).wr u (evrSuppCode k) code).wr u (evrSuppSev k) (max (s.rd u (evrSuppSev k)) sev)).inc
    u evrSuppressedCount

/-- The key of a ring slot. -/
def ringKey (u : Chip) (i : Nat) : Nat := u.code * 33554432 + i

/-- The number of slots of a part's ring (spec 15 R456). -/
def ringSlots (u : Chip) : Nat := if u.isIkb then 8192 else 33554432

/-- A record copied to the black box at die 0 (spec 15 R460). -/
def bbxFirstAt : Fld := cell .bbx 0
def bbxOverSec : Fld := cell .bbx 1
def State.bbxCopy (s : State) (r : EvRec) : State :=
  if !s.on (.wdie 0) bbxStatNorOk || 64 ≤ s.bbxPages.length then
    (s.inc (.wdie 0) bbxOverrunCount).inc (.wdie 0) bbxOverSec
  else if s.bbxPartial.length = 7 then
    { s with bbxPages := s.bbxPages ++ [s.bbxPartial ++ [r]], bbxPartial := [] }
  else
    let s' := if s.bbxPartial.isEmpty then s.wr (.wdie 0) bbxFirstAt s.now else s
    { s' with bbxPartial := s'.bbxPartial ++ [r] }

/-- A record written into a part's ring at HEAD (spec 15 R456). -/
def State.ringWrite (s : State) (u : Chip) (r : EvRec) : State :=
  let h := s.rd u evrHeadIdx
  let h' := (h + 1) % ringSlots u
  let s1 := { s with evRing := put (ringKey u h) r s.evRing }
  let s2 := s1.wr u evrHeadIdx h'
  if !u.isIkb && h' = s.rd u evrTailIdx then
    (s2.wr u evrTailIdx ((h' + 1) % ringSlots u)).inc u evrErrsOverwritten
  else s2

/-- The staging buffer of a W-die (spec 04 R135). -/
def State.stagedOf (s : State) (u : Chip) : List EvRec := (look u.code s.staging).getD []
def State.setStaged (s : State) (u : Chip) (l : List EvRec) : State :=
  { s with staging := if l.isEmpty then drop u.code s.staging else put u.code l s.staging }

/-- The oldest record of severity 0 or 1 of a full buffer, or else the oldest, removed (spec 04 R135). -/
def dropOldestLow (l : List EvRec) : List EvRec :=
  match l.find? fun r => r.sev < 2 with
  | some r => l.erase r
  | none => l.tail

/-- A record staged in Midnight (spec 04 R135); the caller has suppressed those the buffer does not take. -/
def State.stage (s : State) (u : Chip) (r : EvRec) : State :=
  let l := s.stagedOf u
  let s0 := if l.isEmpty then s.wr u evrFirstStaged s.now else s
  if l.length < 256 then s0.setStaged u (l ++ [r])
  else (s0.setStaged u (dropOldestLow l ++ [r])).inc u evrErrsOverwritten

/-- Whether a W-die stages its records (Midnight, DRAM in self-refresh; spec 04 Table 4.13). -/
def State.stages (s : State) (u : Chip) : Bool :=
  !u.isIkb && s.mode u == .midnight

/-- A record with its number delivered to ring or staging buffer, WRITTEN, the interrupt and the black box. -/
def State.deliver (s : State) (u : Chip) (r : EvRec) : State :=
  let s1 := if s.stages u then s.stage u r else s.ringWrite u r
  let s2 := s1.inc u evrWrittenCount
  let s3 := if 2 ≤ r.sev then s2.int u .evr 0 else s2
  if 2 ≤ r.sev && !u.isIkb then s3.bbxCopy r else s3

/-- Whether a record of this severity finds no room in the Midnight buffer (spec 04 R135). -/
def State.stagingFull (s : State) (u : Chip) (sev : Nat) : Bool :=
  s.stages u && 224 ≤ (s.stagedOf u).length && sev < 2

/-- A record with its token taken. -/
def State.takeToken (s : State) (u : Chip) (k : Nat) : State :=
  (s.wr u (evrTok k) (s.tokensNow u k - 1000000000)).wr u (evrTokAt k) s.now

/-- A record as the words of an EVENTS frame. -/
def recWords (r : EvRec) : List Nat :=
  [r.seq, r.code, r.page, r.sev + (if r.esc then 4 else 0) + (if r.inj then 8 else 0) + (if r.hw then 16 else 0), r.payload]

/-- The record written: numbered, delivered, and sent up the LTL when an IKB's link is up (spec 15 R451, R456;
spec 09 R276). -/
def State.record (s : State) (u : Chip) (r : EvRec) : State :=
  let q := s.rd u evrSeqNext
  let s1 := (s.wr u evrSeqNext ((q + 1) % 4294967296)).deliver u { r with seq := q }
  match u with
  | .ikb p =>
    if s.on u (ltlStatUp .link) then
      (s1.wr u evrSent ((q + 1) % 4294967296)).sendUp p 0x20 (recWords { r with seq := q })
    else s1
  | _ => s1

/-- The record an occurrence of an event makes (spec 15 Table 15.4). -/
def mkRec (u : Chip) (b : Blk) (code sev payload : Nat) (esc inj : Bool) : EvRec :=
  { seq := 0, code := code, page := pageNo u b,
    unit := match u with
      | .wdie d => d
      | _ => 0
    part := match u with
      | .ikb _ => 0
      | .wdie _ => 1
      | .pkg => 2
    sev := sev, esc := esc, inj := inj, hw := sev == 3, payload := payload }

/-- A record offered to the part `c`: recorded in its ring, or suppressed (spec 15 R449 to R456). -/
def State.eventRec (s : State) (c : Chip) (r : EvRec) (exempt : Bool) : State :=
  if !s.enabled c .evr then s
  else if s.stagingFull c r.sev then s.suppress c r.code r.sev
  else if neverSuppressed r.code r.sev || exempt || s.rd c (evrRate (s.evBucket c r.code)) = 0 then s.record c r
  else if 1000000000 ≤ s.tokensNow c (s.evBucket c r.code) then (s.takeToken c (s.evBucket c r.code)).record c r
  else s.suppress c r.code r.sev

/-- An event of window `u`, block `b`. -/
def State.event (s : State) (u : Chip) (b : Blk) (code sev : Nat) (payload : Nat := 0) (esc : Bool := false)
    (inj : Bool := false) (exempt : Bool := false) : State :=
  s.eventRec u.part (mkRec u b code sev payload esc inj) exempt

/-- Bits laid out as an event payload: pairs of value and lowest bit. -/
def pay (l : List (Nat × Nat)) : Nat := l.foldl (fun a e => a + e.1 * 2 ^ e.2) 0

/-! ## The last gasp (spec 15 R461) -/

/-- The commit in progress: its cause bits, causes seen during it, its instant, whether it takes the event block. -/
def lgCause : Fld := cell .bbx 2
def lgSeen : Fld := cell .bbx 3
def lgStart : Fld := cell .bbx 4
def lgUseEvent : Fld := cell .bbx 5

/-- A NOR command in progress ends ABORTED (spec 15 Table 15.13). -/
def State.abortNvm (s : State) : State :=
  let u := Chip.wdie 0
  if s.on u nvmCmdBusy then
    (((s.wr u nvmCmdBusy 0).wr u nvmStatBusy 0).wr u nvmCmdResult 3).int u .nvm 0
  else s

/-- A trigger of cause bit `i` (0 BUS_LOW, 1 FATAL, 2 WATCHDOG, 3 HOST). -/
def State.lastGasp (s : State) (i : Nat) : State :=
  let u := Chip.wdie 0
  if !s.bit u bbxCtrlTrigEn i then s
  else if s.on u bbxStatLgBusy then s.setB u lgSeen i
  else if s.on u bbxStatNorOk && (s.on u bbxStatLgReady || s.on u bbxStatEvReady) then
    let s1 := if s.on u bbxStatLgReady then (s.wr u bbxStatLgReady 0).wr u lgUseEvent 0
              else (s.wr u bbxStatEvReady 0).wr u lgUseEvent 1
    (((s1.abortNvm.wr u bbxStatLgBusy 1).wr u lgCause (2 ^ i)).wr u lgSeen 0).wr u lgStart s.now
  else (s.inc u bbxLgCountSkipped).int u .bbx 2

/-! ## The safe state (spec 04 Table 4.6) -/

/-- IKB levels and internal flags the safe state drives: GOV_HARD, the PULSE lines' ends, the loss in force. -/
def safeIkb : Fld := cell .clk 0
def lossAt : Fld := cell .clk 1
def lossRow : Fld := cell .clk 2
def pulseEnd (i : Nat) : Fld := cell .launch (i)
def squelched : Fld := cell .opt 0
def ltcStopped : Fld := cell .time 0
/-- Since when a W-die has been in the safe state, plus 1. -/
def safeSince : Fld := cell .pwr 16

/-- BUS_LOW has stopped Lens, Merge and Codec of a W-die until the start (spec 15 R463). -/
def busStop : Fld := cell .pwr 17

/-- Whether the engines of W-die `d` stand still: in the safe state (spec 04 Table 4.6), or from BUS_LOW on. -/
def State.stopped (s : State) (d : Nat) : Bool := s.on (.wdie d) pwrStatSafe || s.on (.wdie d) busStop

/-- An end of a link sees it down: UP clears, and its down sequence is due (spec 09 R281). -/
def State.endIdle (s : State) (u : Chip) (b : Blk) : State :=
  let s1 := (s.wr u (ltlStatState b) 0).wr u (ltlStatUp b) 0
  if s.on u (ltlStatUp b) then s1.wr u (downDue b) 1 else s1

/-- An IKB's link dropped to electrical idle, both ends seeing it down. -/
def State.linkIdle (s : State) (p : Nat) : State :=
  (s.endIdle (.ikb p) .link).endIdle (dieOfPort p) (linkOfPort p)

/-- Whether VIKB is off at an IKB. -/
def vikbOff : Fld := cell .aon 65

/-- The level of PULSE[line] (spec 05 R168): 0 while VIKB is off (spec 03 R79) and in the safe state (spec 04 Table
4.6). -/
def State.pulseLevel (s : State) (p line : Nat) : Nat :=
  let u := Chip.ikb p
  if s.on u vikbOff || s.on u safeIkb then 0
  else if s.rd u (pulseEnd line) ≠ 0 then 1 - s.rd u (launchPulseCfgPol line) else s.rd u (launchPulseCfgPol line)

/-- A pin told where its level changed. -/
def State.pinFollow (s : State) (c : Nat) (name : String) (was now : Nat) : State :=
  if was = now then s else s.emit (.pin c name now)

/-- The name of a PULSE line. -/
def pulseName (line : Nat) : String := ["PULSE0", "PULSE1", "PULSE2", "PULSE3"].getD line "PULSE3"

/-- The PULSE lines and GOV_HARD of an IKB told where their level changed since `s0`. -/
def State.pinsFollow (s s0 : State) (p : Nat) : State :=
  let u := Chip.ikb p
  let hard := fun (t : State) => if t.on u vikbOff then 0 else t.rd u govStatHard
  (List.range 4).foldl (fun t l => t.pinFollow u.code (pulseName l) (s0.pulseLevel p l) (s.pulseLevel p l))
    (s.pinFollow u.code "GOV_HARD" (hard s0) (hard s))

/-- The outputs of an IKB in the safe state (spec 04 Table 4.6): GOV_HARD 1, PULSE 0, LTL electrical idle. -/
def State.safeIkbEnter (s : State) (p : Nat) : State :=
  let u := Chip.ikb p
  let s1 := (s.wr u safeIkb 1).wr u govStatHard 1
  let s2 := (((s1.wr u (pulseEnd 0) 0).wr u (pulseEnd 1) 0).wr u (pulseEnd 2) 0).wr u (pulseEnd 3) 0
  (s2.linkIdle p).pinsFollow s p

/-- The IKB links of W-die `d` dropped. -/
def State.linksIdle (s : State) (d : Nat) : State :=
  (List.range 8).foldl (fun t n => t.linkIdle (8 * d + n)) s

/-- W-die `d` in the safe state (spec 04 Table 4.6): DRAM in self-refresh, optical transmitters squelched, LTL idle,
FLEET_LOCK cleared, and the engines stopped. -/
def State.safeWdieEnter (s : State) (d : Nat) : State :=
  let u := Chip.wdie d
  let s1 := ((s.wr u pwrStatSafe 1).inc u pwrSafeCountCount).int u .pwr 0
  let s2 := (((s1.wr u pwrStatSrActive 1).wr u dramcStatSelfRefresh 1).wr u squelched 1).wr u safeSince (s.now + 1)
  (s2.wr u timeStatFleetLock 0).linksIdle d

/-! ## FATAL_SAFE and error capture (spec 15 R438 to R440) -/

/-- The instant of FATAL_SAFE plus 1, from which the warm start is due. -/
def fatalAt : Fld := cell .ras 0

/-- FATAL_SAFE of a part: the safe state, the event, GOODBYE or the last gasp, the warm start due (spec 15 R440). -/
def State.fatalSafe (s : State) (u : Chip) (heldPage newPage heldCode newCode : Nat) : State :=
  let s1 := (s.wr u rasStatFatalSafe 1).wr u fatalAt (s.now + 1)
  let pl := pay [(heldPage % 256, 0), (newPage % 256, 8), (heldCode, 16), (newCode, 32)]
  match u with
  | .ikb p =>
    ((s1.sendUp p 0x0E [2]).safeIkbEnter p).event u .ras 0x0F03 3 pl
  | .wdie d => ((s1.safeWdieEnter d).event u .ras 0x0F03 3 pl).lastGasp 1
  | .pkg => s1

/-- The key space of a capture's SEVERITY, to find a held fatal capture of a part. -/
def isSeverityKey (c k : Nat) : Bool :=
  k / 4294967296 == c && k / 32 % 65536 == 0x3C && k % 32 == 0

/-- Whether some page of the part holds a capture of severity 3 (spec 15 R439). -/
def State.holdsFatal (s : State) (u : Chip) : Bool :=
  s.regs.any fun e => e.2 == 3 && (isSeverityKey u.code e.1 || (u == .wdie 0 && isSeverityKey 8 e.1))

/-- FATAL_PENDING set, and FATAL_SAFE when it was set already (spec 15 R439). -/
def State.reachFatal (s : State) (u : Chip) (page code : Nat) (wasPending : Bool) : State :=
  let c := u.part
  let s1 := if s.on c rasStatFatalPending then s else (s.wr c rasStatFatalPending 1).int c .ras 2
  if wasPending then
    s1.fatalSafe c (s.rd c (cell .ras 1)) page (s.rd c (cell .ras 2)) code
  else (s1.wr c (cell .ras 1) page).wr c (cell .ras 2) code

/-- A page detects an error: captured under R54, or counted and escalated under R438. -/
def State.pageErr (s : State) (u : Chip) (b : Blk) (code sev : Nat) (info : Nat := 0) : State :=
  let pend := s.on u.part rasStatFatalPending
  let page := pageNo u b
  if !s.on u (hdrErrFirstValid b) then
    let s1 := (((s.wr u (hdrErrFirstCode b) code).wr u (hdrErrFirstValid b) 1).wr u (hdrErrFirstInfoInfo b) info).wr
      u (hdrErrCtrlSeverity b) sev
    let s2 := (s1.intErr u b).event u b 0x0F01 sev
      (pay [(code, 0), (sev, 16), (s.rd u (hdrErrCtrlNested b), 18), (info % 4294967296, 32),
            (s.rd u (hdrErrNextCountCount b), 64)])
    if sev = 3 then s2.reachFatal u page code pend else s2
  else
    let cur := s.rd u (hdrErrCtrlSeverity b)
    let s1 := (s.inc u (hdrErrNextCountCount b)).wr u (hdrErrCtrlNested b) 1
    let new := if sev = 3 then 3 else if 1 ≤ sev && cur ≤ sev then min 3 (cur + 1) else cur
    if sev = 3 || (1 ≤ sev && cur ≤ sev) then
      let s2 := ((s1.wr u (hdrErrCtrlSeverity b) new).intErr u b).event u b 0x0F02 new
        (pay [(code, 0), (new, 16), (cur, 18), (s.rd u (hdrErrFirstCode b), 32),
              (s1.rd u (hdrErrNextCountCount b), 64)]) true
      if new = 3 then s2.reachFatal u page code pend else s2
    else s1

/-- When a mode last stopped and last began to use every channel of a W-die (spec 15 R442). -/
def unusedFrom : Fld := cell .ras 4
def usedFrom : Fld := cell .ras 5

/-- The sender identity of requester `r` in window `u` (spec 16 Table 16.2). -/
def senderId (u : Chip) (r : Nat) : Nat :=
  match u with
  | .ikb _ => if r < 2 then 64 * r else 128 + (r - 2) % 8
  | _ => if r = 0 then 192 else if r < 9 then 256 + 8 * (r - 1) else 256 + 8 * (u.part.code % 8) + (r - 9) % 8

/-- ERR_FIRST_INFO of an access error (spec 02 R55): offset, write, requester. -/
def accessInfo (u : Chip) (r off : Nat) (write : Bool) : Nat :=
  off % 4096 + (if write then 4096 else 0) + 65536 * senderId u r

/-- A write that met a locked RWL field or SOFT_RESET (spec 02 R56). -/
def State.lockedErr (s : State) (u : Chip) (b : Blk) (r off : Nat) : State :=
  s.pageErr u b 0x0001 1 (accessInfo u r off true)

/-- Whether a page is locked (spec 02 R56). -/
def State.locked (s : State) (u : Chip) (b : Blk) : Bool := s.on u (hdrLockLocked b)

/-! ## Egress: origination and enqueueing (spec 01 R41, R43; spec 11 R335 to R339) -/

/-- The LTC of a part, and its time in nanoseconds since its epoch (spec 05 R142). -/
def State.ltcOf (s : State) (u : Chip) : Ltc := (look u.code s.ltc).getD {}
def State.setLtc (s : State) (u : Chip) (l : Ltc) : State := { s with ltc := put u.code l s.ltc }
def Ltc.nsTotal (l : Ltc) : Nat := l.sec * 1000000000 + l.ns

/-- The W-die of package optical port `P`, and its local number there (spec 10 R303). -/
def dieOfOpt (P : Nat) : Chip := .wdie (P / 2)

/-- Cells of the SCHED page for local port `p`, queue `q`: deficit; the queue whose turn it is, and whether its quantum
is added; tokens missing from each shaper in 1/80 byte and the instant; the same of the port's shaper; since when the
head waits for credit, plus 1; cells sent, freed by the peer, freed here; the peer's pool in force. -/
def drrDeficit (p q : Nat) : Fld := cell .sched (128 * p + q)
def drrTurn (p : Nat) : Fld := cell .sched (128 * p + 8) 2
def drrIn (p : Nat) : Fld := cell .sched (128 * p + 9)
def shapeMiss (p q : Nat) : Fld := cell .sched (128 * p + 16 + q)
def shapeAt (p q : Nat) : Fld := cell .sched (128 * p + 24 + q)
def portMiss (p : Nat) : Fld := cell .sched (128 * p + 32)
def portAt (p : Nat) : Fld := cell .sched (128 * p + 33)
def waitSince (p q : Nat) : Fld := cell .sched (128 * p + 40 + q)
def cellsSent (p q : Nat) : Fld := cell .sched (128 * p + 48 + q)
def cellsPeer (p q : Nat) : Fld := cell .sched (128 * p + 56 + q)
def cellsFreed (p q : Nat) : Fld := cell .sched (128 * p + 64 + q)
def cellsPool (p q : Nat) : Fld := cell .sched (128 * p + 72 + q)

/-- Cells of 256 bytes (R335). -/
def cellsOf (bytes : Nat) : Nat := ceilDiv bytes 256

def State.queueOf (s : State) (P q : Nat) : List EgFrame := (look (P * 8 + q) s.egress).getD []
def State.setQueue (s : State) (P q : Nat) (l : List EgFrame) : State :=
  { s with egress := if l.isEmpty then drop (P * 8 + q) s.egress else put (P * 8 + q) l s.egress }

/-- Whether a port is credited: its role is NEIGHBOUR or BYPASS (R338). -/
def State.credited (s : State) (P : Nat) : Bool :=
  s.rd (dieOfOpt P) (portsRoleRole (P % 2)) == 1 || s.rd (dieOfOpt P) (portsRoleRole (P % 2)) == 3

/-- The port shaper's rate in 100 Mb/s: the lower of PORT_CFG.RATE and the line rate of the lanes in use (R337). -/
def State.portRate (s : State) (P : Nat) : Nat :=
  min (s.rd (dieOfOpt P) (schedPortPortCfgRate (P % 2)))
    (nth [0, 2000, 4000, 8000] (s.rd (dieOfOpt P) (portsStatLanes (P % 2))))

/-- What a shaper misses of its full bucket now, in 1/80 byte: a rate of one unit gains 1/80 byte in 1 ns (R337). -/
def State.missNow (s : State) (u : Chip) (miss at' : Fld) (rate : Nat) : Nat :=
  s.rd u miss - rate * (s.now - s.rd u at')

/-- The credit of a queue on a credited port, in cells (R338). -/
def State.cellCredit (s : State) (P q : Nat) : Nat :=
  let u := dieOfOpt P
  (s.rd u (cellsPool (P % 2) q) + s.rd u (cellsPeer (P % 2) q) + 65536 - s.rd u (cellsSent (P % 2) q)) % 65536

/-- Whether the head of a queue may go by its credit: it needs its cells, or the whole pool (R338, R274). -/
def State.headCredited (s : State) (P q : Nat) : Bool :=
  match (s.queueOf P q).head? with
  | none => true
  | some f => !s.credited P || (decide (min (cellsOf f.bytes) (s.rd (dieOfOpt P) (cellsPool (P % 2) q)) ≤ s.cellCredit P q) &&
      decide (s.cellCredit P q < 32768))

/-- R337: whether a queue that holds a frame is eligible. -/
def State.eligible (s : State) (P q : Nat) : Bool :=
  let u := dieOfOpt P
  let p := P % 2
  let rate := s.rd u (schedQueueShapeRate p q)
  s.on u (portsStatUp p) && !(s.queueOf P q).isEmpty &&
  (rate == 0 || decide (s.missNow u (shapeMiss p q) (shapeAt p q) rate < s.rd u (schedQueueShapeSburst p q) * 5120)) &&
  decide (s.missNow u (portMiss p) (portAt p) (s.portRate P) < s.rd u (schedPortPortBurstSburst p) * 5120) && s.headCredited P q

/-- The burst of a queue in bytes (Table 11.9). -/
def State.drrBurst (s : State) (u : Chip) (p q : Nat) : Nat := 4 * s.rd u (schedQueueDrrBurst p q)

/-- Rounds pass while no queue of 2 to 7 is eligible: each empty one is credited up to its burst (R336). -/
def State.idleRounds (s : State) (P : Nat) : State :=
  let u := dieOfOpt P
  let p := P % 2
  if (List.range 6).any fun i => s.eligible P (i + 2) then s
  else (List.range 6).foldl (fun t i =>
    let q := i + 2
    if (t.queueOf P q).isEmpty && t.rd u (schedQueueDrrQuantum p q) ≠ 0 then
      t.wr u (drrDeficit p q) (t.drrBurst u p q) else t) s

/-- The wait of each queue's head for credit: a stall is counted where one begins (Table 11.9). -/
def State.waitFollow (s : State) (P : Nat) : State :=
  let u := dieOfOpt P
  let p := P % 2
  (List.range 8).foldl (fun t q =>
    if t.headCredited P q then t.wr u (waitSince p q) 0
    else if t.rd u (waitSince p q) = 0 then (t.wr u (waitSince p q) (t.now + 1)).inc u (schedPortStatsCreditStalls p)
    else t) s

/-- The cells a frame occupied in a receive buffer freed (R338). -/
def State.freeCells (s : State) (f : EgFrame) : State :=
  match f.cells with
  | none => s
  | some (P, q) => let c := cellsFreed (P % 2) q
    s.wr (dieOfOpt P) c ((s.rd (dieOfOpt P) c + cellsOf f.bytes) % 65536)

/-- R339: a frame queued, or dropped when queue 2 to 7 finds its LIMIT full; those of queues 0 and 1 beyond the LIMIT
wait, in order, with their producers. -/
def State.enqueue (s : State) (P q : Nat) (f : EgFrame) : State :=
  let u := dieOfOpt P
  let s0 := s.idleRounds P
  let held := ((s0.queueOf P q).map fun g => cellsOf g.bytes).sum
  if 2 ≤ q && s0.rd u (schedQueueBufLimit (P % 2) q) < held + cellsOf f.bytes then
    (s0.freeCells f).inc u (schedQueueDropsCount (P % 2) q)
  else (s0.setQueue P q (s0.queueOf P q ++ [f])).waitFollow P

/-- The Ethernet bytes of a frame with `len` bytes after its fabric header (R310): addresses, EtherType and FCS are 18. -/
def etherBytes (len : Nat) : Nat := 50 + len

/-- The flow of a W-die toward an address for a KIND: the one in use, or a new one; identifiers are given out in order
of first use, freed ones last (spec 01 R41). -/
def flowNext : Fld := cell .torus 0
def State.flowsOf (s : State) (d : Nat) : List TxFlow := (look d s.txFlows).getD []
def State.setFlows (s : State) (d : Nat) (l : List TxFlow) : State :=
  { s with txFlows := if l.isEmpty then drop d s.txFlows else put d l s.txFlows }
def State.flowFreeOf (s : State) (d : Nat) : List Nat := (look d s.flowFree).getD []
def State.setFlowFree (s : State) (d : Nat) (l : List Nat) : State :=
  { s with flowFree := if l.isEmpty then drop d s.flowFree else put d l s.flowFree }
def State.newFlow (s : State) (d : Nat) : Nat × State :=
  let u := Chip.wdie d
  if s.rd u flowNext < 8192 then (s.rd u flowNext, s.wr u flowNext (s.rd u flowNext + 1))
  else match s.flowFreeOf d with
    | i :: r => (i, s.setFlowFree d r)
    | [] => s.free 13

/-- FLOW_ID and SEQ of a frame that W-die `d` sends to an address with a KIND. -/
def State.takeFlow (s : State) (d addr kind : Nat) : (Nat × Nat) × State :=
  match (s.flowsOf d).find? fun f => f.addr == addr && f.kind == kind with
  | some f => ((d * 8192 + f.id, f.seq), s.setFlows d ((s.flowsOf d).map fun g =>
      if g = f then { f with seq := (f.seq + 1) % 4294967296, last := s.now } else g))
  | none =>
    let n := s.newFlow d
    ((d * 8192 + n.1, 0), n.2.setFlows d (n.2.flowsOf d ++ [⟨n.1, addr, kind, 1, s.now⟩]))

/-- The flat identifier written for a die toward a first-generation hub; 0xFF_FFFF, counted, where it has none (spec 01
R34). -/
def State.flatFor (s : State) (die : Nat) : Nat × State :=
  match s.xlat.find? fun e => e.flat && e.dieIndex == die with
  | some e => (e.key, s)
  | none => (0xFFFFFF, s.inc .pkg pkgrCnt2FlatNone)

/-- Whether an address is a first-generation hub's. -/
def State.isHub (s : State) (addr : Nat) : Bool :=
  (List.range 8).any fun k => s.on .pkg (pkgrHubHiValid k) &&
    s.rd .pkg (pkgrHubLoAddr k) + 2 ^ 32 * s.rd .pkg (pkgrHubHiAddr k) == addr

/-- A frame that the die of port `P` originates, with its flow, stamp and source (R43, R310), queued. -/
def State.originate (s : State) (P q : Nat) (f : FabricFrame) : State :=
  let u := dieOfOpt P
  let up := s.rd u (portsRoleRole (P % 2)) == 2
  let addr := if up then s.rd u (portsNextMacAddr (P % 2)) else 2 ^ 48 + f.hdr.dst * 131072 + f.hdr.dieIndex
  let t := s.takeFlow (P / 2) addr f.hdr.kind
  let h := { f.hdr with
    flow := t.1.1, seq := t.1.2, spine := up, timeLocked := s.on u timeStatFleetLock || s.on u timeStatLocalLock,
    created := (s.ltcOf u).nsTotal % 2 ^ 48, src := s.rd u torusCoordXyz, blocked := 3, side := 3, rdir := 0, hops := 0 }
  match f.about with
  | some die =>
    if up && t.2.isHub addr then
      let r := t.2.flatFor die
      r.2.enqueue P q ⟨{ f with hdr := h, body := f.body ++ [r.1] }, etherBytes h.len, none⟩
    else t.2.enqueue P q ⟨{ f with hdr := h }, etherBytes h.len, none⟩
  | none => t.2.enqueue P q ⟨{ f with hdr := h }, etherBytes h.len, none⟩

/-- The uplink port that package traffic takes: the lowest UPLINK port that is up, or else the lowest UPLINK port. -/
def State.uplink (s : State) : Nat :=
  let l := (List.range (2 * s.dies)).filter fun P => s.rd (dieOfOpt P) (portsRoleRole (P % 2)) == 2
  ((l.find? fun P => s.on (dieOfOpt P) (portsStatUp (P % 2))).getD (l.headD 1))

/-- The frame of a notice (spec 15 Table 15.7) queued to the uplink at result priority (R458). -/
def State.sendNotice (s : State) (n : Notice) : State :=
  s.originate s.uplink 1 { hdr := { kind := 3, job := n.job, len := 32 + 4 * n.ranks.length },
                           body := [n.job, n.dieIndex, n.sends, n.code, n.seq, n.ranks.length, n.payload] ++ n.ranks,
                           about := some n.dieIndex }

/-! ## Scheduler notices (spec 01 R44, spec 15 R458) -/

/-- The next NOTICE_SEQ of the module. -/
def noticeSeq : Fld := cell .pkgroute 0

/-- The die index of the die on package LTL port `p` (spec 01 R28). -/
def State.dieIndex (s : State) (p : Nat) : Nat := s.rd (.wdie 0) torusCoordTray * 64 + p % 64

/-- A notice sent: held for repeats, or kept in the black box when 256 are held (spec 15 R458). -/
def State.notice (s : State) (job dieIndex code payload : Nat) (ranks : List Nat := []) : State :=
  let q := s.rd .pkg noticeSeq
  let s1 := s.wr .pkg noticeSeq ((q + 1) % 4294967296)
  let n : Notice := { seq := q, job := job, dieIndex := dieIndex, code := code, payload := payload, ranks := ranks,
                      sends := 0, lastSend := s.now }
  if s.notices.length < 256 then { s1 with notices := s1.notices ++ [n] }.sendNotice n
  else
    (s1.bbxCopy (mkRec (.wdie 0) .bbx code 2 payload false false)).event .pkg .pkgroute 0x0103 2
      (pay [(q, 0), (job, 32), (code, 48)])

/-! ## Channel faults (spec 15 R441 to R445) -/

/-- The key of a channel. -/
def chanKey (u : Chip) (k : Nat) : Nat := u.code * 256 + k

/-- Whether a channel's class is fixed with no retry (spec 15 Table 15.2). -/
def chanFixed (u : Chip) (k : Nat) : Bool := if u.isIkb then 0x10 ≤ k && k < 0x20 else 0x10 ≤ k && k < 0x18

/-- Whether a channel is a matrix-engine tap. -/
def chanTap (u : Chip) (k : Nat) : Bool := u.isIkb && 0x10 ≤ k && k < 0x20

/-- The window and episode of a channel. -/
def State.windowOf (s : State) (u : Chip) (k : Nat) : Window := (look (chanKey u k) s.windows).getD {}
def State.setWindow (s : State) (u : Chip) (k : Nat) (w : Window) : State :=
  { s with windows := if w.recov.isEmpty && w.unrecov.isEmpty then drop (chanKey u k) s.windows
                      else put (chanKey u k) w s.windows }
def State.episodeOf (s : State) (u : Chip) (k : Nat) : Option Episode := look (chanKey u k) s.episodes
def State.setEpisode (s : State) (u : Chip) (k : Nat) (e : Option Episode) : State :=
  { s with episodes := match e with
      | some e => put (chanKey u k) e s.episodes
      | none => drop (chanKey u k) s.episodes }

/-- The faults of a list that lie within the last WINDOW_H hours (spec 15 R443). -/
def State.inWindow (s : State) (u : Chip) (l : List (Nat × Nat)) : List (Nat × Nat) :=
  l.filter fun e => s.rd u rasFaultSecSec - e.1 ≤ s.rd u rasCfgWindowH * 3600

/-- The retirement actions of a channel (spec 15 Table 15.2). -/
def State.retireActions (s : State) (u : Chip) (k : Nat) : State :=
  match u with
  | .ikb _ =>
    if k < 8 then s.setB u healthChanEnFaulted k
    else if 0x20 ≤ k && k < 0x30 then (s.clrB u xrxCtrlTxEn (k - 0x20)).clrB u xrxCtrlRxEn (k - 0x20)
    else s
  | .wdie _ =>
    if k < 8 then (s.wr u (ltlStatRetired (.ltl k)) 1).wr u (ltlCtrlTrainEn (.ltl k)) 0
    else if k < 10 then
      ((s.wr u (portsStatRetired (k - 8)) 1).wr u (portsStatUp (k - 8)) 0).wr u (portsStatUsable (k - 8)) 0
    else if 0x10 ≤ k && k < 0x18 then s.setB u dramcStatPendRetire (k - 0x10)
    else s
  | .pkg => s

/-- The job of the die that a channel's part serves: that of the IKB's governor page (spec 08 R554); none for a
W-die's own channels other than its LTL links. -/
def State.jobOfPart (s : State) (u : Chip) (k : Nat) : Nat :=
  match u with
  | .ikb _ => s.rd u govJobJob
  | .wdie d => if k < 8 then s.rd (.ikb (8 * d + k)) govJobJob else 0
  | .pkg => 0

/-- The package LTL port of the die that a channel's part serves. -/
def portOfPart (u : Chip) (k : Nat) : Nat :=
  match u with
  | .ikb p => p
  | .wdie d => 8 * d + k % 8
  | .pkg => 0

/-- An outright retirement: actions, STATE, RETIRED_N, the event, the interrupt, the notice (spec 15 R444); the notice
for an IKB's channel follows the record's arrival at the W-die (spec 15 Table 15.13). -/
def State.retireChan (s : State) (u : Chip) (k : Nat) : State :=
  let job := s.jobOfPart u k
  let s1 := (((s.retireActions u k).setEpisode u k none).wr u (rasChannelStateState k) 4).inc u rasStatRetiredN
  let s2 := (s1.event u .ras 0x0F06 2 (pay [(k, 0), (job, 32)])).int u .ras 1
  let s2 := if !u.isIkb && 0x10 ≤ k && k < 0x18 then s2.event u .dramc 0x0A03 2 (pay [(k - 0x10, 0)]) else s2
  if job = 0 || u.isIkb then s2 else s2.notice job (s.dieIndex (portOfPart u k)) 0x0F06 (pay [(k, 0), (job, 32)])

/-- The permanent declaration when a limit of the window is reached (spec 15 R443, R444). -/
def State.declareIfPermanent (s : State) (u : Chip) (k : Nat) : State :=
  let w := s.windowOf u k
  if (s.inWindow u w.unrecov).length < s.rd u rasLimitsUnrecLimit &&
     (s.inWindow u w.recov).length < s.rd u rasLimitsRecLimit then s
  else if 3 ≤ s.rd u (rasChannelStateState k) then s
  else if chanTap u k then (s.wr u (rasChannelStateState k) 3).int u .ras 1
  else s.retireChan u k

/-- The window counts shown in the channel's STATE register. -/
def State.showCounts (s : State) (u : Chip) (k : Nat) : State :=
  (s.wr u (rasChannelStateRec24h k) (s.inWindow u (s.windowOf u k).recov).length).wr
    u (rasChannelStateUnrec24h k) (s.inWindow u (s.windowOf u k).unrecov).length

/-- A fault classed: window, TOTALS, LAST, CHANNEL_FAULT, then the permanent declaration (spec 15 R442, R443).
A fault that carries INJECTED enters the window only under PRISM COUNT_FAULTS (spec 09 R287). -/
def State.classFault (s : State) (u : Chip) (k cause bin : Nat) (stale inj unrec : Bool) : State :=
  let w := s.windowOf u k
  let e := (s.rd u rasFaultSecSec, bin)
  let counts := !inj || s.on u prismCtrlCountFaults
  let s1 := if counts then
      (if unrec then s.setWindow u k { w with unrecov := (e :: w.unrecov).take 4 }
       else s.setWindow u k { w with recov := (e :: w.recov).take 16 }).showCounts u k
    else s
  let s2 := if unrec then s1.inc u (rasChannelTotalsUnrecovered k) else s1.inc u (rasChannelTotalsRecovered k)
  let s3 := (((s2.wr u (rasChannelLastCause k) cause).wr u (rasChannelLastBin k) bin).wr
    u (rasChannelLastStale k) stale.toNat).wr u (rasChannelLastInjected k) inj.toNat
  let s4 := (s3.event u .ras 0x0F04 (if unrec then 2 else 1)
    (pay [(k, 0), (unrec.toNat, 8), (inj.toNat, 9), (stale.toNat, 10), (bin, 16), (cause, 32),
          (s3.rd u (rasChannelStateRec24h k), 48), (s3.rd u (rasChannelStateUnrec24h k), 56),
          (s.jobOfPart u k, 64)]) false inj).int u .ras 0
  if counts then s4.declareIfPermanent u k else s4

/-- A sense channel that becomes faulted: its FAULTED bit and the interrupt (spec 08 R247). -/
def State.senseFaulted (s : State) (u : Chip) (k : Nat) : State :=
  if u.isIkb && k < 8 then (s.setB u healthChanEnFaulted k).int u .health 1 else s

/-- A fault of a channel (spec 15 R442): classed at once where Table 15.2 fixes the class; otherwise it opens a retry
episode in OK, belongs to the running one, or is not counted in FAILED. At a disabled page it is not classed
(spec 02 R553). -/
def State.chanFault (s : State) (u : Chip) (k cause : Nat) (bin : Nat := 0) (stale inj unrec : Bool := false) : State :=
  if !s.enabled u .ras then s
  else if chanFixed u k then s.classFault u k cause bin stale inj unrec
  else if s.rd u (rasChannelStateState k) = 0 then
    ((((s.setEpisode u k (some ⟨s.now, cause, bin, stale, inj, 0, 0⟩)).wr u (rasChannelStateState k) 1).wr
      u (rasChannelStateRetry k) 0).int u .ras 0).senseFaulted u k
  else s

/-! ## Package DRAM as agents see it -/

/-- The window of DRAM that the event ring of a die occupies, as ring slot and byte of an address in it. -/
def State.ringByteAt (s : State) (a : Nat) : Option (BitVec 8) :=
  let u := Chip.wdie (a / 68719476736)
  let off := a % 68719476736
  let base := s.rd u evrRingBaseAddr
  if off < base || base + 1073741824 ≤ off then none
  else (look (ringKey u ((off - base) / 32)) s.evRing).map fun r => (evBytes r).getD ((off - base) % 32) 0#8

/-- The byte at a package DRAM address: a written ring record shows through at its place (spec 15 R456). -/
def State.dramByte (s : State) (a : Nat) : BitVec 8 := (s.ringByteAt a).getD (memRead dramDflt s.dram a)

/-- `n` bytes of package DRAM. -/
def State.dramBytes (s : State) : Nat → Nat → List (BitVec 8)
  | 0, _ => []
  | n + 1, a => s.dramByte a :: s.dramBytes n (a + 1)

/-- A little-endian number of `n` bytes of package DRAM. -/
def State.dramNum (s : State) (n a : Nat) : Nat := ofBytesLE (s.dramBytes n a)

/-- The ring record at an address turned into plain bytes, before a store falls on one of them. -/
def State.unring (s : State) (a : Nat) : State :=
  let u := Chip.wdie (a / 68719476736)
  let off := a % 68719476736
  let base := s.rd u evrRingBaseAddr
  if off < base || base + 1073741824 ≤ off then s
  else match look (ringKey u ((off - base) / 32)) s.evRing with
    | none => s
    | some r => { s with evRing := drop (ringKey u ((off - base) / 32)) s.evRing,
                         dram := memWriteList dramDflt (evBytes r) (a - (off - base) % 32) s.dram }

/-- A byte stored to package DRAM. -/
def State.dramStore1 (s : State) (a : Nat) (b : BitVec 8) : State :=
  let s1 := s.unring a
  { s1 with dram := memWrite dramDflt s1.dram a b }

/-- Bytes stored to package DRAM from `a` on. -/
def State.dramStore : List (BitVec 8) → Nat → State → State
  | [], _, s => s
  | b :: bs, a, s => State.dramStore bs (a + 1) (s.dramStore1 a b)

/-- The package DRAM address of an address within die `d`. -/
def dieAddr (d a : Nat) : Nat := d * 68719476736 + a

/-- The 64-byte line of an address. -/
def lineOf (a : Nat) : Nat := a / 64

/-- A line marked poisoned, or cleared (spec 10 R300). -/
def State.poison (s : State) (l : Nat) : State :=
  if s.poisoned.contains l then s else { s with poisoned := l :: s.poisoned }
def State.unpoison (s : State) (l : Nat) : State := { s with poisoned := s.poisoned.erase l }

end Sys2Proof.Machine
end

