-- ==== Sys2Proof/Machine/Clocks.lean ====
section
/-! DEFINITION. Spec 04: clock sources, domains, source loss and recovery, block clock enables, domain sleep, the
Midnight buffers, the PWR and THERM pages. -/

namespace Sys2Proof.Machine

/-! ## Sources -/

/-- Consecutive passing IKB_REFCLK windows (spec 04 R110). -/
def refPasses : Fld := cell .clk 3

/-- The switch in progress of each domain: 1 + the target source, and the source it left (spec 04 R116). -/
def swTarget (i : Nat) : Fld := cell .clk (8 + i)
def swFrom (i : Nat) : Fld := cell .clk (16 + i)

/-- Domains that wait for the root PLL to lock (spec 04 R122, spec 18 Tables 18.3 and 18.4: after a cold reset all), and
the instant the last fast domain stopped. -/
def wakeWait : Fld := cell .clk 4 31
def idleFrom : Fld := cell .clk 5

/-- The LENS division in force, and the one that takes effect at the second alignment edge (spec 04 R114). -/
def lensDivNow : Fld := cell .clk 6
def lensDivAt : Fld := cell .clk 7

/-- The number of fast domains of a part (spec 04 Tables 4.3, 4.4). -/
def domCount (u : Chip) : Nat := if u.isIkb then 4 else 5

/-- The source a domain selects: 0 OFF, 1 REF, 2 ROOT (spec 04 Table 4.9). -/
def State.domSrc (s : State) (u : Chip) (i : Nat) : Nat :=
  if u.isIkb then
    match i with
    | 0 => s.rd u clkIDomSrcCoreSrc
    | 1 => s.rd u clkIDomSrcCntSrc
    | 2 => s.rd u clkIDomSrcTimeSrc
    | _ => s.rd u clkIDomSrcSlowSrc
  else bitsOf (s.rd u clkWDomSrcSrc) (2 * i) 2

/-- The domains that a switch has turned OFF. -/
def switchedOff : Fld := cell .clk 24

/-- The source that feeds a domain: a domain never switched runs from ROOT, though its DOM_SRC still reads OFF (spec 04
R128, spec 18 Tables 18.3 and 18.4). -/
def State.domFeed (s : State) (u : Chip) (i : Nat) : Nat :=
  if s.domSrc u i = 0 && !s.bit u switchedOff i then 2 else s.domSrc u i

/-- A domain's selection set. -/
def State.setDomSrc (s : State) (u : Chip) (i v : Nat) : State :=
  if u.isIkb then
    match i with
    | 0 => s.wr u clkIDomSrcCoreSrc v
    | 1 => s.wr u clkIDomSrcCntSrc v
    | 2 => s.wr u clkIDomSrcTimeSrc v
    | _ => s.wr u clkIDomSrcSlowSrc v
  else s.wr u clkWDomSrcSrc (s.rd u clkWDomSrcSrc - 4 ^ i * bitsOf (s.rd u clkWDomSrcSrc) (2 * i) 2 + 4 ^ i * (v % 4))

/-- DOM_RUN and the PLL and reference flags of either part. -/
def domRun (u : Chip) : Fld := if u.isIkb then clkIDomRunRun else clkWDomRunRun
def pllLockFld (u : Chip) : Fld := if u.isIkb then clkISrcStatPllLock else clkWSrcStatPllLock
def refReadyFld (u : Chip) : Fld := if u.isIkb then clkISrcStatRefReady else clkWSrcStatXtalReady
def swBusyFld (u : Chip) : Fld := if u.isIkb then clkISwStatSwBusy else clkWSwStatSwBusy
def swRefusedFld (u : Chip) : Fld := if u.isIkb then clkISwStatSwRefused else clkWSwStatSwRefused
def refusedDomFld (u : Chip) : Fld := if u.isIkb then clkISwStatRefusedDom else clkWSwStatRefusedDom

/-- Whether a source's READY flag is 1; OFF needs none (spec 04 R109). -/
def State.srcReady (s : State) (u : Chip) (src : Nat) : Bool :=
  match src with
  | 0 => true
  | 1 => s.on u (refReadyFld u)
  | 2 => s.on u (pllLockFld u)
  | _ => false

/-- A switch refused or abandoned: SW_REFUSED, REFUSED_DOM, CLK_SWITCH_REFUSED (spec 04 R116, R117). -/
def State.switchRefused (s : State) (u : Chip) (i : Nat) : State :=
  ((s.wr u (swRefusedFld u) 1).wr u (refusedDomFld u) i).pageErr u .clk 0x0100 1

/-- Switches in progress whose target is not ready are abandoned: the domain stays on its source (spec 04 R117). -/
def State.abandonSwitches (s : State) (u : Chip) : State :=
  (List.range (domCount u)).foldl (fun t i =>
    if t.rd u (swTarget i) ≠ 0 && !t.srcReady u (t.rd u (swTarget i) - 1) then
      ((t.setDomSrc u i (t.rd u (swFrom i))).wr u (swTarget i) 0).switchRefused u i
    else t) s

/-- SW_BUSY shown while a switch is in progress. -/
def State.showSwBusy (s : State) (u : Chip) : State :=
  s.wr u (swBusyFld u) (if (List.range (domCount u)).any fun i => s.rd u (swTarget i) ≠ 0 then 1 else 0)

/-- The domains of a part that may run: those not switched OFF. -/
def State.selectedDoms (s : State) (u : Chip) : Nat :=
  (List.range (domCount u)).foldl (fun a i => if s.domFeed u i ≠ 0 then a + 2 ^ i else a) 0

/-! ## Loss and recovery (spec 04 R118 to R120) -/

/-- A source of Table 4.5, row `row`, declared lost. -/
def State.sourceLost (s : State) (u : Chip) (row : Nat) : State :=
  match u, row with
  | .ikb p, 0 =>
    let s1 := ((((s.wr u clkISrcStatRefReady 0).wr u clkISrcStatRefLost 1).wr u clkISrcStatPllLock 0).wr u refPasses 0).inc
      u clkILossCountRef
    let s2 := (((s1.wr u clkIDomRunRun 0).wr u ltcStopped 1).wr u timeStatValid 0).abandonSwitches u
    (((s2.safeIkbEnter p).wr u lossAt s.now).wr u lossRow 1).pageErr u .clk 0x0102 2 |>.event u .clk 0x0403 2 0
  | .ikb p, 1 =>
    let s1 := ((s.wr u clkISrcStatPllLock 0).wr u clkISrcStatPllLost 1).inc u clkILossCountPll
    let s2 := (s1.wr u clkIDomRunRun 0).abandonSwitches u
    (((s2.safeIkbEnter p).wr u lossAt s.now).wr u lossRow 2).pageErr u .clk 0x0102 2 |>.event u .clk 0x0403 2 1
  | .ikb _, 2 =>
    (((s.wr u clkISrcStatNwLost 1).wr u lossAt s.now).wr u lossRow 3).pageErr u .clk 0x0103 1 |>.event u .clk 0x0403 2 2
  | .wdie d, 3 =>
    let s1 := ((((s.wr u clkWSrcStatXtalReady 0).wr u clkWSrcStatXtalLost 1).wr u clkWSrcStatAonOnXtal 0).wr
      u clkWSrcStatPllLock 0).inc u clkWLossCountXtal
    let s2 := (s1.wr u clkWDomRunRun 0).abandonSwitches u
    let s3 := (((s2.safeWdieEnter d).wr u lossAt s.now).wr u lossRow 4).pageErr u .clk 0x0102 2 |>.event u .clk 0x0403 2 3
    if s3.on .pkg pkgmCurInTransition then s3.wr .pkg pkgmStatusResult 6 else s3
  | .wdie d, 4 =>
    let s1 := ((s.wr u clkWSrcStatPllLock 0).wr u clkWSrcStatPllLost 1).inc u clkWLossCountPll
    let s2 := (s1.wr u clkWDomRunRun 0).abandonSwitches u
    let s3 := (((s2.safeWdieEnter d).wr u lossAt s.now).wr u lossRow 5).pageErr u .clk 0x0102 2 |>.event u .clk 0x0403 2 4
    if s3.on .pkg pkgmCurInTransition then s3.wr .pkg pkgmStatusResult 6 else s3
  | _, _ => s

/-- GOV_HARD's release after a recovery waits for the first rail sample (spec 04 R120). -/
def hardAwaitSample : Fld := cell .gov 1

/-- The links of a part back in training (spec 04 R120). -/
def State.linkRetrain (s : State) (p : Nat) : State :=
  if s.on (dieOfPort p) (ltlStatRetired (linkOfPort p)) then s
  else (s.wr (.ikb p) (ltlStatState .link) 1).wr (dieOfPort p) (ltlStatState (linkOfPort p)) 1

/-- A lost source back, requalified and the PLL relocked: the part leaves the safe state (spec 04 R120). -/
def State.sourceBack (s : State) (u : Chip) : State :=
  let row := s.rd u lossRow - 1
  if s.rd u lossRow = 0 then s
  else
    let pl := pay [(row, 0), ((s.now - s.rd u lossAt) / us % 4294967296, 32)]
    let s1 := s.wr u lossRow 0
    match u with
    | .ikb p =>
      if row = 2 then s1.event u .clk 0x0404 1 pl
      else
        let s2 := ((((s1.wr u clkISrcStatRefReady 1).wr u clkISrcStatPllOn 1).wr u clkISrcStatPllLock 1).wr
          u clkIDomRunRun (s1.selectedDoms u)).wr u ltcStopped 0
        ((((s2.wr u safeIkb 0).pinsFollow s p).wr u hardAwaitSample 1).linkRetrain p).event u .clk 0x0404 1 pl
    | .wdie d =>
      let s2 := ((((s1.wr u clkWSrcStatXtalReady 1).wr u clkWSrcStatAonOnXtal 1).wr u clkWSrcStatPllLock 1).wr
        u clkWDomRunRun (s1.selectedDoms u)).wr u pwrStatSafe 0
      let s3 := if s2.mode u == .midnight then s2 else (s2.wr u pwrStatSrActive 0).wr u dramcStatSelfRefresh 0
      let s4 := (List.range 8).foldl (fun t n => t.linkRetrain (8 * d + n)) (s3.wr u squelched 0)
      s4.event u .clk 0x0404 1 pl
    | .pkg => s1

/-! ## Commands -/

/-- R110: the Nightwatch oscillator recalibrated once IKB_REFCLK is qualified; the trim found is an input. -/
def execNwRecalibrate (p trim : Nat) (s : State) : Out' := storeless s <|
  let u := Chip.ikb p
  if s.on u clkISrcStatRefReady then .next (s.wr u clkINwTrimTrim trim) else .next s

/-- R111: the 65,536th crystal cycle: XTAL_READY, and the always-on domain moves to the crystal. -/
def execXtalQualified (d : Nat) (s : State) : Out' := storeless s <|
  .next ((s.wr (.wdie d) clkWSrcStatXtalReady 1).wr (.wdie d) clkWSrcStatAonOnXtal 1)

/-- W-die `d` starts (R128, spec 18 Table 18.3 step 3): its domains run, the boot ROM enables every page. -/
def State.romStart (s : State) (d : Nat) : State :=
  let u := Chip.wdie d
  let s2 := s.wr u clkWDomRunRun (s.selectedDoms u)
  wdieBlks.foldl (fun t b => (t.wr u (hdrBlkCtrlEnable b) 1).setB u (clkWBlkEnEn (pageNo u b / 32)) (pageNo u b % 32)) s2

/-- R109: the root PLL reports lock; domains that waited for it start (R122), on a W-die in a start the boot ROM. -/
def execPllLock (u : Chip) (s : State) : Out' := storeless s <|
  let s1 := if u.isIkb then (s.wr u clkISrcStatPllOn 1).wr u clkISrcStatPllLock 1 else s.wr u clkWSrcStatPllLock 1
  let s2 := (s1.wr u (domRun u) (s1.rd u (domRun u) ||| (s1.rd u wakeWait &&& s1.selectedDoms u))).wr u wakeWait 0
  .next (match u with
    | .wdie d => if s.on .pkg pkgStartStatDone then s2 else s2.romStart d
    | _ => s2)

/-- R120: a lost source returns. -/
def execSourceRecovery (u : Chip) (s : State) : Out' := storeless s <| .next (s.sourceBack u)

/-- R116: one domain's part of a write of CLK.DOM_SRC. -/
def State.domSrcWrite (s : State) (u : Chip) (i v : Nat) : State :=
  if v = s.domSrc u i then s
  else if v = 3 || !s.srcReady u v then s.switchRefused u i
  else ((s.wr u (swFrom i) (s.domSrc u i)).wr u (swTarget i) (v + 1)).setDomSrc u i v

/-- R116: a write of CLK.DOM_SRC starts the switches it names, or refuses them. -/
def execClkDomSrcWrite (u : Chip) (value : Nat) (s : State) : Out' := storeless s <|
  .next (((List.range (domCount u)).foldl (fun t i => t.domSrcWrite u i (bitsOf value (2 * i) 2)) s).showSwBusy u)

/-- R116, R117: one domain's switch completes at an alignment edge, or is abandoned when its target fell. -/
def State.switchDone (s : State) (u : Chip) (i : Nat) : State :=
  if s.rd u (swTarget i) = 0 then s
  else if s.srcReady u (s.rd u (swTarget i) - 1) then
    let s1 := s.wr u (swTarget i) 0
    if s.rd u (swTarget i) = 1 then (s1.clrB u (domRun u) i).setB u switchedOff i
    else (s1.setB u (domRun u) i).clrB u switchedOff i
  else ((s.setDomSrc u i (s.rd u (swFrom i))).wr u (swTarget i) 0).switchRefused u i

/-- R116: the switches in progress complete and SW_BUSY clears. -/
def execClkSwitchDone (u : Chip) (s : State) : Out' := storeless s <|
  .next (((List.range (domCount u)).foldl (fun t i => t.switchDone u i) s).showSwBusy u)

/-- The pages of a part with a clock enable of their own, and those whose bit reads 1 always (spec 04 R119, R121). -/
def alwaysOn (u : Chip) (b : Blk) : Bool :=
  if u.isIkb then b == .top || b == .clk || b == .aon else b == .top || b == .clk || b == .pwr || b == .time
def gateable (u : Chip) : List Blk := if u.isIkb then ikbBlks else wdieBlks
def blkEnFld (u : Chip) (k : Nat) : Fld := if u.isIkb then clkIBlkEnEn else clkWBlkEnEn k

/-- R121: one page's bit of a write of CLK.BLK_EN: refused when it would gate an enabled block. -/
def State.blkEnBit (s : State) (u : Chip) (b : Blk) (v : Nat) : State :=
  let k := if u.isIkb then 0 else pageNo u b / 32
  let i := if u.isIkb then pageNo u b else pageNo u b % 32
  if alwaysOn u b || bitAt (s.rd u (blkEnFld u k)) i = v then s
  else if v = 0 && s.enabled u b then s.pageErr u .clk 0x0101 1 (pageNo u b * 4096)
  else
    let s1 := if v = 0 then s.clrB u (blkEnFld u k) i else s.setB u (blkEnFld u k) i
    s1.intChanged s u b

/-- R121: a write of CLK.BLK_EN gates or ungates pages. -/
def execClkBlkEnWrite (u : Chip) (k value : Nat) (s : State) : Out' := storeless s <|
  .next (((gateable u).filter fun b => u.isIkb || pageNo u b / 32 == k).foldl
    (fun t b => t.blkEnBit u b (bitAt value (if u.isIkb then pageNo u b else pageNo u b % 32))) s)

/-- R114: a write of CLK.LENS_DIV takes effect at the second following alignment edge. -/
def execLensDivWrite (d value : Nat) (s : State) : Out' := storeless s <|
  .next ((s.wr (.wdie d) clkWLensDivDiv8 value).wr (.wdie d) lensDivAt (s.now / 20 * 20 + 40))

/-- The blocks whose page belongs to a fast domain (spec 02 Table 2.13). -/
def domBlks (u : Chip) (dom : Nat) : List Blk :=
  if u.isIkb then
    match dom with
    | 0 => [.abft, .watch, .trace, .mbox, .core]
    | 1 => [.cntcfg, .snap, .coder]
    | 2 => [.time, .launch, .xrx]
    | _ => [.health, .gov, .optab, .evr, .link, .prism, .auth, .ras]
  else
    match dom with
    | 0 => [.mbox, .core, .ctx, .police, .route, .codec]
    | 1 => [.feat, .lens, .drift]
    | 2 => [.sched, .ports, .torus, .mirror, .d2d]
    | 3 => [.merge]
    | _ => [.therm, .launch, .evr, .bbx, .ras, .nvm, .auth, .ltl 0, .ltl 1, .ltl 2, .ltl 3, .ltl 4, .ltl 5, .ltl 6,
            .ltl 7, .prism, .dramc, .scrub, .opt, .pcie, .barrier]

/-- R122: a domain without work for IDLE_DLY cycles stops, unless a page keeps it awake or the mode holds it. -/
def execDomainIdleStop (u : Chip) (dom : Nat) (s : State) : Out' := storeless s <|
  if s.mode u == .midnight && !((domBlks u dom).any fun b => s.on u (hdrClkReqKeepAwake b)) then
    let s1 := s.clrB u (domRun u) dom
    .next (if s1.rd u (domRun u) = 0 then s1.wr u idleFrom s.now else s1)
  else .next s

/-- R122: a wake cause (0 register access, 1 interrupt, 2 LTL frame, 3 marker or poison, 4 launch) restarts a stopped
domain, starting the PLL first when it is off. -/
def execDomainWake (u : Chip) (dom cause : Nat) (s : State) : Out' := storeless s <|
  let s1 := if u.isIkb then
      ((((s.wr u aonWakeCauseReg (if cause = 0 then 1 else 0)).wr u aonWakeCauseIrq (if cause = 1 then 1 else 0)).wr
        u aonWakeCauseLtl (if cause = 2 then 1 else 0)).wr u aonWakeCauseMarker (if cause = 3 then 1 else 0)).wr
        u aonWakeCauseLaunch (if cause = 4 then 1 else 0)
    else s
  if s.domFeed u dom = 0 || s.bit u (domRun u) dom then .next s1
  else if s.domFeed u dom = 2 && !s.on u (pllLockFld u) then
    .next ((if u.isIkb then s1.wr u clkISrcStatPllOn 1 else s1).setB u wakeWait dom)
  else .next (s1.setB u (domRun u) dom)

/-- R123: in Midnight the root PLL switches off after PLL_IDLE with no fast domain running; never on die 0. -/
def execPllIdleOff (u : Chip) (s : State) : Out' := storeless s <|
  let idle := if u.isIkb then s.rd u clkIIdlePllIdle else s.rd u clkWIdlePllIdle
  if s.mode u == .midnight && s.rd u (domRun u) = 0 && s.rd u idleFrom + idle * us ≤ s.now then
    match u with
    | .ikb _ => .next ((s.wr u clkISrcStatPllOn 0).wr u clkISrcStatPllLock 0)
    | .wdie 0 => .next s
    | _ => .next (s.wr u clkWSrcStatPllLock 0)
  else .next s

/-! ## The Midnight buffers (spec 04 R135) -/

/-- The staged records of a W-die written to its event ring, oldest first. -/
def State.flushStaged (s : State) (u : Chip) : State :=
  ((s.stagedOf u).foldl (fun t r => t.ringWrite u r) s).setStaged u []

/-! ## PWR and THERM (spec 04 R140, R141) -/

/-- When each site last converted, how long it has read above FATAL, and whether a WARN crossing may count again. -/
def thermLast (k : Nat) : Fld := cell .therm k
def thermOver (k : Nat) : Fld := cell .therm (8 + k)
def thermDisarmed : Fld := cell .therm 16

/-- A site made invalid: SENSOR_FAIL counted and logged once, when VALID falls. -/
def State.siteInvalid (s : State) (u : Chip) (k : Nat) : State :=
  if s.on u (thermSiteValid k) then
    (((s.wr u (thermSiteValid k) 0).wr u (thermOver k) 0).inc u thermCountsSensorFail).pageErr u .therm 0x0101 1 |>.int
      u .therm 1
  else s

/-- One site's conversion: a reading outside −40 °C to +150 °C, or none for 1 ms, makes it invalid; above FATAL for
10 µs it raises THERM_OVER. -/
def State.siteConvert (s : State) (u : Chip) (k : Nat) (r : Option Nat) : State :=
  match r with
  | none => if s.rd u (thermLast k) + ms ≤ s.now then s.siteInvalid u k else s
  | some v =>
    let s1 := (s.wr u (thermLast k) s.now).wr u (thermSiteCode k) v
    if signedOf v 12 < -320 || 1200 < signedOf v 12 then s1.siteInvalid u k
    else
      let s2 := s1.wr u (thermSiteValid k) 1
      if signedOf v 12 ≤ signedOf (s.rd u thermLimitsFatal) 12 then s2.wr u (thermOver k) 0
      else if s2.rd u (thermOver k) = 0 then s2.wr u (thermOver k) (s.now + 1)
      else if s2.rd u (thermOver k) + 10 * us ≤ s.now + 1 then
        ((s2.wr u (thermOver k) (2 ^ 64 - 1)).pageErr u .therm 0x0100 3).int u .therm 2
      else s2

/-- The hottest valid site, lowest number first on a tie. -/
def State.hottest (s : State) (u : Chip) : Option (Nat × Int) :=
  (List.range 8).foldl (fun a k =>
    if s.on u (thermSiteValid k) then
      match a with
      | some (_, m) => if m < signedOf (s.rd u (thermSiteCode k)) 12 then some (k, signedOf (s.rd u (thermSiteCode k)) 12) else a
      | none => some (k, signedOf (s.rd u (thermSiteCode k)) 12)
    else a) none

/-- MAX, and the WARN crossing with its 2 °C hysteresis. -/
def State.thermMaxUpdate (s : State) (u : Chip) : State :=
  match s.hottest u with
  | none => s.wr u thermMaxNone 1
  | some (k, m) =>
    let s1 := ((s.wr u thermMaxCode (ofSigned m 12)).wr u thermMaxSite k).wr u thermMaxNone 0
    let w := signedOf (s.rd u thermLimitsWarn) 12
    if w < m && !s.on u thermDisarmed then ((s1.wr u thermDisarmed 1).inc u thermCountsWarn).int u .therm 0
    else if m ≤ w - 16 then s1.wr u thermDisarmed 0
    else s1

/-- R141: the eight junction sites of W-die `d` are converted. -/
def execThermConversion (d : Nat) (sites : List (Option Nat)) (s : State) : Out' := storeless s <|
  let u := Chip.wdie d
  if s.enabled u .therm then
    .next (((List.range 8).foldl (fun t k => t.siteConvert u k (sites.getD k none)) s).thermMaxUpdate u)
  else .next s

/-- R140: DRAM_SUPPLY falls: SR_HELD clears, DRAM_SUPPLY_LOST is logged. -/
def execDramSupplyFall (d : Nat) (s : State) : Out' := storeless s <|
  let u := Chip.wdie d
  let held := s.on u pwrStatSrHeld
  let s1 := ((s.wr u pwrStatDramSupply 0).wr u pwrStatSrHeld 0).pageErr u .pwr 0x0100 2 |>.int u .pwr 2
  .next (if held then s1.int u .pwr 1 else s1)

/-- R140: the self-refresh sequencer finds that self-refresh broke. -/
def execSelfRefreshBreak (d : Nat) (s : State) : Out' := storeless s <|
  let u := Chip.wdie d
  let s1 := (s.wr u pwrStatSrHeld 0).inc u pwrSafeCountSrBreaks
  .next (if s.on u pwrStatSrHeld then s1.int u .pwr 1 else s1)

end Sys2Proof.Machine
end

