-- ==== Sys2Proof/Machine/Time.lean ====
section
/-! DEFINITION. Spec 05: the Local Time Clocks, their acquisition and servos, TSYNC and ECHO, the PTP subset, the
Meridian counters, and the send and receive tagging of XRX. -/

namespace Sys2Proof.Machine

/-! ## The LTC (spec 05 R142 to R145) -/

/-- R143: one step of the LTC by an increment in 2^-32 ns. -/
def ltcStep (l : Ltc) (inc : Nat) : Ltc :=
  let sum := l.frac + inc % 4294967296
  let ns := l.ns + inc / 4294967296 + sum / 4294967296
  if 1000000000 ≤ ns then
    { l with frac := sum % 4294967296, ns := ns - 1000000000, sec := (l.sec + 1) % 2 ^ 48 }
  else { l with frac := sum % 4294967296, ns := ns }

/-- The addend in force (spec 05 R144). -/
def State.addend (s : State) (u : Chip) : Nat := s.rd u timeAddendHiAdd * 4294967296 + s.rd u timeAddendLoAdd
def State.setAddend (s : State) (u : Chip) (a : Nat) : State :=
  (s.wr u timeAddendLoAdd a).wr u timeAddendHiAdd (a / 4294967296)

/-- The nominal addend: 4 ns on the IKB, 20 ns on the W-die (spec 05 R144). -/
def nominalAddend (u : Chip) : Nat := if u.isIkb then 0x400000000 else 0x1400000000

/-- R143: one step on IKB_REFCLK while TIME is stopped, with its one-bit remainder. -/
def ltcSleepStep (l : Ltc) (add : Nat) : Ltc :=
  { ltcStep l ((5 * add + l.rem) / 2) with rem := (5 * add + l.rem) % 2 }

/-- `n` steps of one increment. -/
def ltcSteps : Nat → Nat → Ltc → Ltc
  | 0, _, l => l
  | n + 1, inc, l => ltcSteps n inc (ltcStep l inc)

/-- 20 ns of the LTC of an IKB: five TIME edges, or two IKB_REFCLK edges while TIME is stopped (spec 04 R115). -/
def ltcTickIkb (timeRuns : Bool) (add : Nat) (l : Ltc) : Ltc :=
  if timeRuns then ltcSteps 5 add l else ltcSleepStep (ltcSleepStep l add) add

/-- The time of an LTC in quarter nanoseconds, and in 2^-32 ns. -/
def Ltc.quarters (l : Ltc) : Nat := l.nsTotal * 4 + l.frac / 1073741824
def Ltc.fine (l : Ltc) : Nat := l.nsTotal * 4294967296 + l.frac

/-- The LTC moved by a signed number of nanoseconds. -/
def Ltc.shift (l : Ltc) (ns : Int) : Ltc :=
  let t := ((l.nsTotal : Int) + ns) % ((2 ^ 48 * 1000000000 : Nat) : Int)
  { l with sec := t.toNat / 1000000000, ns := t.toNat % 1000000000 }

/-- The LTC of the part that holds window `u`. -/
def State.timeNs (s : State) (u : Chip) : Nat := (s.ltcOf u.part).nsTotal

/-! ## States and the servo (spec 05 R146 to R151) -/

def State.servoOf (s : State) (u : Chip) : Servo := (look u.code s.servo).getD {}
def State.setServo (s : State) (u : Chip) (v : Servo) : State := { s with servo := put u.code v s.servo }

/-- The LTC state set with the flags Table 5.2 gives it: VALID in TRACK, LOCKED and HOLDOVER, LOCAL_LOCK in LOCKED,
FLEET_LOCK in LOCKED when the parent reports locked. -/
def State.setLtcState (s : State) (u : Chip) (st : Nat) : State :=
  (((s.wr u timeStatState st).wr u timeStatValid (if 2 ≤ st then 1 else 0)).wr
    u timeStatLocalLock (if st = 3 then 1 else 0)).wr
    u timeStatFleetLock (if st = 3 && (s.servoOf u).parentLocked then 1 else 0)

/-- The rate in force at a step or a holdover, from which the servo's output differs by at most SLEW_MAX_PPM. -/
def State.heldRate (s : State) (u : Chip) : Nat :=
  if (s.servoOf u).held = 0 then nominalAddend u else (s.servoOf u).held

/-- The servo's next output: a free value within SLEW_MAX_PPM of the held rate and within the limit of R144. -/
def State.servoOutput (s : State) (u : Chip) : Nat :=
  let h := s.heldRate u
  let ppm := max 1 (s.rd u timeServoSlewMaxPpm)
  let lo := max (h - h * ppm / 1000000) (nominalAddend u - nominalAddend u / 1024)
  let hi := min (h + h * ppm / 1000000) (nominalAddend u + nominalAddend u / 1024)
  if lo < hi then lo + Config.freeValue s.freeCtr % (hi - lo + 1) else h

/-- R148: the lock and unlock runs after a sample, and the state they lead to. -/
def State.lockUpdate (s : State) (u : Chip) (off : Int) : State :=
  let v := s.servoOf u
  let within := off.natAbs ≤ s.rd u timeLockThrLockNs * 256
  let beyond := s.rd u timeLockThrUnlockNs * 256 < off.natAbs
  let v' := { v with lockRun := if within then v.lockRun + 1 else 0, unlockRun := if beyond then v.unlockRun + 1 else 0 }
  let s1 := s.setServo u v'
  if s.rd u timeStatState = 2 && s.rd u timeLockThrLockCnt ≤ v'.lockRun then s1.setLtcState u 3
  else if s.rd u timeStatState = 3 && s.rd u timeLockThrUnlockCnt ≤ v'.unlockRun then s1.setLtcState u 2
  else if s.rd u timeStatState = 3 then s1.setLtcState u 3
  else s1

/-- R147 to R149: one servo update by an offset sample in 2^-8 ns. A return from HOLDOVER goes to TRACK first. -/
def State.servoSample (s : State) (u : Chip) (off : Int) : State :=
  let back := s.rd u timeStatState = 4
  let s1 := if back then s.setLtcState u 2 else s
  let s2 := s1.wr u timeOffsetOfs (ofSigned off 32)
  let s3 := if back && 256000000 < off.natAbs then
      (s2.wr u timeStatLargeOffset 1).pageErr u .time 0x0103 2 else s2
  let out := s3.servoOutput u
  let s4 := if s3.on u timeCtrlServoEn then
      ({ s3 with freeCtr := s3.freeCtr + 1 }.setAddend u out).setServo u
        { s3.servoOf u with outputs := (out :: (s3.servoOf u).outputs).take 64, lastSample := s.now }
    else s3.setServo u { s3.servoOf u with lastSample := s.now }
  s4.lockUpdate u off

/-- R147: the LTC stepped by signed nanoseconds at acquisition: TRACK, STEPPED, the held rate that of the addend. -/
def State.ltcStepBy (s : State) (u : Chip) (ns : Int) : State :=
  let s1 := (s.setLtc u ((s.ltcOf u).shift ns)).setServo u
    { s.servoOf u with held := s.addend u, lockRun := 0, unlockRun := 0, outputs := [], lastSample := s.now }
  (s1.setLtcState u 2).wr u timeStatStepped 1

/-- The mean of a servo's outputs, or the addend in force where it has none (spec 05 R149). -/
def State.meanRate (s : State) (u : Chip) : Nat :=
  let l := (s.servoOf u).outputs
  if l.isEmpty then s.addend u else l.foldl (· + ·) 0 / l.length

/-- R149: entry to HOLDOVER. -/
def State.holdover (s : State) (u : Chip) : State :=
  let m := s.meanRate u
  ((((s.setAddend u m).setServo u { s.servoOf u with held := m, lockRun := 0, unlockRun := 0 }).setLtcState u 4).inc
    u timeHoldCountCount).pageErr u .time 0x0102 2

/-- An offset sample reaches the servo of a part in any state: UNSET goes to ACQUIRE; ACQUIRE on the IKB steps. -/
def State.offsetSample (s : State) (u : Chip) (off : Int) : State :=
  match s.rd u timeStatState with
  | 0 =>
    if u.isIkb then (s.setLtcState u 1).ltcStepBy u (-(off / 256))
    else (s.setLtcState u 1).wr u timeOffsetOfs (ofSigned off 32)
  | 1 =>
    if u.isIkb then s.ltcStepBy u (-(off / 256)) else s.wr u timeOffsetOfs (ofSigned off 32)
  | _ => s.servoSample u off

/-- R144: a write of ADDEND_HI by requester `r` commits the 40-bit addend when its low word was that requester's
previous write, and the range check is made on the whole value. -/
def execAddendCommit (u : Chip) (r hi : Nat) (s : State) : Out' := storeless s <|
  match s.heldLow u r timeAddendLoAdd with
  | none => .next (s.pageErr u .time 0x0003 1 (accessInfo u r 0x124 true))
  | some lo =>
    let v := hi % 256 * 4294967296 + lo
    let s1 := s.dropLow u r
    if nominalAddend u / 1024 < (v : Int) - nominalAddend u ∨ (v : Int) - nominalAddend u < -((nominalAddend u / 1024 : Nat) : Int) then
      .next (s1.pageErr u .time 0x0101 1)
    else .next (s1.setAddend u v)

/-- R145: a read of NOW_FRAC captures the LTC and latches NS and SEC for the requester. -/
def execTimeNowCapture (u : Chip) (r : Nat) (s : State) : Out' := storeless s <|
  let l := s.ltcOf u
  .next ({ s with latches := put (reqKey u r) (timeNowFracFrac.key u, l.ns + 4294967296 * l.sec) s.latches }.respond
    u r false l.frac)

/-- R147: a write of TIME.STEP steps the LTC in ACQUIRE and is refused in every other state. -/
def execTimeStepWrite (u : Chip) (step : Nat) (s : State) : Out' := storeless s <|
  if s.rd u timeStatState = 1 then .next ((s.wr u timeStepNs step).ltcStepBy u (signedOf step 64))
  else .next (s.pageErr u .time 0x0100 1)

/-- R158: a write of TIME.OFFSET_IN gives the W-die's servo one sample. -/
def execOffsetInWrite (d sample : Nat) (s : State) : Out' := storeless s <|
  .next (s.offsetSample (.wdie d) (signedOf sample 32))

/-- R149: no parent sample for PARENT_TIMEOUT puts the LTC in HOLDOVER. -/
def execParentTimeout (u : Chip) (s : State) : Out' := storeless s <|
  if s.enabled u .time ∧ (s.rd u timeStatState = 2 ∨ s.rd u timeStatState = 3) ∧
     (s.servoOf u).lastSample + s.rd u timeParentTimeoutMs * ms ≤ s.now then .next (s.holdover u)
  else .next s

/-! ## Launch slots held when their base is lost (spec 05 Table 5.7) -/

/-- The number of launch slots of a part (spec 05 R164). -/
def slotCount (u : Chip) : Nat := if u.isIkb then 16 else 24

/-- The interrupt bits for LATE, MISSED, CONFLICT and HELD (spec 05 R177). -/
def lateBit (u : Chip) : Nat := if u.isIkb then 16 else 24

/-- Every slot armed in base `b` (0 LTC, 1 Meridian) moved to HELD. -/
def State.holdSlots (s : State) (u : Chip) (b : Nat) : State :=
  (List.range (slotCount u)).foldl (fun t i =>
    if t.rd u (launchSlotCtrlState i) = 1 && t.rd u (launchSlotCtrlBase i) = b then
      ((t.wr u (launchSlotCtrlState i) 3).clrB u launchArmedSlot i).int u .launch (lateBit u + 3)
    else t) s

/-- R150: CTRL.REACQUIRE. -/
def execTimeReacquire (u : Chip) (s : State) : Out' := storeless s <|
  .next (((s.setLtcState u 1).pageErr u .time 0x0104 1).holdSlots u 0)

/-! ## The Meridian counter (spec 05 R160, R161) -/

def State.merOf (s : State) (u : Chip) : Meridian := (look u.code s.meridian).getD {}
def State.setMer (s : State) (u : Chip) (m : Meridian) : State := { s with meridian := put u.code m s.meridian }

/-- The counter's whole ticks, and its value in 1/256 tick. -/
def Meridian.ticks (m : Meridian) : Nat := m.value / 2 ^ 40 % 2 ^ 64
def Meridian.fine (m : Meridian) : Nat := m.value / 2 ^ 32

/-- R161: the first sample sets the counter in one step; later ones correct its rate, by a free value within the
limits of the servo. `fine` is the parent's count in 1/256 tick, compensated for the path. -/
def State.merSample (s : State) (u : Chip) (fine : Nat) : State :=
  let m := s.merOf u
  if !m.set then (s.setMer u { m with value := fine % 2 ^ 72 * 2 ^ 32, set := true }).wr u timeStatMerSet 1
  else
    let nom := 2 ^ 40
    let band := nom * max 1 (s.rd u timeServoSlewMaxPpm) / 1000000
    { s with freeCtr := s.freeCtr + 1 }.setMer u
      { m with rate := nom - band + Config.freeValue s.freeCtr % (2 * band + 1), samples := m.samples + 1 }

/-- R160: a committed write of MER_SET sets the root's counter; elsewhere it is ignored. -/
def execMerSetWrite (d ticks : Nat) (s : State) : Out' := storeless s <|
  let u := Chip.wdie d
  if s.on u timeCtrlMerRoot then
    .next (((s.wr u timeMerSetTick ticks).setMer u
      { s.merOf u with value := ticks % 2 ^ 64 * 2 ^ 40, set := true, rate := 2 ^ 40 }).wr u timeStatMerSet 1)
  else .next s

/-- R160: a Meridian control frame on package optical port `port`: used from the port named in MER_PARENT, on a
neighbour or bypass port, by a die that is not the root. `delay` is the port's measured path delay in 1/256 tick. -/
def execMeridianFrame (port tick frac delay : Nat) (s : State) : Out' := storeless s <|
  let u := Chip.wdie (port / 2)
  let role := s.rd u (portsRoleRole (port % 2))
  if s.enabled u .time && s.rd u timeCtrlMerParent = port && (role = 1 || role = 3) && !s.on u timeCtrlMerRoot then
    .next (s.merSample u (tick * 256 + frac + delay))
  else .next s

/-! ## TSYNC and ECHO (spec 05 R152, R153) -/

/-- Per link at the W-die: the next SEQ, the SEQ and t4 of the latest exchange answered, the instant of the last send. -/
def tsyncSeq (b : Blk) : Fld := cell b 1
def tsyncPrev (b : Blk) : Fld := cell b 2
def tsyncT4 (b : Blk) : Fld := cell b 3
def tsyncSentAt (b : Blk) : Fld := cell b 4

/-- One link's TSYNC. -/
def State.tsyncOn (s : State) (d n : Nat) : State :=
  let u := Chip.wdie d
  if s.on u (ltlStatUp (.ltl n)) then
    let q := s.rd u (tsyncSeq (.ltl n))
    let m := s.merOf u
    ((s.wr u (tsyncSeq (.ltl n)) ((q + 1) % 256)).wr u (tsyncSentAt (.ltl n)) (s.now + 1)).sendDown (8 * d + n) 0x04
      [q, s.rd u (tsyncPrev (.ltl n)), (s.ltcOf u).quarters, s.rd u (tsyncT4 (.ltl n)),
       m.ticks, m.fine % 256, s.rd u timeStatValid, s.rd u timeStatFleetLock, s.rd u timeStatMerSet]
  else s

/-- R152: every LTL_SYNC microseconds, a TSYNC on each LTL that is up. -/
def execTsyncSend (d : Nat) (s : State) : Out' := storeless s <|
  .next (s.ifOn (.wdie d) .time fun s => (List.range 8).foldl (fun t n =>
    if t.rd (.wdie d) (tsyncSentAt (.ltl n)) = 0 ||
       t.rd (.wdie d) (tsyncSentAt (.ltl n)) + t.rd (.wdie d) timeLtlSyncUs * us ≤ t.now + 1 then t.tsyncOn d n
    else t) s)

/-- R153: the offset in 2^-8 ns of an exchange, from its four stamps in quarter nanoseconds and A in ps. -/
def tsyncOffset (e : Exchange) (t4 : Nat) (asymPs : Int) : Int :=
  (((e.t2 : Int) - e.t1 - ((t4 : Int) - e.t3)) * 250 - asymPs) * 256 / 2000

/-- R153: the one-way delay toward the IKB in ps. -/
def tsyncDelayPs (e : Exchange) (t4 : Nat) (asymPs : Int) : Int :=
  (((e.t2 : Int) - e.t1 + ((t4 : Int) - e.t3)) * 250 + asymPs) / 2 -
    (((e.t2 : Int) - e.t1 - ((t4 : Int) - e.t3)) * 250 - asymPs) / 2

def State.exchangesOf (s : State) (p : Nat) : List Exchange := (look (Chip.ikb p).code s.exchanges).getD []

/-- R153: the IKB takes a TSYNC: stamps it, answers ECHO, and makes one servo update or acquisition step from the
exchange that SEQ_PREV names, if it holds it; the Meridian fields discipline its Meridian counter. -/
def State.takeTsync (s : State) (p : Nat) (f : Tsync) : State :=
  let u := Chip.ikb p
  if !s.enabled u .time then s else
  let t2 := (s.ltcOf u).quarters
  let t3 := t2 + f.turn
  let old := s.exchangesOf p
  let new : List Exchange := (⟨f.seq, f.t1, t2, t3⟩ :: old.filter fun e => e.seq != f.seq).take 256
  let s1 := { s with exchanges := put u.code new s.exchanges }
  let s2 := s1.sendUp p 0x05 [f.seq, s.rd u timeStatValid, s.rd u timeStatLocalLock, t3]
  let s3 := s2.setServo u { s2.servoOf u with parentLocked := f.fleetLock }
  let asym := signedOf (s.rd u timeLtlAsymPs) 16
  match old.find? fun e => e.seq == f.seqPrev with
  | none => s3
  | some e =>
    let s4 := if 2 ≤ s3.rd u timeStatState || f.wfkValid then s3.offsetSample u (tsyncOffset e f.t4Prev asym) else s3
    if f.merSet then
        s4.merSample u (f.merTick * 256 + f.merFrac + (tsyncDelayPs e f.t4Prev asym).toNat * 256 / 20000)
    else s4

def execTsyncReceive (p : Nat) (f : Tsync) (s : State) : Out' := storeless s <|
  .next (s.recv p true 0x04 44 fun t => t.takeTsync p f)

/-- R153: the W-die takes an ECHO: t4 is stamped for the next TSYNC, and the IKB's offset is shown in the LTL page (the
arithmetic that gives it from T3 is not stated: a free value). -/
def State.takeEcho (s : State) (p seq : Nat) (valid lock : Bool) (t3 : Nat) : State :=
  let u := dieOfPort p
  let b := linkOfPort p
  if !s.enabled u .time then s else
  let s1 := (s.wr u (tsyncPrev b) seq).wr u (tsyncT4 b) (s.ltcOf u).quarters
  let s2 := (s1.wr u (cell b 5) (valid.toNat + 2 * lock.toNat)).wr u (cell b 6) t3
  (s2.free 32).2.wr u (ltlIkbOffsetOfs b) (s2.free 32).1
def execEchoReceive (p seq : Nat) (valid lock : Bool) (t3 : Nat) (s : State) : Out' := storeless s <|
  .next (s.recv p false 0x05 16 fun t => t.takeEcho p seq valid lock t3)

/-! ## The PTP subset (spec 05 R156 to R158) -/

/-- When the parent's latest Announce arrived, and the latest event-message stamp of each local port. -/
def announceAt : Fld := cell .time 2
def ptpStamp (l : Nat) : Fld := cell .time (4 + l)

/-- Whether Table 5.5 lists a message type for a port of this role (1 neighbour, 2 uplink, 3 bypass). -/
def ptpListed (role kind : Nat) : Bool :=
  match kind with
  | 0x0 => true
  | 0x8 => true
  | 0xB => true
  | 0x1 => role == 2
  | 0x9 => role == 2
  | 0x2 => role == 1 || role == 3
  | 0x3 => role == 1 || role == 3
  | 0xA => role == 1 || role == 3
  | _ => false

/-- R156, R157: a PTP message is stamped and used, or discarded and counted; an Announce of the parent port gives the
depth, and one of 8 or more steps is not used. -/
def execPtpMessageReceive (port : Nat) (m : PtpMessage) (s : State) : Out' := storeless s <|
  let u := Chip.wdie (port / 2)
  if !s.enabled u .time || !s.on u timePtpCfgEnable then .next s
  else if m.unlisted || m.domain ≠ s.rd u timePtpCfgDomain || !ptpListed (s.rd u (portsRoleRole (port % 2))) m.kind then
    .next (s.inc u timePtpCfgDiscarded)
  else if m.kind ≠ 0xB then .next (s.wr u (ptpStamp (port % 2)) (s.ltcOf u).quarters)
  else if s.rd u timeCtrlPtpParent ≠ port then .next s
  else if 8 ≤ m.stepsRemoved then .next (s.pageErr u .time 0x0105 1)
  else
    let s1 := ((s.wr u announceAt (s.now + 1)).wr u timeStatDepth (m.stepsRemoved + 1)).setServo u
      { s.servoOf u with parentLocked := m.locked }
    .next (if s1.rd u timeStatState = 0 then s1.setLtcState u 1
           else if s1.rd u timeStatState = 3 then s1.setLtcState u 3 else s1)

/-- The announce interval of PTP_CFG.LOG_ANNOUNCE, in nanoseconds. -/
def announceNs (log : Nat) : Nat :=
  if log < 8 then sec * 2 ^ log else sec / 2 ^ (16 - log)

/-- R156: three announce intervals without an Announce: the parent no longer reports locked. -/
def execAnnounceTimeout (d : Nat) (s : State) : Out' := storeless s <|
  let u := Chip.wdie d
  if s.rd u announceAt ≠ 0 ∧ s.rd u announceAt + 3 * announceNs (s.rd u timePtpCfgLogAnnounce) ≤ s.now + 1 then
    let s1 := (s.wr u announceAt 0).setServo u { s.servoOf u with parentLocked := false }
    .next (if s1.rd u timeStatState = 3 then s1.setLtcState u 3 else s1)
  else .next s

/-! ## Send and receive tagging (spec 05 R171, R172) -/

def State.tagsOf (s : State) (p : Nat) : List TagRec := (look (Chip.ikb p).code s.tagQueue).getD []
def State.setTags (s : State) (p : Nat) (l : List TagRec) : State :=
  { s with tagQueue := if l.isEmpty then drop (Chip.ikb p).code s.tagQueue else put (Chip.ikb p).code l s.tagQueue }

/-- The stamp of a digest: the LTC less the port's latency in 0.25 ns, in whole nanoseconds, truncated. -/
def State.tagStamp (s : State) (p port dir : Nat) : Nat :=
  let lat := if dir = 0 then s.rd (.ikb p) (xrxPortLatTxLat port) else s.rd (.ikb p) (xrxPortLatRxLat port)
  ((s.ltcOf (.ikb p)).quarters - lat) / 4 % 2 ^ 64

/-- MIDNIGHT_ACTIVITY for a tap (spec 04 R133): kind 0 checksum, 1 fabric. -/
def State.midnightActivity (s : State) (p kind tap : Nat) (b : Blk) : State :=
  s.event (.ikb p) b 0x0401 1 (pay [(kind, 0), (tap, 4)])

/-- Fabric taps that have seen a digest with good parity since their fault (spec 15 Table 15.2). -/
def goodSince (n : Nat) : Fld := cell .xrx n

/-- A tagging record as the words of a TAG_RECORDS frame. -/
def tagWords (r : TagRec) : List Nat := [r.digest, r.port + 16 * r.dir + 32 * r.fleetLock.toNat + 64 * r.localLock.toNat, r.stamp]

/-- Waiting records sent, up to 16 a frame, while the link is up and takes them (R172). -/
def State.drainTags : Nat → Nat → State → State
  | 0, _, s => s
  | n + 1, p, s =>
    let l := (s.tagsOf p).take 16
    if l.isEmpty || !s.on (.ikb p) (ltlStatUp .link) || !s.txRoom p 0x51 [16 * l.length] then s
    else State.drainTags n p ((s.setTags p ((s.tagsOf p).drop 16)).sendUp p 0x51 (16 * l.length :: (l.map tagWords).flatten))

/-- R171, R172: a sampled fabric-tap digest. -/
def execXrxDigest (p port dir digest gap : Nat) (parity : Bool) (s : State) : Out' := storeless s <|
  let u := Chip.ikb p
  if !s.enabled u .xrx then .next s
  else if s.mode u == .midnight then .next (s.midnightActivity p 1 port .xrx)
  else if !parity then .next ((s.inc u xrxUntaggedCount).chanFault u (0x20 + port) 0)
  else
    let s1 := s.wr u (goodSince port) (s.now + 1)
    if !s.bit u (if dir = 0 then xrxCtrlTxEn else xrxCtrlRxEn) port then .next s1
    else if gap < 4 then .next (s1.inc u xrxUntaggedSpacing)
    else if digest &&& s.rd u xrxSampleMaskMask ≠ s.rd u xrxSampleMatchMatch &&& s.rd u xrxSampleMaskMask then .next s1
    else if 256 ≤ (s.tagsOf p).length then .next ((s1.inc u xrxDroppedCount).pageErr u .xrx 0x0100 0)
    else if 5 ≤ s.rd u coderShedLevel then .next ((s1.inc u xrxRecordedCount).inc u coderXrxShedCount)
    else .next (State.drainTags 1 p ((s1.inc u xrxRecordedCount).setTags p (s.tagsOf p ++
      [⟨digest, port, dir, s.on u timeStatFleetLock, s.on u timeStatLocalLock, s.tagStamp p port dir⟩])))

end Sys2Proof.Machine
end

