-- ==== Sys2Proof/Machine/Counters.lean ====
section
/-! DEFINITION. Spec 05 R162, R163: times in the base in force. Spec 06: the counter bank and snapshots. -/

namespace Sys2Proof.Machine

/-! ## Times in a base (spec 05 R162) -/

/-- The time of a part in base `b`: nanoseconds of its LTC, or Meridian ticks. -/
def State.timeIn (s : State) (u : Chip) (b : Nat) : Nat :=
  if b = 0 then (s.ltcOf u).nsTotal else (s.merOf u).ticks

/-- A time packed in the LTC-shaped fields, in base `b`. -/
def unpackTime (b ns seconds : Nat) : Nat := if b = 0 then seconds * 1000000000 + ns else ns + seconds * 1073741824

/-- The nanoseconds of `n` units of base `b`. -/
def baseNs (b n : Nat) : Nat := if b = 0 then n else n * 20

/-! ## The counters (spec 06 R180 to R184) -/

/-- Counter `c`, its shadow latch, and the reference value that the CODER holds for it. -/
def counter (c : Nat) : Fld := (fld .cntcfg 0x1000 0 64 .ro (.c 0) .wrap).at 4 c
def shadow (c : Nat) : Fld := (fld .snap 0x1000 0 64 .ro (.c 0)).at 4 c
def deltaRef (c : Nat) : Fld := (fld .coder 0x1000 0 64 .ro (.c 0)).at 4 c

/-- The event input that baseline counter `c` selects. -/
def State.baseSel (s : State) (p c : Nat) : Nat :=
  if c % 2 = 0 then s.rd (.ikb p) (cntBaseSelSelLo (c / 2)) else s.rd (.ikb p) (cntBaseSelSelHi (c / 2))

/-- Whether the gate of bank `b`, 1 to 63, is open (Table 6.1). -/
def State.gateOpen (s : State) (p b : Nat) : Bool :=
  let u := Chip.ikb p
  match s.rd u (cntBankCfgGate b) with
  | 1 => true
  | 2 => s.on u cntStepStatInStep
  | 3 => !s.on u cntStepStatInStep
  | 4 => s.on u cntStepStatPhaseValid && s.rd u cntStepStatPhase == s.rd u (cntBankCfgPhase b)
  | _ => false

/-- R89, R180, R181: an occurrence of event input `input`: every baseline counter that selects it, and in each bank
of its group whose gate is open the counter of its position, except in Midnight. -/
def execEvtOccurrence (p input : Nat) (s : State) : Out' := storeless s <|
  let u := Chip.ikb p
  let e := input % 1024
  let s1 := (List.range 64).foldl (fun t c => if s.baseSel p c = e then t.inc u (counter c) else t) s
  if !s.enabled u .cntcfg then .next s
  else if s.mode u == .midnight then .next s1
  else .next ((List.range 63).foldl (fun t i =>
    if s.rd u (cntBankCfgGroup (i + 1)) = e / 64 && s.gateOpen p (i + 1) then
      t.inc u (counter (64 * (i + 1) + e % 64)) else t) s1)

/-- Whether the next forward is a keyframe (R191; 1 after reset), the deltas since the last, the SEND_MASK of the last
forward. -/
def keyWanted : Fld := cell .snap 4096 1
def deltasSince : Fld := cell .snap 4097
def lastMask : Fld := cell .snap 4098
/-- The generator instant last acted on, plus 1; whether a generator instant is served by the next MARK; the instant
of the latest capture, plus 1. -/
def genLast : Fld := cell .snap 4099
def genServed : Fld := cell .snap 4100
def capAt : Fld := cell .snap 4101

/-- The counters of bank `b` of IKB `p` at zero. -/
def State.clearBank (s : State) (p b : Nat) : State :=
  { s with regs := dropRange ((counter (64 * b)).key (.ikb p)) ((counter (64 * (b + 1))).key (.ikb p)) s.regs }

/-- R183: BANK_CFGb.CLEAR; a clear of the baseline bank is ignored and logged. -/
def State.bankClear (s : State) (p b : Nat) : State :=
  let u := Chip.ikb p
  if b % 64 = 0 then s.pageErr u .cntcfg 0x0100 1
  else
    let s1 := s.clearBank p (b % 64)
    if s.bit u snapSendMaskBanks (b % 64) then s1.wr u keyWanted 1 else s1

def execBankClear (p b : Nat) (s : State) : Out' := storeless s <| .next (s.bankClear p b)

/-! ## Shedding levels (spec 06 R212, spec 09 R278) -/

/-- The instant of the local level's last change, plus 1. -/
def shedAt : Fld := cell .link 62

/-- The level in force follows the local and the commanded level (R212). -/
def State.setShed (s : State) (p loc cmd : Nat) : State :=
  let u := Chip.ikb p
  let lv := max (loc % 8) (cmd % 8)
  let s1 := ((s.wr u coderShedLocal loc).wr u coderShedCommanded cmd).wr u coderShedLevel lv
  if lv = s.rd u coderShedLevel then s1 else (s1.inc u coderShedChanges).int u .coder 0

/-- LINK's local level changes. -/
def State.setLocalShed (s : State) (p lv : Nat) : State :=
  ((s.setShed p lv (s.rd (.ikb p) coderShedCommanded)).wr (.ikb p) shedAt (s.now + 1)).int (.ikb p) .link 3

/-- The local level raised by one, at most to 5. -/
def State.shedUp (s : State) (p : Nat) : State :=
  if s.rd (.ikb p) coderShedLocal < 5 then s.setLocalShed p (s.rd (.ikb p) coderShedLocal + 1) else s

/-- A frame of classes 5 to 7 that finds no room in LINK: discarded, counted by class, and the level rises (R278). -/
def State.linkDiscard (s : State) (p ty : Nat) : State :=
  (s.inc (.ikb p) (ltlClassDiscardCount .link (frameClass ty))).shedUp p

/-! ## Snapshots (spec 06 R185 to R193) -/

/-- Fields `dst`, `dst` + 1, … take the values of the `n` fields from `src` on, all of reset value 0. -/
def State.copyFields (s : State) (u : Chip) (src dst : Fld) (n : Nat) : State :=
  let lo := src.key u
  let dl := dst.key u
  let moved := s.regs.filter fun e => lo ≤ e.1 && e.1 < lo + 128 * n
  { s with regs := moved.foldl (fun l e => put (e.1 - lo + dl) e.2 l) (dropRange dl (dl + 128 * n) s.regs) }

/-- The varint bytes of a list of numbers. -/
def varints (l : List Nat) : List Nat := (l.map (varint 10)).flatten

/-- The coded body of a snapshot (R190). -/
def State.snapBody (s : State) (p mask : Nat) (key : Bool) : List Nat :=
  let u := Chip.ikb p
  let cs := (List.range 4096).filter fun c => bitAt mask (c / 64) = 1
  if key then (cs.map fun c => (bytesLE 8 (s.rd u (shadow c))).map BitVec.toNat).flatten
  else varints (cs.map fun c => (s.rd u (shadow c) + 2 ^ 64 - s.rd u (deltaRef c)) % 2 ^ 64)

/-- A snapshot record sent (Table 6.3). -/
def State.sendSnap (s : State) (p : Nat) (r : SnapRec) (prev : Nat) (body : List Nat) : State :=
  s.sendUp p 0x60 ([r.seq, r.markId, r.flags, r.mode + 4 * r.shed, r.sec, r.ns, r.merTick, r.merFrac, r.mask, prev,
                    body.length] ++ body)

/-- The flags FLEET_LOCK and LOCAL_LOCK of a part's time. -/
def State.lockFlags (s : State) (u : Chip) : Nat := s.rd u timeStatFleetLock + 2 * s.rd u timeStatLocalLock

/-- A capture record as things stand; CAP_SEQ counts it. -/
def State.snapRec (s : State) (p markId flags : Nat) (forward : Bool) : SnapRec :=
  let u := Chip.ikb p
  let l := s.ltcOf u
  let m := s.merOf u
  { seq := (s.rd u snapCapSeqSeq + 1) % 4294967296, markId := markId % 65536, flags := flags,
    mode := s.rd u aonModeCurMode, shed := s.rd u coderShedLevel, sec := l.sec, ns := l.ns, merTick := m.ticks,
    merFrac := m.fine % 256, mask := s.rd u snapSendMaskBanks, forward := forward }

/-- The CAP registers describe the latest capture (R193). -/
def State.showCap (s : State) (p : Nat) (r : SnapRec) : State :=
  let u := Chip.ikb p
  (((((s.wr u snapCapSeqSeq r.seq).wr u snapCapInfoMarkId r.markId).wr u snapCapInfoFlags r.flags).wr
    u snapCapNsNs r.ns).wr u snapCapSecLoSec r.sec).wr u snapCapSecHiSec (r.sec / 4294967296)

/-- A capture, or its refusal while a read-out runs (R187, R188). A generator capture carries GEN_ID. -/
def State.capture (s : State) (p markId : Nat) (late launched genToo : Bool) (base : Nat) (forward : Bool) : State :=
  let u := Chip.ikb p
  let flags := s.lockFlags u + 4 * late.toNat + 8 * base + 64 * launched.toNat + 128 * genToo.toNat
  match look u.code s.snap with
  | some _ =>
    let r := s.snapRec p markId (flags + 16) forward
    let s1 := (s.wr u snapCapSeqSeq r.seq).sendSnap p r 0xFFFFFFFF []
    ((s1.inc u snapStatCountsBusy).int u .snap 1).pageErr u .snap 0x0101 0
  | none =>
    let r := s.snapRec p markId flags forward
    let s1 := ((s.copyFields u (counter 0) (shadow 0) 4096).showCap p r).wr u capAt (s.now + 1)
    { s1 with snap := put u.code r s1.snap }

/-- The period of the mode in force, in units of base `b`; none in Midnight. -/
def State.snapPeriod (s : State) (p b : Nat) : Option Nat :=
  let u := Chip.ikb p
  let k := if b = 0 then 1000 else 50
  match s.mode u with
  | .noon => some (k * s.rd u snapPeriodNoonUs)
  | .afternoon => some (k * s.rd u snapPeriodAftUs)
  | .dusk => some (k * s.rd u snapPeriodDuskUs)
  | .midnight => none

/-- The decimation of generator snapshots at a shedding level (Table 6.11). -/
def shedD (level : Nat) : Nat := if level < 3 then 1 else if level = 3 then 10 else 100

/-- EPOCH in base `b`: tick 0 in the Meridian base. -/
def State.snapEpoch (s : State) (p b : Nat) : Nat :=
  let u := Chip.ikb p
  if b = 0 then unpackTime 0 (s.rd u snapEpochNsNs) (s.rd u snapEpochSecLoSec + 4294967296 * s.rd u snapEpochSecHiSec)
  else 0

/-- Whether a MARK slot is armed for an instant at most 5 µs ahead of `t` in base `b` (R188). -/
def State.markNear (s : State) (p b t : Nat) : Bool :=
  let u := Chip.ikb p
  (List.range 16).any fun i =>
    s.rd u (launchSlotCtrlState i) == 1 && s.rd u (launchSlotCtrlAction i) == 1 && s.rd u (launchSlotCtrlBase i) == b &&
    (let at' := unpackTime b (s.rd u (launchSlotTimeNsNs i))
       (s.rd u (launchSlotTimeSecLoSec i) + 4294967296 * s.rd u (launchSlotTimeSecHiSec i))
     t ≤ at' && baseNs b (at' - t) ≤ 5000)

/-- The record of a capture made at this very instant by a MARK also stands for the generator (R188). -/
def State.alsoGen (s : State) (p : Nat) : State :=
  let u := Chip.ikb p
  match look u.code s.snap with
  | some r =>
    let r' := { r with flags := r.flags ||| 128 }
    ({ s with snap := put u.code r' s.snap }).wr u snapCapInfoFlags r'.flags
  | none => s

/-- The generator's instant `t` (in base `b`), reached `lag` nanoseconds ago. -/
def State.genInstant (s : State) (p b t per lag : Nat) : State :=
  let u := Chip.ikb p
  let s1 := s.wr u genLast (t + 1)
  if s.rd u launchLateLimitUs * us < lag then s1.pageErr u .launch 0x0104 1
  else if s.markNear p b t then s1.wr u genServed 1
  else if s.rd u capAt = s.now + 1 && (look u.code s.snap).isSome then s1.alsoGen p
  else s1.capture p (s.rd u snapCtrlGenId) (decide (20 < lag)) false false b
    ((t - s.snapEpoch p b) % (per * shedD (s.rd u coderShedLevel)) = 0)

/-- R185: the latest generator instant at or before now, if it has not been acted on. -/
def execSnapGenerator (p : Nat) (s : State) : Out' := storeless s <|
  let u := Chip.ikb p
  let b := s.rd u timeCtrlBase
  match s.snapPeriod p b with
  | none => .next s
  | some per =>
    let now := s.timeIn u b
    if s.enabled u .snap && s.on u snapCtrlGenEn && (b ≠ 0 || s.rd u snapEpochNsNs < 1000000000) &&
        s.snapEpoch p b ≤ now && per ≠ 0 then
      let t := now - (now - s.snapEpoch p b) % per
      if s.rd u genLast = t + 1 then .next s else .next (s.genInstant p b t per (baseNs b (now - t)))
    else .next s

/-- Whether the next forward is a keyframe (R191). -/
def State.keyDue (s : State) (p mask : Nat) : Bool :=
  let u := Chip.ikb p
  s.on u keyWanted || s.rd u lastMask ≠ mask || s.rd u snapCtrlKeyInt ≤ s.rd u deltasSince

/-- A capture forwarded: keyframe or delta, and the CODER's reference set (R189 to R191). -/
def State.forwardSnap (s : State) (p : Nat) (r : SnapRec) (prev : Nat) : State :=
  let u := Chip.ikb p
  let key := s.keyDue p r.mask
  let body := s.snapBody p r.mask key
  let r' := if key then { r with flags := r.flags ||| 32 } else r
  let s1 := (s.sendSnap p r' (if key then 0xFFFFFFFF else prev) body).inc u coderSnapBytesCount (48 + body.length)
  let s2 := ((s1.wr u keyWanted 0).wr u deltasSince (if key then 0 else s.rd u deltasSince + 1)).wr u lastMask r.mask
  ((s2.copyFields u (shadow 0) (deltaRef 0) 4096).wr u (cell .snap 4102) r.seq).wr u snapCapInfoFlags r'.flags

/-- Whether LINK's transmit buffer takes the snapshot whole (spec 09 R278). -/
def State.snapRoom (s : State) (p : Nat) (r : SnapRec) (key : Bool) : Bool :=
  s.txRoom p 0x60 [0, 0, 0, 0, 0, 0, 0, 0, 0, 0, (s.snapBody p r.mask key).length]

/-- R187, R189: the read-out of a capture completes and its record is forwarded, or counted as shed; with the link
down nothing is forwarded. -/
def execSnapReadoutDone (p : Nat) (s : State) : Out' := storeless s <|
  let u := Chip.ikb p
  match look u.code s.snap with
  | none => .next s
  | some r =>
    let s1 := ({ s with snap := drop u.code s.snap }).int u .snap 0
    if !r.forward then .next (s1.inc u snapStatCountsShed)
    else if s.on u (ltlStatUp .link) then
      let key := s1.keyDue p r.mask
      if s1.snapRoom p r key then .next (s1.forwardSnap p r (s.rd u (cell .snap 4102)))
      else .next ((s1.linkDiscard p 0x60).inc u snapStatCountsShed)
    else .next s1

/-- R191: KEYFRAME_NOW. -/
def execKeyframeNow (p : Nat) (s : State) : Out' := storeless s <| .next (s.wr (.ikb p) keyWanted 1)

end Sys2Proof.Machine
end

