-- ==== Sys2Proof/Machine/Faults.lean ====
section
/-! DEFINITION. Spec 15: page errors, channel retries and retirement, event rings and suppression, scheduler notices,
the black box, the watchdog, the NOR commands. The starts that faults end in are in Start. -/

namespace Sys2Proof.Machine

/-! ## Page errors -/

/-- R54, R438: a page detects an error. -/
def execPageError (u : Chip) (b : Blk) (code sev info : Nat) (s : State) : Out' := storeless s <|
  .next (s.pageErr u b (code % 65536) (sev % 4) info)

/-- ERR_CTRL.CLEAR: the capture registers cleared, FATAL_PENDING with the last fatal capture (spec 02 R54, spec 15
R439). -/
def State.errClear (s : State) (u : Chip) (b : Blk) : State :=
  let s1 := ((((s.wr u (hdrErrFirstCode b) 0).wr u (hdrErrFirstValid b) 0).wr u (hdrErrFirstInfoInfo b) 0).wr
    u (hdrErrNextCountCount b) 0).wr u (hdrErrCtrlSeverity b) 0
  let s2 := s1.wr u (hdrErrCtrlNested b) 0
  if s2.holdsFatal u.part then s2 else s2.wr u.part rasStatFatalPending 0

/-- R54: a write of ERR_CTRL.CLEAR. -/
def execErrClear (u : Chip) (b : Blk) (s : State) : Out' := storeless s <| .next (s.errClear u b)

/-! ## Channels (spec 15 R441 to R448) -/

/-- The channel numbers that Table 15.2 assigns. -/
def chanExists (u : Chip) (k : Nat) : Bool :=
  match u with
  | .ikb _ => k < 8 || (0x10 ≤ k && k < 0x30)
  | .wdie _ => k < 10 || (0x10 ≤ k && k < 0x18)
  | .pkg => false

/-- A return to OK: CHANNEL_RECOVERED with the time spent in FAILED (R442). -/
def State.chanRecovered (s0 : State) (u : Chip) (k failedNs : Nat) : State :=
  let s := if u.isIkb && k < 8 then s0.clrB u healthChanEnFaulted k else s0
  ((s.wr u (rasChannelStateState k) 0).setEpisode u k none).event u .ras 0x0F05 0
    (pay [(k, 0), (failedNs / sec % 4294967296, 32)])

/-- The instant at which retry `n` of an episode is due (R442). -/
def State.retryDue (s : State) (u : Chip) (e : Episode) (n : Nat) : Nat :=
  e.start + ms * (match n with
    | 0 => s.rd u rasCfgRetry0Ms
    | 1 => s.rd u rasCfgRetry1Ms
    | _ => s.rd u rasCfgRetry2Ms)

/-- What an episode's later retries are put off by: the time suspended, where retry `n` fell due while the mode did not
use the channel (R442). -/
def State.suspended (s : State) (u : Chip) (e : Episode) : Nat :=
  let due := s.retryDue u e e.retries
  if s.rd u unusedFrom ≤ due && due < s.rd u usedFrom then s.rd u usedFrom - max (s.rd u unusedFrom) e.start else 0

/-- A retry of an episode made: recovered, tried again, or unrecovered after the third (R442). -/
def State.chanRetry (s : State) (u : Chip) (k : Nat) (e : Episode) (ok : Bool) : State :=
  let s1 := s.inc u (rasChannelStateRetry k)
  if ok then (s1.chanRecovered u k 0).classFault u k e.cause e.bin e.stale e.inj false
  else if e.retries < 2 then s1.setEpisode u k (some { e with retries := e.retries + 1, start := e.start + s.suspended u e })
  else
    ((s1.setEpisode u k (some { e with retries := 3, failedAt := s.now })).wr u (rasChannelStateState k) 2).classFault
      u k e.cause e.bin e.stale e.inj true

/-- Whether the mode in force uses a channel (R442): a matrix-engine tap is not used in Midnight, nor the second lane
of an LTL that is up in Dusk and Midnight. -/
def State.chanUsed (s : State) (u : Chip) (k : Nat) : Bool :=
  !(s.mode u == .midnight && chanTap u k) &&
  !((s.mode u == .dusk || s.mode u == .midnight) && !u.isIkb && k < 8 && s.rd u (ltlStatState (.ltl k)) == 6)

/-- R442: a scheduled retry of a channel in an episode, at its instant or after. -/
def execChannelRetry (u : Chip) (k : Nat) (ok : Bool) (s : State) : Out' := storeless s <|
  match s.episodeOf u k with
  | none => .next s
  | some e =>
    if s.rd u (rasChannelStateState k) = 1 && s.retryDue u e e.retries ≤ s.now && s.chanUsed u k then
      .next (s.chanRetry u k e ok)
    else .next s

/-- R442: the once-per-second retry of a FAILED channel. -/
def execChannelFailedRetry (u : Chip) (k : Nat) (ok : Bool) (s : State) : Out' := storeless s <|
  match s.episodeOf u k with
  | none => .next s
  | some e =>
    if s.rd u (rasChannelStateState k) = 2 && e.failedAt + sec ≤ s.now && s.chanUsed u k && ok then
      .next (s.chanRecovered u k (s.now - e.failedAt))
    else .next s

/-- R444, R447: CTRL.RETIRE retires a channel outright. A matrix-engine tap takes STATE alone: its event and notice
are ENGINE_RETIRED, by firmware (spec 07 R242). -/
def State.rasRetire (s : State) (u : Chip) (k : Nat) : State :=
  if !chanExists u k || s.rd u (rasChannelStateState k) = 4 then s
  else if chanTap u k then
    ((((s.setEpisode u k none).wr u (rasChannelStateState k) 4).inc u rasStatRetiredN).int u .ras 1)
  else s.retireChan u k

def execRasRetire (u : Chip) (k : Nat) (s : State) : Out' := storeless s <| .next (s.rasRetire u k)

/-- R445: CTRL.COND_DONE returns a PERMANENT channel to OK with COND_BOUND set and its window empty; otherwise it logs
RAS_PARAM_INVALID. -/
def State.rasCondDone (s : State) (u : Chip) (k : Nat) : State :=
  if !chanExists u k then s
  else if s.rd u (rasChannelStateState k) = 3 then
    (((s.setWindow u k {}).showCounts u k).wr u (rasChannelStateCondBound k) 1).chanRecovered u k 0
  else s.pageErr u .ras 0x0101 1

def execRasCondDone (u : Chip) (k : Nat) (s : State) : Out' := storeless s <| .next (s.rasCondDone u k)

/-- The retirement actions of Table 15.2 undone; a DRAM channel re-enters the interleave at the next DRAM_SEED
launch (R448). -/
def State.unretire (s : State) (u : Chip) (k : Nat) : State :=
  match u with
  | .ikb _ =>
    if k < 8 then s.clrB u healthChanEnFaulted k
    else if 0x20 ≤ k && k < 0x30 then (s.setB u xrxCtrlTxEn (k - 0x20)).setB u xrxCtrlRxEn (k - 0x20)
    else s
  | .wdie _ =>
    if k < 8 then (s.wr u (ltlStatRetired (.ltl k)) 0).wr u (ltlCtrlTrainEn (.ltl k)) 1
    else if k < 10 then s.wr u (portsStatRetired (k - 8)) 0
    else if 0x10 ≤ k && k < 0x18 then s.clrB u dramcStatPendRetire (k - 0x10)
    else s
  | .pkg => s

/-- R448: CTRL.CLEAR under a grant of scope CLEAR; without one, RAS_UNAUTH. -/
def State.rasClear (s : State) (u : Chip) (k : Nat) : State :=
  if !chanExists u k then s
  else if !s.on u authStatClear then s.pageErr u .ras 0x0100 1
  else
    let s1 := if s.rd u (rasChannelStateState k) = 4 then
        (s.unretire u k).wr u rasStatRetiredN (s.rd u rasStatRetiredN - 1)
      else s
    ((((s1.setEpisode u k none).setWindow u k {}).showCounts u k).wr u (rasChannelStateCondBound k) 0).wr
      u (rasChannelStateState k) 0

def execRasClear (u : Chip) (k : Nat) (s : State) : Out' := storeless s <| .next (s.rasClear u k)

/-- The bin of a preloaded fault: none. -/
def noBin : Nat := 128

/-- R443: CTRL.PRELOAD adds the history counts to the window, at this FAULT_SEC. -/
def State.rasPreload (s : State) (u : Chip) (k : Nat) : State :=
  if !chanExists u k then s
  else
    let w := s.windowOf u k
    let e := (s.rd u rasFaultSecSec, noBin)
    let s1 := (s.setWindow u k
      { recov := (List.replicate (s.rd u (rasChannelCtrlPreloadRec k)) e ++ w.recov).take 16,
        unrecov := (List.replicate (s.rd u (rasChannelCtrlPreloadUnrec k)) e ++ w.unrecov).take 4 }).showCounts u k
    s1.declareIfPermanent u k

def execRasPreload (u : Chip) (k : Nat) (s : State) : Out' := storeless s <| .next (s.rasPreload u k)

/-! ## Event buckets, summaries and clearing (spec 15 R454, R455, R457) -/

/-- One bucket's EVR_SUPPRESSED record, and its count zeroed. -/
def State.summarise (s : State) (u : Chip) (k : Nat) : State :=
  if s.rd u (evrSupp k) = 0 then s
  else
    let s1 := s.event u .evr 0x0F08 0
      (pay [(k, 0), (s.rd u (evrSuppCode k), 16), (s.rd u (evrSupp k), 32), (s.rd u (evrSuppSev k), 64)])
    ((((s1.wr u (evrSupp k) 0).wr u (evrSuppCode k) 0).wr u (evrSuppSev k) 0)).int u .evr 1

/-- The summaries of every bucket of a part. -/
def State.summariseAll (s : State) (u : Chip) : State :=
  (List.range 1024).foldl (fun t k => t.summarise u k) s

/-- The window counts of every channel of a part, as they stand at this FAULT_SEC (R443). -/
def State.refreshWindows (s : State) (u : Chip) : State :=
  (s.windows.filter fun e => e.1 / 256 == u.code).foldl (fun t e => t.showCounts u (e.1 % 256)) s

/-- R443, R455: a part's FAULT_SEC advances by one second. -/
def execEvrSummary (u : Chip) (s : State) : Out' := storeless s <|
  let s1 := (s.wr u rasFaultSecSec ((s.rd u rasFaultSecSec + 1) % 4294967296)).refreshWindows u
  .next (s1.summariseAll u)

/-- R454: a write of BKT_CFG: the tokens are kept, clamped to the new BURST; a BURST of 0 is refused. -/
def State.bktCfgWrite (s : State) (u : Chip) (value : Nat) : State :=
  let k := s.rd u evrBktSelIdx
  let tok := s.tokensNow u k
  let burst := bitsOf value 16 16
  let s1 := (s.wr u (evrRate k) (bitsOf value 0 16)).wr u (evrTokAt k) s.now
  if burst = 0 then (s1.wr u (evrTok k) tok).pageErr u .evr 0x0101 1
  else (s1.wr u (evrBurst k) burst).wr u (evrTok k) (min tok (burst * 1000000000))

def execEvrBktCfgWrite (u : Chip) (value : Nat) (s : State) : Out' := storeless s <| .next (s.bktCfgWrite u value)

/-- The records a part's ring holds, oldest first: from TAIL to HEAD on a W-die, all kept slots on an IKB. -/
def State.ringHeld (s : State) (u : Chip) : List EvRec :=
  let h := s.rd u evrHeadIdx
  let slots := s.evRing.filter fun e => e.1 / 33554432 == u.code
  if u.isIkb then
    ((slots.filter fun e => h ≤ e.1 % 33554432) ++ (slots.filter fun e => e.1 % 33554432 < h)).map (·.2)
  else
    let t := s.rd u evrTailIdx
    if t ≤ h then (slots.filter fun e => t ≤ e.1 % 33554432 && e.1 % 33554432 < h).map (·.2)
    else ((slots.filter fun e => t ≤ e.1 % 33554432) ++ (slots.filter fun e => e.1 % 33554432 < h)).map (·.2)

/-- The first block, the size, and the byte address of the black-box ring (Table 15.12, R469). -/
def bbxFirst : Nat := 0x4800000
def State.bbxBlocks (s : State) : Nat := max 256 (2048 - s.bbxShrunk)

/-- Bytes `lo … hi-1` of the NOR erased. -/
def State.norErase (s : State) (lo hi : Nat) : State := { s with nor := dropRange lo hi s.nor }

/-- EVR.CTRL.CLEAR with SCOPE 1: the black-box ring erased but for the last-gasp blocks of the last 24 h (R457). -/
def State.bbxErase (s : State) : State :=
  let kept := s.gasps.filter fun g => s.now - g.at' ≤ 86400 * sec
  { (s.norErase bbxFirst 0xC800000) with gasps := kept }

/-- R457: EVR.CTRL.CLEAR under a grant of scope CLEAR; without one, EVR_UNAUTH. -/
def State.evrClear (s : State) (u : Chip) : State :=
  if !s.on u authStatClear then s.pageErr u .evr 0x0100 1
  else if s.rd u evrCtrlScope = 0 then
    let l := s.ringHeld u
    let q := s.rd u evrSeqNext
    let pl := pay [(0, 0), ((l.head?.map (·.seq)).getD q, 32), ((l.getLast?.map (·.seq)).getD q, 64),
                   (s.rd u authLastTokenId % 4294967296, 96)]
    let s1 := if u.isIkb then { s with evRing := dropRange (ringKey u 0) (ringKey u 33554432) s.evRing }
              else s.wr u evrTailIdx (s.rd u evrHeadIdx)
    (s1.event u .evr 0x0F09 1 pl).int u .evr 2
  else
    let s1 := if u == .wdie 0 then s.bbxErase else s
    let (f, s2) := s1.free 64
    (s2.event u .evr 0x0F09 1 (pay [(1, 0), (f, 32), (s2.rd u authLastTokenId % 4294967296, 96)])).int u .evr 2

def execEvrClear (u : Chip) (s : State) : Out' := keeping s <| .next (s.evrClear u)

/-! ## Scheduler notices (spec 01 R44, spec 15 R458) -/

/-- The notice repeated at its sixteenth send: SCHED_UNREACHABLE, and the notice kept in the black box. -/
def State.noticeGivenUp (s : State) (n : Notice) : State :=
  let s1 := { s with notices := s.notices.filter fun m => m.seq != n.seq }
  (s1.bbxCopy (mkRec (.wdie 0) .bbx n.code 2 n.payload false false)).event .pkg .pkgroute 0x0103 2
    (pay [(n.seq, 0), (n.job, 32), (n.code, 48)])

/-- R44: 2 ms after its latest send an unacknowledged notice is sent again, up to 16 repeats; in a start it waits for DONE
(spec 18 R543). -/
def execNoticeRepeat (seq : Nat) (s : State) : Out' := storeless s <|
  match s.notices.find? fun n => n.seq == seq with
  | none => .next s
  | some n =>
    if s.now < n.lastSend + 2 * ms || !s.on .pkg pkgStartStatDone then .next s
    else if 16 ≤ n.sends then .next (s.noticeGivenUp n)
    else
      let n' := { n with sends := n.sends + 1, lastSend := s.now }
      .next ({ s with notices := s.notices.map fun (m : Notice) => if m.seq == seq then n' else m }.sendNotice n')

/-- R458: an acknowledgement that names job and sequence ends the repeats of that notice. -/
def execNoticeAck (job seq : Nat) (s : State) : Out' := storeless s <|
  .next { s with notices := s.notices.filter fun n => !(n.seq == seq && n.job == job) }

/-! ## The NOR device and the black box (spec 15 R460 to R469) -/

/-- A byte of the last-gasp block (spec 15 Table 15.9), header apart. -/
def GaspBlock.body (g : GaspBlock) (off : Nat) : BitVec 8 :=
  if off < 0x4100 then
    BitVec.ofNat 8 (((look ((off - 0x100) / 0x800 * 128 + (off - 0x100) % 0x800 / 16) g.captures).getD 0) /
      256 ^ ((off - 0x100) % 16))
  else if off < 0x4200 then BitVec.ofNat 8 (nth g.links ((off - 0x4100) / 4) / 256 ^ (off % 4))
  else if off < 0x8000 then 0#8
  else match g.records[(off - 0x8000) / 32]? with
    | some r => (evBytes r).getD (off % 32) 0#8
    | none => 0#8

/-- The header bits of a last-gasp block below its CRC. -/
def GaspBlock.header (g : GaspBlock) : Nat :=
  pay [(0x4C47, 0), (1, 16), (g.cause, 24), (g.seen, 28), (g.time, 32), (g.meridian, 112), (g.mode, 176),
       (g.hseq, 192), (g.seq, 224)]

/-- Its CRC-32C over bytes 0x0100 to 0xFFFF and header bits 1,983 to 0. -/
def GaspBlock.crc (g : GaspBlock) : Nat :=
  (crc32c ((List.range 65280).map (fun i => g.body (0x100 + i)) ++ bytesLE 248 g.header)).toNat

/-- A byte of a last-gasp block. -/
def GaspBlock.byte (g : GaspBlock) (off : Nat) : BitVec 8 :=
  if off < 248 then BitVec.ofNat 8 (g.header / 256 ^ off)
  else if off < 252 then BitVec.ofNat 8 (g.crc / 256 ^ (off - 248))
  else if off < 256 then 0#8
  else g.body off

/-- The byte at a logical NOR address. -/
def State.norByte (s : State) (a : Nat) : BitVec 8 :=
  match s.gasps.find? fun g => bbxFirst + g.block * 65536 ≤ a && a < bbxFirst + (g.block + 1) * 65536 with
  | some g => g.byte (a - (bbxFirst + g.block * 65536))
  | none => memRead norDflt s.nor a

/-- `n` NOR bytes from `a` on. -/
def State.norBytes (s : State) : Nat → Nat → List (BitVec 8)
  | 0, _ => []
  | n + 1, a => s.norByte a :: s.norBytes n (a + 1)

/-- The blocks the ring has allocated ahead of its write pointer: the next event block, the last-gasp block, the
latest allocated (R461). -/
def bbxEvBlock : Fld := cell .bbx 8 1
def bbxLgBlock : Fld := cell .bbx 9 2
def bbxAlloc : Fld := cell .bbx 10 2

/-- The next block of the ring, erased. -/
def State.bbxNext (s : State) : Nat × State :=
  let n := (s.rd (.wdie 0) bbxAlloc + 1) % s.bbxBlocks
  let s1 := s.norErase (bbxFirst + n * 65536) (bbxFirst + (n + 1) * 65536)
  (n, { (s1.wr (.wdie 0) bbxAlloc n) with gasps := s1.gasps.filter fun g => g.block != n })

/-- The write pointer past a programmed page; at a block's end it takes the erased event block, and another is erased
behind it. -/
def State.bbxAdvance (s : State) : State :=
  let u := Chip.wdie 0
  if s.rd u bbxWrPtrPage < 255 then s.wr u bbxWrPtrPage (s.rd u bbxWrPtrPage + 1)
  else
    let s1 := (s.wr u bbxWrPtrBlock (s.rd u bbxEvBlock)).wr u bbxWrPtrPage 0
    let (n, s2) := s1.bbxNext
    (s2.wr u bbxEvBlock n).wr u bbxStatEvReady 1

/-- The bytes of a page of records; the rest of a partial page stays erased. -/
def pageBytes (l : List EvRec) : List (BitVec 8) := (l.map evBytes).flatten

/-- R460: a partial page joins the pages that await programming. -/
def State.bbxQueuePartial (s : State) : State :=
  if s.bbxPartial.isEmpty then s else { s with bbxPages := s.bbxPages ++ [s.bbxPartial], bbxPartial := [] }

/-- R460: FLUSH_MS after its first record a partial page is programmed. -/
def execBbxPageFlush (s : State) : Out' := storeless s <|
  if s.rd (.wdie 0) bbxFirstAt + max 1 (s.rd (.wdie 0) bbxCtrlFlushMs) * ms ≤ s.now then .next s.bbxQueuePartial
  else .next s

/-- R473: BBX.CTRL.FLUSH programs a partial page now; on a die other than 0 it is ignored. -/
def execBbxFlush (d : Nat) (s : State) : Out' := storeless s <| if d = 0 then .next s.bbxQueuePartial else .next s

/-- R460: the oldest page that awaits programming is in the NOR. -/
def execBbxPageProgrammed (s : State) : Out' := keeping s <|
  match s.bbxPages with
  | [] => .next s
  | pg :: r =>
    let u := Chip.wdie 0
    if s.on u bbxStatNorOk && !s.on u bbxStatLgBusy then
      let a := bbxFirst + s.rd u bbxWrPtrBlock * 65536 + s.rd u bbxWrPtrPage * 256
      .next ({ s with bbxPages := r, nor := memWriteList norDflt (pageBytes pg) a s.nor }.bbxAdvance)
    else .next s

/-- R460: once per second while records are not copied, BBX_OVERRUN tells how many. -/
def execBbxOverrunSecond (s : State) : Out' := storeless s <|
  let n := s.rd (.wdie 0) bbxOverSec
  if n = 0 then .next s
  else .next (((s.wr (.wdie 0) bbxOverSec 0).event (.wdie 0) .bbx 0x0F0C 2 (n % 4294967296)).int (.wdie 0) .bbx 1)

/-- R461: COMMIT_NOW starts a last-gasp commit with cause HOST; on a die other than 0 it is ignored. -/
def execBbxCommitNow (d : Nat) (s : State) : Out' := storeless s <| if d = 0 then .next (s.lastGasp 3) else .next s

/-! ## The watchdog (spec 15 R465) -/

/-- The instant of the latest restart of the watchdog's period. -/
def wdogFrom : Fld := cell .ras 3

/-- The period restarted. -/
def State.wdogRestart (s : State) (u : Chip) : State := s.wr u wdogFrom s.now

/-- R465: a KICK restarts the period. -/
def execWdogKick (u : Chip) (s : State) : Out' := storeless s <|
  .next (if s.on u rasWdogCtrlEn then s.wdogRestart u else s)

/-- R465: a write of WDOG_CTRL; locked fields keep their value, a PERIOD_MS below 10 is refused, KICK, a set EN or a
changed PERIOD_MS while EN is 1 restarts the period. -/
def State.wdogCtrlWrite (s : State) (u : Chip) (r value : Nat) : State :=
  let en := bitAt value 0
  let per := bitsOf value 16 16
  let kick := bitAt value 1 = 1
  if s.locked u .ras then
    let s1 := if kick && s.on u rasWdogCtrlEn then s.wdogRestart u else s
    s1.lockedErr u .ras r 0x110
  else
    let s1 := s.wr u rasWdogCtrlEn en
    let s2 := if per < 10 then s1.pageErr u .ras 0x0101 1 else s1.wr u rasWdogCtrlPeriodMs per
    if en = 1 && (kick || !s.on u rasWdogCtrlEn || s2.rd u rasWdogCtrlPeriodMs ≠ s.rd u rasWdogCtrlPeriodMs) then
      s2.wdogRestart u
    else s2

def execWdogCtrlWrite (u : Chip) (r value : Nat) (s : State) : Out' := storeless s <| .next (s.wdogCtrlWrite u r value)

/-- R465: half a period without a kick. -/
def execWdogWarn (u : Chip) (s : State) : Out' := storeless s <|
  if s.on u rasWdogCtrlEn && s.rd u wdogFrom + s.rd u rasWdogCtrlPeriodMs * ms / 2 ≤ s.now then
    .next ((s.wr u rasWdogStatWarned 1).int u .ras 3)
  else .next s

/-! ## NVM commands (spec 15 R474) -/

/-- The logical regions of Table 15.12: first byte and end. -/
def norRegion (a : Nat) : Option (Nat × Nat) :=
  if a < 0x2000000 then some (0, 0x2000000)
  else if a < 0x2800000 then some (0x2000000, 0x2800000)
  else if a < 0x4800000 then some (0x2800000, 0x4800000)
  else if a < 0xC800000 then some (0x4800000, 0xC800000)
  else if a < 0xD000000 then some (0xC800000, 0xD000000)
  else none

/-- Whether a command's range and alignment keep the rules (R474). -/
def nvmValid (op addr len : Nat) : Bool :=
  1 ≤ len && len ≤ 16777216 &&
  (match norRegion addr with
   | some (_, e) => addr + len ≤ e
   | none => false) &&
  (match op with
   | 1 => len % 256 = 0
   | 2 => addr % 65536 = 0
   | _ => true)

/-- A command completed at once with a result. -/
def State.nvmResult (s : State) (res : Nat) : State :=
  ((s.wr (.wdie 0) nvmCmdBusy 0).wr (.wdie 0) nvmStatBusy 0).wr (.wdie 0) nvmCmdResult res |>.int (.wdie 0) .nvm 0

/-- The checks of a command: busy, range, grant; then it is in progress. -/
def State.nvmStart (s : State) (op : Nat) (run : State → State) : State :=
  let u := Chip.wdie 0
  let a := s.rd u nvmAddrAddr
  let n := s.rd u nvmLenBytes
  if s.on u nvmCmdBusy then s
  else if !nvmValid op a n then (s.pageErr u .nvm 0x0100 1).nvmResult 5
  else if op ≠ 0 && a < 0x2800000 && !s.on u authStatUpdate then (s.pageErr u .nvm 0x0101 1).nvmResult 4
  else run (((s.wr u nvmCmdBusy 1).wr u nvmStatBusy 1).wr u nvmCmdResult 0)

/-- READ: NOR bytes to DRAM at BUF. -/
def State.nvmRead (s : State) : State :=
  s.nvmStart 0 fun t => State.dramStore (t.norBytes (t.rd (.wdie 0) nvmLenBytes) (t.rd (.wdie 0) nvmAddrAddr))
    (t.rd (.wdie 0) nvmBufAddr % 68719476736) t

/-- PROGRAM: DRAM bytes at BUF to the NOR. -/
def State.nvmProgram (s : State) : State :=
  s.nvmStart 1 fun t =>
    let bs := t.dramBytes (t.rd (.wdie 0) nvmLenBytes) (t.rd (.wdie 0) nvmBufAddr % 68719476736)
    { t with nor := memWriteList norDflt bs (t.rd (.wdie 0) nvmAddrAddr) t.nor }

/-- An erase of logical block `l` counted. -/
def State.eraseCount (s : State) (l : Nat) : State :=
  { s with norErases := put l ((look l s.norErases).getD 0 + 1) s.norErases }

/-- ERASE: every block of the range erased and counted. -/
def State.nvmErase (s : State) : State :=
  s.nvmStart 2 fun t =>
    let a := t.rd (.wdie 0) nvmAddrAddr
    let n := ceilDiv (t.rd (.wdie 0) nvmLenBytes) 65536
    (List.range n).foldl (fun w i => w.eraseCount (a / 65536 + i)) (t.norErase a (a + n * 65536))

def execNvmRead (d : Nat) (s : State) : Out' := keeping s <| if d = 0 then .next s.nvmRead else .next s
def execNvmProgram (d : Nat) (s : State) : Out' := keeping s <| if d = 0 then .next s.nvmProgram else .next s
def execNvmErase (d : Nat) (s : State) : Out' := keeping s <| if d = 0 then .next s.nvmErase else .next s

/-- R469: a block withdrawn: remapped to a spare, or the black-box ring shrunk by one. -/
def State.norWithdraw (s : State) (logical reason : Nat) : State :=
  let u := Chip.wdie 0
  let phys := (look logical s.norMap).getD (logical + 2)
  let s1 := { s with norWithdrawn := s.norWithdrawn + 1, norErases := drop logical s.norErases }
  let s2 := if 0 < s.norSpare then
      { s1 with norSpare := s.norSpare - 1, norMap := put logical (3330 + (766 - s.norSpare)) s.norMap }
    else { s1 with bbxShrunk := min 1792 (s.bbxShrunk + 1),
                   norMap := put logical ((look (3199 - s.bbxShrunk) s.norMap).getD (3201 - s.bbxShrunk)) s.norMap }
  let s3 := ((s2.wr u nvmBlocksSpare s2.norSpare).wr u nvmBlocksWithdrawn s2.norWithdrawn).event u .nvm 0x0F0D 1
    (pay [(phys, 0), (logical, 16), (reason, 32)])
  let s4 := s3.int u .nvm 1
  if s4.norSpare < s4.rd u nvmCfgReserveLow && !s4.on u nvmStatReserveLow then
    ((s4.wr u nvmStatReserveLow 1).event u .nvm 0x0F0E 2 s4.norSpare).int u .nvm 2
  else s4

/-- R469, R474: a command completes: OK, or VERIFY_FAIL; `lost` names a block withdrawn on the way and why. -/
def execNvmCmdDone (ok : Bool) (lost : Option (Nat × Nat)) (s : State) : Out' := storeless s <|
  if s.on (.wdie 0) nvmCmdBusy then
    let s1 := match lost with
      | some (l, r) => s.norWithdraw (l % 3328) (r % 4)
      | none => s
    .next (s1.nvmResult (if ok then 1 else 2))
  else .next s

end Sys2Proof.Machine
end

