-- ==== Sys2Proof/Machine/Tap.lean ====
section
/-! DEFINITION. Spec 07 and the tensor watch of spec 06: checksum-tap beats, tiles, checks, redundancy, the poisoned
table, in-field checks, watch statistics and reports. -/

namespace Sys2Proof.Machine

/-! ## Conditions of a fault (spec 07 R241, spec 15 R445) -/

/-- ENGn.LOAD: beats of the current 1 ms window, and the number of that window. -/
def loadCnt (n : Nat) : Fld := cell .abft (32 + n)
def loadWin (n : Nat) : Fld := cell .abft (64 + n)

/-- Beats ÷ 64 of engine `n` over the last complete 1 ms window. -/
def State.beats64 (s : State) (p n : Nat) : Nat :=
  let u := Chip.ikb p
  let w := s.now / ms
  if s.rd u (loadWin n) = w then s.rd u (abftEngLoadBeats64 n)
  else if s.rd u (loadWin n) + 1 = w then s.rd u (loadCnt n) / 64
  else 0

/-- A beat counted in its engine's load. -/
def State.countBeat (s : State) (p n : Nat) : State :=
  let u := Chip.ikb p
  let w := s.now / ms
  if s.rd u (loadWin n) = w then s.wr u (loadCnt n) (s.rd u (loadCnt n) + 1)
  else ((s.wr u (abftEngLoadBeats64 n) (s.beats64 p n)).wr u (loadCnt n) 1).wr u (loadWin n) w

/-- The load class of engine `n`: floor(4 × BEATS64 ÷ PEAK64), at most 3 (R241). -/
def State.loadClass (s : State) (p n : Nat) : Nat :=
  min 3 (4 * s.beats64 p n / s.rd (.ikb p) (abftEngLoadPeak64 n))

/-- BIN of a fault of an IKB: TBIN × 16 + BAND × 4 + LOAD (spec 15 R445). -/
def State.faultBin (s : State) (p load : Nat) : Nat :=
  s.rd (.ikb p) govStatTbin * 16 + s.rd (.ikb p) govStatCurIdx / 8 * 4 + load % 4

/-- A fault of tap channel `n` (spec 07 R240, R241). -/
def State.tapFault (s : State) (p n cause : Nat) (unrec : Bool) : State :=
  let u := Chip.ikb p
  s.chanFault u (0x10 + n) cause (s.faultBin p (s.loadClass p n))
    (s.bit u healthThermStaleSites (s.rd u (abftEngGeomSite n))) false unrec

/-- A fault of an IKB channel that no engine carries: its load class is a free value. -/
def State.ikbFault (s : State) (p k cause : Nat) : State :=
  let (l, s1) := s.free 2
  s1.chanFault (.ikb p) k cause (s1.faultBin p l)

/-- R442: a fault of a channel. -/
def execChannelFault (u : Chip) (k cause : Nat) (unrec : Bool) (s : State) : Out' := storeless s <|
  if !chanExists u k then .next s
  else match u with
    | .ikb p => if chanTap u k then .next (s.tapFault p (k - 0x10) cause unrec) else .next (s.ikbFault p k cause)
    | _ => .next (s.chanFault u k cause 0 false false unrec)

/-! ## The poisoned table (spec 07 R231) -/

/-- The order of entry of each poisoned generation, and the next order number. -/
def psnAge (k : Nat) : Fld := cell .abft k
def psnNext : Fld := cell .abft 16

/-- Whether a generation is in the poisoned table. -/
def State.isPoisoned (s : State) (p gen : Nat) : Bool :=
  (List.range 16).any fun k => s.on (.ikb p) (abftPoisonValid k) && s.rd (.ikb p) (abftPoisonGen k) == gen

/-- The entry that a new generation takes: the first free one, or else the oldest. -/
def State.poisonSlot (s : State) (p : Nat) : Nat :=
  let u := Chip.ikb p
  match (List.range 16).find? fun k => !s.on u (abftPoisonValid k) with
  | some k => k
  | none => (List.range 16).foldl (fun best k => if s.rd u (psnAge k) < s.rd u (psnAge best) then k else best) 0

/-- A generation entered in the poisoned table; SOURCE 0 mismatch, 1 indication. -/
def State.poisonGen (s : State) (p gen src : Nat) : State :=
  let u := Chip.ikb p
  if s.isPoisoned p gen then s
  else
    let k := s.poisonSlot p
    let s1 := if s.on u (abftPoisonValid k) then s.inc u abftPoisonStatOverflow else s
    ((((s1.wr u (abftPoisonGen k) gen).wr u (abftPoisonValid k) 1).wr u (abftPoisonSource k) src).wr
      u (psnAge k) (s1.rd u psnNext)).wr u psnNext (s1.rd u psnNext + 1)

/-- R231: CLEAR_ALL. -/
def State.poisonClear (s : State) (p : Nat) : State :=
  (List.range 16).foldl (fun t k =>
    ((t.wr (.ikb p) (abftPoisonGen k) 0).wr (.ikb p) (abftPoisonValid k) 0).wr (.ikb p) (abftPoisonSource k) 0) s

def execPoisonClearAll (p : Nat) (s : State) : Out' := storeless s <| .next (s.poisonClear p)

/-- R84, R106, R232: a poison indication; one with a parity error, or that meets a full queue, is discarded. -/
def execPoisonIndication (p kind unit gen : Nat) (parity full : Bool) (s : State) : Out' := storeless s <|
  let u := Chip.ikb p
  if !parity then .next ((s.inc u abftPsnErrParity).event u .abft 0x0301 1 1)
  else if full then .next (s.inc u abftPsnErrQueueFull)
  else
    let s1 := s.poisonGen p (gen % 65536) 1
    let s2 := match kind % 4 with
      | 0 => s1.inc u abftPsnCountMem
      | 1 => s1.inc u abftPsnCountFabric
      | 2 => s1.inc u abftPsnCountEngine
      | _ => s1.inc u abftPsnCountOther
    let s3 := (s2.event u .abft 0x0704 2 (pay [(kind % 4, 0), (unit % 64, 8), (gen % 65536, 16)])).int u .abft 3
    .next (if kind % 4 = 2 && unit % 64 < 16 then s3.tapFault p (unit % 64) 0x0704 true else s3)

/-! ## Tiles -/

def tileKey (p n : Nat) : Nat := p * 16 + n % 16
def State.tilesOf (s : State) (p n : Nat) : List Tile := (look (tileKey p n) s.tiles).getD []
def State.setTiles (s : State) (p n : Nat) (l : List Tile) : State :=
  { s with tiles := if l.isEmpty then drop (tileKey p n) s.tiles else put (tileKey p n) l s.tiles }

/-- A tile replaced, or entered last. -/
def setTile (t : Tile) : List Tile → List Tile
  | [] => [t]
  | x :: xs => if x.id = t.id then t :: xs else x :: setTile t xs

/-- A tile removed. -/
def dropTile (id : Nat) (l : List Tile) : List Tile := l.filter fun t => t.id != id

/-- The number of the next tile of an IKB. -/
def tileNext : Fld := cell .abft 22

def Tile.closed (t : Tile) : Bool := t.a.closed && t.b.closed && t.c.closed

/-- The kind of a beat within a tile. -/
def Tile.side (t : Tile) (kind : Nat) : TileSide :=
  match kind with
  | 0 => t.a
  | 1 => t.b
  | _ => t.c
def Tile.setSide (t : Tile) (kind : Nat) (x : TileSide) : Tile :=
  match kind with
  | 0 => { t with a := x }
  | 1 => { t with b := x }
  | _ => { t with c := x }

/-- Whether a format is allowed for a kind (spec 03 Table 3.6). -/
def fmtAllowed (kind fmt : Nat) : Bool :=
  match fmt with
  | 0 => kind < 2
  | 1 => kind < 2
  | 2 => kind < 2
  | 6 => kind == 2
  | 7 => false
  | _ => kind < 3

/-! ## The watch (spec 06 R205 to R209) -/

def State.watchOf (s : State) (p : Nat) : List WatchStep := (look (Chip.ikb p).code s.watch).getD []
def State.setWatch (s : State) (p : Nat) (l : List WatchStep) : State :=
  { s with watch := if l.isEmpty then drop (Chip.ikb p).code s.watch else put (Chip.ikb p).code l s.watch }

/-- The settings of entry `t` as they stand. -/
def State.watchEntry (s : State) (p t : Nat) : WatchEntry :=
  let u := Chip.ikb p
  { name := s.rd u (watchEntryNameNameId t), tagMatch := s.rd u (watchEntryMatchTagMatch t),
    kind := s.rd u (watchEntryMatchKind t), tagMask := s.rd u (watchEntryMaskTagMask t),
    shift := s.rd u (watchEntryIndexIdxShift t), bits := s.rd u (watchEntryIndexIdxBits t),
    taps := s.rd u (watchEntryIndexTapMask t), rows := s.rd u (watchEntryGeomRows t),
    cols := s.rd u (watchEntryGeomCols t) }

/-- The next step number of the watch of an IKB. -/
def watchNext : Fld := cell .watch 0

/-- A step opened with the entries enabled now; an open one ends UNCLOSED (R208). -/
def State.watchBegin (s : State) (p step : Nat) : State :=
  let u := Chip.ikb p
  let old := (s.watchOf p).map fun w => if w.ended then w else { w with ended := true, unclosed := true }
  if !s.enabled u .watch || s.mode u == .midnight then s.setWatch p old
  else
    let ts := (List.range 32).filter fun t => s.bit u watchTensorEnEn t
    let id := s.rd u watchNext
    (s.wr u watchNext (id + 1)).setWatch p
      (old ++ [{ id := id, step := step, ended := false, unclosed := false, entries := ts.map fun t => (t, s.watchEntry p t) }])

/-- The open step ended (R208). -/
def State.watchEnd (s : State) (p : Nat) : State :=
  s.setWatch p ((s.watchOf p).map fun w => { w with ended := true })

/-- The number of the step that is open. -/
def State.openStep (s : State) (p : Nat) : Option Nat := ((s.watchOf p).find? fun w => !w.ended).map (·.id)

/-- Whether an entry takes tiles of tag `tag` from tap `n` (R205). -/
def WatchEntry.takes (e : WatchEntry) (n tag : Nat) : Bool :=
  bitAt e.taps n = 1 && (tag &&& e.tagMask) == (e.tagMatch &&& e.tagMask)

/-- One committed element (R206, R207). -/
def WatchEntry.element (e : WatchEntry) (fmt i bits : Nat) : WatchEntry :=
  let e1 := { e with elements := e.elements + 1, digest := (e.digest + digestTerm i bits) % 2 ^ 64 }
  match decodeFmt fmt bits with
  | .nan => { e1 with nans := e1.nans + 1 }
  | v =>
    let f := v.f32
    let f' := if v == .fin 0 && fmt ≠ 0 && fmt ≠ 6 && bitAt bits (fmtBits fmt - 1) = 1 then 0x80000000 else f
    let e2 := { e1 with
      low := some (match e1.low with
        | none => f'
        | some m => if f32Key f' < f32Key m then f' else m)
      high := some (match e1.high with
        | none => f'
        | some m => if f32Key m < f32Key f' then f' else m) }
    match v with
    | .inf true => { e2 with negInf := e2.negInf + 1 }
    | .inf false => { e2 with posInf := e2.posInf + 1 }
    | .fin x => { e2 with sum := e2.sum + x, finite := e2.finite + 1, zeros := if x = 0 then e2.zeros + 1 else e2.zeros }
    | .nan => e2

/-- A row's elements committed. -/
def WatchEntry.row (e : WatchEntry) (fmt base r row : Nat) : WatchEntry :=
  let cols := min e.cols (fmtPerBeat fmt)
  (List.range cols).foldl (fun t c =>
    t.element fmt ((base * e.rows + r) * e.cols + c) (bitsOf row (c * fmtBits fmt) (fmtBits fmt))) e

/-- A tile's rows committed: a tile index already committed sets DUP, another format than the first's FORMAT_MIX, rows
beyond ROWS set GEOMETRY. -/
def WatchEntry.commit (e : WatchEntry) (tag gen : Nat) (x : TileSide) : WatchEntry :=
  let idx := tag / 2 ^ e.shift % 2 ^ e.bits
  if e.indices.contains idx then { e with dup := true }
  else if e.fmt.getD x.fmt ≠ x.fmt then { e with mix := true }
  else
    let e1 := { e with indices := idx :: e.indices, gens := gen :: e.gens, fmt := some x.fmt, tiles := e.tiles + 1,
                       geometry := e.geometry || decide (e.rows < x.rows.length) }
    ((List.range (min e.rows x.rows.length)).zip x.rows).foldl (fun t rr => t.row x.fmt idx rr.1 rr.2) e1

/-- An entry of a step changed. -/
def WatchStep.setEntry (w : WatchStep) (t : Nat) (e : WatchEntry) : WatchStep :=
  { w with entries := w.entries.map fun x => if x.1 = t then (t, e) else x }

/-- One kind of a tile committed to the lowest-numbered entry that it matches; a repeated index counts in DUP_TILES. -/
def State.commitSide (s : State) (p n kind : Nat) (t : Tile) (w : WatchStep) : State × WatchStep :=
  match w.entries.find? fun x => x.2.kind == kind && x.2.takes n t.tag with
  | none => (s, w)
  | some (k, e) =>
    let dup := e.indices.contains (t.tag / 2 ^ e.shift % 2 ^ e.bits)
    (if dup then s.inc (.ikb p) (watchEntryDupTilesCount k) else s, w.setEntry k (e.commit t.tag t.gen (t.side kind)))

/-- A step of the watch replaced. -/
def State.setStep (s : State) (p : Nat) (w : WatchStep) : State :=
  s.setWatch p ((s.watchOf p).map fun x => if x.id = w.id then w else x)

/-- A tile that closed feeds the watch (R206). -/
def State.commitTile (s : State) (p n : Nat) (t : Tile) : State :=
  match t.step.bind fun i => (s.watchOf p).find? fun w => w.id == i with
  | none => s
  | some w =>
    let (s1, w1) := s.commitSide p n 0 t w
    let (s2, w2) := s1.commitSide p n 1 t w1
    let (s3, w3) := s2.commitSide p n 2 t w2
    s3.setStep p w3

/-- A tile unchecked for a breach sets INCOMPLETE in the entries that it would have fed (R206). -/
def State.watchBreach (s : State) (p n : Nat) (tag : Nat) (step : Option Nat) : State :=
  match step.bind fun i => (s.watchOf p).find? fun w => w.id == i with
  | none => s
  | some w =>
    let mark := fun (x : Nat × WatchEntry) => if x.2.takes n tag then (x.1, { x.2 with incomplete := true }) else x
    s.setStep p { w with entries := w.entries.map mark }

/-! ## Outcomes (spec 07 R224, R230, R240) -/

/-- A tile unchecked: registers, count, event, interrupt, and the release of a held one (R224, R244). -/
def State.unchecked (s : State) (p n tag gen reason : Nat) (hold : Bool) : State :=
  let u := Chip.ikb p
  let s1 := ((s.wr u abftLastUnchkTag tag).wr u abftLastUnchkEngine n).wr u abftLastUnchkReason reason
  let s2 := ((s1.inc u (abftEngCountsUnchecked n)).event u .abft 0x0703 0
    (pay [(tag, 0), (n, 24), (reason, 28), (gen, 32)])).int u .abft 1
  if hold then s2.emit (.release p n tag false) else s2

/-- A tile of a tap that a breach makes unchecked; a parity error is also a recovered fault of the channel (R84). -/
def State.breach (s : State) (p n : Nat) (t : Tile) (reason : Nat) : State :=
  let s1 := s.watchBreach p n t.tag t.step
  let s2 := if t.check = 0 then s1 else s1.unchecked p n t.tag t.gen reason t.hold
  if reason = 1 && t.check ≠ 0 then s2.tapFault p n 0x0703 false else s2

/-- The latest mismatch shown (Table 7.9). -/
def State.showMismatch (s : State) (p n tag gen : Nat) (row col : Option Nat) (diff tol : Nat) (red : Bool) : State :=
  let u := Chip.ikb p
  let s1 := (((s.wr u abftLastMm0Tag tag).wr u abftLastMm0Engine n).wr u abftLastMm0RowFail row.isSome.toNat).wr
    u abftLastMm0ColFail col.isSome.toNat
  let s2 := ((s1.wr u abftLastMm0Redundant red.toNat).wr u abftLastMm1Gen gen).wr u abftLastMm1Row (row.getD 0xFF)
  ((s2.wr u abftLastMm1Col (col.getD 0x7F)).wr u abftLastMmDiffDiff diff).wr u abftLastMmTolTol tol

/-- Whether an ABFT_MISMATCH has been written for a generation; and that one has. -/
def State.mmSeen (s : State) (p gen : Nat) : Bool := ((look (Chip.ikb p).code s.mmGens).getD []).contains gen
def State.mmMark (s : State) (p gen : Nat) : State :=
  if s.mmSeen p gen then s
  else { s with mmGens := put (Chip.ikb p).code (gen :: (look (Chip.ikb p).code s.mmGens).getD []) s.mmGens }

/-- A mismatch localised to engine `n` (R230, R240, R244). -/
def State.mismatch (s : State) (p n : Nat) (t : Tile) (row col : Option Nat) (diff tol : Nat) : State :=
  let u := Chip.ikb p
  let s1 := (s.showMismatch p n t.tag t.gen row col diff tol false).inc u (abftEngCountsMismatch n)
  let s2 := (s1.event u .abft 0x0701 2
    (pay [(t.tag, 0), (n, 24), (row.isSome.toNat, 28), (col.isSome.toNat, 29), (t.hold.toNat, 30), (t.gen, 32),
          (row.getD 0xFF, 48), (col.getD 0x7F, 56), (diff, 64), (tol, 96)]) false false (!s.mmSeen p t.gen)).mmMark p t.gen
  let s3 := (if t.hold then s2 else s2.poisonGen p t.gen 0).int u .abft 0
  s3.tapFault p n 0x0701 true

/-- The release of a held tile (R228). -/
def State.releaseTile (s : State) (p n : Nat) (t : Tile) (pass : Bool) : State :=
  if t.hold then s.emit (.release p n t.tag (pass && !s.isPoisoned p t.gen)) else s

/-! ## The in-field check (spec 07 R233 to R236) -/

/-- The instant of the check's fire and of the CKPT_BEGIN; whether test tiles of an ended FAIL are still awaited; the
test tiles of engine `n` that have ended; the engines that failed; whether a check has fired. -/
def ifcFireAt : Fld := cell .abft 17
def ifcCkptAt : Fld := cell .abft 18
def ifcDrain : Fld := cell .abft 19
def ifcFailing : Fld := cell .abft 20
def ifcFired : Fld := cell .abft 21
def ifcEnded (n : Nat) : Fld := (fld .abft 0x1400 0 256 .ro (.c 0)).at 4 n

/-- The deadline of IFC_DL in the base in force, and whether it is ahead; an invalid one never passes (spec 05 R163). -/
def State.ifcDeadline (s : State) (p : Nat) : Nat :=
  let u := Chip.ikb p
  unpackTime (s.rd u timeCtrlBase) (s.rd u abftIfcDlNsNs) (s.rd u abftIfcDlSecLoSec + 4294967296 * s.rd u abftIfcDlSecHiSec)
def State.ifcAhead (s : State) (p : Nat) : Bool :=
  let u := Chip.ikb p
  (!s.on u timeCtrlBase && decide (1000000000 ≤ s.rd u abftIfcDlNsNs)) || decide (s.timeIn u (s.rd u timeCtrlBase) < s.ifcDeadline p)

/-- EFF_CHECK and EFF_HOLD as MODE and the fallback make them (R229). -/
def State.effUpdate (s : State) (p : Nat) : State :=
  let u := Chip.ikb p
  (s.wr u abftModeEffCheck (if s.on u abftModeFallback then 3 else s.rd u abftModeCheck)).wr
    u abftModeEffHold (s.rd u abftModeHold)

/-- The redundancy fallback set or ended. -/
def State.setFallback (s : State) (p v : Nat) : State :=
  let u := Chip.ikb p
  if s.rd u abftModeFallback = v then s else ((s.wr u abftModeFallback v).effUpdate p).int u .abft 7

/-- RELEASE set, its rise an interrupt. -/
def State.ifcRelease (s : State) (p : Nat) : State :=
  let u := Chip.ikb p
  if s.on u abftIfcCtrlRelease then s else (s.wr u abftIfcCtrlRelease 1).int u .abft 5

/-- The event at the end of a check. -/
def State.ifcEvent (s : State) (p code sev : Nat) : State :=
  let u := Chip.ikb p
  (s.event u .abft code sev (pay [(s.rd u abftIfcDescDesc, 0), (s.rd u abftIfcResultPassed, 32),
    (s.rd u abftIfcResultFailed, 48), (s.rd u ifcFailing, 64)])).int u .abft 6

/-- The engines and the number of test tiles that IFC_DESC names. -/
def State.ifcEngines (s : State) (p : Nat) : List Nat :=
  (List.range 16).filter fun n => s.bit (.ikb p) abftIfcDescDesc n
def State.ifcTiles (s : State) (p : Nat) : Nat := bitsOf (s.rd (.ikb p) abftIfcDescDesc) 16 8

/-- Whether every named test tile has ended. -/
def State.ifcAllEnded (s : State) (p : Nat) : Bool :=
  (s.ifcEngines p).all fun n => popCount 256 (s.rd (.ikb p) (ifcEnded n)) == s.ifcTiles p

/-- A check ends INCOMPLETE: PENDING when the deadline is ahead, otherwise the fallback (Table 7.7). -/
def State.ifcIncomplete (s : State) (p : Nat) : State :=
  let u := Chip.ikb p
  let s1 := (((s.wr u abftIfcCtrlRunning 0).wr u abftIfcCtrlIncomplete 1).ifcEvent p 0x0707 1).ifcRelease p
  if s.ifcAhead p then s1 else s1.setFallback p 1

/-- A test tile's outcome entered in the running check (Table 7.7). -/
def State.ifcTileEnd (s : State) (p n tag : Nat) (pass : Bool) : State :=
  let u := Chip.ikb p
  let named := s.bit u abftIfcDescDesc n && tag % 256 < s.ifcTiles p && !s.bit u (ifcEnded n) (tag % 256)
  if !(s.on u abftIfcCtrlRunning || s.on u ifcDrain) || !named then s
  else
    let s1 := s.setB u (ifcEnded n) (tag % 256)
    if pass then
      let s2 := s1.inc u abftIfcResultPassed
      if !s2.ifcAllEnded p then s2
      else if s2.on u ifcDrain then (s2.wr u ifcDrain 0).ifcRelease p
      else
        let s3 := (((s2.wr u abftIfcCtrlRunning 0).wr u abftIfcCtrlPass 1).wr u abftIfcCtrlPending 0).ifcEvent p 0x0705 0
        (s3.setFallback p 0).ifcRelease p
    else
      let s2 := (s1.inc u abftIfcResultFailed).setB u ifcFailing n
      let s3 := if s2.on u abftIfcCtrlRunning then
          (((s2.wr u abftIfcCtrlRunning 0).wr u abftIfcCtrlFail 1).wr u ifcDrain 1).ifcEvent p 0x0706 2 |>.setFallback p 1
        else s2
      if s3.ifcAllEnded p then (s3.wr u ifcDrain 0).ifcRelease p else s3

/-- R236: an ABFT_CHECK launch: its descriptor copied, and the check started within a checkpoint. -/
def State.abftCheck (s : State) (p desc : Nat) : State :=
  let u := Chip.ikb p
  let s1 := (s.wr u abftIfcDescDesc desc).wr u ifcFired 1
  if !s.on u abftIfcCtrlPending && !s.on u abftModeFallback then s1
  else if s.on u abftIfcCtrlRunning then s1
  else if s.on u abftIfcCtrlInCkpt then
    let s2 := (((s1.wr u abftIfcCtrlRunning 1).wr u abftIfcCtrlRelease 0).wr u ifcFireAt s.now).wr u ifcDrain 0
    let s3 := ((s2.wr u abftIfcResultPassed 0).wr u abftIfcResultFailed 0).wr u ifcFailing 0
    ((List.range 16).foldl (fun t n => t.wr u (ifcEnded n) 0) s3).int u .abft 4
  else
    (s1.wr u abftIfcCtrlMissedCkpt 1).event u .abft 0x0708 1
      (pay [(s1.rd u abftIfcDescDesc, 0), (s.rd u abftIfcDlSecLoSec + 4294967296 * s.rd u abftIfcDlSecHiSec, 32)])

/-- R236: CKPT_BEGIN: RELEASE at once when no check is due, otherwise after WAIT_MS. -/
def State.ifcCkptBegin (s : State) (p : Nat) : State :=
  let u := Chip.ikb p
  let s1 := s.wr u abftIfcCtrlInCkpt 1
  if s.on u abftIfcCtrlRunning then s1
  else if s.on u abftIfcCtrlPending || s.on u abftModeFallback then
    (s1.wr u abftIfcCtrlRelease 0).wr u ifcCkptAt (s.now + 1)
  else s1.ifcRelease p

/-- R236: CKPT_END: a running check ends INCOMPLETE. -/
def State.ifcCkptEnd (s : State) (p : Nat) : State :=
  let u := Chip.ikb p
  let s1 := (s.wr u abftIfcCtrlInCkpt 0).wr u ifcCkptAt 0
  if s.on u abftIfcCtrlRunning then s1.ifcIncomplete p else s1

/-- R235: a write of IFC_CTRL.PENDING; a check that runs is not ended by it. -/
def State.ifcPending (s : State) (p value : Nat) : State := s.wr (.ikb p) abftIfcCtrlPending value

def execIfcPendingWrite (p value : Nat) (s : State) : Out' := storeless s <| .next (s.ifcPending p value)

/-- R233: a write of IFC_EXPECT; ignored and logged while a check runs. -/
def State.ifcExpect (s : State) (p k digest : Nat) : State :=
  if s.on (.ikb p) abftIfcCtrlRunning then s.pageErr (.ikb p) .abft 0x0102 1
  else s.wr (.ikb p) (abftIfcExpectDigest (k % 256)) digest

def execIfcExpectWrite (p k digest : Nat) (s : State) : Out' := storeless s <| .next (s.ifcExpect p k digest)

/-- R236: the deadline passes in PENDING: the redundancy fallback. -/
def execIfcDeadline (p : Nat) (s : State) : Out' := storeless s <|
  let u := Chip.ikb p
  if s.on u abftIfcCtrlPending && !s.on u abftIfcCtrlRunning && !s.on u abftModeFallback && !s.ifcAhead p then
    .next ((s.setFallback p 1).event u .abft 0x0709 1
      (pay [(if s.on u ifcFired then s.rd u abftIfcDescDesc else 0, 0),
            (s.rd u abftIfcDlSecLoSec + 4294967296 * s.rd u abftIfcDlSecHiSec, 32)]))
  else .next s

/-- R236: WAIT_MS after CKPT_BEGIN without a check. -/
def execIfcWaitExpiry (p : Nat) (s : State) : Out' := storeless s <|
  let u := Chip.ikb p
  if s.on u ifcCkptAt && !s.on u abftIfcCtrlRunning && s.rd u ifcCkptAt + s.rd u abftIfcTimingWaitMs * ms ≤ s.now + 1 then
    .next ((s.wr u ifcCkptAt 0).ifcRelease p)
  else .next s

/-- R236: TIMEOUT_MS after the fire with test tiles outstanding. -/
def execIfcTimeout (p : Nat) (s : State) : Out' := storeless s <|
  let u := Chip.ikb p
  if s.on u abftIfcCtrlRunning && s.rd u ifcFireAt + s.rd u abftIfcTimingTimeoutMs * ms ≤ s.now then
    .next (s.ifcIncomplete p)
  else .next s

/-- R229: a write of ABFT.MODE: CHECK, HOLD and SAMPLE_N taken together or refused, ENG_EN always taken. -/
def State.abftModeWrite (s : State) (p value : Nat) : State :=
  let u := Chip.ikb p
  let check := bitsOf value 0 3
  let hold := bitAt value 3
  let sn := bitsOf value 4 4
  if 3 < check || (hold = 1 && check < 2) || sn = 0 then s.pageErr u .abft 0x0100 1
  else ((((s.wr u abftModeCheck check).wr u abftModeHold hold).wr u abftModeSampleN sn).wr
    u abftModeEngEn (bitsOf value 16 16)).effUpdate p

def execAbftModeWrite (p value : Nat) (s : State) : Out' := storeless s <| .next (s.abftModeWrite p value)

/-! ## The check of a tile (spec 07 R216 to R223) -/

/-- The elements of a row: encodings 0 … cnt-1 of a format. -/
def rowBits (fmt cnt row : Nat) : List Nat := (List.range cnt).map fun c => bitsOf row (c * fmtBits fmt) (fmtBits fmt)

/-- The matrix of a kind as encodings. -/
def TileSide.matrix (x : TileSide) (cols : Nat) : List (List Nat) := x.rows.map (rowBits x.fmt cols)

/-- The unit roundoff of a C format as an FP32 encoding (Table 7.2). -/
def unitRound (fmt : Nat) : Nat :=
  match fmt with
  | 3 => 0x3A000000
  | 4 => 0x3B800000
  | _ => 0x33800000

/-- The largest finite value of a C format, in units of 2^-149. -/
def fmtMax (fmt : Nat) : Int :=
  match fmt with
  | 3 => 65504 * 2 ^ 149
  | 4 => 255 * 2 ^ 269
  | _ => 16777215 * 2 ^ 253

/-- Whether a value() is infinite (R223); a compensated sum that overflows has s infinite and c of the other sign, so its
value() is a NaN. -/
def overflowed (a : Nat) : Bool := fIsInf a || fIsNaN a

/-- The two sums of a row or column, its bound, its operand bound: E, O, W, and value of the operand part of W. -/
structure SumTest where
  d : Nat
  tol : Nat
  operandW : Nat
  infinite : Bool
deriving DecidableEq, Repr

/-- The test of R219 for one column or row: `xs` the operand sums and `abs` their absolute sums, `ys` the elements they
meet, `obs` the C elements, all FP32 encodings. -/
def sumTest (mult u tolAbs : Nat) (xs absXs : List Nat) (ys obs : List Nat) : SumTest :=
  let e := compSum ((xs.zip ys).map fun p => fmul p.1 p.2)
  let o := compSum obs
  let w0 := compSum ((absXs.zip ys).map fun p => fmul p.1 (fabs p.2))
  let oAbs := (compSum (obs.map fabs)).value
  let w := w0.add oAbs
  let d := fabs (fadd (fsub e.s o.s) (fsub e.c o.c))
  let tol := fadd (fmul (fmul (f32Ratio ((mult : Int) * 2 ^ 149) 1) u) w.value) tolAbs
  { d := d, tol := tol, operandW := w0.value,
    infinite := overflowed e.value || overflowed o.value || overflowed w0.value || overflowed oAbs || overflowed w.value }

/-- The columns of a matrix. -/
def columns (cnt : Nat) (m : List (List Nat)) : List (List Nat) := (List.range cnt).map fun j => m.map fun r => nth r j

/-- The tests of every column and every row of a floating-point tile; the matrices are FP32 encodings. -/
def floatTests (mult u tolAbs k n : Nat) (a b c : List (List Nat)) : List SumTest × List SumTest :=
  let acols := columns k a
  let as := acols.map fun l => (compSum l).value
  let aAbs := acols.map fun l => (compSum (l.map fabs)).value
  let bs := b.map fun l => (compSum l).value
  let bAbs := b.map fun l => (compSum (l.map fabs)).value
  let cols := ((columns n b).zip (columns n c)).map fun p => sumTest mult u tolAbs as aAbs p.1 p.2
  let rows := (a.zip c).map fun p => sumTest mult u tolAbs bs bAbs p.1 p.2
  (cols, rows)

/-- Whether an operand sum of R218 is infinite. -/
def operandInfinite (k : Nat) (a b : List (List Nat)) : Bool :=
  (columns k a).any (fun l => overflowed (compSum (l.map fabs)).value || overflowed (compSum l).value) ||
  b.any (fun l => overflowed (compSum (l.map fabs)).value || overflowed (compSum l).value)

/-- The first position at which a predicate holds. -/
def firstIdx {α : Type} (f : α → Bool) : List α → Option Nat
  | [] => none
  | x :: xs => if f x then some 0 else (firstIdx f xs).map (· + 1)

/-- The outcome of a floating-point tile whose elements are all finite (R219, R220, R223). -/
def floatOutcome (cols rows : List SumTest) : CheckResult :=
  if cols.any (·.infinite) || rows.any (·.infinite) then .unchecked 0x8
  else
    let fails := fun (t : SumTest) => fgt t.d t.tol
    let col := firstIdx fails cols
    let row := firstIdx fails rows
    match col, row with
    | none, none => .pass
    | some j, _ => .mismatch row col ((cols[j]?.map (·.d)).getD 0) ((cols[j]?.map (·.tol)).getD 0)
    | none, some i => .mismatch row col ((rows[i]?.map (·.d)).getD 0) ((rows[i]?.map (·.tol)).getD 0)

/-- The outcome of a tile with an infinity or NaN in its C-tile (R223): a mismatch at the first such element whose
column's operand bound is finite for the format, else OVERFLOW. DIFF and TOL are `d` and `t`. -/
def nonFiniteC (fmt : Nat) (cols : List SumTest) (c : List (List Nat)) (d t : Nat) : CheckResult :=
  let bad := fun (j x : Nat) => (fIsInf x || fIsNaN x) && (match cols[j]? with
    | some w => (match decodeIeee 23 8 w.operandW with
      | .fin v => decide (v < fmtMax fmt)
      | _ => false)
    | none => false)
  let badRow := fun (r : List Nat) => firstIdx (fun p => bad p.1 p.2) ((List.range r.length).zip r)
  match firstIdx (fun r => (badRow r).isSome) c with
  | none => .unchecked 0x8
  | some i =>
    let js := (c.filterMap badRow)
    .mismatch (some i) (some (js.foldl Nat.min (js.headD 0))) d t

/-- The sum of integers. -/
def isum (l : List Int) : Int := l.foldl (· + ·) 0

/-- The exact outcome of an INT8 tile (R219): DIFF is the difference in FP32, TOL zero. -/
def intOutcome (k n : Nat) (a b c : List (List Nat)) : CheckResult :=
  let sA := a.map fun r => r.map fun x => signedOf x 8
  let sB := b.map fun r => r.map fun x => signedOf x 8
  let sC := c.map fun r => r.map fun x => signedOf x 32
  let colOf := fun (m : List (List Int)) (j : Nat) => m.map fun r => r.getD j 0
  let asum := (List.range k).map fun i => isum (colOf sA i)
  let bsum := sB.map isum
  let colD := (List.range n).map fun j =>
    isum ((asum.zip (colOf sB j)).map fun p => p.1 * p.2) - isum (colOf sC j)
  let rowD := (sA.zip sC).map fun p => isum ((p.1.zip bsum).map fun q => q.1 * q.2) - isum p.2
  let col := firstIdx (fun (x : Int) => x != 0) colD
  let row := firstIdx (fun (x : Int) => x != 0) rowD
  let mag := fun (x : Int) => f32Ratio ((x.natAbs : Int) * 2 ^ 149) 1
  match col, row with
  | none, none => .pass
  | some j, _ => .mismatch row col (mag (colD.getD j 0)) 0
  | none, some i => .mismatch row col (mag (rowD.getD i 0)) 0

/-- TOL_ABS of a C format. -/
def State.tolAbs (s : State) (p fmt : Nat) : Nat :=
  match fmt with
  | 3 => s.rd (.ikb p) abftTolAbsFp16Tol
  | 4 => s.rd (.ikb p) abftTolAbsBf16Tol
  | _ => s.rd (.ikb p) abftTolAbsFp32Tol

/-- An element in FP32 (exact for every checked format). -/
def toF32 (fmt bits : Nat) : Nat :=
  match fmt with
  | 5 => bits
  | _ => (decodeFmt fmt bits).f32

/-- The checksum outcome of a closed tile of engine `n` (R216 to R223); `d` and `t` stand for DIFF and TOL where the
spec states none. -/
def State.checkTile (s : State) (p n : Nat) (x : Tile) (d t : Nat) : CheckResult :=
  let geometry := x.a.rows.length ≠ x.m || x.b.rows.length ≠ x.k || x.c.rows.length ≠ x.m ||
    fmtPerBeat x.a.fmt < x.k || fmtPerBeat x.b.fmt < x.n || fmtPerBeat x.c.fmt < x.n
  let isFloat := fun f => 1 ≤ f && f ≤ 5
  if geometry then .unchecked 0x6
  else if x.a.fmt = 0 && x.b.fmt = 0 && x.c.fmt = 6 then
    intOutcome x.k x.n (x.a.matrix x.k) (x.b.matrix x.n) (x.c.matrix x.n)
  else if isFloat x.a.fmt && isFloat x.b.fmt && 3 ≤ x.c.fmt && x.c.fmt ≤ 5 then
    let a := (x.a.matrix x.k).map fun r => r.map (toF32 x.a.fmt)
    let b := (x.b.matrix x.n).map fun r => r.map (toF32 x.b.fmt)
    let c := (x.c.matrix x.n).map fun r => r.map (toF32 x.c.fmt)
    let odd := fun (m : List (List Nat)) => m.any fun r => r.any fun v => fIsInf v || fIsNaN v
    if odd a || odd b then .unchecked 0x7
    else
      let (cols, rows) := floatTests (s.rd (.ikb p) (abftEngTolMult n)) (unitRound x.c.fmt) (s.tolAbs p x.c.fmt) x.k x.n a b c
      if odd c then nonFiniteC x.c.fmt cols c d t
      else if operandInfinite x.k a b then .unchecked 0x8
      else floatOutcome cols rows
  else .unchecked 0x3

/-- The digest of a C-tile (R227). -/
def Tile.digest (x : Tile) : Nat :=
  ((List.range x.c.rows.length).zip x.c.rows).foldl (fun acc rr =>
    ((List.range x.n).zip (rowBits x.c.fmt x.n rr.2)).foldl (fun a cc =>
      (a + digestTerm (rr.1 * x.n + cc.1) cc.2) % 2 ^ 64) acc) 0

/-- A tile that ended PASS. -/
def State.tilePass (s : State) (p n : Nat) (t : Tile) : State :=
  (s.inc (.ikb p) (abftEngCheckedCount n)).releaseTile p n t true

/-- A tile that ended MISMATCH, its fault on its own engine. -/
def State.tileFail (s : State) (p n : Nat) (t : Tile) (row col : Option Nat) (diff tol : Nat) : State :=
  ((s.inc (.ikb p) (abftEngCheckedCount n)).mismatch p n t row col diff tol).releaseTile p n t false

/-- The end of a tile outside Redundancy. -/
def State.endTile (s : State) (p n : Nat) (t : Tile) (r : CheckResult) : State :=
  let s0 := s.setTiles p n (dropTile t.id (s.tilesOf p n))
  match r with
  | .pass => s0.tilePass p n t
  | .mismatch row col d tol => s0.tileFail p n t row col d tol
  | .unchecked reason => s0.unchecked p n t.tag t.gen reason t.hold

/-- The outcome of a test tile: its checksum and its expected digest (R233). -/
def State.testResult (s : State) (p : Nat) (x : Tile) (r : CheckResult) (d t : Nat) : CheckResult :=
  match r with
  | .pass => if x.digest = s.rd (.ikb p) (abftIfcExpectDigest (x.tag % 256)) then .pass else .mismatch none none d t
  | r => r

/-- The other copy of a tile, closed and checked, on another tap (R227). -/
def State.partner (s : State) (p n : Nat) (t : Tile) : Option (Nat × Tile) :=
  ((List.range 16).filter (· != n)).findSome? fun m =>
    ((s.tilesOf p m).find? fun x => x.tag == t.tag && x.gen == t.gen && x.check == 3 && !x.test && x.result.isSome).map
      fun x => (m, x)

/-- Both copies of a pair end (Table 7.5); the copy of the lower-numbered tap feeds the watch. -/
def State.endPair (s : State) (p n1 n2 : Nat) (t1 t2 : Tile) (r1 r2 : CheckResult) : State :=
  let u := Chip.ikb p
  let s0 := ((s.setTiles p n1 (dropTile t1.id (s.tilesOf p n1))))
  let s1 := s0.setTiles p n2 (dropTile t2.id (s0.tilesOf p n2))
  let s2 := s1.commitTile p n1 t1
  match r1, r2 with
  | .mismatch a b d e, .mismatch a' b' d' e' => (s2.tileFail p n1 t1 a b d e).tileFail p n2 t2 a' b' d' e'
  | .mismatch a b d e, _ =>
    ((s2.tileFail p n1 t1 a b d e).inc u (abftEngCheckedCount n2)).releaseTile p n2 t2 false
  | _, .mismatch a b d e =>
    ((s2.tileFail p n2 t2 a b d e).inc u (abftEngCheckedCount n1)).releaseTile p n1 t1 false
  | _, _ =>
    if t1.digest = t2.digest then (s2.tilePass p n1 t1).tilePass p n2 t2
    else
      let held := t1.hold || t2.hold
      let s3 := ((s2.inc u (abftEngCheckedCount n1)).inc u (abftEngCheckedCount n2)).showMismatch p n1 t1.tag t1.gen
        none none 0 0 true
      let s4 := (((s3.inc u (abftEngCountsMismatch n1)).inc u (abftEngCountsMismatch n2)).inc u (abftEngPairSuspect n1)).inc
        u (abftEngPairSuspect n2)
      let s5 := s4.event u .abft 0x0702 2
        (pay [(t1.tag, 0), (n1, 24), (n2, 28), (t1.gen, 32), (held.toNat, 48), (t1.digest % 4294967296, 64),
              (t2.digest % 4294967296, 96)])
      let s6 := ((if held then s5 else s5.poisonGen p t1.gen 0).int u .abft 0).int u .abft 2
      (s6.releaseTile p n1 t1 false).releaseTile p n2 t2 false

/-- R220, R227: the check of a closed tile ends; a copy in Redundancy waits for its partner. -/
def execTileCheckDone (p n tag : Nat) (s : State) : Out' := storeless s <|
  match (s.tilesOf p n).find? fun t => t.tag == tag % 16777216 && t.closed && t.result.isNone && t.dead.isNone with
  | none => .next s
  | some t =>
    if t.check = 0 then .next s
    else
      let (d, s1) := s.free 32
      let (e, s2) := s1.free 32
      let r0 := s2.checkTile p n t d e
      if t.test then
        let r := s2.testResult p t r0 d e
        let s3 := s2.endTile p n t r
        match r with
        | .unchecked _ => .next s3
        | .pass => .next (s3.ifcTileEnd p n tag true)
        | .mismatch .. => .next (s3.ifcTileEnd p n tag false)
      else if t.check = 3 then
        let t' := { t with result := some r0 }
        let s3 := s2.setTiles p n (setTile t' (s2.tilesOf p n))
        match s3.partner p n t' with
        | none => .next s3
        | some (m, x) =>
          if m < n then .next (s3.endPair p m n x t' (x.result.getD .pass) r0)
          else .next (s3.endPair p n m t' x r0 (x.result.getD .pass))
      else .next (s2.endTile p n t r0)

/-- R227: 100 µs after its last beat a copy whose partner has not closed is unchecked, NO_PAIR; it feeds the watch
alone. -/
def execRedundancyNoPair (p n tag : Nat) (s : State) : Out' := storeless s <|
  match (s.tilesOf p n).find? fun t => t.tag == tag % 16777216 with
  | none => .next s
  | some t =>
    if t.check = 3 && !t.test && t.closed && t.dead.isNone && t.lastAt + 100 * us ≤ s.now && (s.partner p n t).isNone then
      let s1 := (s.setTiles p n (dropTile t.id (s.tilesOf p n))).inc (.ikb p) (abftEngPairNoPair n)
      .next ((s1.commitTile p n t).unchecked p n tag t.gen 0x9 t.hold)
    else .next s

/-- R92: a tile not closed within 100 µs of its first beat. -/
def execTileTimeout (p n tag : Nat) (s : State) : Out' := storeless s <|
  match (s.tilesOf p n).find? fun t => t.tag == tag % 16777216 with
  | none => .next s
  | some t =>
    if !t.closed && t.firstAt + 100 * us ≤ s.now then
      let s1 := s.setTiles p n (dropTile t.id (s.tilesOf p n))
      .next (if t.dead.isSome then s1 else s1.breach p n t 0x5)
    else .next s

/-- Every open tile of an IKB ends unchecked, TAP_TIMEOUT: a source loss, entry to Midnight, SOFT_RESET (Table 7.3). -/
def State.endTiles (s : State) (p : Nat) : State :=
  (List.range 16).foldl (fun t n =>
    let l := t.tilesOf p n
    (l.filter fun x => x.dead.isNone && !x.closed).foldl (fun w x => w.breach p n x 0x5) (t.setTiles p n [])) s

/-! ## Beats (spec 03 R91, R92) -/

/-- The check that a tile's first beat starts: none, or the mode in force (R226, R229, R233). -/
def State.checkOf (s : State) (p n tag gen : Nat) : Nat × Bool :=
  let u := Chip.ikb p
  if !s.enabled u .abft || !s.bit u abftModeEngEn n then (0, false)
  else if gen = 0xFFFF && (s.on u abftIfcCtrlRunning || s.on u ifcDrain) then (max 2 (s.rd u abftModeEffCheck), true)
  else match s.rd u abftModeEffCheck with
    | 1 =>
      let x := (s.rd u abftSampleSeedSeed * 2 ^ 40) ^^^ (gen * 2 ^ 24) ^^^ tag
      (if mix64 (x % 2 ^ 64) % 2 ^ s.rd u abftModeSampleN = 0 then 1 else 0, false)
    | c => (c, false)

/-- A new tile at its first beat. -/
def State.newTile (s : State) (p n : Nat) (b : Beat) : Tile :=
  let u := Chip.ikb p
  let (check, test) := s.checkOf p n b.tag b.gen
  { id := s.rd u tileNext, tag := b.tag, gen := b.gen, firstAt := s.now, lastAt := s.now, m := s.rd u (abftEngGeomM n),
    k := s.rd u (abftEngGeomK n), n := s.rd u (abftEngGeomN n), check := check,
    hold := s.on u abftModeEffHold && check ≠ 0, test := test, step := s.openStep p, dead := none, a := {}, b := {},
    c := {}, result := none, committed := false }

/-- A beat's row taken into a tile. -/
def Tile.take (t : Tile) (now : Nat) (b : Beat) : Tile :=
  let x := t.side b.kind
  let x' : TileSide := { opened := true, closed := x.closed || b.last, fmt := if b.first then b.fmt else x.fmt,
                         rows := if b.first then [b.data] else x.rows ++ [b.data] }
  { t.setSide b.kind x' with lastAt := now }

/-- A tile that has just closed: it feeds the watch unless its pair must end first, and is kept only for a check. -/
def State.tileClosed (s : State) (p n : Nat) (t : Tile) : State :=
  let pair := t.check = 3 && !t.test
  let s1 := if pair then s else s.commitTile p n t
  if t.check = 0 then s1.setTiles p n (dropTile t.id (s1.tilesOf p n))
  else s1.setTiles p n (setTile { t with committed := !pair } (s1.tilesOf p n))

/-- The copies of a tag and generation under Redundancy on other taps. -/
def State.copies (s : State) (p n tag gen : Nat) : Nat :=
  (((List.range 16).filter (· != n)).filter fun m =>
    (s.tilesOf p m).any fun x => x.tag == tag && x.gen == gen && x.check == 3 && !x.test && x.dead.isNone).length

/-- A FIRST beat that opens a tile: a ninth is unchecked, TAP_OVERRUN; a third copy is ignored and counted. -/
def State.openTile (s : State) (p n : Nat) (b : Beat) : State :=
  let u := Chip.ikb p
  let t := s.newTile p n b
  let s := s.wr u tileNext (t.id + 1)
  let l := s.tilesOf p n
  let s0 := if t.step.isNone && s.enabled u .watch then s.inc u watchOutsideCount else s
  let s1 := if t.check = 0 && s.rd u abftModeEffCheck = 1 && s.bit u abftModeEngEn n && s.enabled u .abft then
      s0.inc u (abftEngSkippedCount n)
    else s0
  if 8 ≤ (l.filter fun x => x.dead.isNone && !x.closed).length then
    (s1.breach p n t 0x2).setTiles p n (l ++ [{ t.take s.now b with dead := some 0x2 }])
  else if t.check = 3 && !t.test && 2 ≤ s.copies p n b.tag b.gen then
    (s1.inc u (abftEngPairNoPair n)).setTiles p n (l ++ [{ t.take s.now b with dead := some 0x9 }])
  else s1.setTiles p n (l ++ [t.take s.now b])

/-- A tile marked unchecked for a breach; its later beats are discarded. -/
def State.killTile (s : State) (p n : Nat) (t : Tile) (reason : Nat) : State :=
  (s.breach p n t reason).setTiles p n (setTile { t with dead := some reason } (s.tilesOf p n))

/-- A sound beat of a tag with an open tile. -/
def State.beatOpen (s : State) (p n : Nat) (t : Tile) (b : Beat) : State :=
  let x := t.side b.kind
  if b.first && x.opened then
    ((s.breach p n t 0x4).setTiles p n (dropTile t.id (s.tilesOf p n))).openTile p n b
  else if !b.first && (!x.opened || x.closed) then s.killTile p n t 0x4
  else
    let t' := t.take s.now b
    if t'.closed then s.tileClosed p n t' else s.setTiles p n (setTile t' (s.tilesOf p n))

/-- A beat of a tile that is unchecked already: it only counts toward the tile's end. -/
def State.beatDead (s : State) (p n : Nat) (t : Tile) (b : Beat) : State :=
  let x := t.side b.kind
  let t' := t.setSide b.kind { x with opened := true, closed := x.closed || b.last }
  if t'.closed then s.setTiles p n (dropTile t.id (s.tilesOf p n))
  else s.setTiles p n (setTile t' (s.tilesOf p n))

/-- A beat outside Midnight. -/
def State.beat (s : State) (p n : Nat) (b : Beat) : State :=
  let found := (s.tilesOf p n).find? fun t => t.tag == b.tag && !(t.closed && t.dead.isNone)
  match found with
  | some t =>
    if t.dead.isSome then s.beatDead p n t b
    else if !b.parity then s.killTile p n t 0x1
    else if b.kind = 3 || !fmtAllowed b.kind b.fmt then s.killTile p n t 0x3
    else s.beatOpen p n t b
  | none =>
    let t := s.newTile p n b
    let s' := s.wr (.ikb p) tileNext (t.id + 1)
    if !b.parity then s'.killTile p n t 0x1
    else if b.kind = 3 || !fmtAllowed b.kind b.fmt then s'.killTile p n t 0x3
    else if b.first then s.openTile p n b
    else s.breach p n t 0x4

/-- R91, R92, R133: a checksum-tap beat. -/
def execTapBeat (p n : Nat) (b : Beat) (s : State) : Out' := storeless s <|
  if s.mode (.ikb p) == .midnight then .next (s.midnightActivity p 0 n .abft)
  else .next ((s.countBeat p n).beat p n { b with tag := b.tag % 16777216, gen := b.gen % 65536, kind := b.kind % 4 })

/-! ## Watch reports (spec 06 R208, R209) -/

/-- Whether a tile of a step has still to close, end unchecked or see its pair end. -/
def State.stepOpen (s : State) (p id : Nat) : Bool :=
  s.tiles.any fun e => e.1 / 16 == p && e.2.any fun t => t.step == some id && t.dead.isNone && !t.committed

/-- MEAN (R206): the exact sum over the count of finite elements, rounded once. -/
def WatchEntry.mean (e : WatchEntry) : Nat :=
  if 0 < e.posInf && 0 < e.negInf then f32NaN
  else if 0 < e.posInf then 0x7F800000
  else if 0 < e.negInf then 0xFF800000
  else if e.finite = 0 then f32NaN
  else f32Ratio e.sum e.finite

/-- The report of an entry (Table 6.9). -/
def State.watchReport (s : State) (p : Nat) (w : WatchStep) (t : Nat) (e : WatchEntry) : List Nat :=
  let poisoned := e.gens.any fun g => s.isPoisoned p g
  let flags := pay [((e.tiles == 0).toNat, 0), (e.incomplete.toNat, 1), (e.dup.toNat, 2), (e.geometry.toNat, 3),
                    (e.mix.toNat, 4), (w.unclosed.toNat, 5), (poisoned.toNat, 6)]
  [e.name, t + 32 * e.fmt.getD 0, flags, w.step, e.elements, e.tiles, e.low.getD f32NaN, e.high.getD f32NaN, e.mean,
   e.nans, e.posInf + e.negInf, e.zeros, e.digest]

/-- One report formed: sent, or counted as shed (R211). -/
def State.sendReport (s : State) (p : Nat) (w : WatchStep) (x : Nat × WatchEntry) : State :=
  let u := Chip.ikb p
  if 5 ≤ s.rd u coderShedLevel then s.inc u watchShedCount
  else if s.on u (ltlStatUp .link) && !s.txRoom p 0x50 [] then (s.linkDiscard p 0x50).inc u watchShedCount
  else
    let s1 := ((s.sendUp p 0x50 (s.watchReport p w x.1 x.2)).inc u coderWatchBytesCount 48).int u .watch 0
    if x.2.incomplete || x.2.dup || x.2.mix then s1.int u .watch 1 else s1

/-- R208: once every tile of the oldest ended step has ended, its reports are formed and queued. -/
def execWatchReportForm (p : Nat) (s : State) : Out' := storeless s <|
  match s.watchOf p with
  | [] => .next s
  | w :: ws =>
    if w.ended && !s.stepOpen p w.id then
      .next (w.entries.foldl (fun t x => t.sendReport p w x) (s.setWatch p ws))
    else .next s

end Sys2Proof.Machine
end

