-- ==== Sys2Proof/Machine/Governor.lean ====
section
/-! DEFINITION. Spec 08: rail sensing, the hard path, operating points and their changes, requests, breaks, the
temperature bin. -/

namespace Sys2Proof.Machine

/-! ## Cells of the governor page -/

/-- GOV_REQ, the index it names, when it rose, whether its timeout is recorded; GOV_ACK as the IKB sees it; the abort's
recovery handshake due. -/
def govReq : Fld := cell .gov 2
def govReqIdx : Fld := cell .gov 3
def govReqAt : Fld := cell .gov 4
def govTimedOut : Fld := cell .gov 5
def govAck : Fld := cell .gov 6
def govRecover : Fld := cell .gov 7
/-- AVS_REQ, its rail, when it rose; AVS_ACK as the IKB sees it. -/
def avsReq : Fld := cell .gov 8
def avsRail : Fld := cell .gov 9
def avsAt : Fld := cell .gov 10
def avsAck : Fld := cell .gov 11
/-- RAIL_PG[7:0] as the IKB sees it. -/
def railPg : Fld := cell .gov 12
/-- The change that waits for a transaction to end: 1 + index × 2 + whether it is a GOV_STEP's. -/
def govWaiting : Fld := cell .gov 13
/-- When GOV_HARD may fall; whether no permitted index exists. -/
def hardUntil : Fld := cell .gov 14
def exhausted : Fld := cell .gov 15
/-- When the open break opened, when a cause was last seen, until when BREAK_IDX is kept after a close (plus 1). -/
def breakAt : Fld := cell .gov 16
def causeAt : Fld := cell .gov 17
def breakHold : Fld := cell .gov 18
/-- The latest epoch acted on, plus 1; the point that a GOV_STEP in Midnight left, plus 1. -/
def epochLast : Fld := cell .gov 19
def midnightStep : Fld := cell .gov 20
/-- The latest hard decision's instant, plus 1. -/
def hardDecAt : Fld := cell .gov 22
/-- Runs of samples above ILIM and of low readings, the instant of the latest RAIL_VOLT plus 1, and soft caps, by rail. -/
def hardRun (r : Nat) : Fld := cell .gov (32 + r)
def lowRun (r : Nat) : Fld := cell .health r
def voltAt (r : Nat) : Fld := cell .health (8 + r)
def softCap (r : Nat) : Fld := cell .gov (40 + r)
/-- The latest sample of each thermal site, and when it came (plus 1). -/
def siteCode (k : Nat) : Fld := cell .health (64 + k)
def siteAt (k : Nat) : Fld := cell .health (128 + k)
/-- Whether the bin is 7 for want of a fresh site. -/
def binNone : Fld := cell .health 16 1

/-! ## Points (R252 to R254, R263) -/

/-- Whether index `i` is excluded in the current bin. -/
def State.excluded (s : State) (p i : Nat) : Bool := s.bit (.ikb p) (optabExclMask (s.rd (.ikb p) govStatTbin)) i
def State.entryValid (s : State) (p i : Nat) : Bool := s.on (.ikb p) (optabEntryPointValid i)

/-- The permitted index for a requested one: the lowest valid, not excluded, at or above it (R263). -/
def State.permittedIdx (s : State) (p req : Nat) : Option Nat :=
  (List.range 32).find? fun i => req ≤ i && s.entryValid p i && !s.excluded p i

/-- The scaling rails in ascending order. -/
def State.scaling (s : State) (p : Nat) : List Nat := (List.range 8).filter fun r => s.bit (.ikb p) optabCtrlScaleRails r

/-- The voltage of rail `r` in entry `i`, mV. -/
def State.entryVolt (s : State) (p i r : Nat) : Nat :=
  if r % 2 = 0 then s.rd (.ikb p) (optabEntryVoltMvLo i (r / 2)) else s.rd (.ikb p) (optabEntryVoltMvHi i (r / 2))

/-- Whether every scaling rail is within its regulation window. -/
def State.railsGood (s : State) (p : Nat) : Bool := (s.scaling p).all fun r => s.bit (.ikb p) railPg r

/-! ## Reports (Table 8.2) -/

/-- Whether the base in force is valid. -/
def State.baseValid (s : State) (u : Chip) : Bool :=
  if s.rd u timeCtrlBase = 0 then s.on u timeStatValid else s.on u timeStatMerSet

/-- The epoch number of now. -/
def State.epochNo (s : State) (u : Chip) : Nat :=
  let b := s.rd u timeCtrlBase
  (if b = 0 then s.timeIn u 0 / 250000 else s.timeIn u 1 / 12500) % 4294967296

/-- Whether an enabled sense channel is faulted. -/
def State.anyFaulted (s : State) (p : Nat) : Bool :=
  (s.rd (.ikb p) healthChanEnFaulted &&& s.rd (.ikb p) healthChanEnEn) != 0

/-- The fields of a governor report of a kind, with the cause it carries. -/
def State.govBody (s : State) (p kind cause : Nat) : List Nat :=
  let u := Chip.ikb p
  [s.rd u govJobJob, s.epochNo u, s.rd u govStatReqIdx + 32 * kind, s.rd u govStatCurIdx + 32 * cause,
   s.rd u govStatJobIdx + 32 * s.rd u govStatHard + 64 * s.rd u govStatSoftCap + 128 * (s.anyFaulted p).toNat,
   s.rd u govStatBreakIdx + 32 * s.rd u govStatTbin, s.rd u govLastHardRail + 8 * s.rd u govStageCurSet]

/-- The reports of an IKB that await an ACK. -/
def State.reportsOf (s : State) (p : Nat) : List GovReport := (look (Chip.ikb p).code s.reports).getD []
def State.setReports (s : State) (p : Nat) (l : List GovReport) : State :=
  { s with reports := if l.isEmpty then drop (Chip.ikb p).code s.reports else put (Chip.ikb p).code l s.reports }

/-- A report sent; one of KIND 1 to 3 is kept for its repeats (spec 09 R277). -/
def State.govReport (s : State) (p kind cause : Nat) : State :=
  let u := Chip.ikb p
  let q := s.rd u (txFseq .link 1)
  let body := s.govBody p kind cause
  let s1 := s.sendUp p 0x10 (q :: body)
  if kind = 0 then s1 else s1.setReports p (s1.reportsOf p ++ [{ fseq := q, body := body, sends := 1, last := s.now }])

/-! ## Breaks (R259, R260) -/

/-- The payload of LOCKSTEP_BREAK and LOCKSTEP_PERSIST. -/
def State.breakPay (s : State) (p : Nat) : Nat :=
  let u := Chip.ikb p
  pay [(s.rd u govStatCause, 0), (s.rd u govStatBreakIdx, 8), (s.rd u govStatJobIdx, 16), (s.rd u govStatCurIdx, 24),
       (s.rd u govJobJob, 32)]

/-- PERSIST_US in nanoseconds; 0 acts as 1. -/
def State.persistNs (s : State) (p : Nat) : Nat := max 1 (s.rd (.ikb p) govBreakCfgPersistUs) * us

/-- The break becomes persistent (R260). -/
def State.breakPersists (s : State) (p : Nat) : State :=
  let u := Chip.ikb p
  (((s.wr u govStatPersist 1).event u .gov 0x0803 1 (s.breakPay p)).int u .gov 2).govReport p 2 (s.rd u govStatCause)

/-- A cause arises: a break opens, or the open one takes the cause (R259); one open for PERSIST_US becomes persistent
(R260). -/
def State.govBreak (s : State) (p cause idx : Nat) : State :=
  let u := Chip.ikb p
  if s.on u govStatBreak then
    let s1 := ((s.wr u govStatCause cause).wr u govStatBreakIdx (max (s.rd u govStatBreakIdx) idx)).wr u causeAt s.now
    if !s.on u govStatPersist && s.rd u breakAt + s.persistNs p ≤ s.now then s1.breakPersists p else s1
  else
    let s1 := ((((s.wr u govStatBreak 1).wr u govStatCause cause).wr u govStatBreakIdx idx).wr u breakAt s.now).wr
      u causeAt s.now
    let s2 := ((s1.wr u breakHold 0).inc u govCountsBreaks).event u .gov 0x0802 1 (s1.breakPay p)
    (s2.int u .gov 1).govReport p 1 cause

/-- Whether a cause is present now: GOV_HARD, or a job point that this die may not use (Table 8.3). -/
def State.causeNow (s : State) (p : Nat) : Bool :=
  let j := s.rd (.ikb p) govStatJobIdx
  s.on (.ikb p) govStatHard ||
  (s.rd (.ikb p) govStatCause == 2 && (s.excluded p j || !s.entryValid p j))

/-- The time since a cause was last present. -/
def State.quiet (s : State) (p : Nat) : Nat := if s.causeNow p then 0 else s.now - s.rd (.ikb p) causeAt

/-! ## The hard path (R250) -/

/-- GOV_HARD raised or its hold restarted. -/
def State.raiseHard (s : State) (p rail iNow holdNs : Nat) : State :=
  let u := Chip.ikb p
  let s1 := s.wr u hardUntil (max (s.rd u hardUntil) (s.now + holdNs))
  if s.on u govStatHard then s1
  else
    let s2 := ((s1.wr u govStatHard 1).inc u govCountsHardSteps).event u .gov 0x0801 0
      (pay [(rail, 0), (iNow, 16), (s.rd u govStatCurIdx, 32)])
    (s2.int u .gov 0).emit (.pin u.code "GOV_HARD" 1)

/-- A hard decision on rail `r`. -/
def State.hardDecision (s : State) (p r iNow : Nat) : State :=
  let u := Chip.ikb p
  let s1 := if s.rd u hardDecAt = s.now + 1 && s.rd u govLastHardRail < r then s
            else (s.wr u govLastHardRail r).wr u govLastHardINow iNow
  ((s1.wr u hardDecAt (s.now + 1)).raiseHard p r iNow (max 50 (s.rd u govHardCfgHoldUs) * us)).govBreak
    p 1 (s.rd u optabHardIdx)

/-! ## Changes of point (R101, R103, R255) -/

def State.changeOf (s : State) (p : Nat) : Option Change := look (Chip.ikb p).code s.change
def State.setChange (s : State) (p : Nat) (c : Option Change) : State :=
  { s with change := match c with
      | some c => put (Chip.ikb p).code c s.change
      | none => drop (Chip.ikb p).code s.change }

/-- A frequency handshake started: GOV_FSEL of index `i`, GOV_REQ. -/
def State.handshake (s : State) (p i : Nat) : State :=
  let u := Chip.ikb p
  let s1 := ((((s.wr u govReq 1).wr u govReqIdx i).wr u govReqAt s.now).wr u govTimedOut 0).wr u govStatHsBusy 1
  (s1.emit (.pin u.code "GOV_FSEL" (s.rd u (optabEntryPointFsel i)))).emit (.pin u.code "GOV_REQ" 1)

/-- An AVSBus write started: the voltage of entry `i` to rail `r`. -/
def State.avsWrite (s : State) (p i r : Nat) : State :=
  let u := Chip.ikb p
  let s1 := (((s.wr u avsReq 1).wr u avsRail r).wr u avsAt s.now).wr u govStatAvsBusy 1
  ((s1.emit (.pin u.code "AVS_RAIL" r)).emit (.pin u.code "AVS_WDATA" (s.entryVolt p i r))).emit (.pin u.code "AVS_REQ" 1)

/-- Whether a transaction awaits its acknowledge. -/
def State.govBusy (s : State) (p : Nat) : Bool := s.on (.ikb p) govStatHsBusy || s.on (.ikb p) govStatAvsBusy

/-- A change ended: the interrupt of a completed step, GOV_HARD's release 50 µs after the change that ends an
exhaustion (R263). -/
def State.changeDone (s : State) (p : Nat) (c : Change) : State :=
  let u := Chip.ikb p
  let s1 := s.setChange p none
  let s2 := if c.step then s1.int u .gov 3 else s1
  if s2.on u exhausted && (s2.permittedIdx p (s2.rd u govStatJobIdx)).isSome then
    (s2.wr u exhausted 0).wr u hardUntil (s.now + 50 * us)
  else s2

/-- A change stopped before its frequency step: the die keeps its point, and a break opens (Table 8.3). -/
def State.changeStopped (s : State) (p cause : Nat) : State :=
  (s.setChange p none).govBreak p cause (s.rd (.ikb p) govStatCurIdx)

/-- What a change does next, with no transaction in progress. -/
def State.advance (s : State) (p : Nat) (c : Change) : State :=
  let u := Chip.ikb p
  match c.phase with
  | 0 => match c.rails with
    | r :: rest => (s.setChange p (some { c with rails := rest })).avsWrite p c.target r
    | [] =>
      if s.railsGood p then
        if c.dir = 2 then ((s.wr u govStatCurIdx c.target).changeDone p c)
        else if c.prep then (s.setChange p (some { c with phase := 2 })).wr u govStageVoltDone 1
        else (s.setChange p (some { c with phase := 3 })).handshake p c.target
      else s.setChange p (some { c with phase := 1 })
  | 3 => s.handshake p c.target
  | 4 => match c.rails with
    | r :: rest => (s.setChange p (some { c with rails := rest })).avsWrite p c.target r
    | [] => s.changeDone p c
  | _ => s

/-- The order of voltage writes between points of one frequency: rising ones first. -/
def State.sameRails (s : State) (p a b : Nat) : List Nat :=
  ((s.scaling p).filter fun r => s.entryVolt p a r < s.entryVolt p b r) ++
  ((s.scaling p).filter fun r => s.entryVolt p b r ≤ s.entryVolt p a r)

/-- The change from the point in force to index `b`. -/
def State.mkChange (s : State) (p b : Nat) (prep step : Bool) : Change :=
  let u := Chip.ikb p
  let a := s.rd u govStatCurIdx
  if !s.on u govStageCurSet || b < a && s.rd u (optabEntryPointFreqMhz a) ≠ s.rd u (optabEntryPointFreqMhz b) then
    { target := b, dir := 0, prep := prep, step := step, phase := 0, rails := s.scaling p }
  else if s.rd u (optabEntryPointFreqMhz a) = s.rd u (optabEntryPointFreqMhz b) then
    { target := b, dir := 2, prep := prep, step := step, phase := 0, rails := s.sameRails p a b }
  else { target := b, dir := 1, prep := prep, step := step, phase := 3, rails := s.scaling p }

/-- No permitted index: HARD.IDX and GOV_HARD (R263). -/
def State.exhaust (s : State) (p req : Nat) : State :=
  let u := Chip.ikb p
  if s.on u exhausted then s
  else
    let s1 := (s.wr u exhausted 1).event u .gov 0x0804 2 (pay [(s.rd u govStatTbin, 0), (req, 8)])
    (s1.raiseHard p (s.rd u govLastHardRail) (s.rd u govLastHardINow) 0).govBreak p 2 (s.rd u optabHardIdx)

/-- The change begins when no transaction is in progress; otherwise it waits, replacing an earlier one (Table 8.5). -/
def State.beginChange (s : State) (p b : Nat) (step : Bool) : State :=
  let u := Chip.ikb p
  if s.govBusy p then (s.wr u govWaiting (1 + 2 * b + step.toNat)).setChange p none
  else if s.on u govStageCurSet && s.rd u govStatCurIdx = b then
    if step then (s.setChange p none).int u .gov 3 else s.setChange p none
  else
    let c := s.mkChange p b false step
    (s.setChange p (some c)).advance p c

/-- A change to index `i` named by `i`; an index not VALID or excluded gives its permitted index and, when it is the
job point, a break of cause EXCLUDED (R255, R263). -/
def State.goTo (s : State) (p i : Nat) (step : Bool) : State :=
  let u := Chip.ikb p
  match s.permittedIdx p i with
  | none => s.exhaust p i
  | some b =>
    let s1 := if b ≠ i && i = s.rd u govStatJobIdx then s.govBreak p 2 b else s
    s1.beginChange p b step

/-- What follows the end of a transaction: the recovery handshake, the waiting change, or the change's next step. -/
def State.govNext (s : State) (p : Nat) : State :=
  let u := Chip.ikb p
  if s.govBusy p then s
  else if s.rd u govWaiting ≠ 0 then
    let v := s.rd u govWaiting - 1
    (s.wr u govWaiting 0).beginChange p (v / 2) (v % 2 = 1) |>.wr u govRecover 0
  else if s.on u govRecover && !s.on u govAck then
    match s.permittedIdx p (s.rd u govStatCurIdx) with
    | some b => if s.on u govStageCurSet then (s.wr u govRecover 0).handshake p b else s.wr u govRecover 0
    | none => s.wr u govRecover 0
  else match s.changeOf p with
    | some c => s.advance p c
    | none => s

/-- R101: GOV_ACK rises: the point in force, CUR_SET, and a downward change's voltage writes. -/
def execGovAckRise (p : Nat) (s : State) : Out' := storeless s <|
  let u := Chip.ikb p
  let s0 := s.wr u govAck 1
  if !s.on u govReq then .next s0
  else
    let s1 := ((s0.wr u govReq 0).wr u govStatCurIdx (s.rd u govReqIdx)).wr u govStageCurSet 1
    let s2 := s1.emit (.pin u.code "GOV_REQ" 0)
    match s2.changeOf p with
    | some c =>
      if c.phase = 3 && c.dir = 1 then
        let c' := { c with phase := 4 }
        .next (if s2.on u govStatAvsBusy then s2.setChange p (some c') else (s2.setChange p (some c')).advance p c')
      else if c.phase = 3 then .next (s2.changeDone p c)
      else .next s2
    | none => .next s2

/-- R101: GOV_ACK falls: the handshake is complete, and a due one starts. -/
def execGovAckFall (p : Nat) (s : State) : Out' := storeless s <|
  let u := Chip.ikb p
  let s1 := s.wr u govAck 0
  if s.on u govReq then .next s1 else .next ((s1.wr u govStatHsBusy 0).govNext p)

/-- R101: GOV_ACK has not risen 1 µs after GOV_REQ. -/
def execGovAckTimeout (p : Nat) (s : State) : Out' := storeless s <|
  let u := Chip.ikb p
  if s.on u govReq && !s.on u govTimedOut && s.rd u govReqAt + us ≤ s.now then
    .next ((((s.wr u govTimedOut 1).pageErr u .gov 0x0101 2).int u .gov 4).govBreak p 4 (s.rd u govStatCurIdx))
  else .next s

/-- R101: GOV_ACK has not risen 100 µs after GOV_REQ: the handshake is abandoned, and a recovery handshake follows. -/
def execGovAckAbort (p : Nat) (s : State) : Out' := storeless s <|
  let u := Chip.ikb p
  if s.on u govReq && s.rd u govReqAt + 100 * us ≤ s.now then
    let s1 := ((s.wr u govReq 0).pageErr u .gov 0x0104 2).int u .gov 4
    let s2 := ((s1.emit (.pin u.code "GOV_REQ" 0)).setChange p none).wr u govRecover 1
    .next (if s.on u govAck then s2 else (s2.wr u govStatHsBusy 0).govNext p)
  else .next s

/-- R103: AVS_ACK rises with the slave acknowledge and the host's error: AVS_REJECT stops an upward change. -/
def execAvsAckRise (p slaveAck : Nat) (err : Bool) (rdata : Nat) (s : State) : Out' := storeless s <|
  let u := Chip.ikb p
  let s0 := (s.wr u avsAck 1).wr u (cell .gov 23) rdata
  if !s.on u avsReq then .next s0
  else
    let s1 := (s0.wr u avsReq 0).emit (.pin u.code "AVS_REQ" 0)
    if slaveAck % 4 = 0 && !err then .next s1
    else
      let s2 := (s1.pageErr u .gov 0x0103 1).int u .gov 4
      match s2.changeOf p with
      | some c => .next (if c.phase = 4 then s2 else s2.changeStopped p 3)
      | none => .next s2

/-- R103: AVS_ACK falls: the transaction is over. -/
def execAvsAckFall (p : Nat) (s : State) : Out' := storeless s <|
  let u := Chip.ikb p
  let s1 := s.wr u avsAck 0
  if s.on u avsReq then .next s1 else .next ((s1.wr u govStatAvsBusy 0).govNext p)

/-- R103: AVS_ACK has not risen within 100 µs: the requested point is not entered. -/
def execAvsTimeout (p : Nat) (s : State) : Out' := storeless s <|
  let u := Chip.ikb p
  if s.on u avsReq && s.rd u avsAt + 100 * us ≤ s.now then
    let s1 := (((s.wr u avsReq 0).emit (.pin u.code "AVS_REQ" 0)).pageErr u .gov 0x0102 2).int u .gov 4
    let s2 := match s1.changeOf p with
      | some c => if c.phase = 4 then s1 else s1.changeStopped p 3
      | none => s1
    .next (if s.on u avsAck then s2 else (s2.wr u govStatAvsBusy 0).govNext p)
  else .next s

/-- R255: RAIL_PG bits read 1: an upward change that waits for them goes on. -/
def execRailPgRise (p rails : Nat) (s : State) : Out' := storeless s <|
  let s1 := s.wr (.ikb p) railPg (s.rd (.ikb p) railPg ||| rails % 256)
  match s1.changeOf p with
  | some c =>
    if c.phase = 1 && s1.railsGood p && !s1.govBusy p then .next (s1.advance p { c with phase := 0, rails := [] })
    else .next s1
  | none => .next s1

/-- Whether a voltage change is in progress. -/
def State.voltChanging (s : State) (p : Nat) : Bool :=
  s.on (.ikb p) govStatAvsBusy || (match s.changeOf p with
    | some c => c.phase != 2 && c.phase != 3
    | none => false)

/-- R103, R248: a RAIL_PG bit falls with no voltage change in progress: a rail fault. -/
def execRailPgFall (p r : Nat) (s : State) : Out' := storeless s <|
  let u := Chip.ikb p
  let k := r % 8
  let s1 := s.wr u railPg (clrBit (s.rd u railPg) k)
  if s.voltChanging p then .next s1
  else .next (((s1.setB u healthRailFaultPgFall k).event u .health 0x0806 2
    (pay [(k, 0), (s.rd u (healthRailNowVNow k), 16), (s.rd u (healthRailNowINow k), 32)])).int u .health 0)

/-! ## Staged steps (R257) -/

/-- The armed slot with an action whose instant comes first, the lower-numbered on equal instants. -/
def State.firstArmed (s : State) (p action : Nat) : Option Nat :=
  let u := Chip.ikb p
  let inst := fun i => baseNs (s.rd u (launchSlotCtrlBase i)) (unpackTime (s.rd u (launchSlotCtrlBase i))
    (s.rd u (launchSlotTimeNsNs i)) (s.rd u (launchSlotTimeSecLoSec i) + 4294967296 * s.rd u (launchSlotTimeSecHiSec i)))
  (List.range 16).foldl (fun best i =>
    if s.rd u (launchSlotCtrlState i) = 1 && s.rd u (launchSlotCtrlAction i) = action then
      match best with
      | none => some i
      | some j => if inst i < inst j then some i else best
    else best) none

/-- STAGE follows the armed GOV_STEP slots; an upward step begins its preparation when it takes STAGE. -/
def State.restage (s : State) (p : Nat) : State :=
  let u := Chip.ikb p
  let dropPrep := fun (t : State) => match t.changeOf p with
    | some c => if c.prep then t.setChange p none else t
    | none => t
  match s.firstArmed p 3 with
  | none => ((dropPrep s).wr u govStageValid 0).wr u govStageVoltDone 0
  | some i =>
    let idx := s.rd u (launchSlotArgArg i) % 32
    if s.on u govStageValid && s.rd u govStageIdx = idx then s
    else
      let s1 := (((dropPrep s).wr u govStageIdx idx).wr u govStageValid 1).wr u govStageVoltDone 0
      match s1.permittedIdx p idx with
      | none => s1
      | some b =>
        let c := s1.mkChange p b true true
        if c.dir = 0 && (s1.changeOf p).isNone && !(s1.on u govStageCurSet && s1.rd u govStatCurIdx = b) then
          if s1.govBusy p then s1.setChange p (some c) else (s1.setChange p (some c)).advance p c
        else s1

/-- R257, Table 8.5: a GOV_STEP fires: JOB_IDX takes its index; in Midnight so does CUR_IDX; with GOV disabled nothing
more; a prepared upward step makes its handshake, one whose voltage is not ready stops. -/
def State.govStep (s : State) (p entry : Nat) : State :=
  let u := Chip.ikb p
  let i := entry % 32
  let s1 := (s.wr u govStatJobIdx i).wr u govStageJobSet 1
  if !s.enabled u .gov then s1
  else if s.mode u == .midnight then
    (s1.wr u govStatCurIdx i).wr u midnightStep (if s1.on u midnightStep then s1.rd u midnightStep else 1 + s1.rd u govStatCurIdx)
  else match s1.changeOf p with
    | some c =>
      if c.prep && s1.permittedIdx p i = some c.target then
        let s2 := if c.target ≠ i then s1.govBreak p 2 c.target else s1
        if c.phase = 2 then
          (s2.setChange p (some { c with prep := false, phase := 3 })).advance p { c with prep := false, phase := 3 }
        else if s2.govBusy p then s2.setChange p (some { c with prep := false })
        else s2.changeStopped p 3
      else (s1.setChange p none).goTo p i true
    | none => s1.goTo p i true

/-- R257: a GOV_STEP launch. -/
def execLaunchGovStep (p entry : Nat) (s : State) : Out' := storeless s <| .next (s.govStep p entry)

/-- R257, R261: a JOB_IDX frame: JOB_IDX, and with apply-at-once the change. A frame that names a point which the IKB's
own GOV_STEP has not set, nor is armed to set, tells it of a missed step (Table 8.3). -/
def State.takeJobIdx (s : State) (p idx : Nat) (apply : Bool) : State :=
  let u := Chip.ikb p
  let i := idx % 32
  let cur := s.rd u govStatCurIdx
  let armed := (List.range 16).any fun k => s.rd u (launchSlotCtrlState k) == 1 && s.rd u (launchSlotCtrlAction k) == 3 &&
    s.rd u (launchSlotArgArg k) % 32 == i
  let missed := s.enabled u .gov && s.on u govStageCurSet && s.rd u govStatJobIdx != i && cur != i && !armed
  let s1 := (s.wr u govStatJobIdx i).wr u govStageJobSet 1
  let s2 := if missed then s1.govBreak p 5 (max cur i) else s1
  if apply && s.enabled u .gov then s2.goTo p i false else s2
def execLtlJobIdx (p idx : Nat) (apply : Bool) (s : State) : Out' := storeless s <|
  .next (s.recv p true 0x11 2 fun t => t.takeJobIdx p idx apply)

/-! ## Sensing (R245 to R251) -/

/-- The samples of a rail's window. -/
def State.railWin (s : State) (p r : Nat) : List Nat := (look (p * 8 + r) s.rails).getD []

/-- A current sample enters the average (R246). -/
def State.averaged (s : State) (p r i : Nat) : State :=
  let u := Chip.ikb p
  let w := (i :: s.railWin p r).take (2 ^ min 10 (s.rd u (govRailCfgWinLog2 r)))
  let s1 := { s with rails := put (p * 8 + r) w s.rails }
  s1.wr u (healthRailStatsIAvg r) (w.sum / w.length)

/-- A sense fault: event, FAULTED, the channel's fault (R247). -/
def State.senseFault (s : State) (p r code payload : Nat) : State :=
  ((s.event (.ikb p) .health code 1 payload).ikbFault p r code)

/-- The low-voltage run of a rail (R247). -/
def State.lowCheck (s : State) (p r v : Nat) : State :=
  let u := Chip.ikb p
  if v < 100 && s.bit u railPg r then
    if s.rd u (lowRun r) + 1 = 64 then (s.wr u (lowRun r) 0).senseFault p r 0x0808 (pay [(r, 0), (v, 16)])
    else s.wr u (lowRun r) (s.rd u (lowRun r) + 1)
  else s.wr u (lowRun r) 0

/-- The voltage window of a rail (R248). -/
def State.windowCheck (s : State) (p r v : Nat) : State :=
  let u := Chip.ikb p
  let uv := s.rd u (healthRailWindowUv r)
  let ov := s.rd u (healthRailWindowOv r)
  if (uv ≠ 0 && v < uv) || (ov ≠ 0 && ov < v) then
    let s1 := (s.setB u healthRailFaultVolt r).int u .health 0
    if s.rd u (voltAt r) = 0 || s.rd u (voltAt r) + ms ≤ s.now + 1 then
      (s1.wr u (voltAt r) (s.now + 1)).event u .health 0x0805 1 (pay [(r, 0), (v, 16)])
    else s1
  else s

/-- The hard limit of a rail (R249, R250). -/
def State.hardCheck (s : State) (p r i : Nat) : State :=
  let u := Chip.ikb p
  let lim := s.rd u (govRailLimIlim r)
  if !s.enabled u .gov || !s.on u govCtrlHardEn || lim = 0 then s
  else if lim < i then
    let n := max 1 (s.rd u (govRailCfgHardN r))
    let k := min n (s.rd u (hardRun r) + 1)
    if k = n then (s.wr u (hardRun r) k).hardDecision p r i else s.wr u (hardRun r) k
  else s.wr u (hardRun r) 0

/-- R245: a conversion result of an enabled channel. -/
def execSenseConversion (p r vcode icode : Nat) (s : State) : Out' := storeless s <|
  let u := Chip.ikb p
  let k := r % 8
  if !s.enabled u .health || !s.bit u healthChanEnEn k then .next s
  else
    let v := vcode % 4096 * 1200 / 4096
    let i := icode % 4096 * s.rd u (healthRailScaleScale k) * 15 / 131072
    let s0 := if s.on u hardAwaitSample && !s.on u safeIkb then
        (s.wr u hardAwaitSample 0).wr u hardUntil (s.now + 50 * us) else s
    let s1 := (s0.wr u (healthRailNowVNow k) v).wr u (healthRailNowINow k) i
    let s2 := if s.mode u == .midnight then s1
              else (s1.averaged p k i).wr u (healthRailStatsIPeak k) (max (s1.rd u (healthRailStatsIPeak k)) i)
    if s2.bit u healthChanEnFaulted k then .next s2
    else if s.mode u == .midnight then .next (s2.hardCheck p k i)
    else .next (((s2.lowCheck p k v).windowCheck p k v).hardCheck p k i)

/-- R247: the background offset calibration of a channel: an offset outside ±8 codes is a fault. -/
def execAdcOffsetCal (p r : Nat) (voltage current : Int) (s : State) : Out' := storeless s <|
  let worse : Int × Nat := if voltage.natAbs < current.natAbs then (current, 1) else (voltage, 0)
  if 8 < worse.1.natAbs then
    .next (s.senseFault p (r % 8) 0x0809 (pay [(r % 8, 0), (worse.2, 8), (ofSigned worse.1 16, 16)]))
  else .next s

/-- R102, R250, R263: the hold expires: GOV_HARD falls, unless a loss or an exhaustion keeps it. -/
def execGovHardRelease (p : Nat) (s : State) : Out' := storeless s <|
  let u := Chip.ikb p
  if s.on u govStatHard && s.rd u hardUntil ≤ s.now && !s.on u safeIkb && !s.on u hardAwaitSample && !s.on u exhausted then
    .next (((s.wr u govStatHard 0).wr u causeAt s.now).emit (.pin u.code "GOV_HARD" 0))
  else .next s

/-! ## Temperature (R99, R262, R263) -/

/-- The governing temperature: the hottest fresh present site, lowest number first. -/
def State.govTemp (s : State) (p : Nat) : Option (Nat × Int) :=
  let u := Chip.ikb p
  (List.range 64).foldl (fun best k =>
    if s.bit u healthThermPresentSites k && !s.bit u healthThermStaleSites k then
      let t := signedOf (s.rd u (siteCode k)) 12
      match best with
      | none => some (k, t)
      | some (_, m) => if m < t then some (k, t) else best
    else best) none

/-- The bin of a reading from the rising edges. -/
def State.risingBin (s : State) (p : Nat) (t : Int) : Nat :=
  ((List.range 7).filter fun k => signedOf (s.rd (.ikb p) (govTbinEdgeEdge k)) 12 ≤ t).length

/-- The bin after a falling reading: one down while the reading is 2 °C below the edge (by fuel). -/
def State.fallingBin (s : State) (p : Nat) (t : Int) : Nat → Nat
  | 0 => 0
  | b + 1 => if t ≤ signedOf (s.rd (.ikb p) (govTbinEdgeEdge b)) 12 - 16 then s.fallingBin p t b else b + 1

/-- A change of bin or table: an excluded point is left, an exhaustion that ends is followed by a change (R263). -/
def State.pointCheck (s : State) (p : Nat) : State :=
  let u := Chip.ikb p
  let j := s.rd u govStatJobIdx
  if !s.enabled u .gov then s
  else if s.on u exhausted then
    if (s.permittedIdx p j).isSome then s.goTo p j false else s
  else if s.on u govStageCurSet && s.excluded p (s.rd u govStatCurIdx) then
    match s.permittedIdx p j with
    | none => s.exhaust p j
    | some b => (s.govBreak p 2 b).beginChange p b false
  else s

/-- THERM_MAX, STAT.TBIN and what follows from a change of bin. -/
def State.thermUpdate (s : State) (p : Nat) : State :=
  let u := Chip.ikb p
  let old := s.rd u govStatTbin
  let s1 := match s.govTemp p with
    | none => ((s.wr u healthThermMaxNone 1).wr u govStatTbin 7).wr u binNone 1
    | some (k, t) =>
      let r := s.risingBin p t
      let b := if s.on u binNone || old ≤ r then r else s.fallingBin p t old
      ((((s.wr u healthThermMaxCode (ofSigned t 12)).wr u healthThermMaxSite k).wr u healthThermMaxNone 0).wr
        u govStatTbin b).wr u binNone 0
  if s1.rd u govStatTbin = old then s1 else s1.pointCheck p

/-- R84, R99: a thermal sample. -/
def execThermSample (p site code : Nat) (parity : Bool) (s : State) : Out' := storeless s <|
  let u := Chip.ikb p
  let k := site % 64
  if !s.enabled u .health then .next s
  else if !parity then .next (s.inc u healthThermErrParity)
  else .next ((((s.wr u (siteCode k) (code % 4096)).wr u (siteAt k) (s.now + 1)).clrB u healthThermStaleSites k).thermUpdate p)

/-- R99: 1 ms without a refresh: a present site becomes STALE. -/
def execThermSiteStale (p site : Nat) (s : State) : Out' := storeless s <|
  let u := Chip.ikb p
  let k := site % 64
  if s.bit u healthThermPresentSites k && !s.bit u healthThermStaleSites k && s.rd u (siteAt k) + ms ≤ s.now + 1 then
    .next (((s.setB u healthThermStaleSites k).int u .health 2).thermUpdate p)
  else .next s

/-! ## Epochs (R251, R256 to R258) -/

/-- One rail's soft cap at an epoch instant (R251). -/
def State.softRail (s : State) (p r : Nat) : State :=
  let u := Chip.ikb p
  let slim := s.rd u (govRailLimSlim r)
  let avg := s.rd u (healthRailStatsIAvg r)
  if !s.bit u healthChanEnEn r || s.bit u healthChanEnFaulted r || slim = 0 || !s.on u govCtrlSoftEn then
    s.wr u (softCap r) 0
  else if slim < avg then s.wr u (softCap r) 1
  else if avg + s.rd u (govRailCfgSoftHyst r) ≤ slim then s.wr u (softCap r) 0
  else s

/-- STAT.SOFT_CAP: some rail's soft cap is set. -/
def State.softCaps (s : State) (p : Nat) : State :=
  let s1 := (List.range 8).foldl (fun t r => t.softRail p r) s
  s1.wr (.ikb p) govStatSoftCap ((List.range 8).any fun r => s1.on (.ikb p) (softCap r)).toNat

/-- The request of an epoch (R256). -/
def State.request (s : State) (p : Nat) : Nat :=
  let u := Chip.ikb p
  let phase := if s.on u cntStepStatPhaseValid then s.rd u cntStepStatPhase else 0
  let l := [s.rd u (optabPhasePrefIdx phase),
            if s.on u govStatSoftCap then min 31 (s.rd u govStatJobIdx + 1) else 0,
            s.rd u govCapCapIdx,
            if s.anyFaulted p then s.rd u govCapFailsafeIdx else 0,
            (s.permittedIdx p 0).getD 0,
            s.rd u govStatBreakIdx]
  l.foldl max 0

/-- A die in no job applies its own request (R258). -/
def State.localRule (s : State) (p req : Nat) : State :=
  let u := Chip.ikb p
  let j := s.rd u govStatJobIdx
  let hist := (req :: (look u.code s.epochs).getD []).take 4
  let s1 := { s with epochs := put u.code hist s.epochs }
  if j < req then ((s1.wr u govStatJobIdx req).wr u govStageJobSet 1).goTo p req false
  else if hist.length = 4 && hist.all (· < j) then
    let n := hist.foldl max 0
    ((s1.wr u govStatJobIdx n).wr u govStageJobSet 1).goTo p n false
  else s1

/-- R256, R258: an epoch instant that has not been acted on. -/
def execGovEpoch (p : Nat) (s : State) : Out' := storeless s <|
  let u := Chip.ikb p
  if !s.enabled u .gov || s.mode u == .midnight || !s.baseValid u || s.rd u epochLast = s.epochNo u + 1 then .next s
  else
    let s1 := (s.wr u epochLast (s.epochNo u + 1)).softCaps p
    let req := s1.request p
    let s2 := (s1.wr u govStatReqIdx req).govReport p 0 (s1.rd u govStatCause)
    if s2.rd u govJobJob = 0 || !s2.on u govCtrlLockstepEn then .next (s2.localRule p req) else .next s2

/-- R260: a break open for PERSIST_US with a recent cause. -/
def execBreakPersist (p : Nat) (s : State) : Out' := storeless s <|
  let u := Chip.ikb p
  if s.on u govStatBreak && !s.on u govStatPersist && s.rd u breakAt + s.persistNs p ≤ s.now &&
     2 * s.quiet p < s.persistNs p then .next (s.breakPersists p)
  else .next s

/-- R259: a break with no cause for PERSIST_US closes. -/
def execBreakClose (p : Nat) (s : State) : Out' := storeless s <|
  let u := Chip.ikb p
  if s.on u govStatBreak && s.rd u govStatCurIdx = s.rd u govStatJobIdx && !s.on u govStatHard && s.persistNs p ≤ s.quiet p then
    let s1 := (s.wr u govStatBreak 0).wr u govStatPersist 0
    .next ((s1.govReport p 3 (s.rd u govStatCause)).wr u govStatCause 0 |>.wr u breakHold
      (s.now + s.rd u govBreakCfgRaiseHoldMs * ms + 1))
  else .next s

/-- R260: RAISE_HOLD_MS after a close BREAK_IDX holds no request any more. -/
def execRaiseHoldExpiry (p : Nat) (s : State) : Out' := storeless s <|
  let u := Chip.ikb p
  if !s.on u govStatBreak && s.on u breakHold && s.rd u breakHold ≤ s.now + 1 then
    .next ((s.wr u govStatBreakIdx 0).wr u breakHold 0)
  else .next s

/-! ## OPTAB entries (R252) -/

/-- Whether an entry is in use: the point in force, the job point, or one that an armed GOV_STEP names. -/
def State.entryBusy (s : State) (p i : Nat) : Bool :=
  let u := Chip.ikb p
  (s.on u govStageCurSet && s.rd u govStatCurIdx == i) || (s.on u govStageJobSet && s.rd u govStatJobIdx == i) ||
  (List.range 16).any fun k => s.rd u (launchSlotCtrlState k) == 1 && s.rd u (launchSlotCtrlAction k) == 3 &&
    s.rd u (launchSlotArgArg k) % 32 == i

/-- Whether FREQ_MHZ does not rise with index among valid entries once entry `i` is valid at `f`. -/
def State.orderKept (s : State) (p i f : Nat) : Bool :=
  (List.range 32).all fun k => !s.entryValid p k || k == i ||
    (if k < i then decide (f ≤ s.rd (.ikb p) (optabEntryPointFreqMhz k))
     else decide (s.rd (.ikb p) (optabEntryPointFreqMhz k) ≤ f))

/-- A write of word `w` of OPTAB entry `i`: POINT, or a pair of voltages. -/
def State.optabWrite (s : State) (p r i w value : Nat) : State :=
  let u := Chip.ikb p
  if s.locked u .optab then s.lockedErr u .optab r (0x400 + 32 * i + 4 * w)
  else if s.entryBusy p i then s.pageErr u .optab 0x0101 1
  else if w = 0 then
    if bitAt value 7 = 1 && !s.orderKept p i (bitsOf value 16 16) then s.pageErr u .optab 0x0100 1
    else (((s.wr u (optabEntryPointFsel i) value).wr u (optabEntryPointValid i) (bitAt value 7)).wr
      u (optabEntryPointFreqMhz i) (bitsOf value 16 16)).pointCheck p
  else if w < 5 then
    (s.wr u (optabEntryVoltMvLo i (w - 1)) value).wr u (optabEntryVoltMvHi i (w - 1)) (bitsOf value 16 16)
  else s

def execOptabWrite (p r i w value : Nat) (s : State) : Out' := storeless s <|
  .next (s.optabWrite p r (i % 32) (w % 8) value)

/-! ## Source losses (spec 04 R110, R118, R119) -/

/-- A source loss at an IKB also opens a HARD break (Table 8.5) and ends the open tiles (spec 04 Table 4.6). -/
def State.lossAtIkb (s : State) (p row : Nat) : State :=
  let s1 := s.sourceLost (.ikb p) row
  if row < 2 then (s1.govBreak p 1 (s1.rd (.ikb p) optabHardIdx)).endTiles p else s1

/-- R110: a window of IKB_REFCLK ends; 16 passes in a row qualify it, a failure of a qualified clock is its loss. -/
def execRefclkWindow (p count : Nat) (s : State) : Out' := storeless s <|
  let u := Chip.ikb p
  let s1 := s.wr u clkIRefMeasCount count
  let pass := 6080 ≤ count && count ≤ 6720
  if pass && s.on u clkISrcStatRefReady then .next s1
  else if pass then
    if 15 ≤ s.rd u refPasses then .next ((s1.wr u refPasses 16).wr u clkISrcStatRefReady 1)
    else .next (s1.inc u refPasses)
  else if s.on u clkISrcStatRefReady then .next (s1.lossAtIkb p 0)
  else .next (s1.wr u refPasses 0)

/-- R118, R119: a clock source is declared lost. -/
def execSourceLoss (u : Chip) (row : Nat) (s : State) : Out' := storeless s <|
  match u with
  | .ikb p => .next (s.lossAtIkb p row)
  | _ => .next (s.sourceLost u row)

end Sys2Proof.Machine
end

