-- ==== Sys2Proof/Machine/Trace.lean ====
section
/-! DEFINITION. Spec 06 R195 to R204: the flow trace, one packet stream per sequencer. -/

namespace Sys2Proof.Machine

/-- The streams of a state; port × 64 + sequencer is the key. -/
def streamKey (p n : Nat) : Nat := p * 64 + n % 64
def State.streamOf (s : State) (p n : Nat) : Stream := (look (streamKey p n) s.streams).getD {}
def State.setStream (s : State) (p n : Nat) (t : Stream) : State := { s with streams := put (streamKey p n) t s.streams }

/-! ## Packets (Table 6.6) -/

def le (n v : Nat) : List Nat := (bytesLE n v).map BitVec.toNat

/-- The ten bytes of TIME: the LTC on the 4 ns grid. -/
def State.traceTime (s : State) (p : Nat) : Nat :=
  let l := s.ltcOf (.ikb p)
  l.sec + 2 ^ 48 * (l.ns / 4 * 4)

/-- A BRANCH_MAP word: outcomes from bit 1 on, oldest first, then the stop bit. -/
def mapWord : List Bool → Nat
  | [] => 1
  | b :: bs => b.toNat + 2 * mapWord bs
def mapPacket (l : List Bool) : List Nat := le 4 (2 * mapWord l)

/-- The packets of Table 6.6. -/
def indirectPacket (d : Int) : List Nat := 0x03 :: varint 7 (zigzag d)
def syncPacket (r : Retire) (reason time : Nat) : List Nat :=
  [0x05, r.taken.toNat + 2 * r.ind.toNat + 4 * (r.priv % 4) + 16 * reason] ++ le 6 r.addr ++
    le 6 (if r.ind && r.taken then r.target else 0) ++ le 10 time
def sleepPacket (hidden : Bool) (addr : Option Nat) (time : Nat) : List Nat :=
  [0x07, hidden.toNat + 2 * addr.isNone.toNat] ++ le 6 (if hidden then 0 else addr.getD 0) ++ le 10 time
def wakePacket (time : Nat) : List Nat := 0x09 :: le 10 time
def overflowPacket (n : Nat) : List Nat := 0x0B :: varint 10 n
def gapPacket (bits time count : Nat) : List Nat := [0x0D, bits] ++ le 10 time ++ varint 10 count
def stopPacket (reason time : Nat) : List Nat := [0x0F, reason] ++ le 10 time

/-! ## Buffer and records (R195, R202) -/

/-- The bytes a stream's buffer holds. -/
def Stream.held (t : Stream) : Nat := (t.buf.map List.length).sum

/-- A packet placed in the buffer, or discarded with the retires it stands for when it does not fit. -/
def Stream.push (t : Stream) (now : Nat) (pk : List Nat) (retires : Nat) : Stream :=
  if t.overflow then { t with lost := t.lost + retires }
  else if t.held + pk.length ≤ 512 then
    { t with buf := t.buf ++ [pk], bufAt := if t.buf.isEmpty then now else t.bufAt }
  else { t with overflow := true, lost := t.lost + retires }

/-- The pending map emitted (R197). -/
def Stream.flushMap (t : Stream) (now : Nat) : Stream :=
  if t.map.isEmpty then t
  else { t.push now (mapPacket t.map) t.map.length with map := [] }

/-- One outcome added; a map of 30 is emitted. -/
def Stream.outcome (t : Stream) (now : Nat) (b : Bool) : Stream :=
  if t.overflow then { t with lost := t.lost + 1 }
  else
    let t1 := { t with map := t.map ++ [b], mapAt := if t.map.isEmpty then now else t.mapAt }
    if 30 ≤ t1.map.length then t1.flushMap now else t1

/-- The whole packets that fit a record of 252 bytes, and the rest. -/
def takeRecord : Nat → List (List Nat) → List (List Nat) × List (List Nat)
  | _, [] => ([], [])
  | room, p :: ps =>
    if p.length ≤ room then
      let (a, b) := takeRecord (room - p.length) ps
      (p :: a, b)
    else ([], p :: ps)

/-- The value of an unsigned LEB128 varint. -/
def unvarint : List Nat → Nat
  | [] => 0
  | b :: bs => if b < 128 then b else b % 128 + 128 * unvarint bs

/-- The retires that a packet stands for. -/
def packetRetires (pk : List Nat) : Nat :=
  match pk with
  | 0x03 :: _ => 1
  | 0x05 :: _ => 1
  | 0x0B :: r => unvarint r
  | 0x0D :: r => unvarint (r.drop 11)
  | b0 :: r => if b0 % 2 = 0 then Nat.log2 (ofBytesLE ((b0 :: r).map (BitVec.ofNat 8))) - 1 else 0
  | [] => 0

/-- A record that LINK's transmit buffer does not take (spec 09 R278): discarded, the stream to RESYNC; its next record
begins with an OVERFLOW that counts the retires lost. -/
def State.recordLost (s : State) (p n : Nat) : State :=
  let t := s.streamOf p n
  let lost := (t.buf.map packetRetires).sum + t.map.length + (if t.st = 3 then t.gapCount else 0)
  let t1 := { t with buf := [overflowPacket lost], bufAt := s.now, map := [], lastTarget := none, reason := 3,
                     st := if t.st = 2 || t.st = 3 then 1 else t.st }
  (((s.setStream p n t1).linkDiscard p 0x70).inc (.ikb p) traceOverflowPackets).int (.ikb p) .trace 0

/-- A record of a sequencer closed and passed to the link; packets stay in the buffer while the link is down. -/
def State.closeRecord (s : State) (p n : Nat) : State :=
  let t := s.streamOf p n
  let (rec, rest) := takeRecord 252 t.buf
  if rec.isEmpty || !s.on (.ikb p) (ltlStatUp .link) then s
  else if !s.txRoom p 0x70 [0, (rec.map List.length).sum] then s.recordLost p n
  else
    let len := (rec.map List.length).sum
    let s1 := s.setStream p n { t with buf := rest, bufAt := s.now, rseq := (t.rseq + 1) % 256 }
    (s1.sendUp p 0x70 ([n % 64, len, t.rseq] ++ rec.flatten)).inc (.ikb p) coderTraceBytesCount (4 + len)

/-- Records close while their packets fill one (R195). -/
def State.drain (s : State) (p n : Nat) : State :=
  let t := s.streamOf p n
  if 252 ≤ t.held then s.closeRecord p n else s

/-- The OVERFLOW packet placed once 64 bytes are free: the stream resynchronises (R202). -/
def State.placeOverflow (s : State) (p n : Nat) : State :=
  let t := s.streamOf p n
  if t.overflow && t.held + 64 ≤ 512 then
    let t1 := { t with overflow := false, lost := 0, lastTarget := none, reason := 3, map := [] }
    let t2 := t1.push s.now (overflowPacket t.lost) 0
    let t3 := if t2.st = 1 || t2.st = 2 || t2.st = 3 then { t2 with st := 1 } else t2
    ((s.setStream p n t3).inc (.ikb p) traceOverflowPackets).int (.ikb p) .trace 0
  else s

/-- What follows a change of a stream: records that are full, an overflow that can end. -/
def State.settle (s : State) (p n : Nat) (t : Stream) : State := ((s.setStream p n t).drain p n).placeOverflow p n

/-! ## Starting and stopping (R201, R203) -/

/-- Whether sequencer `n`'s sample window is open (R203). -/
def State.windowOpen (s : State) (p n : Nat) : Bool :=
  let u := Chip.ikb p
  let on := s.rd u traceSampleOnUs
  let per := s.rd u traceSamplePeriodUs
  let l := s.ltcOf u
  let t := l.sec * 1000000 + l.ns / 1000
  let o := if s.on u traceCtrlStagger then n % (per / on) * on else 0
  (t + per - o % per) % per < on

/-- Whether mode and shedding level let a sequencer be traced, at level `lv` (Tables 4.12, 6.11). -/
def State.traceAllowed (s : State) (p n lv : Nat) : Bool :=
  match s.mode (.ikb p) with
  | .noon => lv = 0 || (lv = 1 && s.windowOpen p n)
  | .afternoon => lv < 2 && s.windowOpen p n
  | _ => false

/-- Whether sequencer `n` is traced now. -/
def State.traced (s : State) (p n : Nat) : Bool :=
  let u := Chip.ikb p
  s.enabled u .trace && s.bit u traceSeqEnEn n && s.traceAllowed p n (s.rd u coderShedLevel)

/-- The STOP reason: 1 disabled, 3 mode, 2 shed, 0 window closed. -/
def State.stopReason (s : State) (p n : Nat) : Nat :=
  let u := Chip.ikb p
  if !s.enabled u .trace || !s.bit u traceSeqEnEn n then 1
  else if s.mode u == .dusk || s.mode u == .midnight then 3
  else if 2 ≤ s.rd u coderShedLevel then 2
  else 0

/-- Tracing of a sequencer starts or stops as its conditions now stand (Table 6.7). -/
def State.traceRefresh (s : State) (p n : Nat) : State :=
  let t := s.streamOf p n
  let want := s.traced p n
  if want && t.st = 0 then
    s.setStream p n { t with st := if t.sleep then 4 else 1, reason := 1, lastTarget := none, sinceSync := 0, lastAddr := none }
  else if !want && t.st ≠ 0 then
    let t1 := t.flushMap s.now
    let t2 := if t.st = 3 then t1.push s.now (gapPacket t1.gapBits t1.gapTime t1.gapCount) t1.gapCount else t1
    let t3 := t2.push s.now (stopPacket (s.stopReason p n) (s.traceTime p)) 0
    s.settle p n { t3 with st := 0, lastTarget := none, syncNow := false }
  else s

/-! ## Retires and sleep (Table 6.7) -/

/-- A SYNC describing a retire; the difference chain starts afresh (R199). -/
def Stream.sync (t : Stream) (now time reason : Nat) (r : Retire) : Stream :=
  let t1 := (t.flushMap now).push now (syncPacket r reason time) 1
  { t1 with st := 2, sinceSync := 0, syncNow := false, lastAddr := some r.addr,
            lastTarget := some (if r.ind && r.taken then r.target else r.addr) }

/-- A permitted retire in RUN (R198). -/
def Stream.run (t : Stream) (now time interval : Nat) (r : Retire) : Stream :=
  let k := t.sinceSync + 1
  if t.syncNow then t.sync now time 5 r
  else if interval ≤ k then t.sync now time 0 r
  else
    let t0 := { t with sinceSync := k, lastAddr := some r.addr }
    if r.ind && r.taken then
      let t1 := (t0.flushMap now).push now (indirectPacket ((r.target : Int) - (t.lastTarget.getD r.addr : Nat))) 1
      { t1 with lastTarget := some r.target }
    else t0.outcome now (r.taken && !r.ind)

/-- A gap opened or counted on by an unpermitted retire (R200, R201). -/
def Stream.hide (t : Stream) (now time : Nat) (r : Retire) : Stream :=
  if t.st = 3 then { t with gapCount := t.gapCount + 1, gapBits := t.gapBits ||| 2 ^ (r.priv % 4 - 1) }
  else { t.flushMap now with st := 3, gapCount := 1, gapBits := 2 ^ (r.priv % 4 - 1), gapTime := time }

/-- Whether a retire of a privilege code is permitted (R200). -/
def State.permitted (s : State) (p priv : Nat) : Bool :=
  priv % 4 = 0 || s.bit (.ikb p) traceAuthTraceAuth (priv % 4 - 1)

/-- A retire of a traced stream that is awake (Table 6.7). -/
def State.retireTraced (s : State) (p n : Nat) (r : Retire) : Stream :=
  let t := s.streamOf p n
  let time := s.traceTime p
  let interval := max 256 (s.rd (.ikb p) traceCtrlSyncInt)
  if t.overflow then { t with lost := t.lost + 1 }
  else if s.permitted p r.priv then
    match t.st with
    | 1 => t.sync s.now time (if t.syncNow then 5 else t.reason) r
    | 2 => t.run s.now time interval r
    | 3 => (t.push s.now (gapPacket t.gapBits t.gapTime t.gapCount) t.gapCount).sync s.now time 4 r
    | _ => t
  else
    match t.st with
    | 0 => t
    | 4 => t
    | _ => t.hide s.now time r

/-- A retire with a parity error: an OVERFLOW with a count of 1 added, a gap closing into it (R84, R202). -/
def Stream.parityLoss (t : Stream) : Stream :=
  if t.st = 0 || t.st = 4 then t
  else { t with overflow := true, lost := t.lost + 1 + t.map.length + (if t.st = 3 then t.gapCount else 0), map := [] }

/-- R95, R198, R201, R202: a branch retires. -/
def execTraceRetire (p n : Nat) (r : Retire) (s : State) : Out' := storeless s <|
  let u := Chip.ikb p
  if (s.streamOf p n).sleep then .next (s.inc u traceSleepDiscardCount)
  else if !r.parity then
    .next (((s.inc u traceOverflowParity).traceRefresh p n).settle p n
      ((s.traceRefresh p n).streamOf p n).parityLoss)
  else
    let s1 := s.traceRefresh p n
    let shed := !s1.traced p n && s1.enabled u .trace && s1.bit u traceSeqEnEn n && s1.traceAllowed p n 0
    let s2 := if shed then s1.inc u traceShedRetiresCount else s1
    .next (s2.settle p n (s2.retireTraced p n r))

/-- R201: TRCn_SLEEP rises. -/
def execTrcSleepRise (p n : Nat) (s : State) : Out' := storeless s <|
  let t := s.streamOf p n
  let time := s.traceTime p
  if t.sleep then .next s
  else
    let t0 := { t with sleep := true }
    match t.st with
    | 0 => .next (s.setStream p n t0)
    | 4 => .next (s.setStream p n t0)
    | 3 =>
      let t1 := (t0.push s.now (gapPacket t0.gapBits t0.gapTime t0.gapCount) t0.gapCount).push s.now
        (sleepPacket true t0.lastAddr time) 0
      .next (s.settle p n { t1 with st := 4, lastTarget := none })
    | _ =>
      let t1 := (t0.flushMap s.now).push s.now (sleepPacket false t0.lastAddr time) 0
      .next (s.settle p n { t1 with st := 4, lastTarget := none })

/-- R201: TRCn_SLEEP falls. -/
def execTrcSleepFall (p n : Nat) (s : State) : Out' := storeless s <|
  let t := s.streamOf p n
  let t0 := { t with sleep := false }
  if t.sleep && t.st = 4 then
    .next (s.settle p n { t0.push s.now (wakePacket (s.traceTime p)) 0 with st := 1, reason := 2 })
  else .next (s.setStream p n t0)

/-- R195: a trace record closes 10 µs after its first packet. -/
def execTraceRecordClose (p n : Nat) (s : State) : Out' := storeless s <|
  let t := s.streamOf p n
  if !t.buf.isEmpty && t.bufAt + 10 * us ≤ s.now then .next ((s.closeRecord p n).placeOverflow p n) else .next s

/-- R197: a branch map is emitted 10 µs after its first outcome. -/
def execBranchMapTimeout (p n : Nat) (s : State) : Out' := storeless s <|
  let t := s.streamOf p n
  if !t.map.isEmpty && t.mapAt + 10 * us ≤ s.now then .next (s.settle p n (t.flushMap s.now)) else .next s

/-- R198: SYNC_NOW: the next traced retire of each traced sequencer is a SYNC. -/
def State.syncNow (s : State) (p : Nat) : State :=
  { s with streams := s.streams.map fun e =>
      if e.1 / 64 = p && e.2.st ≠ 0 then (e.1, { e.2 with syncNow := true }) else e }

def execTraceSyncNow (p : Nat) (s : State) : Out' := storeless s <| .next (s.syncNow p)

/-- R87, R200: a write of TRACE.AUTH. -/
def State.traceAuthWrite (s : State) (p value : Nat) (secure : Bool) : State :=
  let u := Chip.ikb p
  if !secure then (s.inc u traceAuthRefusedCount).int u .trace 1
  else if s.on u traceAuthAuthLock then s
  else (s.wr u traceAuthTraceAuth value).wr u traceAuthAuthLock (bitAt value 3)

def execTraceAuthWrite (p value : Nat) (secure : Bool) (s : State) : Out' := storeless s <|
  .next (s.traceAuthWrite p value secure)

/-- R203: a sequencer's sample window opens or closes. -/
def execTraceSampleWindow (p n : Nat) (s : State) : Out' := storeless s <| .next (s.traceRefresh p n)

end Sys2Proof.Machine
end

