-- ==== Sys2Proof/Machine/Markers.lean ====
section
/-! DEFINITION. Spec 03 R105, R106: the markers of the job runtime. -/

namespace Sys2Proof.Machine

/-- The open step's number and the stamp of its STEP_BEGIN in nanoseconds. -/
def stepNo : Fld := cell .cntcfg 5000
def stepAt : Fld := cell .cntcfg 5001

/-- A marker discarded: counted by SNAP, with its interrupt (R106). -/
def State.markerLost (s : State) (p : Nat) (f : Fld) : State :=
  s.ifOn (.ikb p) .snap fun t => (t.inc (.ikb p) f).int (.ikb p) .snap 2

/-- A marker's way through the parity check, the intake queue and the check of its kind (R84, R106), to its effect. -/
def State.marker (s : State) (p : Nat) (m : Marker) (act : State → State) : State :=
  if !m.parity then (s.markerLost p snapMarkersParity).event (.ikb p) .snap 0x0301 1 0
  else if m.full then s.markerLost p snapMarkersOverflow
  else if m.reserved then s.markerLost p snapMarkersReservedKind
  else act s

/-- R182, R208: STEP_BEGIN opens a step for the gates, the step time and the watch. -/
def State.stepBegin (s : State) (p step : Nat) : State :=
  let u := Chip.ikb p
  let s1 := s.ifOn u .cntcfg fun t => t.wr u cntStepStatInStep 1
  ((s1.wr u stepNo (step % 4294967296 + 1)).wr u stepAt (s.ltcOf u).nsTotal).watchBegin p (step % 4294967296)

/-- R106, R38: STEP_END closes the step of the same number and forms the step time; another is an orphan. -/
def State.stepEnd (s : State) (p step : Nat) : State :=
  let u := Chip.ikb p
  if s.rd u stepNo = step % 4294967296 + 1 then
    let time := ((s.ltcOf u).nsTotal + 2 ^ 64 - s.rd u stepAt) % 2 ^ 64
    let s1 := (s.ifOn u .cntcfg fun t => t.wr u cntStepStatInStep 0).wr u stepNo 0
    (s1.event u .snap 0x0601 0 (pay [(step % 4294967296, 0), (time, 32)])).watchEnd p
  else s.markerLost p snapMarkersOrphan

/-- R182: PHASE sets the phase of the gates and the phase preferences. -/
def State.phaseMark (s : State) (p phase : Nat) : State :=
  s.ifOn (.ikb p) .cntcfg fun t => (t.wr (.ikb p) cntStepStatPhase phase).wr (.ikb p) cntStepStatPhaseValid 1

/-- R235: CKPT_BEGIN is forwarded in the event class and drives the in-field check. -/
def State.ckptBegin (s : State) (p step : Nat) : State :=
  (s.event (.ikb p) .snap 0x0602 0 (step % 4294967296)).ifcCkptBegin p

/-- R182: a STEP_BEGIN marker. -/
def execMarkerStepBegin (p : Nat) (m : Marker) (s : State) : Out' := storeless s <|
  .next (s.marker p m fun t => t.stepBegin p m.step)
/-- R106: a STEP_END marker. -/
def execMarkerStepEnd (p : Nat) (m : Marker) (s : State) : Out' := storeless s <|
  .next (s.marker p m fun t => t.stepEnd p m.step)
/-- R182: a PHASE marker. -/
def execMarkerPhase (p : Nat) (m : Marker) (s : State) : Out' := storeless s <|
  .next (s.marker p m fun t => t.phaseMark p m.phase)
/-- R235: a CKPT_BEGIN marker. -/
def execMarkerCkptBegin (p : Nat) (m : Marker) (s : State) : Out' := storeless s <|
  .next (s.marker p m fun t => t.ckptBegin p m.step)
/-- R236: a CKPT_END marker. -/
def execMarkerCkptEnd (p : Nat) (m : Marker) (s : State) : Out' := storeless s <|
  .next (s.marker p m fun t => t.ifcCkptEnd p)

end Sys2Proof.Machine
end

