-- ==== Sys2Proof/Machine/Place.lean ====
section
/-! DEFINITION. Spec 05 R164, R166: arming and disarming a launch slot, and the launches that the W-die places. -/

namespace Sys2Proof.Machine

/-- The instant in a slot's fields, in units of base `b`. -/
def State.slotInstant (s : State) (u : Chip) (i b : Nat) : Nat :=
  unpackTime b (s.rd u (launchSlotTimeNsNs i)) (s.rd u (launchSlotTimeSecLoSec i) + 4294967296 * s.rd u (launchSlotTimeSecHiSec i))

/-- An instant written into a slot's fields. -/
def State.setSlotInstant (s : State) (u : Chip) (i b t : Nat) : State :=
  let ns := if b = 0 then t % 1000000000 else t % 1073741824
  let sc := if b = 0 then t / 1000000000 else t / 1073741824
  ((s.wr u (launchSlotTimeNsNs i) ns).wr u (launchSlotTimeSecLoSec i) sc).wr u (launchSlotTimeSecHiSec i) (sc / 4294967296)

/-- The actions that a part provides (Table 5.6). -/
def actionProvided (u : Chip) (a : Nat) : Bool := if u.isIkb then [1, 2, 3, 4, 5, 6, 9].contains a else [1, 5, 7, 8, 9].contains a

/-- The first condition of R164, or of spec 16 R497, under which a slot's arm is refused, as its error code; the base valid as `ok`. -/
def State.armRefusal (s : State) (u : Chip) (i b : Nat) (ok : Bool) : Option Nat :=
  if !actionProvided u (s.rd u (launchSlotCtrlAction i)) then some 0x0102
  else if s.rd u (launchSlotCtrlAction i) = 8 && !(1 ≤ s.rd u (launchSlotArgArg i) && s.rd u (launchSlotArgArg i) ≤ 5) then
    some 0x0102
  else if !ok then some 0x0103
  else if b = 0 && 1000000000 ≤ s.rd u (launchSlotTimeNsNs i) then some 0x0107
  else if s.on u (launchSlotCtrlPeriodic i) && s.rd u (launchSlotPeriodP i) < (if b = 0 then 1000 else 50) then some 0x0102
  else if s.slotInstant u i b < s.timeIn u b + (if b = 0 then 1000 else 50) then some 0x0101
  else none

/-- The target that AON.MODE shows: that of the MODE launch armed, or the mode in force. -/
def State.targetFollow (s : State) (p : Nat) : State :=
  let u := Chip.ikb p
  s.wr u aonModeTgtMode (match s.firstArmed p 6 with
    | some i => s.rd u (launchSlotArgArg i)
    | none => s.rd u aonModeCurMode)

/-- STAGE follows a GOV_STEP slot of an IKB (R257), the target mode a MODE slot (spec 04 Table 4.8). -/
def State.slotFollow (s : State) (u : Chip) : State := match u with
  | .ikb p => (s.restage p).targetFollow p
  | _ => s

/-- R164: a slot that is not ARMED or HELD armed from its fields, or refused. -/
def State.armSlot (s : State) (u : Chip) (i : Nat) : State :=
  let b := s.rd u timeCtrlBase
  match s.armRefusal u i b (s.baseValid u) with
  | some e => (s.wr u (launchSlotCtrlState i) 4).pageErr u .launch e 1
  | none => ((((s.wr u (launchSlotCtrlBase i) b).wr u (launchSlotCtrlState i) 1).setB u launchArmedSlot i)).slotFollow u

/-- DISARM: the slot goes to IDLE. -/
def State.disarmSlot (s : State) (u : Chip) (i : Nat) : State :=
  ((s.wr u (launchSlotCtrlState i) 0).clrB u launchArmedSlot i).slotFollow u

/-- Whether a slot is free for a new launch. -/
def State.slotFree (s : State) (u : Chip) (i : Nat) : Bool :=
  s.rd u (launchSlotCtrlState i) != 1 && s.rd u (launchSlotCtrlState i) != 3

/-- A one-shot launch placed in the first free slot of a list; which one, where it was armed. -/
def State.placeIn (s : State) (u : Chip) (slots : List Nat) (action arg instant : Nat) : State × Option Nat :=
  match slots.find? fun i => s.slotFree u i with
  | none => (s, none)
  | some i =>
    let s1 := ((s.wr u (launchSlotCtrlAction i) action).wr u (launchSlotCtrlPeriodic i) 0).wr u (launchSlotArgArg i) arg
    let s2 := ((s1.wr u (launchSlotPeriodP i) 0).wr u (launchSlotCountN i) 0).setSlotInstant u i (s.rd u timeCtrlBase) instant
    let s3 := s2.armSlot u i
    (s3, if s3.rd u (launchSlotCtrlState i) = 1 then some i else none)

/-- A launch placed by the W-die into slots 12 to 15 of the IKB on port `p`, through the proxy; not while its link is
down (Table 5.7). -/
def State.placeIkb (s : State) (p action arg instant : Nat) : State × Option Nat :=
  if s.on (dieOfPort p) (ltlStatUp (linkOfPort p)) then s.placeIn (.ikb p) [12, 13, 14, 15] action arg instant else (s, none)

/-- The time of die 0 in its base in force, and microseconds in units of that base. -/
def State.dieBase (s : State) : Nat := s.rd (.wdie 0) timeCtrlBase
def State.dieTime (s : State) : Nat := s.timeIn (.wdie 0) s.dieBase
def baseUs (b n : Nat) : Nat := if b = 0 then n * 1000 else n * 50

/-- The first epoch instant at or after a time of base `b` (R256). -/
def epochUnit (b : Nat) : Nat := if b = 0 then 250000 else 12500
def nextEpoch (b t : Nat) : Nat := ceilDiv t (epochUnit b) * epochUnit b

end Sys2Proof.Machine
end

