-- ==== Sys2Proof/Machine/Prism.lean ====
section
/-! DEFINITION. Spec 09 R284 to R292: Prism's rules, windows and holds. -/

namespace Sys2Proof.Machine

/-- R286: rule `r` armed, or refused without authorisation; its LFSR takes SEED, its candidates count afresh. -/
def State.prismArm (s : State) (u : Chip) (r : Nat) : State :=
  if !s.on u prismStatAuth then s.pageErr u .prism 0x0100 1
  else if r < ruleCount u then
    (((s.wr u (prismRuleArmArmed r) 1).setB u prismStatArmed r).wr u (prismLfsr r) (s.rd u prismSeedSeed)).wr
      u (prismCand r) 0
  else s

/-- R291: rule `r` disarmed. -/
def State.prismDisarm (s : State) (u : Chip) (r : Nat) : State :=
  if !s.on u prismStatAuth then s.pageErr u .prism 0x0100 1
  else if r < ruleCount u then (s.wr u (prismRuleArmArmed r) 0).clrB u prismStatArmed r
  else s

/-- Every held frame of a part sent, in the held order. -/
def State.sendHeld (s : State) (u : Chip) : State :=
  (s.heldOf u).foldl (fun t h => t.emit h.frame) (s.setHeld u [])

/-- R286: every rule disarms, held frames are sent, PRISM_DISARMED is written; `halt` 0 when AUTH fell. -/
def State.prismDisarmAll (s : State) (u : Chip) (halt : Nat) : State :=
  let armed := s.rd u prismStatArmed
  let s1 := (List.range (ruleCount u)).foldl (fun t r => t.wr u (prismRuleArmArmed r) 0) (s.wr u prismStatArmed 0)
  let s2 := (s1.sendHeld u).event u .prism 0x0905 1 (pay [(armed, 0), (halt, 16), (s.rd u prismCtrlCampaign, 32)])
  if armed = 0 then s2 else s2.int u .prism 16

/-- R286: AUTH follows the grant of the part's AUTH page. -/
def State.prismAuth (s : State) (u : Chip) (v : Nat) : State :=
  if s.rd u prismStatAuth = v then s
  else if v = 0 then (s.wr u prismStatAuth 0).prismDisarmAll u 0
  else s.wr u prismStatAuth 1

/-- R286: CTRL.HALT. -/
def State.prismHalt (s : State) (u : Chip) : State :=
  if !s.on u prismStatAuth then s.pageErr u .prism 0x0100 1 else s.prismDisarmAll u 1

def execPrismRuleArm (u : Chip) (rule : Nat) (s : State) : Out' := storeless s <| .next (s.prismArm u rule)
def execPrismRuleDisarm (u : Chip) (rule : Nat) (s : State) : Out' := storeless s <| .next (s.prismDisarm u rule)
def execPrismHalt (u : Chip) (s : State) : Out' := storeless s <| .next (s.prismHalt u)

/-- R285: frames held for 100 µs are sent. -/
def execPrismReorderRelease (u : Chip) (s : State) : Out' := storeless s <|
  let l := s.heldOf u
  let due := l.filter fun h => h.since + 100 * us ≤ s.now
  .next (due.foldl (fun t h => t.emit h.frame) (s.setHeld u (l.filter fun h => s.now < h.since + 100 * us)))

/-- PRISM_WINDOW written for the rules whose windows opened or closed. -/
def State.windowEvent (s : State) (u : Chip) (rules op : Nat) : State :=
  s.event u .prism 0x0904 0 (pay [(rules, 0), (op, 16), (s.rd u prismCtrlCampaign, 32)])

/-- R288: a window's DURATION_US passes. -/
def execPrismWindowEnd (u : Chip) (rule : Nat) (s : State) : Out' := storeless s <|
  if s.on u (prismRuleArmWinOpen rule) && s.rd u (prismWinEnd rule) ≠ 0 && s.rd u (prismWinEnd rule) ≤ s.now + 1 then
    .next (((s.wr u (prismRuleArmWinOpen rule) 0).wr u (prismWinEnd rule) 0).windowEvent u (2 ^ rule) 0)
  else .next s

/-- R288: the windows that a PRISM launch's ARG names open or close; an open restarts the duration of an open one, a
close of a closed one does nothing. -/
def State.prismLaunch (s : State) (u : Chip) (arg : Nat) : State :=
  if !s.enabled u .prism then s
  else
    let rs := (List.range (ruleCount u)).filter fun r => bitAt arg r = 1
    let dur := bitsOf arg 17 15
    if bitAt arg 16 = 1 then
      let s1 := rs.foldl (fun t r => (t.wr u (prismRuleArmWinOpen r) 1).wr u (prismWinEnd r)
        (if dur = 0 then 0 else s.now + dur * us + 1)) s
      if rs.isEmpty then s1 else s1.windowEvent u (rs.foldl (fun a r => a + 2 ^ r) 0) 1
    else
      let op := rs.filter fun r => s.on u (prismRuleArmWinOpen r)
      let s1 := op.foldl (fun t r => (t.wr u (prismRuleArmWinOpen r) 0).wr u (prismWinEnd r) 0) s
      if op.isEmpty then s1 else s1.windowEvent u (op.foldl (fun a r => a + 2 ^ r) 0) 0

def execLaunchPrism (u : Chip) (arg : Nat) (s : State) : Out' := storeless s <| .next (s.prismLaunch u arg)

/-- R285: the frames held on a link or port that goes down are discarded and counted. -/
def State.heldLost (s : State) (u : Chip) (link : Nat) : State :=
  let l := s.heldOf u
  let gone := l.filter fun h => u.isIkb || h.link == link
  gone.foldl (fun t h => t.inc u (prismRuleLossesHeldLost h.rule)) (s.setHeld u (l.filter fun h => !(u.isIkb || h.link == link)))

/-- R287: whether a rule is armed on link or port `link` of W-die `d`, the IKB's own rules among them. -/
def State.prismArmedOn (s : State) (d link : Nat) : Bool :=
  ((List.range 16).any fun r => s.on (.wdie d) (prismRuleArmArmed r) && s.rd (.wdie d) (prismRuleCfgPort r) == link) ||
  (link < 8 && (List.range 4).any fun r => s.on (.ikb (8 * d + link)) (prismRuleArmArmed r))

end Sys2Proof.Machine
end

