-- ==== Sys2Proof/Machine/Link.lean ====
section
/-! DEFINITION. Spec 09 R269 to R283: the LTL: training, width, link-down, credit, event continuity, repeats. -/

namespace Sys2Proof.Machine

/-- What an end remembers of its link: whether it received the peer's HELLO, whether the version is unknown, the lanes
that pass training, the instant training began, the width agreed and still to come, the run of uncorrectable codewords,
those of the current second and the second, the instant of the last refresh, the next event sequence expected, the
job's point as last sent. -/
def helloGot (b : Blk) : Fld := cell b 52
def lanesOk (b : Blk) : Fld := cell b 54
def trainAt (b : Blk) : Fld := cell b 55
def widthPend (b : Blk) : Fld := cell b 56
def uncorrSec (b : Blk) : Fld := cell b 58
def uncorrWin (b : Blk) : Fld := cell b 59
def refreshAt (b : Blk) : Fld := cell b 60
def evNext (b : Blk) : Fld := cell b 61
def jobPoint (b : Blk) : Fld := cell b 63

/-- The job point that follows at a launch's instant: its index plus 1, and the instant in die 0's base (spec 08 R257). -/
def pointNext (b : Blk) : Fld := cell b 66
def pointAt (b : Blk) : Fld := cell b 67

/-- The job point of a link brought up to date with the launch whose instant has come. -/
def State.settlePoint (s : State) (p : Nat) : State :=
  let u := dieOfPort p
  let b := linkOfPort p
  if s.rd u (pointNext b) = 0 || s.dieTime < s.rd u (pointAt b) then s
  else (s.wr u (jobPoint b) (s.rd u (pointNext b) - 1)).wr u (pointNext b) 0

/-- The launch of a job's new point placed for the die on port `p`: into its IKB's slot, and kept for JOB_IDX. -/
def State.placePoint (s : State) (p idx instant : Nat) : State :=
  let u := dieOfPort p
  let b := linkOfPort p
  let s1 := s.settlePoint p
  (((s1.wr u (pointNext b) (idx + 1)).wr u (pointAt b) instant).placeIkb p 3 idx instant).1

/-- At the launch the W-die sends the IKB its JOB_IDX, apply-at-once clear (R257). -/
def State.sendPoint (s : State) (p : Nat) : State :=
  let s1 := s.settlePoint p
  s1.sendDown p 0x11 [s1.rd (dieOfPort p) (jobPoint (linkOfPort p)), 0]

/-- R274: a CREDIT frame's totals become the transmitter's credit, and waiting frames follow. -/
def execLtlCredit (p : Nat) (toIkb : Bool) (totals : List Nat) (s : State) : Out' := storeless s <|
  let u := endChip p toIkb
  let b := endBlk p toIkb
  if !s.on u (ltlStatUp b) then .next s
  else
    let s1 := (List.range 8).foldl (fun t c => t.wr u (txFreed b c) (nth totals c % 65536)) (s.wr u (uncorrRun b) 0)
    let s2 := State.pump (s1.txWaiting u b).length u b s1
    .next (if toIkb then State.drainTags 16 p s2 else s2)

/-- R274: a CREDIT frame with the totals freed since link-up. -/
def execCreditSend (p : Nat) (fromIkb : Bool) (s : State) : Out' := storeless s <|
  let u := endChip p fromIkb
  let b := endBlk p fromIkb
  let body := (List.range 8).map fun c => s.rd u (rxFreed b c)
  .next (if fromIkb then s.sendUp p 2 body else s.sendDown p 2 body)

/-! ## Event continuity (R276) -/

def State.gapOf (s : State) (p : Nat) : EvGap := (look p s.gaps).getD {}
def State.setGap (s : State) (p : Nat) (g : EvGap) : State :=
  { s with gaps := if g = {} then drop p s.gaps else put p g s.gaps }

/-- How far `q` lies at or beyond `e` in the 32-bit sequence; none when it lies behind. -/
def seqAhead (e q : Nat) : Option Nat :=
  let d := (q + 4294967296 - e) % 4294967296
  if d < 2147483648 then some d else none

/-- `n` sequences from `e` on. -/
def seqRun (e n : Nat) : List Nat := (List.range n).map fun i => (e + i) % 4294967296

/-- A RESEND of the gap's first sequence. -/
def State.resend (s : State) (p : Nat) : State :=
  let g := s.gapOf p
  (s.setGap p { g with sends := g.sends + 1, last := s.now }).sendDown p 0x07 [nth g.missing 0]

/-- The sequences from the one expected up to before `q` found missing; a new gap is asked for at once. -/
def State.openGap (s : State) (p q : Nat) : State :=
  let u := dieOfPort p
  let b := linkOfPort p
  (seqAhead (s.rd u (evNext b)) q).elim s fun n =>
    if n = 0 then s
    else
      let g := s.gapOf p
      let s1 := (s.setGap p { g with missing := g.missing ++ seqRun (s.rd u (evNext b)) n }).wr u (evNext b) q
      if g.missing.isEmpty then (s1.setGap p { s1.gapOf p with sends := 0 }).resend p else s1

/-- Records of the gap declared lost: counted, LTL_EVENTS_LOST, the interrupt. -/
def State.loseEvents (s : State) (p : Nat) (l : List Nat) : State :=
  if l.isEmpty then s
  else
    let u := dieOfPort p
    let b := linkOfPort p
    let g := s.gapOf p
    let s1 := s.setGap p { g with missing := g.missing.filter fun q => !l.contains q, lost := g.lost ++ l }
    ((s1.inc u (ltlEvtLostCount b) l.length).event u b 0x0903 2 (pay [(p, 0), (nth l 0, 32), (l.length, 64)])).int u b 3

/-- A record accepted by the W-die: UNIT the port, into its ring (spec 15 R450; spec 04 R135). -/
def State.acceptRec (s : State) (p : Nat) (r : EvRec) : State :=
  let u := dieOfPort p
  let r' := { r with unit := p, part := 0 }
  if !s.enabled u .evr then s
  else if s.stagingFull u r.sev then s.suppress u r.code r.sev else s.deliver u r'

/-- The generation that a poisoning record names, if it is one. -/
def poisonedGen (r : EvRec) : Option Nat :=
  match r.code with
  | 0x0701 => some (bitsOf r.payload 32 16)
  | 0x0702 => some (bitsOf r.payload 32 16)
  | 0x0704 => some (bitsOf r.payload 16 16)
  | _ => none

/-- The notice that follows an IKB's record (spec 15 Table 15.8), for a die in a job. -/
def State.recNotice (s : State) (p : Nat) (r : EvRec) : State :=
  let job := s.rd (.ikb p) govJobJob
  if job = 0 then s
  else
    match poisonedGen r with
    | some g =>
      let seen := (look p s.noticeGens).getD []
      if seen.contains g then s
      else ({ s with noticeGens := put p (g :: seen) s.noticeGens }).notice job (s.dieIndex p) r.code r.payload
    | none =>
      if [0x0706, 0x070A, 0x0F03, 0x0F06, 0x0F0A].contains r.code then s.notice job (s.dieIndex p) r.code r.payload else s

/-- A record whose CRC is right, judged by its sequence (R276); `some` when it is accepted. -/
def State.recvRec (s : State) (p : Nat) (r : EvRec) : State × Bool :=
  let u := dieOfPort p
  let b := linkOfPort p
  let g := s.gapOf p
  if g.missing.contains r.seq then
    let s1 := s.setGap p { g with missing := g.missing.erase r.seq }
    ((s1.acceptRec p r).recNotice p r, true)
  else if g.lost.contains r.seq then
    (((s.setGap p { g with lost := g.lost.erase r.seq }).acceptRec p r).recNotice p r, true)
  else
    match seqAhead (s.rd u (evNext b)) r.seq with
    | none => (s.inc u (ltlEvtLostDuplicate b), false)
    | some _ =>
      let s1 := s.openGap p r.seq
      let s2 := (s1.wr u (evNext b) ((r.seq + 1) % 4294967296)).wr u (ltlEvtSeqSeq b) r.seq
      ((s2.acceptRec p r).recNotice p r, true)

/-- R276: the W-die's STATUS: records beyond the last received are missing; the line levels. -/
def State.statusSeen (s : State) (p last : Nat) : State :=
  let u := dieOfPort p
  let b := linkOfPort p
  if (seqAhead (s.rd u (evNext b)) last).isSome then s.openGap p ((last + 1) % 4294967296) else s

/-- R64: the forwarded levels of a port change: the vectors they map to. -/
def State.fwdLevels (s : State) (p levels : Nat) : State :=
  let u := dieOfPort p
  let b := linkOfPort p
  let s1 := s.wr u (fwdLines b) (levels % 16)
  ((List.range 4).map fun l => s.rd u (ltlIrqVecVec b l)).eraseDups.foldl (fun t v =>
    if !s.vecLevel v && s1.vecLevel v then t.msixSend v
    else if !s1.vecLevel v then { t with pba := t.pba.erase v } else t) s1

/-- R276: a STATUS frame. -/
def execLtlStatus (p last irq : Nat) (s : State) : Out' := storeless s <|
  .next (s.recv p false 0x03 8 fun t => (t.statusSeen p last).fwdLevels p irq)

/-- R273: the IKB's STATUS, every 100 µs: the last event sequence written, the last governor FSEQ, the line levels. -/
def execStatusSend (p : Nat) (s : State) : Out' := storeless s <|
  let u := Chip.ikb p
  .next (s.ifOn u .link fun t => t.sendUp p 0x03
    [(t.rd u evrSeqNext + 4294967295) % 4294967296, (t.rd u (txFseq .link 1) + 65535) % 65536, t.irqLevels p])

/-- R64: an IRQ_STATE frame. -/
def execLtlIrqState (p levels : Nat) (s : State) : Out' := storeless s <|
  .next (s.recv p false 0x0C 1 fun t => t.fwdLevels p levels)

/-- R276: a RESEND at the IKB: the records from that sequence on that the ring still holds, after RING_LOST when the
first is gone. -/
def execLtlResend (p seq : Nat) (s : State) : Out' := storeless s <|
  .next (s.recv p true 0x07 4 fun t =>
    let u := Chip.ikb p
    let held := (t.ringHeld u).filter fun r => (seqAhead seq r.seq).isSome
    let want := (seqAhead (t.rd u evrSeqNext) seq).isNone
    let t1 := match held with
      | [] => if want then t.sendUp p 0x08 [t.rd u evrSeqNext] else t
      | r :: _ => if r.seq = seq % 4294967296 then t else t.sendUp p 0x08 [r.seq]
    (held.foldl (fun a r => a.sendUpAs p 0x20 true (recWords r)) t1).wr u evrSent (t.rd u evrSeqNext))

/-- R276: a RING_LOST at the W-die: everything missing before the oldest record held is lost. -/
def execLtlRingLost (p oldest : Nat) (s : State) : Out' := storeless s <|
  .next (s.recv p false 0x08 4 fun t =>
    let u := dieOfPort p
    let b := linkOfPort p
    let t1 := t.openGap p oldest
    let t2 := if (seqAhead (t1.rd u (evNext b)) oldest).isSome then t1.wr u (evNext b) oldest else t1
    t2.loseEvents p ((t2.gapOf p).missing.filter fun q => (seqAhead q oldest).isSome && q ≠ oldest))

/-- R276: 50 µs after a RESEND whose gap is still open: the next, or after the eighth the records are lost. -/
def execResendRepeat (p : Nat) (s : State) : Out' := storeless s <|
  let g := s.gapOf p
  if !g.missing.isEmpty && g.last + 50 * us ≤ s.now then
    .next (if g.sends < 8 then s.resend p else s.loseEvents p g.missing)
  else .next s

/-! ## Governor class repeats (R277) -/

/-- R277: an ACK ends the repeats of the report it names. -/
def execLtlAck (p cls fseq : Nat) (s : State) : Out' := storeless s <|
  .next (s.recv p true 0x06 4 fun t =>
    if cls = 1 then t.setReports p ((t.reportsOf p).filter fun r => r.fseq != fseq) else t)

/-- R277: one report's repeat, or its end after the eighth send. -/
def State.repeatReport (s : State) (p : Nat) (r : GovReport) : State :=
  if r.last + 10 * us ≤ s.now then
    if r.sends < 8 then
      (s.setReports p ((s.reportsOf p).map fun x => if x = r then { r with sends := r.sends + 1, last := s.now } else x)).sendUpAs
        p 0x10 true (r.fseq :: r.body)
    else
      (s.setReports p ((s.reportsOf p).filter fun x => x != r)).event (.ikb p) .link 0x0906 1
        (pay [(nth r.body 2 / 32, 0), (r.fseq, 16), (nth r.body 5 % 32, 32)])
  else s

def execGovReportRepeat (p : Nat) (s : State) : Out' := storeless s <|
  .next ((s.reportsOf p).foldl (fun t r => t.repeatReport p r) s)

/-! ## Control frames at the IKB -/

/-- R212: a LEVEL_CMD frame sets the commanded level. -/
def execLtlLevelCmd (p level : Nat) (s : State) : Out' := storeless s <|
  .next (s.recv p true 0x09 1 fun t => t.setShed p (t.rd (.ikb p) coderShedLocal) level)

/-- R191: a KEYFRAME_REQ frame. -/
def execLtlKeyframeReq (p : Nat) (s : State) : Out' := storeless s <|
  .next (s.recv p true 0x0A 0 fun t => t.wr (.ikb p) keyWanted 1)

/-! ## Link-down (R281, R282) -/

def State.proxiesOf (s : State) (p : Nat) : List ProxyReq := (look p s.proxies).getD []
def State.setProxies (s : State) (p : Nat) (l : List ProxyReq) : State :=
  { s with proxies := if l.isEmpty then drop p s.proxies else put p l s.proxies }

/-- A proxied access that fails: counted, and an error to its requester (spec 02 Table 2.4). -/
def State.proxyFailed (s : State) (p : Nat) (q : ProxyReq) : State :=
  (s.inc (dieOfPort p) (ltlProxyTimeouts (linkOfPort p))).answer (dieOfPort p) q.r q.write true 0

/-- A fault of the port's link channel, INJECTED while a Prism rule is armed on it (R282, R287). -/
def State.linkFault (s : State) (p : Nat) : State :=
  s.chanFault (dieOfPort p) (p % 8) 0x0901 0 false (s.prismArmedOn (p / 8) (p % 8))

/-- The frames an end had waiting at a link-down: classes 5 to 7 are cleared, and counted on the IKB; the rest of its
transmitter's queue is gone with the link, its producers keeping what their own rules keep. -/
def State.clearTx (s : State) (u : Chip) (b : Blk) : State :=
  let gone := (s.txWaiting u b).filter fun f => 5 ≤ frameClass f.type
  let s1 := s.setTx u b ((s.txWaiting u b).filter fun f => frameClass f.type = 3)
  if u.isIkb then gone.foldl (fun t f => t.inc u (ltlClassDiscardCount b (frameClass f.type))) s1 else s1

/-- R281: the W-die's end declares the link down. -/
def State.downAtDie (s : State) (p : Nat) (planned : Bool) (reason : Nat) : State :=
  let u := dieOfPort p
  let b := linkOfPort p
  let pl := pay [(p, 0), (planned.toNat, 6), (reason, 7), (s.rd u (ltlCountsDown b), 16)]
  let s1 := (((s.wr u (ltlStatUp b) 0).wr u (ltlStatState b) 0).wr u (downDue b) 0).wr u (upDue b) 0
  let s2 := (s1.int u b 0).event u b 0x0901 (if planned then 0 else 2) pl
  let s3 := ((s2.proxiesOf p).foldl (fun (t : State) q => t.proxyFailed p q) s2).setProxies p []
  let s4 := ((s3.clearTx u b).heldLost u (p % 8)).fwdLevels p 0
  let job := s.rd (.ikb p) govJobJob
  let s5 := if !planned && job ≠ 0 then s4.notice job (s.dieIndex p) 0x0901 pl else s4
  let s6 := s5.inc u (ltlCountsDown b)
  if planned then s6 else s6.linkFault p

/-- A trace stream at a link-down: to RESYNC. -/
def streamDown (p : Nat) (e : Nat × Stream) : Nat × Stream :=
  if e.1 / 64 = p && (e.2.st = 2 || e.2.st = 3) then (e.1, { e.2 with st := 1, reason := 3, lastTarget := none }) else e

/-- R281: the IKB's end declares the link down: the event for resending, the transmit buffer, HOLDOVER, the streams. -/
def State.downAtIkb (s : State) (p : Nat) (planned : Bool) (reason : Nat) : State :=
  let u := Chip.ikb p
  let pl := pay [(p, 0), (planned.toNat, 6), (reason, 7), (s.rd u (ltlCountsDown .link), 16)]
  let s1 := (((s.wr u (ltlStatUp .link) 0).wr u (ltlStatState .link) 0).wr u (downDue .link) 0).wr u (upDue .link) 0
  let s2 := ((s1.int u .link 0).event u .link 0x0901 (if planned then 0 else 2) pl).clearTx u .link
  let s3 := if s2.rd u timeStatState = 2 || s2.rd u timeStatState = 3 then s2.holdover u else s2
  ({ s3 with streams := s3.streams.map (streamDown p) }.heldLost u 0).inc u (ltlCountsDown .link)

/-- Whether an end has a link that is up, or a fall of it still to handle. -/
def State.endUp (s : State) (p : Nat) (ikb : Bool) : Bool :=
  s.on (endChip p ikb) (ltlStatUp (endBlk p ikb)) || s.on (endChip p ikb) (downDue (endBlk p ikb))

/-- An end's link-down sequence. -/
def State.downAt (s : State) (p : Nat) (ikb planned : Bool) (reason : Nat) : State :=
  if !s.endUp p ikb then s else if ikb then s.downAtIkb p planned reason else s.downAtDie p planned reason

/-- R281: an end declares the link down; on the IKB it is planned when it sent a GOODBYE. -/
def execLinkDown (p : Nat) (atIkb : Bool) (s : State) : Out' := storeless s <|
  let g := s.rd (.ikb p) (goodbyeSent .link)
  .next (if atIkb then s.downAt p true (g != 0) (g - 1) else s.downAt p false false 0)

/-- R281: a GOODBYE frame at the W-die: a planned down. -/
def execLtlGoodbye (p reason : Nat) (s : State) : Out' := storeless s <|
  .next (s.recv p false 0x0E 1 fun t => t.downAt p false true (reason % 4))

/-- R290: CTRL.RETRAIN: a planned down at both ends. -/
def State.retrain (s : State) (p : Nat) (atIkb : Bool) : State :=
  (s.downAt p atIkb true 0).downAt p (!atIkb) true 0
def execLtlRetrain (p : Nat) (atIkb : Bool) (s : State) : Out' := storeless s <| .next (s.retrain p atIkb)

/-- R270, R281, R282: an uncorrectable codeword, or with `crc` a flit whose CRC fails, received at an end; `frames`
frames are lost with its flits. The 16th codeword in a row brings the link down; more than UNCORR_LIMIT within 1 s are a
link fault. -/
def execUncorrectableCodeword (p : Nat) (toIkb crc : Bool) (frames : Nat) (s : State) : Out' := storeless s <|
  let u := endChip p toIkb
  let b := endBlk p toIkb
  if !s.on u (ltlStatUp b) then .next s
  else
    let s0 := s.inc u (ltlRxErrRxBad b) frames
    if crc then .next (s0.inc u (ltlRxErrCrc b))
    else
      let run := s.rd u (uncorrRun b) + 1
      let here := s.rd u (uncorrWin b) ≠ 0 && s.now < s.rd u (uncorrWin b) - 1 + sec
      let cnt := if here then s.rd u (uncorrSec b) + 1 else 1
      let s1 := (s0.inc u (ltlFecUncorrCount b)).wr u (uncorrRun b) run
      let s2 := (s1.wr u (uncorrSec b) cnt).wr u (uncorrWin b) (if here then s.rd u (uncorrWin b) else s.now + 1)
      let s3 := if cnt = s.rd u (ltlCountsUncorrLimit b) + 1 then s2.linkFault p else s2
      .next (if 16 ≤ run then s3.downAt p toIkb false 0 else s3)

/-! ## Training and width (R279, R280) -/

/-- Whether one lane is to be used: forced at either end, or by the mode (R280). -/
def State.oneLaneWanted (s : State) (p : Nat) : Bool :=
  s.on (.ikb p) (ltlCtrlForceOneLane .link) || s.on (dieOfPort p) (ltlCtrlForceOneLane (linkOfPort p)) ||
  s.mode (.ikb p) == .dusk || s.mode (.ikb p) == .midnight

/-- The lane kept when one is chosen: LANE_SEL of the end that forces it, else lane 0. -/
def State.laneKept (s : State) (p : Nat) : Nat :=
  if s.on (dieOfPort p) (ltlCtrlForceOneLane (linkOfPort p)) then s.rd (dieOfPort p) (ltlCtrlLaneSel (linkOfPort p))
  else if s.on (.ikb p) (ltlCtrlForceOneLane .link) then s.rd (.ikb p) (ltlCtrlLaneSel .link)
  else 0

/-- Whether the link may train: both ends allow it, neither is in the safe state, it is not retired. -/
def State.mayTrain (s : State) (p : Nat) : Bool :=
  s.on (.ikb p) (ltlCtrlTrainEn .link) && s.on (dieOfPort p) (ltlCtrlTrainEn (linkOfPort p)) &&
  s.enabled (.ikb p) .link && s.enabled (dieOfPort p) (linkOfPort p) &&
  !s.on (dieOfPort p) (ltlStatRetired (linkOfPort p)) && !s.on (.ikb p) safeIkb && !s.on (dieOfPort p) pwrStatSafe

/-- A field of both ends set. -/
def State.both (s : State) (p : Nat) (f : Blk → Fld) (v : Nat) : State :=
  (s.wr (.ikb p) (f .link) v).wr (dieOfPort p) (f (linkOfPort p)) v

/-- Lanes in use shown by state 5 or 6 at both ends. -/
def State.setWidth (s : State) (p lanes kept lat : Nat) : State :=
  ((s.both p ltlStatState (if lanes = 2 then 5 else 6)).both p ltlStatLaneUsed (if lanes = 2 then 0 else kept)).both
    p ltlLatL lat

/-- Both ends begin at a link-up: totals of zero, the peer's pools in force (R274). -/
def State.startCredit (s : State) (p : Nat) : State :=
  (List.range 8).foldl (fun t c =>
    ((((t.both p (txSent · c) 0).both p (txFreed · c) 0).both p (rxFreed · c) 0).wr (.ikb p) (txPool .link c)
      (s.rd (dieOfPort p) (ltlPoolFlits (linkOfPort p) c))).wr (dieOfPort p) (txPool (linkOfPort p) c)
      (nth [64, 64, 0, 0, 64, 0, 0, 832] c)) s

/-- The HELLO of both ends. -/
def State.sendHellos (s : State) (p lanes : Nat) : State :=
  (s.transmit (.ikb p) .link ⟨1, false, [lanes, 1]⟩).transmit (dieOfPort p) (linkOfPort p) ⟨1, false, [lanes, 1]⟩

/-- R279: the condition of the training state is met; `lanes` are those that pass it, `lat` what HELLO measures. -/
def execTrainingStateDone (p lanes lat : Nat) (s : State) : Out' := storeless s <|
  let u := Chip.ikb p
  let st := s.rd u (ltlStatState .link)
  let ok := s.rd u (lanesOk .link) &&& lanes
  if !s.mayTrain p || (st ≠ 0 && ok = 0 && st < 4) then .next s
  else match st with
  | 0 => .next (((s.both p ltlStatState 1).both p lanesOk 3).both p trainAt s.now)
  | 1 => .next ((s.both p ltlStatState 2).both p lanesOk ok)
  | 2 => .next ((s.both p ltlStatState 3).both p lanesOk ok)
  | 3 =>
    .next (((((s.both p ltlStatState 4).both p lanesOk ok).both p helloGot 0).both p goodbyeSent 0).sendHellos p ok)
  | 4 =>
    if s.on u (helloGot .link) && s.on (dieOfPort p) (helloGot (linkOfPort p)) then
      let got := s.rd u (lanesOk .link)
      let two := got = 3 && !s.oneLaneWanted p
      let kept := if got = 3 then s.laneKept p else if got = 1 then 0 else 1
      let s1 := (((s.setWidth p (if two then 2 else 1) kept lat).both p ltlStatUp 1).both p ltlStatLaneFailed (3 - got)).both
        p upDue 1
      .next ((((s1.startCredit p).both p downDue 0).both p uncorrRun 0).both p lowPower 0)
    else .next s
  | _ => .next s

/-- R279: a HELLO frame at an end in the HELLO state; a W-die that does not know the version raises LTL_VERSION. -/
def execLtlHello (p : Nat) (toIkb : Bool) (lanes : Nat) (known : Bool) (s : State) : Out' := storeless s <|
  let u := endChip p toIkb
  let b := endBlk p toIkb
  if s.rd u (ltlStatState b) = 4 then
    let s1 := (s.wr u (helloGot b) 1).both p lanesOk (s.rd u (lanesOk b) &&& lanes)
    .next (if toIkb then s1
      else if known then s1.wr u (verBad b) 0
      else (s1.wr u (verBad b) 1).pageErr u b 0x0101 2)
  else .next s

/-- R279, R282: 10 ms of training without success: DOWN, and a link fault. -/
def execTrainingTimeout (p : Nat) (s : State) : Out' := storeless s <|
  let st := s.rd (.ikb p) (ltlStatState .link)
  if 1 ≤ st && st ≤ 4 && s.rd (.ikb p) (trainAt .link) + 10 * ms ≤ s.now then .next ((s.both p ltlStatState 0).linkFault p)
  else .next s

/-- A change of width told at both ends (Table 9.11). -/
def State.widthEvent (s : State) (p lanes fault : Nat) : State :=
  let pl := pay [(p, 0), (lanes, 6), (fault, 8)]
  let u := dieOfPort p
  let b := linkOfPort p
  let s1 := ((s.inc (.ikb p) (ltlCountsWidth .link)).int (.ikb p) .link 2).event (.ikb p) .link 0x0902 1 pl
  ((s1.inc u (ltlCountsWidth b)).int u b 2).event u b 0x0902 1 pl

/-- R280: a lane in use fails: the link relocks on the other, or goes down when none remains. -/
def execLaneFail (p lane lat : Nat) (s : State) : Out' := storeless s <|
  let u := Chip.ikb p
  let st := s.rd u (ltlStatState .link)
  if st = 5 then
    let s1 := (s.setWidth p 1 (1 - lane % 2) lat).both p ltlStatLaneFailed (2 ^ (lane % 2))
    .next ((s1.widthEvent p 1 1).linkFault p)
  else if st = 6 && s.rd u (ltlStatLaneUsed .link) = lane % 2 then
    .next ((s.downAt p false false 0).downAt p true false 0)
  else .next s

/-- A planned change of width begins where the width in use is not the one wanted: WIDTH names the codeword, and the
end that sends it changes there too (R280). A failed lane is not used. -/
def State.planWidth (s : State) (p : Nat) (atIkb : Bool) : State :=
  let u := endChip p atIkb
  let b := endBlk p atIkb
  let lanes := if s.oneLaneWanted p then 1 else 2
  let st := s.rd u (ltlStatState b)
  if (st = 5 && lanes = 1) || (st = 6 && lanes = 2 && s.rd u (ltlStatLaneFailed b) = 0) then
    let s1 := s.wr u (widthPend b) lanes
    if atIkb then s1.sendUp p 0x0D [lanes, 16] else s1.sendDown p 0x0D [lanes, 16]
  else s

/-- R280: a WIDTH frame at an end names the codeword of the change. -/
def execLtlWidth (p : Nat) (toIkb : Bool) (lanes codeword : Nat) (s : State) : Out' := storeless s <|
  .next (s.recv p toIkb 0x0D 4 fun t =>
    if codeword < 16 then t else t.wr (endChip p toIkb) (widthPend (endBlk p toIkb)) (if lanes = 1 then 1 else 2))

/-- R280: at the agreed codeword both ends change width together. -/
def execWidthChangePoint (p lat : Nat) (s : State) : Out' := storeless s <|
  let n := s.rd (.ikb p) (widthPend .link)
  let st := s.rd (.ikb p) (ltlStatState .link)
  if n ≠ 0 && n = s.rd (dieOfPort p) (widthPend (linkOfPort p)) then
    let s1 := s.both p widthPend 0
    if (st = 5 && n = 1) || (st = 6 && n = 2) then .next ((s1.setWidth p n (s.laneKept p) lat).widthEvent p n 0) else .next s1
  else .next s

/-- R280: a write of CTRL.FORCE_ONE_LANE. -/
def State.forceOneLane (s : State) (p : Nat) (atIkb : Bool) (value : Nat) : State :=
  (s.wr (endChip p atIkb) (ltlCtrlForceOneLane (endBlk p atIkb)) value).planWidth p atIkb
def execForceOneLaneWrite (p : Nat) (atIkb : Bool) (value : Nat) (s : State) : Out' := storeless s <|
  .next (s.forceOneLane p atIkb value)

/-- R280: in Midnight an idle link enters low-power idle. -/
def execLowPowerIdleEntry (p : Nat) (s : State) : Out' := storeless s <|
  if s.mode (.ikb p) == .midnight && s.on (.ikb p) (ltlStatUp .link) && (s.txWaiting (.ikb p) .link).isEmpty then
    .next ((s.both p lowPower 1).both p refreshAt (s.now + 1))
  else .next s

/-- R280: in low-power idle each end sends one refresh codeword every 1 ms. -/
def execLinkRefresh (p : Nat) (s : State) : Out' := storeless s <|
  if s.on (.ikb p) (lowPower .link) && s.rd (.ikb p) (refreshAt .link) + ms ≤ s.now + 1 then
    .next (s.both p refreshAt (s.now + 1))
  else .next s

/-- R278: LINK compares the occupancy of its transmit buffer with its thresholds. -/
def execLinkShedEval (p : Nat) (s : State) : Out' := storeless s <|
  let u := Chip.ikb p
  let occ := 100 * s.txHeld u .link
  let lv := s.rd u coderShedLocal
  .next (s.ifOn u .link fun t =>
    if t.rd u (ltlShedCfgUpPct .link) * 65536 ≤ occ && lv < 5 then t.shedUp p
    else if occ ≤ t.rd u (ltlShedCfgDownPct .link) * 65536 && 0 < lv &&
            t.rd u shedAt + t.rd u (ltlShedCfgDownHoldUs .link) * us ≤ t.now + 1 then t.setLocalShed p (lv - 1)
    else t)

end Sys2Proof.Machine
end

