-- ==== Sys2Proof/Machine/Crypto.lean ====
section
/-! DEFINITION. What spec 16 R485, R486 and R490 name: SHA-384 and ECDSA on P-384, as FIPS 180-4 and FIPS 186-5 define
them. -/

namespace Sys2Proof.Machine

/-- The value of bytes, most significant first. -/
def beNat (l : List Nat) : Nat := l.foldl (fun a b => a * 256 + b % 256) 0

/-- The `n` bytes of a value, most significant first. -/
def beBytes : Nat → Nat → List Nat
  | 0, _ => []
  | n + 1, v => beBytes n (v / 256) ++ [v % 256]

/-! ## SHA-384 -/

/-- The round constants: the first 64 bits of the fractions of the cube roots of the first 80 primes. -/
def shaK : List Nat :=
  [0x428A2F98D728AE22, 0x7137449123EF65CD, 0xB5C0FBCFEC4D3B2F, 0xE9B5DBA58189DBBC, 0x3956C25BF348B538,
   0x59F111F1B605D019, 0x923F82A4AF194F9B, 0xAB1C5ED5DA6D8118, 0xD807AA98A3030242, 0x12835B0145706FBE,
   0x243185BE4EE4B28C, 0x550C7DC3D5FFB4E2, 0x72BE5D74F27B896F, 0x80DEB1FE3B1696B1, 0x9BDC06A725C71235,
   0xC19BF174CF692694] ++
  [0xE49B69C19EF14AD2, 0xEFBE4786384F25E3, 0x0FC19DC68B8CD5B5, 0x240CA1CC77AC9C65, 0x2DE92C6F592B0275,
   0x4A7484AA6EA6E483, 0x5CB0A9DCBD41FBD4, 0x76F988DA831153B5, 0x983E5152EE66DFAB, 0xA831C66D2DB43210,
   0xB00327C898FB213F, 0xBF597FC7BEEF0EE4, 0xC6E00BF33DA88FC2, 0xD5A79147930AA725, 0x06CA6351E003826F,
   0x142929670A0E6E70] ++
  [0x27B70A8546D22FFC, 0x2E1B21385C26C926, 0x4D2C6DFC5AC42AED, 0x53380D139D95B3DF, 0x650A73548BAF63DE,
   0x766A0ABB3C77B2A8, 0x81C2C92E47EDAEE6, 0x92722C851482353B, 0xA2BFE8A14CF10364, 0xA81A664BBC423001,
   0xC24B8B70D0F89791, 0xC76C51A30654BE30, 0xD192E819D6EF5218, 0xD69906245565A910, 0xF40E35855771202A,
   0x106AA07032BBD1B8] ++
  [0x19A4C116B8D2D0C8, 0x1E376C085141AB53, 0x2748774CDF8EEB99, 0x34B0BCB5E19B48A8, 0x391C0CB3C5C95A63,
   0x4ED8AA4AE3418ACB, 0x5B9CCA4F7763E373, 0x682E6FF3D6B2B8A3, 0x748F82EE5DEFB2FC, 0x78A5636F43172F60,
   0x84C87814A1F0AB72, 0x8CC702081A6439EC, 0x90BEFFFA23631E28, 0xA4506CEBDE82BDE9, 0xBEF9A3F7B2C67915,
   0xC67178F2E372532B] ++
  [0xCA273ECEEA26619C, 0xD186B8C721C0C207, 0xEADA7DD6CDE0EB1E, 0xF57D4F7FEE6ED178, 0x06F067AA72176FBA,
   0x0A637DC5A2C898A6, 0x113F9804BEF90DAE, 0x1B710B35131C471B, 0x28DB77F523047D84, 0x32CAAB7B40C72493,
   0x3C9EBE0A15C9BEBC, 0x431D67C49C100D4C, 0x4CC5D4BECB3E42B6, 0x597F299CFC657E2A, 0x5FCB6FAB3AD6FAEC,
   0x6C44198C4A475817]

/-- The initial state of SHA-384. -/
def shaInit : List Nat :=
  [0xCBBB9D5DC1059ED8, 0x629A292A367CD507, 0x9159015A3070DD17, 0x152FECD8F70E5939, 0x67332667FFC00B31,
   0x8EB44A8768581511, 0xDB0C2E0D64F98FA7, 0x47B5481DBEFA4FA4]

def rotr64 (n x : Nat) : Nat := x / 2 ^ n + x % 2 ^ n * 2 ^ (64 - n)
def add64 (a b : Nat) : Nat := (a + b) % 2 ^ 64
def shaS0 (x : Nat) : Nat := rotr64 28 x ^^^ rotr64 34 x ^^^ rotr64 39 x
def shaS1 (x : Nat) : Nat := rotr64 14 x ^^^ rotr64 18 x ^^^ rotr64 41 x
def shaT0 (x : Nat) : Nat := rotr64 1 x ^^^ rotr64 8 x ^^^ x / 2 ^ 7
def shaT1 (x : Nat) : Nat := rotr64 19 x ^^^ rotr64 61 x ^^^ x / 2 ^ 6

/-- The message schedule: sixteen words carried along, one new word at each round, by the rounds left. -/
def shaRounds : List Nat → List Nat → List Nat → List Nat
  | [], _, st => st
  | k :: ks, w, st =>
    let a := nth st 0; let b := nth st 1; let c := nth st 2; let d := nth st 3
    let e := nth st 4; let f := nth st 5; let g := nth st 6; let h := nth st 7
    let ch := (e &&& f) ^^^ ((2 ^ 64 - 1 - e) &&& g)
    let t1 := (h + shaS1 e + ch + k + nth w 0) % 2 ^ 64
    let maj := (a &&& b) ^^^ (a &&& c) ^^^ (b &&& c)
    let t2 := add64 (shaS0 a) maj
    let w' := (nth w 0 + shaT0 (nth w 1) + nth w 9 + shaT1 (nth w 14)) % 2 ^ 64
    shaRounds ks (w.drop 1 ++ [w']) [add64 t1 t2, a, b, c, add64 d t1, e, f, g]

/-- The eight words of a block of bytes taken 8 at a time, by fuel. -/
def shaWords : Nat → List Nat → List Nat
  | 0, _ => []
  | n + 1, l => beNat (l.take 8) :: shaWords n (l.drop 8)

/-- The blocks of a padded message absorbed, by fuel. -/
def shaBlocks : Nat → List Nat → List Nat → List Nat
  | 0, _, st => st
  | n + 1, l, st =>
    let r := shaRounds shaK (shaWords 16 (l.take 128)) st
    shaBlocks n (l.drop 128) ((st.zip r).map fun e => add64 e.1 e.2)

/-- SHA-384 of bytes, as a number of 384 bits. -/
def sha384 (m : List Nat) : Nat :=
  let pad := (239 - m.length % 128) % 128
  let l := m ++ [0x80] ++ List.replicate pad 0 ++ beBytes 16 (8 * m.length)
  ((shaBlocks (l.length / 128) l shaInit).take 6).foldl (fun a w => a * 2 ^ 64 + w) 0

/-! ## ECDSA on P-384 -/

def p384 : Nat := 2 ^ 384 - 2 ^ 128 - 2 ^ 96 + 2 ^ 32 - 1
def p384n : Nat := 0xFFFFFFFFFFFFFFFFFFFFFFFFFFFFFFFFFFFFFFFFFFFFFFFFC7634D81F4372DDF581A0DB248B0A77AECEC196ACCC52973
def p384b : Nat := 0xB3312FA7E23EE7E4988E056BE3F82D19181D9C6EFE8141120314088F5013875AC656398D8A2ED19D2A85C8EDD3EC2AEF
def p384gx : Nat := 0xAA87CA22BE8B05378EB1C71EF320AD746E1D3B628BA79B9859F741E082542A385502F25DBF55296C3A545E3872760AB7
def p384gy : Nat := 0x3617DE4A96262C6F5D9E98BF9292DC29F8F41DBD289A147CE9DA3113B5F0B8C00A60B1CE1D7E819D7A431D7C90EA0E5F

/-- a^e mod m for an exponent of `fuel` bits. -/
def powMod (m a : Nat) : Nat → Nat → Nat
  | 0, _ => 1 % m
  | n + 1, e =>
    let h := powMod m (a * a % m) n (e / 2)
    if e % 2 = 1 then h * a % m else h

/-- The inverse modulo a prime. -/
def invMod (m a : Nat) : Nat := powMod m (a % m) 384 (m - 2)

/-- A difference modulo m of residues. -/
def subMod (m a b : Nat) : Nat := (a + m - b % m) % m

/-- The sum of two points; none is the point at infinity. -/
def ptAdd : Option (Nat × Nat) → Option (Nat × Nat) → Option (Nat × Nat)
  | none, q => q
  | q, none => q
  | some (x1, y1), some (x2, y2) =>
    if x1 = x2 ∧ (y1 + y2) % p384 = 0 then none
    else
      let l := if x1 = x2 then (3 * x1 * x1 + p384 - 3) % p384 * invMod p384 (2 * y1) % p384
               else subMod p384 y2 y1 * invMod p384 (subMod p384 x2 x1) % p384
      let x3 := subMod p384 (subMod p384 (l * l % p384) x1) x2
      some (x3, subMod p384 (l * subMod p384 x1 x3 % p384) y1)

/-- A point times a scalar of `fuel` bits. -/
def ptMul : Nat → Nat → Option (Nat × Nat) → Option (Nat × Nat)
  | 0, _, _ => none
  | n + 1, k, q =>
    let h := ptMul n (k / 2) (ptAdd q q)
    if k % 2 = 1 then ptAdd h q else h

/-- Whether a signature r, s verifies over a hash under a public key (FIPS 186-5). -/
def ecdsaOk (qx qy hash r s : Nat) : Bool :=
  let onCurve := decide (qx < p384) && decide (qy < p384) && qy * qy % p384 == (qx * qx * qx + (p384 - 3) * qx + p384b) % p384
  if !onCurve || r = 0 || p384n ≤ r || s = 0 || p384n ≤ s then false
  else
    let w := invMod p384n s
    match ptAdd (ptMul 384 (hash * w % p384n) (some (p384gx, p384gy))) (ptMul 384 (r * w % p384n) (some (qx, qy))) with
    | some (x, _) => x % p384n == r
    | none => false

/-- The same over the 96 bytes of a key and of a signature, big-endian. -/
def signed (key msg sig : List Nat) : Bool :=
  ecdsaOk (beNat (key.take 48)) (beNat ((key.drop 48).take 48)) (sha384 msg) (beNat (sig.take 48)) (beNat ((sig.drop 48).take 48))

end Sys2Proof.Machine
end

