-- ==== Sys2Proof/Machine/Loader.lean ====
section
/-! DEFINITION. Spec 16 R485, R486, R489 and 18 R545: firmware components, their verification, and the W-die's sending of an IKB's
component at link-up. -/

namespace Sys2Proof.Machine

/-! ## Components (Table 16.5) -/

/-- The fields of a component's header. -/
structure Comp where
  kind : Nat
  version : Nat
  svn : Nat
  iface : Nat
  compat : Nat
  entry : Nat
  codeLen : Nat
  dataLen : Nat
  hash : Nat
  key : List Nat
  sig : List Nat
  formed : Bool
deriving DecidableEq, Repr

/-- A header of 512 bytes read; `formed` says that MAGIC, HDR_VER and the reserved bytes are as stated. -/
def compOf (h : List Nat) : Comp :=
  let n := fun (at' w : Nat) => leVal ((h.drop at').take w)
  { kind := n 4 1, version := n 8 4, svn := n 12 2, iface := n 14 2, compat := n 16 2, entry := n 20 4, codeLen := n 24 4,
    dataLen := n 28 4, hash := beNat ((h.drop 32).take 48), key := (h.drop 80).take 96, sig := (h.drop 416).take 96,
    formed := h.take 4 == [0x4C, 0x4D, 0x46, 0x57] && n 5 1 == 1 && n 6 2 == 0 && n 18 2 == 0 && n 176 240 == 0 }

/-- Whether the lengths lie within the part's bounds. -/
def Comp.bounded (c : Comp) : Bool :=
  if c.kind = 2 then decide (c.codeLen ≤ 65536) && decide (c.dataLen ≤ 131072)
  else decide (c.codeLen ≤ 262144) && decide (c.dataLen ≤ 15728640)

/-- The firmware key hash and the minimum security version in a part's fuses. -/
def fuseKey (u : Chip) : Nat := Config.partConst 2 u.code 0 % 2 ^ 384

/-- R486: the verification of a component of a kind, as a VERIFY_RESULT of Table 16.7: 1 PASS, 2 BAD_KEY, 3 BAD_SIG,
4 ROLLBACK, 5 FORMAT. -/
def State.verifyComp (s : State) (u : Chip) (kind : Nat) (h body : List Nat) : Nat :=
  let c := compOf h
  if !c.formed || c.kind ≠ kind || !c.bounded then 5
  else if sha384 c.key ≠ fuseKey u then 2
  else if c.svn < s.rd u authMinSvnSvn then 4
  else if sha384 (body.take (c.codeLen + c.dataLen)) ≠ c.hash || !signed c.key (h.take 416) c.sig then 3
  else 1

/-! ## The container (R485) -/

/-- Where the component of a kind lies in a container, by its header: offset and length. -/
def entryOf (h : List Nat) (kind : Nat) : Option (Nat × Nat) :=
  if h.take 4 ≠ [0x4C, 0x4D, 0x43, 0x54] then none
  else ((List.range (min 3 (nth h 4))).map fun i => (h.drop (16 + 16 * i)).take 16).findSome? fun e =>
    if nth e 0 = kind then some (leVal ((e.drop 4).take 4), leVal ((e.drop 8).take 4)) else none

/-- The bytes of the component of a kind in the firmware region. -/
def State.norComponent (s : State) (kind : Nat) : Option (List Nat) :=
  (entryOf ((s.norBytes 4096 0).map BitVec.toNat) kind).map fun e => (s.norBytes (min e.2 33554432) e.1).map BitVec.toNat

/-! ## Loading an IKB (R489, R545) -/

/-- At a W-die's LTL: what the load does (0 nothing, 1 frames sent, 2 verifying), the instant of its last failure plus 1,
whether the IKB's starts stopped loading, the COUNT last seen, the instants of its latest four resets of LAST 4 or 5 plus 1. -/
def loadStep (b : Blk) : Fld := cell b 68
def loadFailed (b : Blk) : Fld := cell b 69
def loadStop (b : Blk) : Fld := cell b 70
def loopCount (b : Blk) : Fld := cell b 71
def loopAt (b : Blk) (k : Nat) : Fld := cell b (72 + k)

/-- Bytes cut into frames' worth of 8,192, by fuel. -/
def loadPieces : Nat → List Nat → List (List Nat)
  | 0, _ => []
  | n + 1, l => if l.isEmpty then [] else l.take 8192 :: loadPieces n (l.drop 8192)

/-- IKB_LOAD_FAIL. -/
def State.loadFail (s : State) (p res : Nat) : State :=
  let u := dieOfPort p
  let b := linkOfPort p
  ((s.wr u (loadStep b) 0).wr u (loadFailed b) (s.now + 1)).event u .core 0x1006 2 (pay [(p, 0), (res, 8)])

/-- The IKB component sent in LOAD frames. -/
def State.loadSend (s : State) (p : Nat) : State :=
  let u := dieOfPort p
  let b := linkOfPort p
  match s.norComponent 2 with
  | some l =>
    if l.isEmpty || 197120 < l.length then s.loadFail p 5
    else
      let ps := loadPieces 32 l
      (ps.zipIdx.foldl (fun t e => t.sendDown p 0x78 ((4 + e.1.length) :: e.2 * 8192 :: e.1)) (s.wr u (loadStep b) 1)).wr u (loadFailed b) 0
  | none => s.loadFail p 5

/-- R545: the IKB's start history as the W-die reads it at a link-up. -/
def State.startLoop (s : State) (p : Nat) : State :=
  let u := dieOfPort p
  let b := linkOfPort p
  let last := s.rd (.ikb p) aonStartStatLast
  let n := s.rd (.ikb p) aonStartStatCount
  let s1 := s.wr u (loopCount b) n
  if last = 0 then (List.range 4).foldl (fun t k => t.wr u (loopAt b k) 0) (s1.wr u (loadStop b) 0)
  else if (last = 4 || last = 5) && n ≠ s.rd u (loopCount b) then
    let s2 := ((s1.wr u (loopAt b 3) (s.rd u (loopAt b 2))).wr u (loopAt b 2) (s.rd u (loopAt b 1))).wr u (loopAt b 1) (s.rd u (loopAt b 0))
    let s3 := s2.wr u (loopAt b 0) (s.now + 1)
    if s3.rd u (loopAt b 3) ≠ 0 && s.now + 1 ≤ s3.rd u (loopAt b 3) + 60 * sec && !s.on u (loadStop b) then
      (s3.wr u (loadStop b) 1).event u .core 0x1204 2 (pay [(p, 0), (n, 8), (last, 16)])
    else s3
  else s1

/-- R489: the W-die reads IKB_LOAD and loads the IKB unless a core has started; not before the package's DONE. -/
def State.loadBegin (s : State) (p : Nat) : State :=
  let u := dieOfPort p
  let b := linkOfPort p
  if !s.on u (ltlStatUp b) || !s.on .pkg pkgStartStatDone || s.on u (loadStop b) || s.on (.ikb p) coreIkbLoadFwLoaded then s
  else s.loadSend p

end Sys2Proof.Machine
end

