-- ==== Sys2Proof/Machine/Contexts.lean ====
section
/-! DEFINITION. Spec 11 R319 to R334: stream contexts, their placement, policing, the ingest buffer and the level
commands; and the telemetry frames of the LTL that enter them. -/

namespace Sys2Proof.Machine

/-! ## The contexts of a package -/

/-- The key of a slot. -/
def ctxKey (d slot : Nat) : Nat := d * 512 + slot % 512
def State.ctxAt (s : State) (k : Nat) : Option Ctx := look k s.ctxs

/-- MOVING of every die, OPEN of die `d` (Tables 11.7, 11.10). -/
def State.ctxCounts (s : State) (d : Nat) : State :=
  let mv := (s.ctxs.filter fun e => e.2.state == 4).length
  let used := (s.ctxs.filter fun e => e.1 / 512 == d).length
  (List.range s.dies).foldl (fun t i => t.wr (.wdie i) routeMigrateMoving mv) (s.wr (.wdie d) ctxSummaryOpen used)

/-- A slot's entry set, or freed. -/
def State.setCtx (s : State) (k : Nat) (c : Ctx) : State := ({ s with ctxs := put k c s.ctxs }).ctxCounts (k / 512)
def State.delCtx (s : State) (k : Nat) : State := ({ s with ctxs := drop k s.ctxs }).ctxCounts (k / 512)

/-- The context with a key that is not DRAINING, or else a DRAINING one (R319). -/
def State.findCtx (s : State) (job die kind : Nat) : Option (Nat × Ctx) :=
  let l := s.ctxs.filter fun e => e.2.job == job && e.2.dieIndex == die && e.2.kind == kind
  (l.find? fun e => e.2.state != 2).orElse fun _ => l.head?

/-- Whether a kind is never shed (Table 11.1). -/
def measureKind (kind : Nat) : Bool := kind < 3

/-- The template of a kind (Table 11.3). -/
def templateOf (kind : Nat) : Nat := if kind < 6 then kind else if kind = 0x10 then 6 else 7

/-- The key as an event payload (Table 11.11). -/
def keyPay (c : Ctx) : List (Nat × Nat) := [(c.job, 0), (c.dieIndex, 16), (c.kind, 40)]

/-! ## Placement (R323, R324) -/

def State.present (s : State) (d : Nat) : Bool := s.bit .pkg pkgSizeDiePresent d

/-- The score of die `d` for a key under a seed. -/
def score (job die kind seed d : Nat) : Nat :=
  mix64 (((job * 2 ^ 40 + die * 256 + kind) ^^^ seed) ^^^ (d * 0x9E3779B97F4A7C15 % 2 ^ 64))

/-- `d` put in its place in a list of dies by falling score, after equal ones. -/
def insertDie (sc : Nat → Nat) (d : Nat) : List Nat → List Nat
  | [] => [d]
  | e :: r => if sc e < sc d then d :: e :: r else e :: insertDie sc d r

/-- The present dies by falling score; equal scores keep the lower die first. -/
def State.ranked (s : State) (job die kind seed : Nat) : List Nat :=
  ((List.range s.dies).filter fun d => s.present d).foldl (fun l d => insertDie (score job die kind seed) d l) []

/-- A FREE slot of die `d`; one that a context is migrating from is not FREE. -/
def State.freeSlot (s : State) (d : Nat) : Option Nat :=
  (List.range 512).find? fun i => (s.ctxAt (ctxKey d i)).isNone && !s.ctxs.any fun e => e.2.origin == some (ctxKey d i)

/-- The first die of a ranking with a FREE slot, as a key, and whether it is not the first. -/
def State.placeCtx (s : State) (l : List Nat) : Option (Nat × Bool) :=
  (l.findSome? fun d => (s.freeSlot d).map fun i => (d, i)).map fun e => (ctxKey e.1 e.2, decide (l.head? ≠ some e.1))

/-- A new entry from the templates of its kind on its die (R320, R350), its buckets full. -/
def State.newCtx (s : State) (d job die kind : Nat) (spilled : Bool) : Ctx :=
  let u := Chip.wdie d
  let k := templateOf kind
  let cbs := s.rd u (policeTemplateBurstCbs k)
  let pbs := s.rd u (policeTemplateBurstPbs k)
  { job := job, dieIndex := die, kind := kind, spilled := spilled, aware := s.on u (policeTemplateCfgAware k),
    redMark := s.on u (policeTemplateCfgRedMark k), queue := s.rd u (policeTemplateCfgQueue k),
    cir := s.rd u (policeTemplateCirCir k), pir := s.rd u (policeTemplatePirPir k), cbs := cbs, pbs := pbs,
    tc := cbs * 4194304, tp := pbs * 4194304, last := s.now,
    cod := { cfg := s.rd u (codecTemplateCfgPath k) + 4 * s.rd u (codecTemplateCfgLevel k) + 64 * s.rd u (codecTemplateCfgPred k) +
                    512 * s.rd u (codecTemplateCfgTable k) + 8192 * s.rd u (codecTemplateCfgLaneW k) +
                    32768 * s.rd u (codecTemplateCfgSigned k) + 65536 * s.rd u (codecTemplateCfgSegs k),
             mask := s.rd u (codecTemplateMaskFixedMask k) } }

/-- A context opened by die `d0` (R324), unless one with its key is open; CTX_FULL when no die has a FREE slot. -/
def State.openCtx (s : State) (d0 job die kind : Nat) : State :=
  if (s.findCtx job die kind).any fun e => e.2.state != 2 then s
  else match s.placeCtx (s.ranked job die kind (s.rd (.wdie d0) routeCtxSeedSeed)) with
    | some (k, spilled) =>
      let s1 := s.setCtx k (s.newCtx (k / 512) job die kind spilled)
      if spilled then s1.inc (.wdie (k / 512)) ctxMiscSpilled else s1
    | none => (s.event (.wdie d0) .ctx 0x0B04 2 (pay [(job, 0), (die, 16), (kind, 40)])).int (.wdie d0) .ctx 2

/-- The job of the native entry in force for a die index, 0 when there is none (R320). -/
def State.nativeJob (s : State) (die : Nat) : Nat :=
  ((s.xlat.find? fun e => !e.flat && e.dieIndex == die).map fun e => e.job).getD 0

/-- The six LTL contexts of a port (R320). -/
def State.openPort (s : State) (p : Nat) : State :=
  (List.range 6).foldl (fun t k => t.openCtx (p / 8) (s.nativeJob (s.dieIndex p)) (s.dieIndex p) k) s

/-- R320: the six contexts of a die index whose job was `job` move to DRAINING; a migrating one does once moved. -/
def State.drainCtx (s : State) (k : Nat) (c : Ctx) : State :=
  if c.state = 4 then s.setCtx k { c with closing := true } else s.setCtx k { c with state := 2 }
def State.drainDie (s : State) (die job : Nat) : State :=
  (s.ctxs.filter fun e => e.2.dieIndex == die && e.2.job == job && e.2.kind < 6 && e.2.state != 2).foldl
    (fun t e => t.drainCtx e.1 e.2) s

/-! ## Policers (R330, R331) -/

/-- The bucket of `size` 64-byte units after `dt` ns at `rate` MB/s, in 2^-16 byte. -/
def refill (tok rate dt size : Nat) : Nat := min (tok + rate * 65536 * dt / 1000) (size * 4194304)

/-- The colour of `b` bytes (0 green, 1 yellow, 2 red) and the buckets left, from the refilled ones. -/
def markColour (tc tp b pre : Nat) : Nat × Nat × Nat :=
  if pre = 2 || tp < b * 65536 then (2, tc, tp)
  else if pre = 1 || tc < b * 65536 then (1, tc, tp - b * 65536)
  else (0, tc - b * 65536, tp - b * 65536)

/-- What a port policer's buckets miss of full, and their instant. -/
def polMissC (p : Nat) : Fld := cell .police (16 + p)
def polMissP (p : Nat) : Fld := cell .police (32 + p)
def polAt (p : Nat) : Fld := cell .police (48 + p)

/-- Stage 1: the port policer of LTL link or local optical port + 8 `i` of die `d` colours `b` bytes. -/
def State.portColour (s : State) (d i b : Nat) : Nat × State :=
  let u := Chip.wdie d
  let cbs := s.rd u (policePortBurstCbs i) * 4194304
  let pbs := s.rd u (policePortBurstPbs i) * 4194304
  let dt := s.now - s.rd u (polAt i)
  let tc := refill (cbs - s.rd u (polMissC i)) (s.rd u (policePortCirCir i)) dt (s.rd u (policePortBurstCbs i))
  let tp := refill (pbs - s.rd u (polMissP i)) (s.rd u (policePortPirPir i)) dt (s.rd u (policePortBurstPbs i))
  let r := markColour tc tp b 0
  let s1 := ((s.wr u (polMissC i) (cbs - r.2.1)).wr u (polMissP i) (pbs - r.2.2)).wr u (polAt i) s.now
  (r.1, if r.1 = 1 then s1.inc u (policePortColoursYellow i) else if r.1 = 2 then s1.inc u (policePortColoursRed i) else s1)

/-- Whether the four parameters of a policer may be written (R331). -/
def policeOk (cir pir cbs pbs : Nat) : Bool := cir ≤ pir && pir ≠ 0 && cbs ≠ 0 && cbs ≤ pbs

/-- R331: a write of a policer word of the POLICE page: checked against the other words, or refused; a port policer's
buckets begin full at their new sizes. -/
def State.policeWrite (s : State) (d off value : Nat) : State :=
  let u := Chip.wdie d
  let tmpl := off < 0x300
  let k := (off - (if tmpl then 0x200 else 0x300)) / 16
  let cir := if tmpl then policeTemplateCirCir k else policePortCirCir k
  let pir := if tmpl then policeTemplatePirPir k else policePortPirPir k
  let cbs := if tmpl then policeTemplateBurstCbs k else policePortBurstCbs k
  let pbs := if tmpl then policeTemplateBurstPbs k else policePortBurstPbs k
  let c := if tmpl then 4 else 0
  let w := off % 16
  if off < 0x200 || 0x3A0 ≤ off || (0x280 ≤ off && off < 0x300) then s
  else if w = 0 && tmpl then
    if 2 ≤ bitsOf value 2 3 then
      ((s.wr u (policeTemplateCfgAware k) (bitAt value 0)).wr u (policeTemplateCfgRedMark k) (bitAt value 1)).wr
        u (policeTemplateCfgQueue k) (bitsOf value 2 3)
    else s.pageErr u .police 0x0100 1
  else
    let vCir := if w = c then bitsOf value 0 24 else s.rd u cir
    let vPir := if w = c + 4 then bitsOf value 0 24 else s.rd u pir
    let vCbs := if w = c + 8 then bitsOf value 0 16 else s.rd u cbs
    let vPbs := if w = c + 8 then bitsOf value 16 16 else s.rd u pbs
    if !policeOk vCir vPir vCbs vPbs then s.pageErr u .police 0x0100 1
    else
      let s1 := (((s.wr u cir vCir).wr u pir vPir).wr u cbs vCbs).wr u pbs vPbs
      if tmpl then s1 else ((s1.wr u (polMissC k) 0).wr u (polMissP k) 0).wr u (polAt k) s.now
def execPoliceWrite (d off value : Nat) (s : State) : Out' := storeless s <| .next (s.policeWrite d off value)

/-! ## The ingest buffer (R333) -/

def State.ingestOf (s : State) (d : Nat) : List IngFrame := (look d s.ingest).getD []
def State.waitOf (s : State) (d : Nat) : List IngFrame := (look d s.ingestWait).getD []
def State.setWait (s : State) (d : Nat) (l : List IngFrame) : State :=
  { s with ingestWait := if l.isEmpty then drop d s.ingestWait else put d l s.ingestWait }

/-- Bytes in the buffer of never-shed and of other kinds; its whole size and its reserved part. -/
def measureBytes (l : List IngFrame) : Nat := ((l.filter fun f => measureKind f.kind).map fun f => f.bytes).sum
def shedBytes (l : List IngFrame) : Nat := ((l.filter fun f => !measureKind f.kind).map fun f => f.bytes).sum
def ingestSize : Nat := 8388608
def ingestKept : Nat := 524288
def openSize : Nat := ingestSize - ingestKept

/-- The bytes in the unreserved part: sheddable ones, and never-shed ones beyond the reserved part. -/
def openUsed (l : List IngFrame) : Nat := shedBytes l + (measureBytes l - ingestKept)

/-- Since when the unreserved part has been above UP_PCT, and below DOWN_PCT, plus 1; 0 when it is not. -/
def upSince : Fld := cell .police 0
def downSince : Fld := cell .police 1 1

/-- The buffer set: USED, PEAK and the level conditions follow. -/
def State.setIngest (s : State) (d : Nat) (l : List IngFrame) : State :=
  let u := Chip.wdie d
  let s1 := { s with ingest := if l.isEmpty then drop d s.ingest else put d l s.ingest }
  let used := ceilDiv (measureBytes l + shedBytes l) 1024
  let s2 := (s1.wr u policeBufferUsedKib used).wr u policeBufferPeakKib (max used (s1.rd u policeBufferPeakKib))
  let up := s.rd u policeLevelUpPct * openSize < 100 * openUsed l
  let dn := 100 * openUsed l < s.rd u policeLevelDownPct * openSize
  (s2.wr u upSince (if up then (if s.rd u upSince = 0 then s.now + 1 else s.rd u upSince) else 0)).wr
    u downSince (if dn then (if s.rd u downSince = 0 then s.now + 1 else s.rd u downSince) else 0)

/-- Whether a frame fits (R333). -/
def fits (l : List IngFrame) (f : IngFrame) : Bool :=
  if measureKind f.kind then decide (measureBytes l + shedBytes l + f.bytes ≤ ingestSize)
  else decide (openUsed l + f.bytes ≤ openSize)

/-- A KEYFRAME_REQ sent on a port by the owner die (R333). -/
def State.keyReq (s : State) (d : Nat) (port : Option Nat) : State :=
  match port with
  | some p => (s.inc (.wdie d) policeMiscKeyreq).sendDown p 0x0A []
  | none => s

/-- A frame of a context dropped: counted; a COUNTER frame asks for a keyframe, a TRACE frame is a loss in the
history. -/
def State.dropFrame (s : State) (f : IngFrame) : State :=
  match s.ctxAt f.ctx with
  | none => s
  | some c =>
    let c1 := { c with dropped := (c.dropped + 1) % 4294967296 }
    let c2 := if f.kind = 5 then { c1 with cod := { c1.cod with losses := c1.cod.losses ++ [c1.cod.link.seq] } } else c1
    let s1 := s.setCtx f.ctx c2
    let s2 := if c.state = 4 then s1.inc (.wdie (f.ctx / 512)) routeMigrateDropCount else s1
    if f.kind = 4 then s2.keyReq (f.ctx / 512) f.port else s2

/-- The bytes accepted in this second into the contexts of a die (R329). -/
def dieBytes : Fld := cell .route 0

/-- A frame admitted to the buffer of its owner die. -/
def State.takeIn (s : State) (f : IngFrame) : State :=
  let d := f.ctx / 512
  match s.ctxAt f.ctx with
  | none => s
  | some c =>
    let s1 := s.setCtx f.ctx { c with frames := (c.frames + 1) % 4294967296, bytes := (c.bytes + f.bytes) % 2 ^ 42 }
    let s2 := s1.wr (.wdie d) dieBytes (s1.rd (.wdie d) dieBytes + f.bytes)
    let f1 := { f with stamp := (s2.ltcOf (.wdie d)).nsTotal, tick := s2.timeIn (.wdie d) 1 }
    s2.setIngest d (s2.ingestOf d ++ [f1])

/-- Stage 2: the context's policer colours a frame; colours are counted (R330, R332). -/
def State.ctxColour (s : State) (k b pre : Nat) : Nat × State :=
  match s.ctxAt k with
  | none => (0, s)
  | some c =>
    let dt := s.now - c.last
    let r := markColour (refill c.tc c.cir dt c.cbs) (refill c.tp c.pir dt c.pbs) b (if c.aware then pre else 0)
    let c1 := { c with tc := r.2.1, tp := r.2.2, last := s.now }
    let c2 := if r.1 = 1 then { c1 with yellow := (c1.yellow + 1) % 4294967296 }
              else if r.1 = 2 then { c1 with red := (c1.red + 1) % 4294967296,
                                             redSec := c1.redSec + (if measureKind c.kind then 1 else 0) }
              else c1
    let s1 := s.setCtx k c2
    (r.1, if r.1 = 2 && measureKind c.kind then s1.inc (.wdie (k / 512)) policeMiscExceed else s1)

/-- Whether frames of a kind are processed in the mode of a die (Table 11.6, Midnight). -/
def State.kindRuns (s : State) (d kind : Nat) : Bool := s.mode (.wdie d) != .midnight || kind = 0 || kind = 2

/-- R332, R333: a frame at its owner die, with its stage-1 colour: coloured, then admitted, dropped, or (a never-shed
kind without room, or of a KILLED context) left waiting with its credit withheld. The flag says whether its flits are
free. -/
def State.acceptFrame (s : State) (f : IngFrame) : State × Bool :=
  let d := f.ctx / 512
  let u := Chip.wdie d
  match s.ctxAt f.ctx with
  | none => (s, true)
  | some c =>
    if !s.kindRuns d f.kind || c.state = 2 then (s.dropFrame f, true)
    else if c.state = 3 then
      if measureKind f.kind then (s.setWait d (s.waitOf d ++ [f]), false) else (s.dropFrame f, true)
    else
      let r := s.ctxColour f.ctx f.bytes f.pre
      let s1 := r.2
      let l := s1.ingestOf d
      if measureKind f.kind then
        if fits l f && (s1.waitOf d).isEmpty then (s1.takeIn f, true)
        else (s1.setWait d (s1.waitOf d ++ [{ f with pre := 3 }]), false)
      else if r.1 = 2 && !c.redMark then (s1.dropFrame f, true)
      else
        let marked := r.1 != 0
        let f1 := { f with marked := marked }
        if marked && s1.rd u policeLevelYellowPct * ingestSize < 100 * (measureBytes l + shedBytes l) then
          ((s1.inc u policeDropsMarked).dropFrame f1, true)
        else if !fits l f1 then
          ((if marked then s1.inc u policeDropsMarked else s1.inc u policeDropsFull).dropFrame f1, true)
        else (s1.takeIn f1, true)

/-- The flits that a waiting frame held are freed (R333). -/
def State.freeHeld (s : State) (f : IngFrame) : State :=
  match f.port with
  | none => s
  | some p =>
    let u := dieOfPort p
    let cls := nth [2, 1, 3, 5, 6, 7] f.kind
    s.wr u (rxFreed (linkOfPort p) cls) ((s.rd u (rxFreed (linkOfPort p) cls) + flitsOf (f.bytes - 8)) % 65536)

/-- The frames that wait at a die tried again, in order; those coloured already (`pre` 3) only for room. -/
def State.admitWaiting (s : State) (d : Nat) : State :=
  (s.waitOf d).foldl (fun t f =>
    match t.ctxAt f.ctx with
    | none => t.freeHeld f
    | some c =>
      if c.state = 3 then t.setWait d (t.waitOf d ++ [f])
      else if c.state = 2 then (t.dropFrame f).freeHeld f
      else
        let t1 := if f.pre = 3 then t else (t.ctxColour f.ctx f.bytes f.pre).2
        if fits (t1.ingestOf d) f && (t1.waitOf d).all (fun g => (t1.ctxAt g.ctx).any fun x => x.state = 3) then
          (t1.takeIn f).freeHeld f
        else t1.setWait d (t1.waitOf d ++ [{ f with pre := 3 }])) (s.setWait d [])

/-- A frame that reaches die `d0` for a key: to its context's owner, or dropped and counted where there is none. -/
def State.arriveKey (s : State) (d0 job die kind pre bytes : Nat) (port : Option Nat) (body : List Nat) : State × Bool :=
  match s.findCtx job die kind with
  | some (k, _) => s.acceptFrame ⟨k, kind, port, false, bytes, body, pre, 0, 0⟩
  | none => (s.inc (.wdie d0) ctxMiscNoCtx, true)

/-- The bytes of sheddable frames of the last 1 ms noted (R334). -/
def State.noteRecent (s : State) (d p bytes : Nat) : State :=
  let l := ((look d s.recent).getD []).filter fun e => s.now < e.1 + ms
  { s with recent := put d ((s.now, p, bytes) :: l) s.recent }

/-- A telemetry frame of `kind` on port `p`: stage 1 at the port, then its context (R330). -/
def State.arriveLtl (s : State) (p kind len : Nat) (body : List Nat) : State × Bool :=
  let d := p / 8
  let b := 8 + len
  let s0 := if measureKind kind then s else s.noteRecent d p b
  let r := s0.portColour d (p % 8) b
  r.2.arriveKey d (s0.nativeJob (s0.dieIndex p)) (s0.dieIndex p) kind r.1 b (some p) body

/-- Reception of a telemetry frame: as `recv`, its flits freed only when the ingest buffer took it or dropped it. -/
def State.recvTele (s : State) (p ty kind len : Nat) (body : List Nat) (act : State → State) : State :=
  let u := dieOfPort p
  let b := linkOfPort p
  let c := frameClass ty
  if !s.on u (ltlStatUp b) then s
  else
    let s1 := s.wr u (uncorrRun b) 0
    if s.on u (verBad b) then (s1.wr u (rxFreed b c) ((s.rd u (rxFreed b c) + flitsOf len) % 65536)).inc u (ltlRxErrRxBad b)
    else
      let r := s1.arriveLtl p kind len body
      let s2 := if r.2 then r.1.wr u (rxFreed b c) ((r.1.rd u (rxFreed b c) + flitsOf len) % 65536) else r.1
      act s2

def execLtlHealth (p : Nat) (body : List Nat) (s : State) : Out' := storeless s <|
  .next (s.recvTele p 0x30 2 body.length body id)
def execLtlWatchReport (p : Nat) (body : List Nat) (s : State) : Out' := storeless s <|
  .next (s.recvTele p 0x50 3 body.length body id)
def execLtlTagRecords (p : Nat) (body : List Nat) (s : State) : Out' := storeless s <|
  .next (s.recvTele p 0x51 3 body.length body id)
def execLtlSnapshot (p : Nat) (body : List Nat) (s : State) : Out' := storeless s <|
  .next (s.recvTele p 0x60 4 body.length body id)
def execLtlTraceRecord (p : Nat) (body : List Nat) (s : State) : Out' := storeless s <|
  .next (s.recvTele p 0x70 5 body.length body id)

/-- R330: a frame of the context in a slot reaches its owner die with a stage-1 colour. -/
def execCtxFrameAccept (d slot pre bytes : Nat) (port : Option Nat) (body : List Nat) (s : State) : Out' := storeless s <|
  .next (match s.ctxAt (ctxKey d slot) with
    | some c => (s.acceptFrame ⟨ctxKey d slot, c.kind, port, false, bytes, body, pre % 3, 0, 0⟩).1
    | none => s.inc (.wdie d) ctxMiscNoCtx)

/-- R276: an EVENTS frame: its records judged in order; those of bad CRC (`bad` names their places) discarded,
counted and missing (R450). -/
def execLtlEvents (p : Nat) (recs : List EvRec) (bad : List Nat) (s : State) : Out' := storeless s <|
  let body := (recs.map fun r => (evBytes r).map fun b => b.toNat).flatten
  .next (s.recvTele p 0x20 0 (32 * recs.length) body fun t =>
    (recs.zipIdx.foldl (fun a e => if bad.contains e.2 then a.inc (dieOfPort p) evrErrsCrcErr
      else (a.recvRec p e.1).1) t))

/-! ## Link-up (spec 09 R279, R320) -/

/-- Whether the LTL contexts of a link were opened already. -/
def linkSeen (b : Blk) : Fld := cell b 64

/-- Whether the IKB missed a mode launch while the link was down (spec 04 Table 4.17). -/
def modeMissed (b : Blk) : Fld := cell b 76

/-- R554: the serving W-die writes GOV.JOB through the proxy; a gated page and one in its soft reset take no write. -/
def State.putGovJob (s : State) (p : Nat) : State :=
  if s.clocked (.ikb p) .gov && !s.on (.ikb p) (hdrBlkStatResetBusy .gov) then
    s.wr (.ikb p) govJobJob (s.nativeJob (s.dieIndex p))
  else s

/-- R554: the write at a link-up, of a loaded IKB whose GOV page is enabled. -/
def State.writeGovJob (s : State) (p : Nat) : State :=
  if s.on (.ikb p) coreIkbLoadFwLoaded && s.enabled (.ikb p) .gov then s.putGovJob p else s

/-- What the W-die sends at a link-up, in the order of R279. -/
def State.linkUpDie (s : State) (p : Nat) : State :=
  let u := dieOfPort p
  let b := linkOfPort p
  let g := s.gapOf p
  let first := if g.missing.isEmpty then s.rd u (evNext b) else nth g.missing 0
  let s1 := (s.wr u (upDue b) 0).int u b 1
  let s2 := if s1.on u (linkSeen b) then s1 else (s1.openPort p).wr u (linkSeen b) 1
  let sx := if s2.on u (modeMissed b) then (s2.wr (.ikb p) aonModeModeMissed 1).wr u (modeMissed b) 0 else s2
  let sm := sx.sendDown p 0x0B [sx.rd .pkg pkgmCurMode]
  let sj := if sm.nativeJob (sm.dieIndex p) = 0 then sm
            else (sm.settlePoint p).sendDown p 0x11 [(sm.settlePoint p).rd u (jobPoint b), 1]
  let s3 := sj.sendDown p 0x09 [sj.rd u (ltlCtrlLevelCmd b)]
  let s4 := (s3.sendDown p 0x0A []).sendDown p 0x07 [first]
  let s5 := if g.missing.isEmpty then s4 else s4.setGap p { g with sends := 1, last := s.now }
  (((s5.tsyncOn (p / 8) (p % 8)).writeGovJob p).startLoop p).loadBegin p

/-- R279: the link has reached UP or UP_ONE: each end's link-up sequence. -/
def execLinkUp (p : Nat) (s : State) : Out' := storeless s <|
  let u := Chip.ikb p
  let s1 := if s.on (dieOfPort p) (upDue (linkOfPort p)) then s.linkUpDie p else s
  .next (if s1.on u (upDue .link) then State.drainTags 16 p ((s1.wr u (upDue .link) 0).int u .link 1) else s1)

/-! ## Kills, migration, loss (R321, R322, R325, R326) -/

/-- The state of a DRIFT metric cleared, its settings kept (spec 14 R428, R435). -/
def Metric.restart (m : Metric) : Metric :=
  { m with started := false, mean := 0, spos := 0, sneg := 0, z := f32NaN, updates := 0, holds := [] }

/-- The metrics of slot `k` cleared with its context's kill; lost; moved to slot `k'` (spec 14 Table 14.10). -/
def State.killMetrics (s : State) (k : Nat) : State :=
  { s with metrics := s.metrics.map fun (e : Nat × Metric) => if e.1 / 64 = k then (e.1, e.2.restart) else e }
def State.dropMetrics (s : State) (k : Nat) : State := { s with metrics := dropRange (k * 64) (k * 64 + 64) s.metrics }
def State.moveMetrics (s : State) (k k' : Nat) : State :=
  let mine := s.metrics.filter fun e => e.1 / 64 == k
  let rest := dropRange (k' * 64) (k' * 64 + 64) (dropRange (k * 64) (k * 64 + 64) s.metrics)
  { s with metrics := mine.foldl (fun l e => put (k' * 64 + e.1 % 64) e.2 l) rest }

/-- R321: a context killed: the event, the notice, KILLED; its engine state is discarded. -/
def State.killCtx (s : State) (k : Nat) : State :=
  match s.ctxAt k with
  | none => s
  | some c =>
    let u := Chip.wdie (k / 512)
    let s1 := (s.setIngest (k / 512) ((s.ingestOf (k / 512)).filter fun f => f.ctx != k)).setCtx k
      { c with state := 3, since := s.now, origin := none, prevRow := none, cod := { cfg := c.cod.cfg, mask := c.cod.mask } }
    let s2 := (((s1.killMetrics k).inc u ctxKillsKilled).event u .ctx 0x0B01 2 (pay (keyPay c))).int u .ctx 0
    if c.job = 0 then s2 else s2.notice c.job c.dieIndex 0x0B01 (pay (keyPay c))

/-- A context reopened: OPEN, fresh engine state, a new segment; a COUNTER context's keyframe, CTX_REOPENED. -/
def State.reopenCtx (s : State) (k : Nat) : State :=
  match s.ctxAt k with
  | none => s
  | some c =>
    let d := k / 512
    let u := Chip.wdie d
    let cod : CodecSt := { cfg := c.cod.cfg, mask := c.cod.mask, seg := c.cod.seg, segs := c.cod.segs }
    let s1 := ((s.setCtx k { c with state := if c.closing then 2 else 1, closing := false, prevRow := none, cod := cod }).inc u
      ctxKillsReopened).event u .ctx 0x0B02 0 (pay (keyPay c))
    let s2 := if c.kind = 4 then
        (List.range (8 * s.dies)).foldl (fun t p => if t.dieIndex p = c.dieIndex then t.sendDown p 0x0A [] else t) s1
      else s1
    s2.admitWaiting d
def execCtxReopenTimer (d slot : Nat) (s : State) : Out' := storeless s <|
  .next (match s.ctxAt (ctxKey d slot) with
    | some c => if c.state = 3 && c.since + ms ≤ s.now then s.reopenCtx (ctxKey d slot) else s
    | none => s)

/-- R326: the moved context becomes OPEN, or DRAINING when it was closed meanwhile. -/
def execCtxMigrationDone (d slot : Nat) (s : State) : Out' := storeless s <|
  let k := ctxKey d slot
  .next (match s.ctxAt k with
    | some c =>
      if c.state = 4 then
        (s.setCtx k { c with state := if c.closing then 2 else 1, closing := false, origin := none }).admitWaiting d
      else s
    | none => s)

/-- R322: the contexts of an excluded die, or moving to or from it, are lost; each reopens 1 ms later on the die that
R323 chooses. -/
def State.loseDie (s0 : State) (d : Nat) : State :=
  let s := { s0 with lensOpen := drop d s0.lensOpen, lensClosed := drop d s0.lensClosed }
  let gone := s.ctxs.filter fun e => e.1 / 512 == d || e.2.origin.any fun o => o / 512 == d
  if gone.isEmpty then s
  else
    let s1 := gone.foldl (fun t e => (t.setIngest (e.1 / 512) ((t.ingestOf (e.1 / 512)).filter fun f => f.ctx != e.1)).delCtx e.1) s
    let s1 := gone.foldl (fun t e => t.dropMetrics e.1) s1
    let s2 := gone.foldl (fun t e =>
      let c := e.2
      if c.state = 2 then t
      else match t.placeCtx (t.ranked c.job c.dieIndex c.kind (t.rd (.wdie 0) routeCtxSeedSeed)) with
        | some (k, spilled) =>
          let n := t.newCtx (k / 512) c.job c.dieIndex c.kind spilled
          t.setCtx k { n with state := 3, since := t.now, pinned := false }
        | none => (t.event (.wdie 0) .ctx 0x0B04 2 (pay (keyPay c))).int (.wdie 0) .ctx 2) s1
    (s2.event (.wdie 0) .ctx 0x0B03 2 (pay [(d, 0), (gone.length, 16)])).int (.wdie 0) .ctx 1

/-! ## Commands of the CTX page (R342) -/

/-- A CTX command completes with a RESULT of Table 11.7. -/
def State.ctxResult (s : State) (d r : Nat) : State := (s.wr (.wdie d) ctxCmdResult r).wr (.wdie d) ctxCmdBusy 0

def State.ctxSlotKey (s : State) (d : Nat) : Nat := ctxKey d (s.rd (.wdie d) ctxCmdSlot)

/-- Whether a context is moving from slot `k`. -/
def State.movingFrom (s : State) (k : Nat) : Bool := s.ctxs.any fun e => e.2.origin == some k

/-- A command on the context of SLOT: NOT_FOUND where the slot is FREE, MIGRATING while its context moves. -/
def State.onSlot (s : State) (d : Nat) (act : Nat → Ctx → State) : State :=
  let k := s.ctxSlotKey d
  match s.ctxAt k with
  | some c => act k c
  | none => s.ctxResult d (if s.movingFrom k then 3 else 1)

/-- R342: READ. -/
def State.ctxRead (s : State) (d : Nat) : State :=
  let u := Chip.wdie d
  s.onSlot d fun k c =>
    let s1 := (((s.wr u ctxEStateState c.state).wr u ctxEStatePinned c.pinned.toNat).wr u ctxEStateSpilled
      c.spilled.toNat).wr u ctxEStateOwner (k / 512)
    let s2 := (((s1.wr u ctxEPoliceAware c.aware.toNat).wr u ctxEPoliceRedMark c.redMark.toNat).wr u ctxEPoliceMeasure
      (measureKind c.kind).toNat).wr u ctxEPoliceQueue c.queue
    let s3 := (((s2.wr u ctxECirCir c.cir).wr u ctxEPirPir c.pir).wr u ctxEBurstCbs c.cbs).wr u ctxEBurstPbs c.pbs
    let s4 := (((s3.wr u ctxEFramesCount c.frames).wr u ctxEYellowCount c.yellow).wr u ctxERedCount c.red).wr
      u ctxEDroppedCount c.dropped
    (s4.wr u ctxEKbytesCount (c.bytes / 1024)).ctxResult d 0
def execCtxRead (d : Nat) (s : State) : Out' := storeless s <| .next (s.ifOn (.wdie d) .ctx (·.ctxRead d))

/-- R342, R331: WRITE. -/
def State.ctxWrite (s : State) (d : Nat) : State :=
  let u := Chip.wdie d
  s.onSlot d fun k c =>
    let cir := s.rd u ctxECirCir
    let pir := s.rd u ctxEPirPir
    let cbs := s.rd u ctxEBurstCbs
    let pbs := s.rd u ctxEBurstPbs
    if c.state = 4 then s.ctxResult d 3
    else if s.rd u ctxEPoliceQueue < 2 then (s.pageErr u .ctx 0x0100 1).ctxResult d 4
    else if !policeOk cir pir cbs pbs then (s.pageErr u .police 0x0100 1).ctxResult d 4
    else (s.setCtx k { c with aware := s.on u ctxEPoliceAware, redMark := s.on u ctxEPoliceRedMark,
                              queue := s.rd u ctxEPoliceQueue, cir := cir, pir := pir, cbs := cbs, pbs := pbs,
                              tc := cbs * 4194304, tp := pbs * 4194304, last := s.now }).ctxResult d 0
def execCtxWrite (d : Nat) (s : State) : Out' := storeless s <| .next (s.ifOn (.wdie d) .ctx (·.ctxWrite d))

/-- R325: UNPIN: placed by R323 again at the next CTX_SEED launch. -/
def State.ctxUnpin (s : State) (d : Nat) : State :=
  s.onSlot d fun k c => if c.state = 4 then s.ctxResult d 3 else (s.setCtx k { c with pinned := false }).ctxResult d 0
def execCtxUnpin (d : Nat) (s : State) : Out' := storeless s <| .next (s.ifOn (.wdie d) .ctx (·.ctxUnpin d))

/-- R342: REOPEN. -/
def State.ctxReopen (s : State) (d : Nat) : State :=
  s.onSlot d fun k c => if c.state = 4 then s.ctxResult d 3 else if c.state = 2 then s.ctxResult d 4
    else (s.reopenCtx k).ctxResult d 0
def execCtxReopenCmd (d : Nat) (s : State) : Out' := storeless s <| .next (s.ifOn (.wdie d) .ctx (·.ctxReopen d))

/-- R342: CLOSE; a migrating context closes once it has moved (Table 11.6). -/
def State.ctxClose (s : State) (d : Nat) : State :=
  s.onSlot d fun k c => (s.drainCtx k c).ctxResult d 0
def execCtxClose (d : Nat) (s : State) : Out' := storeless s <| .next (s.ifOn (.wdie d) .ctx (·.ctxClose d))

/-- R342: LOOKUP. -/
def State.ctxLookup (s : State) (d : Nat) : State :=
  let u := Chip.wdie d
  let kind := s.rd u ctxKey0Kind
  if !([0, 1, 2, 3, 4, 5, 0x10, 0x11].contains kind) then (s.pageErr u .ctx 0x0100 1).ctxResult d 4
  else match s.findCtx (s.rd u ctxKey1Job) (s.rd u ctxKey0DieIndex) kind with
    | some (k, _) => ((s.wr u ctxCmdSlot (k % 512)).wr u ctxCmdDie (k / 512)).ctxResult d 0
    | none => s.ctxResult d 1
def execCtxLookup (d : Nat) (s : State) : Out' := storeless s <| .next (s.ifOn (.wdie d) .ctx (·.ctxLookup d))

/-! ## Level commands (R334) -/

/-- A port's commanded level set by hardware: the register, the LEVEL_CMD frame, the event. -/
def State.commandLevel (s : State) (d p level : Nat) : State :=
  let u := Chip.wdie d
  (((s.wr u (ltlCtrlLevelCmd (linkOfPort p)) level).sendDown p 0x09 [level]).event u .police 0x0B06 0
    (pay [(p, 0), (level, 8)])).int u .police 0

/-- The sheddable bytes of a port in the last 1 ms. -/
def State.recentBytes (s : State) (d p : Nat) : Nat :=
  ((((look d s.recent).getD []).filter fun e => s.now < e.1 + ms && e.2.1 == p).map fun e => e.2.2).sum

/-- The first element with the greatest value of `g`. -/
def argMax (g : Nat → Nat) : List Nat → Option Nat
  | [] => none
  | x :: r => match argMax g r with
    | none => some x
    | some y => if g x < g y then some y else some x

def execLevelUpCheck (d : Nat) (s : State) : Out' := storeless s <|
  let u := Chip.wdie d
  let at' := s.rd u upSince
  .next (s.ifOn u .police fun t =>
    if t.on u policeLevelAuto && at' ≠ 0 && at' - 1 + t.rd u policeLevelTimeUpUs * us ≤ t.now then
      let t1 := t.wr u upSince (t.now + 1)
      match argMax (fun p => t.recentBytes d p) ((List.range 8).map fun n => 8 * d + n) with
      | some p =>
        let lv := t.rd u (ltlCtrlLevelCmd (linkOfPort p))
        if lv < 5 then t1.commandLevel d p (lv + 1) else t1
      | none => t1
    else t)

def execLevelDownCheck (d : Nat) (s : State) : Out' := storeless s <|
  let u := Chip.wdie d
  let at' := s.rd u downSince
  .next (s.ifOn u .police fun t =>
    if t.on u policeLevelAuto && at' ≠ 0 && at' - 1 + t.rd u policeLevelTimeDownMs * ms ≤ t.now then
      let t1 := t.wr u downSince (t.now + 1)
      match argMax (fun p => t.rd u (ltlCtrlLevelCmd (linkOfPort p))) ((List.range 8).map fun n => 8 * d + n) with
      | some p =>
        let lv := t.rd u (ltlCtrlLevelCmd (linkOfPort p))
        if 0 < lv then t1.commandLevel d p (lv - 1) else t1
      | none => t1
    else t)

/-! ## The DRAM seed (R327, R328) and imbalance (R329) -/

/-- The cap limit of `n` channels in 0.1 GB/s: 95 % of their bandwidth, both to the nearest (spec 10 R302). -/
def capLimit (n : Nat) : Nat := ((1365 * n + 4) / 8 * 95 + 50) / 100

/-- The channels of a die that will remain. -/
def State.keptChannels (s : State) (u : Chip) : Nat :=
  andNot (s.rd u dramcCapChActive) (s.rd u dramcStatPendRetire)

/-- The sum of the class caps of a die. -/
def State.capSum (s : State) (u : Chip) : Nat := ((List.range 6).map fun k => s.rd u (dramcBwCapCap k)).sum

/-- The channel and channel offset of a die data address (R327). -/
def State.dramPlace (s : State) (d a : Nat) : Nat × Nat :=
  let u := Chip.wdie d
  let act := s.rd u dramcCapChActive
  let n := popCount 8 act
  let g := a / 256 / n
  let r := mix64 (g ^^^ s.rd u routeDramSeedSeed) % n
  let chans := (List.range 8).filter fun c => bitAt act c = 1
  (nth chans ((a / 256 % n + r) % n), g * 256 + a % 256)

/-- R328: a TABLE_SWAP of DRAM_SEED; `beyond` says that an allocation lies above the reduced capacity. -/
def State.swapDramSeed (s : State) (d : Nat) (beyond : Bool) : State :=
  let u := Chip.wdie d
  let pend := s.rd u dramcStatPendRetire &&& s.rd u dramcCapChActive
  let kept := s.keptChannels u
  if s.on u routeMigrateSweepBusy then s.pageErr u .route 0x0100 1
  else if pend ≠ 0 && (beyond || capLimit (popCount 8 kept) < s.capSum u) then s.pageErr u .route 0x0101 1
  else
    let s1 := (s.wr u routeDramSeedSeed (s.rd u routeDramSeedNextSeed)).wr u dramcCapChActive kept
    let s2 := (s1.wr u dramcStatPendRetire 0).wr u dramcCapGib (8 * popCount 8 kept)
    let s3 := ((List.range 8).filter fun c => bitAt pend c = 1).foldl (fun t c =>
      t.event u .dramc 0x0A03 2 (pay [(c, 0), (1, 3)])) s2
    (((s3.wr u routeMigrateSweepBusy 1).wr u routeMigrateSweepPct 0).wr u scrubProgressPaused 1).int u .route 1

def execTableSwapDramSeed (d : Nat) (beyond : Bool) (s : State) : Out' := storeless s <| .next (s.swapDramSeed d beyond)

/-- R328: the sweep completes, and patrol scrub resumes. -/
def execDramSeedSweepDone (d : Nat) (s : State) : Out' := storeless s <|
  let u := Chip.wdie d
  if s.on u routeMigrateSweepBusy then
    .next ((((s.wr u routeMigrateSweepBusy 0).wr u routeMigrateSweepPct 100).wr u scrubProgressPaused 0).int u .route 2)
  else .next s

/-- One set of buckets in a second: loads in bytes, capacity of a bucket in bytes. -/
def imbalanced (ratio pct cap : Nat) (l : List Nat) : Bool :=
  let n := l.length
  let top := l.foldl max 0
  n ≠ 0 && decide (ratio * l.sum < 4 * n * top) && decide (pct * cap * n ≤ 100 * l.sum)

/-- The runs of imbalanced seconds, and of others; the flag's change and the event (R329). -/
def quietRun (ch : Bool) : Fld := cell .route (if ch then 2 else 1)
def State.imbalance (s : State) (u : Chip) (ch : Bool) (ratio pct hold cap : Nat) (ids loads : List Nat) : State :=
  let run := if ch then routeImbStatChRun else routeImbStatDieRun
  let flag := if ch then routeImbStatChImb else routeImbStatDieImb
  let top := (argMax (fun i => nth loads i) (List.range loads.length)).getD 0
  let s0 := s.wr u (if ch then routeImbStatCh else routeImbStatDie) (nth ids top)
  if imbalanced ratio pct cap loads then
    let n := min 255 (s0.rd u run + 1)
    let s1 := (s0.wr u run n).wr u (quietRun ch) 0
    if hold ≤ n && !s1.on u flag then
      ((s1.wr u flag 1).event u .route 0x0B07 1 (pay [(ch.toNat, 0), (nth ids top, 1), (nth loads top / 1000000, 32),
        (loads.sum / loads.length / 1000000, 64)])).int u .route 0
    else s1
  else
    let n := min 255 (s0.rd u (quietRun ch) + 1)
    let s1 := (s0.wr u run 0).wr u (quietRun ch) n
    if hold ≤ n then s1.wr u flag 0 else s1

/-- POLICE_EXCEED of a second for one context (R332). -/
def State.exceedSecond (s : State) (e : Nat × Ctx) : State :=
  if e.2.redSec = 0 then s
  else
    let u := Chip.wdie (e.1 / 512)
    ((s.setCtx e.1 { e.2 with redSec := 0 }).event u .police 0x0B05 1 (pay (keyPay e.2 ++ [(e.2.redSec, 64)]))).int u .police 1

/-- R329: the loads of a second: die loads from the bytes accepted, channel loads as `moved` gives them, by
die × 8 + channel; and the POLICE_EXCEED of that second. -/
def execImbalanceCheck (moved : List Nat) (s : State) : Out' := storeless s <|
  let dies := (List.range s.dies).filter fun d => s.present d
  let loads := dies.map fun d => s.rd (.wdie d) dieBytes
  let cfg := fun (t : State) (u : Chip) =>
    (t.rd u routeImbCfgRatio, t.rd u routeImbCfgMinPct, max 1 (t.rd u routeImbCfgHoldS))
  let s1 := dies.foldl (fun t d => dies.foldl (fun a e => a.wr (.wdie d) (routeDieLoadMbps e)
    (s.rd (.wdie e) dieBytes / 1000000)) t) s
  let s2 := dies.foldl (fun t d =>
    let u := Chip.wdie d
    let chans := (List.range 8).filter fun c => bitAt (t.rd u dramcCapChActive) c = 1
    let t1 := (List.range 8).foldl (fun a c => a.wr u (routeChLoadMbps c) (nth moved (8 * d + c) / 1000000)) t
    let g := cfg t1 u
    let t2 := t1.imbalance u true g.1 g.2.1 g.2.2 (136500000000 / max 1 chans.length) chans
      (chans.map fun c => nth moved (8 * d + c))
    t2.wr u dieBytes 0) s1
  let g := cfg s2 (.wdie 0)
  let s3 := s2.imbalance (.wdie 0) false g.1 g.2.1 g.2.2 100000000000 dies loads
  .next (s3.ctxs.foldl (fun t e => t.exceedSecond e) s3)

end Sys2Proof.Machine
end

