-- ==== Sys2Proof/Machine/Codec.lean ====
section
/-! DEFINITION. Spec 12: the Codec engine of a die: rows and blocks of its contexts, the history windows, descriptors,
tables and configurations; and the moves of contexts, which save their blocks (spec 11 R325, R326). -/

namespace Sys2Proof.Machine

/-! ## Configuration and tables (R350, R357) -/

/-- The level floor of the mode in force (R362). -/
def State.levelFloor (s : State) (d : Nat) : Nat :=
  match s.mode (.wdie d) with
  | .afternoon | .dusk => 9
  | _ => 0

/-- A CFG word read as a configuration, at the level that the mode allows. -/
def State.cfgOf (s : State) (d cfg mask : Nat) : CodecCfg :=
  ⟨bitsOf cfg 0 2, max (bitsOf cfg 2 4) (s.levelFloor d), bitsOf cfg 6 3, bitsOf cfg 9 4, bitsOf cfg 13 2, bitAt cfg 15 == 1, mask⟩

/-- Word `j` of table `k` in force. -/
def tableInForce (k j : Nat) : Fld := cell .codec (16 * k + j)

/-- The lengths of a staged table, and of all tables in force. -/
def wordLens (w : Nat) : List Nat := (List.range 8).map fun i => bitsOf w (4 * i) 4
def State.stagedTable (s : State) (d k : Nat) : List Nat :=
  ((List.range 10).map fun j => wordLens (s.rd (.wdie d) (codecTableLenLen k j))).flatten
def State.tablesInForce (s : State) (d : Nat) : List (List Nat) :=
  table0 :: (List.range 15).map fun k => ((List.range 10).map fun j => wordLens (s.rd (.wdie d) (tableInForce (k + 1) j))).flatten

/-- Whether a configuration is accepted for a kind (R350, Table 12.11). -/
def cfgOk (kind cfg : Nat) : Bool :=
  let path := bitsOf cfg 0 2
  let level := bitsOf cfg 2 4
  let pred := bitsOf cfg 6 3
  path != 3 && (path != 2 || ([1, 2, 0x11].contains kind && bitsOf cfg 13 2 == 1)) && decide (1 ≤ level) &&
  decide (level ≤ 9) && pred != 5 && pred != 6 && decide (2 ≤ bitsOf cfg 16 8)

/-- The kind of a template. -/
def kindOfTemplate (k : Nat) : Nat := nth [0, 1, 2, 3, 4, 5, 0x10, 0x11] k

/-- A template's CFG word set. -/
def State.setTemplate (s : State) (d k v : Nat) : State :=
  let u := Chip.wdie d
  let s1 := ((s.wr u (codecTemplateCfgPath k) (bitsOf v 0 2)).wr u (codecTemplateCfgLevel k) (bitsOf v 2 4)).wr
    u (codecTemplateCfgPred k) (bitsOf v 6 3)
  (((s1.wr u (codecTemplateCfgTable k) (bitsOf v 9 4)).wr u (codecTemplateCfgLaneW k) (bitsOf v 13 2)).wr
    u (codecTemplateCfgSigned k) (bitAt v 15)).wr u (codecTemplateCfgSegs k) (bitsOf v 16 8)

def State.codecRefuse (s : State) (d : Nat) : State := s.pageErr (.wdie d) .codec 0x0100 1

/-- A write of a Codec configuration register at an offset: checked, then in force from the next block, or refused
(R350, Table 12.11). MASK and CMASK are written whole at their low word's offset. -/
def State.codecConfig (s : State) (d off value : Nat) : State :=
  let u := Chip.wdie d
  let slot := ctxKey d (s.rd u codecCselSlot)
  if off = 0x104 then
    if bitsOf value 0 8 = 0 || bitsOf value 8 13 < 4 || 4096 < bitsOf value 8 13 then s.codecRefuse d
    else (s.wr u codecBlockRowsMax (bitsOf value 0 8)).wr u codecBlockBlockKib (bitsOf value 8 13)
  else if off = 0x108 then
    if bitsOf value 0 16 = 0 then s.codecRefuse d
    else (s.wr u codecTimingCloseMs (bitsOf value 0 16)).wr u codecTimingRestartInt (bitsOf value 16 8)
  else if off = 0x110 then
    if value % 64 ≠ 0 then s.pageErr u .codec 0x0102 1 else s.wr u codecRingBaseAddr value
  else if off = 0x118 then
    if bitsOf value 0 5 < 4 || 16 < bitsOf value 0 5 then s.pageErr u .codec 0x0102 1 else s.wr u codecRingSizeLog2 value
  else if off = 0x184 then
    match s.ctxAt slot with
    | some c =>
      let v := value % 2 ^ 24
      if cfgOk c.kind v && v = value % 2 ^ 32 then s.setCtx slot { c with cod := { c.cod with cfg := v } } else s.codecRefuse d
    | none => s
  else if off = 0x188 then
    match s.ctxAt slot with
    | some c => s.setCtx slot { c with cod := { c.cod with mask := value % 2 ^ 64 } }
    | none => s
  else if 0x200 ≤ off && off < 0x280 then
    let k := (off - 0x200) / 16
    if off % 16 = 0 then (if cfgOk (kindOfTemplate k) value then s.setTemplate d k value else s.codecRefuse d)
    else if off % 16 = 8 then s.wr u (codecTemplateMaskFixedMask k) value
    else s
  else s
def execCodecConfigWrite (d off value : Nat) (s : State) : Out' := storeless s <| .next (s.codecConfig d off value)

/-- R357: a table word written, to the staged copy; table 0 is read-only. -/
def execCodecTableWrite (d k word value : Nat) (s : State) : Out' := storeless s <|
  .next (if 1 ≤ k && k < 16 && word < 10 then s.wr (.wdie d) (codecTableLenLen k word) value else s)

/-- The number of records in the table log. -/
def tlogCount : Fld := cell .codec 300

/-- R357: a TABLE_SWAP of CODEC on die `d` at an instant of its base. -/
def State.swapCodec (s : State) (d instant : Nat) : State :=
  let u := Chip.wdie d
  let ks := (List.range 15).map (· + 1)
  let bad := ks.filter fun k => !tableValid (s.stagedTable d k)
  let s1 := ks.foldl (fun t k => if bad.contains k then t else
    (List.range 10).foldl (fun a j => a.wr u (tableInForce k j) (s.rd u (codecTableLenLen k j))) t) s
  let gen := (s.rd u codecTgenGen + 1) % 65536
  let s2 := (s1.wr u codecTgenGen gen).wr u codecTgenStagedBad (bad.foldl (fun a k => a + 2 ^ k) 0)
  let body := leBytes 2 gen ++ [0, 0] ++ ((s2.tablesInForce d).tail.map bytesOfLens).flatten ++ leBytes 8 instant
  let rec' := (body.map (BitVec.ofNat 8)) ++ bytesLE 4 (crc32c (body.map (BitVec.ofNat 8))).toNat
  let s3 := State.dramStore rec' (dieAddr d (s2.rd u codecTlogBaseAddr + 616 * s2.rd u tlogCount)) s2
  let s4 := (s3.wr u tlogCount (s3.rd u tlogCount + 1)).int u .codec 2
  if bad.isEmpty then s4 else s4.pageErr u .codec 0x0101 1
def execTableSwapCodec (d instant : Nat) (s : State) : Out' := keeping s <| .next (s.swapCodec d instant)

/-! ## History windows (R367) -/

/-- The segment header (R367). -/
def segHead (seq : Nat) (off : Option Nat) : List Nat :=
  leBytes 4 seq ++ leBytes 4 (off.getD 0xFFFFFFFF) ++ leBytes 8 0

/-- The next segment begun, its old content gone. -/
def nextSeg (c : CodecSt) : CodecSt :=
  let n := (c.seg + 1) % max 2 (bitsOf c.cfg 16 8)
  { c with seg := n, off := 16, begun := false, segs := put n (segHead 0 none) c.segs }

/-- Bytes appended, segment by segment, by fuel. -/
def histAppend : Nat → List Nat → CodecSt → CodecSt
  | 0, _, c => c
  | n + 1, l, c =>
    if l.isEmpty then c
    else
      let room := 65536 - c.off
      if room = 0 then histAppend n l (nextSeg c)
      else
        let old := (look c.seg c.segs).getD []
        histAppend n (l.drop room) { c with segs := put c.seg (old ++ l.take room) c.segs, off := c.off + min room l.length }

/-- The window as it stands for the next block: the first segment, or a new one where one is due; a full one left. -/
def histReady (c : CodecSt) : CodecSt :=
  if c.off = 0 then { c with off := 16, begun := false, newSeg := false, segs := put c.seg (segHead 0 none) c.segs }
  else if c.newSeg && (c.begun || 16 < c.off) then { nextSeg c with newSeg := false }
  else if 65536 ≤ c.off then nextSeg c
  else { c with newSeg := false }

/-- The segment header written for the first block that begins in a segment. -/
def markBegin (c : CodecSt) : CodecSt :=
  if c.begun then c
  else { c with begun := true, segs := put c.seg (segHead c.link.seq (some c.off) ++ ((look c.seg c.segs).getD []).drop 16) c.segs }

/-! ## Rows and blocks (R347 to R349) -/

/-- A context's open block closes. -/
def closeBlock (c : CodecSt) : CodecSt :=
  match c.opened with
  | some b => { c with opened := none, closed := c.closed ++ [b] }
  | none => c

/-- The rows after which a block closes; 64 on the fixed-ratio path (R348). -/
def State.rowsMax (s : State) (d : Nat) (b : CtxBlock) : Nat := if b.cfg.path = 2 then 64 else s.rd (.wdie d) codecBlockRowsMax

/-- R348: a row enters a context's block. -/
def State.addRow (s : State) (d : Nat) (row : List Nat) (raw : Bool) (c : CodecSt) : CodecSt :=
  let lim := s.rd (.wdie d) codecBlockBlockKib * 1024
  let c1 := match c.opened with
    | some b => if b.rawframe != raw || b.rows.any (fun r => r.length != row.length) ||
                   lim < (b.rows.map List.length).sum + row.length then closeBlock c else c
    | none => c
  let b := match c1.opened with
    | some b => { b with rows := b.rows ++ [row] }
    | none => ⟨[row], s.now, raw, s.cfgOf d c.cfg c.mask, s.tablesInForce d, s.rd (.wdie d) codecTgenGen⟩
  let c2 := { c1 with opened := some b }
  if s.rowsMax d b ≤ b.rows.length || lim ≤ (b.rows.map List.length).sum then closeBlock c2 else c2

/-- `n` LEB128 items from the front of a list of bytes, by fuel of bytes. -/
def readItems : Nat → Nat → Nat → Nat → List Nat → List Nat
  | 0, _, _, _, _ => []
  | _ + 1, 0, _, _, _ => []
  | _ + 1, _ + 1, _, _, [] => []
  | f + 1, n + 1, acc, sh, b :: r =>
    let v := acc + b % 128 * 2 ^ sh
    if b < 128 then v % 2 ^ 64 :: readItems f n 0 0 r else readItems f (n + 1) v (sh + 7) r

/-- What becomes of a COUNTER row (R349). -/
inductive CounterRow where
  | expanded (row : List Nat) (ref : Option (Nat × List Nat))
  | missing (prev : Nat)
deriving DecidableEq, Repr

/-- R349: a snapshot expanded against the reference. -/
def expandCounter (ref : Option (Nat × List Nat)) (body : List Nat) : CounterRow :=
  let head := body.take 48
  let flags := nth head 6
  let n := 64 * popCount 64 (leVal ((head.drop 28).take 8))
  let seq := leVal (head.take 4)
  let items := body.drop 48
  if bitAt flags 4 = 1 then .expanded head ref
  else if bitAt flags 5 = 1 then
    let l := (lanesOf 8 items).take n
    .expanded (head ++ laneRow 8 l) (some (seq, l))
  else
    match ref with
    | some (cap, base) =>
      if cap = leVal ((head.drop 36).take 4) && base.length = n then
        let l := (base.zip (readItems (items.length + 1) n 0 0 items)).map fun e => (e.1 + e.2) % 2 ^ 64
        .expanded (head ++ laneRow 8 l) (some (seq, l))
      else .missing (leVal ((head.drop 36).take 4))
    | none => .missing (leVal ((head.drop 36).take 4))

/-- R347, R349: a frame of context `k` becomes a row of its block. -/
def State.takeRow (s : State) (k : Nat) (f : IngFrame) : State :=
  match s.ctxAt k with
  | none => s
  | some c =>
    let d := k / 512
    let u := Chip.wdie d
    if c.kind = 4 then
      match expandCounter c.cod.ref f.body with
      | .expanded row ref => s.setCtx k { c with cod := s.addRow d row false { c.cod with ref := ref } }
      | .missing prev =>
        let held := ((c.cod.ref.map fun r => r.1).getD 0xFFFFFFFF)
        ((s.setCtx k { c with cod := s.addRow d f.body true { c.cod with ref := none } }).inc u codecErrsRefMissing).event
          u .codec 0x0C02 0 (pay [(c.job, 0), (c.dieIndex, 16), (prev, 64), (held, 96)])
    else s.setCtx k { c with cod := s.addRow d f.body false c.cod }

/-- The oldest frame of the ingest buffer whose context takes rows. -/
def State.nextFrame (s : State) (d : Nat) : Option IngFrame :=
  (s.ingestOf d).find? fun f => (s.ctxAt f.ctx).any fun c => c.state = 1 || c.state = 2

/-- R347, R348: the Codec takes the oldest frame; room in the buffer lets waiting frames in. In Midnight it takes those
that are processed there. -/
def State.codecTake (s : State) (d : Nat) : State × Option IngFrame :=
  if !s.enabled (.wdie d) .codec then (s, none)
  else match s.nextFrame d with
    | some f => ((((s.setIngest d ((s.ingestOf d).erase f)).takeRow f.ctx f).admitWaiting d), some f)
    | none => (s, none)

/-- R348: CLOSE_MS after its first row an open block closes. -/
def execCodecBlockTimeout (d slot : Nat) (s : State) : Out' := storeless s <|
  let k := ctxKey d slot
  .next (match s.ctxAt k with
    | some c =>
      if c.cod.opened.any fun b => b.at' + s.rd (.wdie d) codecTimingCloseMs * ms ≤ s.now then
        s.setCtx k { c with cod := closeBlock c.cod }
      else s
    | none => s)

/-! ## Coding (R362 to R367) -/

/-- Input and output bytes that do not make a KiB yet. -/
def inBytes : Fld := cell .codec 301
def outBytes : Fld := cell .codec 302
def State.countKib (s : State) (u : Chip) (f acc : Fld) (n : Nat) : State :=
  let t := s.rd u acc + n
  (if t < 1024 then s else s.inc u f (t / 1024)).wr u acc (t % 1024)

/-- The groups of a block kept on the fixed-ratio path (R364). -/
def State.countGroups (s : State) (u : Chip) (c : Ctx) (b : CtxBlock) : State :=
  (fixExps b.cfg.mask b.cfg.signed (b.rows.map (lanesOf 2))).foldl (fun t e =>
    let t1 := if 0 < e.2 then t.inc u codecLossyGroups else t
    if t.rd u codecFixedEMax < e.2 then
      ((t1.inc u codecLossyOverEmax).event u .codec 0x0C01 1 (pay (keyPay c ++ [(e.2, 48), (e.1, 56)]))).int u .codec 3
    else t1) s

/-- A closed block coded and appended to its context's history. -/
def State.codeOne (s : State) (k : Nat) (b : CtxBlock) (raw : Bool) : State :=
  match s.ctxAt k with
  | none => s
  | some c =>
    let u := Chip.wdie (k / 512)
    let c1 := histReady c.cod
    let ri := s.rd u codecTimingRestartInt
    let restart := c1.restart || !c1.begun || (ri ≠ 0 && c1.link.since = ri)
    let r := codeBlock b.cfg b.tabs b.tgen restart raw b.rawframe b.rows c1.link
    let c2 := histAppend 4096 r.bytes (markBegin c1)
    let s1 := s.setCtx k { c with cod := { c2 with link := r.link, restart := false } }
    let s2 := (s1.countKib u codecInKibCount inBytes r.input).countKib u codecOutKibCount outBytes r.bytes.length
    let s3 := if r.fallback then s2.inc u codecPathsFallback else s2
    let s4 := if r.noGain then s3.inc u codecPathsNoGain else s3
    if r.path = 2 then s4.countGroups u c b else s4

/-- A context's oldest closed block taken from its queue. -/
def State.popClosed (s : State) (k : Nat) : Option (CtxBlock × State) :=
  match s.ctxAt k with
  | some c => match c.cod.closed with
    | b :: r => some (b, s.setCtx k { c with cod := { c.cod with closed := r } })
    | [] => none
  | none => none

def State.healthOf (s : State) (d : Nat) : List (Nat × CtxBlock) := (look d s.healthBuf).getD []
def State.setHealth (s : State) (d : Nat) (l : List (Nat × CtxBlock)) : State :=
  { s with healthBuf := if l.isEmpty then drop d s.healthBuf else put d l s.healthBuf }

/-- The bytes that raw blocks take. -/
def rawBytes (l : List (Nat × CtxBlock)) : Nat := (l.map fun e => 24 + (rowsFlat e.2.rows).length).sum

/-- R135: a HEALTH block staged in Midnight, or dropped when its 64 KiB buffer is full. -/
def State.stageHealth (s : State) (k : Nat) (b : CtxBlock) : State :=
  let d := k / 512
  if rawBytes (s.healthOf d ++ [(k, b)]) ≤ 65536 then s.setHealth d (s.healthOf d ++ [(k, b)])
  else match s.ctxAt k with
    | some c => s.setCtx k { c with dropped := (c.dropped + 1) % 4294967296, cod := { c.cod with restart := true } }
    | none => s

/-- R365: a context's oldest closed block is coded; in Midnight a HEALTH block is staged, and an EVENT block waits for the
next DRAM wake. -/
def State.blockDone (s : State) (k : Nat) : State :=
  let midnight := s.mode (.wdie (k / 512)) == .midnight
  match s.popClosed k, s.ctxAt k with
  | some (b, s1), some c =>
    if !midnight then s1.codeOne k b false
    else if c.kind = 2 then s1.stageHealth k b
    else s
  | _, _ => s
def execCodecBlockDone (d slot : Nat) (s : State) : Out' := storeless s <|
  .next (if s.stopped d then s else s.ifOn (.wdie d) .codec (·.blockDone (ctxKey d slot)))

/-- All of a context's blocks closed and coded, by fuel. -/
def State.codeAll : Nat → Nat → Bool → State → State
  | 0, _, _, s => s
  | n + 1, k, raw, s => match s.popClosed k with
    | some (b, s1) => State.codeAll n k raw (s1.codeOne k b raw)
    | none => s
def State.sealCtx (s : State) (k : Nat) (raw : Bool) : State :=
  match s.ctxAt k with
  | some c =>
    let c1 := closeBlock c.cod
    State.codeAll c1.closed.length k raw (s.setCtx k { c with cod := c1 })
  | none => s

/-- R135: the HEALTH buffer written to the history windows, and the EVENT blocks that wait. -/
def State.flushHealth (s : State) (d : Nat) : State :=
  let s1 := (s.healthOf d).foldl (fun t e => t.codeOne e.1 e.2 true) (s.setHealth d [])
  (s1.ctxs.filter fun e => e.1 / 512 == d && e.2.kind == 0).foldl (fun t e => State.codeAll e.2.cod.closed.length e.1 true t) s1

/-- A DRAM wake in Midnight writes the event buffer and the HEALTH buffer. -/
def State.dramWake (s : State) (d : Nat) : State := (s.flushStaged (.wdie d)).flushHealth d

/-- R135: 128 records held, or 1 s since the first, wakes DRAM. -/
def execMidnightBufferFlush (d : Nat) (s : State) : Out' := storeless s <|
  let u := Chip.wdie d
  if 128 ≤ (s.stagedOf u).length || (!(s.stagedOf u).isEmpty && s.rd u evrFirstStaged + sec ≤ s.now) then .next (s.dramWake d)
  else .next s

/-- R135: the HEALTH buffer holds 32 KiB. -/
def execHealthBufferFlush (d : Nat) (s : State) : Out' := storeless s <|
  .next (if 32768 ≤ rawBytes (s.healthOf d) then s.dramWake d else s)

/-! ## Draining and moving contexts (R320, R325, R326, R370) -/

/-- R320: a DRAINING context whose accepted frames are processed seals its history and becomes FREE. -/
def execCtxDrainDone (d slot : Nat) (s : State) : Out' := storeless s <|
  let k := ctxKey d slot
  .next (match s.ctxAt k with
    | some c =>
      if c.state = 2 && !(s.ingestOf d).any fun f => f.ctx == k then
        (s.sealCtx k (s.mode (.wdie d) == .midnight)).delCtx k
      else s
    | none => s)

/-- R326: context `k` moves to a new slot: its open block saved, MIGRATING there, its waiting frames with it; a sheddable
one that does not fit is dropped. -/
def State.moveCtx (s0 : State) (k k' : Nat) (spilled : Bool) : State :=
  let s := s0.sealCtx k (s0.mode (.wdie (k / 512)) == .midnight)
  match s.ctxAt k with
  | none => s
  | some c =>
    let mine := (s.ingestOf (k / 512)).filter fun f => f.ctx == k
    let s1 := (s.setIngest (k / 512) ((s.ingestOf (k / 512)).filter fun f => f.ctx != k)).delCtx k
    let wait := (s1.waitOf (k / 512)).filter fun f => f.ctx == k
    let s2 := s1.setWait (k / 512) ((s1.waitOf (k / 512)).filter fun f => f.ctx != k)
    let c1 : Ctx := { c with state := 4, spilled := spilled, origin := some k, cod := { c.cod with restart := true, newSeg := true } }
    let s3 := (s2.moveMetrics k k').setCtx k' c1
    let s4 := s3.setWait (k' / 512) (s3.waitOf (k' / 512) ++ wait.map fun f => { f with ctx := k' })
    mine.foldl (fun t f =>
      let g := { f with ctx := k' }
      if measureKind g.kind || fits (t.ingestOf (k' / 512)) g then t.setIngest (k' / 512) (t.ingestOf (k' / 512) ++ [g])
      else t.dropFrame g) s4

/-- R326: a TABLE_SWAP of CTX_SEED on die `d`: the staged seed in force there, the unpinned contexts of the die whose
owner it changes begin to move. -/
def State.swapCtxSeed (s : State) (d : Nat) : State :=
  let u := Chip.wdie d
  let s1 := (s.wr u routeCtxSeedSeed (s.rd u routeCtxSeedNextSeed)).int u .route 1
  (s.ctxs.filter fun e => e.1 / 512 == d && !e.2.pinned && e.2.state == 1).foldl (fun t e =>
    let l := t.ranked e.2.job e.2.dieIndex e.2.kind (t.rd u routeCtxSeedSeed)
    if l.head? = some d then t
    else match l.findSome? fun i => if i = d then some (d, 0) else (t.freeSlot i).map fun j => (i, j) with
      | some (i, j) => if i = d then t else t.moveCtx e.1 (ctxKey i j) (decide (l.head? ≠ some i))
      | none => t) s1
def execTableSwapCtxSeed (d : Nat) (s : State) : Out' := storeless s <| .next (s.swapCtxSeed d)

/-- R325: PIN. -/
def State.ctxPin (s : State) (d : Nat) : State :=
  let u := Chip.wdie d
  let to' := s.rd u ctxCmdDie
  s.onSlot d fun k c =>
    if c.state = 4 then s.ctxResult d 3
    else if !s.present to' then s.ctxResult d 4
    else if to' = d then (s.setCtx k { c with pinned := true }).ctxResult d 0
    else match s.freeSlot to' with
      | none => s.ctxResult d 2
      | some i => ((s.setCtx k { c with pinned := true }).moveCtx k (ctxKey to' i) false).ctxResult d 0
def execCtxPin (d : Nat) (s : State) : Out' := storeless s <| .next (s.ifOn (.wdie d) .ctx (·.ctxPin d))

/-! ## Descriptors (R368 to R370) -/

/-- R369: firmware hands descriptors over. -/
def execCodecRingTailWrite (d value : Nat) (s : State) : Out' := storeless s <|
  .next (s.wr (.wdie d) codecRingPtrTail value)

/-- A descriptor (Table 12.8). -/
structure Descr where
  at' : Nat
  op : Nat
  path : Nat
  level : Nat
  pred : Nat
  table : Nat
  reserved : Bool
  laneW : Nat
  restart : Bool
  signed : Bool
  irq : Bool
  lanes : Nat
  rows : Nat
  src : Nat
  srcLen : Nat
  dstLen : Nat
  dst : Nat
  chain : Nat
  state : Nat
  mask : Nat
deriving DecidableEq, Repr

/-- The descriptor at the ring's HEAD, when the ring is enabled and holds one. -/
def State.descr (s : State) (d : Nat) : Option Descr :=
  let u := Chip.wdie d
  let size := 2 ^ s.rd u codecRingSizeLog2
  if !s.on u codecCtrlRingEn || s.rd u codecRingPtrHead % size = s.rd u codecRingPtrTail % size then none
  else
    let a := dieAddr d (s.rd u codecRingBaseAddr + 64 * (s.rd u codecRingPtrHead % size))
    let v := s.dramNum 64 a
    some { at' := a, op := bitsOf v 0 2, path := bitsOf v 2 2, level := bitsOf v 4 4, pred := bitsOf v 8 3, table := bitsOf v 11 4,
           reserved := bitAt v 15 = 1 || bitsOf v 20 11 != 0 || bitsOf v 456 24 != 0, laneW := bitsOf v 16 2,
           restart := bitAt v 18 = 1, signed := bitAt v 19 = 1, irq := bitAt v 31 = 1, lanes := bitsOf v 32 16,
           rows := bitsOf v 48 16, src := bitsOf v 64 64, srcLen := bitsOf v 128 32, dstLen := bitsOf v 160 32,
           dst := bitsOf v 192 64, chain := bitsOf v 256 64, state := bitsOf v 320 64, mask := bitsOf v 384 64 }

/-- A completion: STATUS, CHAIN_USED and OUT_LEN in the descriptor, HEAD advanced, the interrupts. -/
def State.complete (s : State) (d : Nat) (x : Descr) (status used len : Nat) : State :=
  let u := Chip.wdie d
  let s1 := State.dramStore (bytesLE 8 (status % 16 + 16 * (used % 16) + len % 2 ^ 32 * 2 ^ 32)) (x.at' + 56) s
  let s2 := s1.wr u codecRingPtrHead ((s1.rd u codecRingPtrHead + 1) % 65536)
  let s3 := if x.irq then s2.int u .codec 0 else s2
  if 2 ≤ status then s3.int u .codec 1 else s3

/-- The output buffers of a descriptor: DST, then the entries of its chain list, by fuel (R368). -/
def State.segsOf (s : State) (d : Nat) : Nat → Nat → List (Nat × Nat)
  | 0, _ => []
  | n + 1, a =>
    let v := s.dramNum 16 (dieAddr d a)
    if bitsOf v 64 32 = 0 then [] else (bitsOf v 0 64, bitsOf v 64 32) :: s.segsOf d n (a + 16)
def State.buffers' (s : State) (d : Nat) (x : Descr) : List (Nat × Nat) :=
  (x.dst, x.dstLen) :: (if x.chain = 0 then [] else s.segsOf d 15 x.chain)

/-- Bytes put into buffers in turn, and the number of buffers touched. -/
def State.scatter (d : Nat) : List (Nat × Nat) → List Nat → State → State × Nat
  | [], _, s => (s, 0)
  | (a, n) :: r, l, s =>
    if l.isEmpty then (s, 0)
    else
      let s1 := State.dramStore ((l.take n).map (BitVec.ofNat 8)) (dieAddr d a) s
      let t := State.scatter d r (l.drop n) s1
      (t.1, t.2 + 1)

/-- `n` free bytes stored from `a` on: contents that the spec leaves undefined. -/
def State.scramble : Nat → Nat → State → State
  | 0, _, s => s
  | n + 1, a, s => State.scramble n (a + 1) ((s.free 8).2.dramStore1 a (BitVec.ofNat 8 (s.free 8).1))
def State.scrambleAll (s : State) (d : Nat) (l : List (Nat × Nat)) : State :=
  l.foldl (fun t e => State.scramble e.2 (dieAddr d e.1) t) s

/-- Output delivered: OK, or OUT_FULL, when the buffers hold nothing valid and the state is not written. -/
def State.output (s : State) (d : Nat) (x : Descr) (status : Nat) (out : List Nat) (ok : State → State) : State :=
  let bufs := s.buffers' d x
  if (bufs.map fun e => e.2).sum < out.length then
    ((s.scrambleAll d bufs).inc (.wdie d) codecErrsOutFull).complete d x 2 0 0
  else
    let r := State.scatter d bufs out s
    (ok r.1).complete d x status (r.2 - 1) out.length

/-- Whether a range of die `d`'s DRAM holds a poisoned line. -/
def State.hurt (s : State) (d a len : Nat) : Bool :=
  len ≠ 0 && s.poisoned.any fun l => decide (dieAddr d a / 64 ≤ l) && decide (l ≤ (dieAddr d a + len - 1) / 64)

/-- A state record read (R370): its link and CAP_SEQ; none when its VER, LANE_W or LANES are not those wanted. -/
def State.readRecord (s : State) (d a laneW : Nat) (lanes : Option Nat) : Option (CodecLink × Nat) :=
  let h := s.dramNum 64 (dieAddr d a)
  let n := bitsOf h 8 14
  let k := laneBytes laneW
  let nat := fun (l : List (BitVec 8)) => l.map BitVec.toNat
  let win := nat (s.dramBytes 32768 (dieAddr d (a + 64)))
  let row := fun (i : Nat) => lanesOf k (nat (s.dramBytes (n * k) (dieAddr d (a + 64 + 32768 + i * n * k))))
  if bitsOf h 0 4 ≠ 1 || bitsOf h 6 2 ≠ laneW || lanes.any fun m => m != n then none
  else some ({ row1 := if bitAt h 22 = 1 then some (row 0) else none, row2 := if bitAt h 23 = 1 then some (row 1) else none,
               window := lastN (bitsOf h 96 16) win, seq := bitsOf h 32 32, since := bitsOf h 64 16 }, bitsOf h 128 32)

/-- A state record written (R370). -/
def recordBytes (path laneW : Nat) (l : CodecLink) (lanes cap : Nat) : List Nat :=
  let k := laneBytes laneW
  let h := 1 + 16 * path + 64 * laneW + 256 * lanes + (if l.row1.isSome then 2 ^ 22 else 0) +
    (if l.row2.isSome then 2 ^ 23 else 0) + l.seq * 2 ^ 32 + l.since % 65536 * 2 ^ 64 + l.window.length % 65536 * 2 ^ 96 + cap * 2 ^ 128
  let fix := fun (r : Option (List Nat)) => laneRow k (((r.getD []) ++ List.replicate lanes 0).take lanes)
  leBytes 64 h ++ List.replicate (32768 - l.window.length) 0 ++ l.window ++ fix l.row1 ++ fix l.row2
def State.writeRecord (s : State) (d a path laneW : Nat) (l : CodecLink) (lanes cap : Nat) : State :=
  State.dramStore ((recordBytes path laneW l lanes cap).map (BitVec.ofNat 8)) (dieAddr d a) s

/-- The rows of an ENCODE's source, all of one length. -/
def srcRows (n : Nat) (src : List Nat) : List (List Nat) := chunks (src.length + 1) (max 1 (src.length / max 1 n)) src

/-- Whether an ENCODE or DECODE descriptor is INVALID (R369, R350). -/
def Descr.invalid (x : Descr) : Bool :=
  x.reserved || x.path == 3 || x.level == 0 || decide (9 < x.level) ||
  (x.op == 0 && (x.pred == 5 || x.pred == 6 || x.rows == 0 || (x.path == 2 && (x.laneW != 1 || decide (64 < x.rows))) ||
    (if x.path = 1 then x.srcLen % x.rows != 0 else x.srcLen != x.rows * x.lanes * laneBytes x.laneW || x.lanes == 0)))

/-- The state a descriptor starts from: its record, or a restart; whether the record was not valid. -/
def State.descrState (s : State) (d : Nat) (x : Descr) (lanes : Option Nat) : CodecLink × Bool × Bool :=
  if x.state = 0 then ({}, true, false)
  else match s.readRecord d x.state x.laneW lanes with
    | some r => (r.1, x.restart, false)
    | none => ({}, true, true)

/-- The bytes of a state record of `lanes` lanes. -/
def recordLen (laneW lanes : Nat) : Nat := 64 + 32768 + 2 * lanes * laneBytes laneW

/-- A descriptor that met a poisoned line: its output undefined, its state not written. -/
def State.descrPoison (s : State) (d : Nat) (x : Descr) : State := (s.scrambleAll d (s.buffers' d x)).complete d x 5 0 0

/-- ENCODE. -/
def State.encodeD (s : State) (d : Nat) (x : Descr) : State :=
  if x.invalid then s.complete d x 3 0 0
  else if s.hurt d x.src x.srcLen || (x.state ≠ 0 && s.hurt d x.state (recordLen x.laneW x.lanes)) then s.descrPoison d x
  else
    let lanes := if x.path = 1 then none else some x.lanes
    let st := s.descrState d x lanes
    let rows := srcRows x.rows ((s.dramBytes x.srcLen (dieAddr d x.src)).map BitVec.toNat)
    let r := codeBlock ⟨x.path, x.level, x.pred, x.table, x.laneW, x.signed, x.mask⟩ (s.tablesInForce d)
      (s.rd (.wdie d) codecTgenGen) st.2.1 false false rows st.1
    if r.noGain then s.complete d x 1 0 0
    else s.output d x (if st.2.2 then 6 else 0) r.bytes fun t =>
      if x.state = 0 then t else t.writeRecord d x.state x.path x.laneW r.link x.lanes 0xFFFFFFFF

/-- Blocks decoded one after another, by fuel: the bytes out, the link, whether one failed. -/
def decodeRun (tab : List (List Nat)) (signed : Bool) : Nat → CodecLink → List Nat → List Nat → List Nat × CodecLink × Bool
  | 0, st, _, out => (out, st, false)
  | n + 1, st, b, out =>
    if b.isEmpty then (out, st, false)
    else match decodeBlock tab signed st b with
      | some r => decodeRun tab signed n r.2.2 (b.drop r.2.1) (out ++ r.1.flatten)
      | none => (out, st, true)

/-- DECODE. -/
def State.decodeD (s : State) (d : Nat) (x : Descr) : State :=
  if x.invalid then s.complete d x 3 0 0
  else if s.hurt d x.src x.srcLen || (x.state ≠ 0 && s.hurt d x.state (recordLen x.laneW x.lanes)) then s.descrPoison d x
  else
    let st := s.descrState d x (if x.path = 1 then none else some x.lanes)
    let src := (s.dramBytes x.srcLen (dieAddr d x.src)).map BitVec.toNat
    let start : CodecLink := if st.2.1 then {} else st.1
    let r := decodeRun (s.tablesInForce d) x.signed (src.length + 1) start src []
    s.output d x (if r.2.2 then 4 else if st.2.2 then 6 else 0) r.1 fun t =>
      if x.state = 0 then t else t.writeRecord d x.state x.path x.laneW r.2.1 x.lanes 0xFFFFFFFF

/-- SAVE: the slot's open block closed and coded, its record written. -/
def State.saveD (s : State) (d : Nat) (x : Descr) : State :=
  let k := ctxKey d x.lanes
  match s.ctxAt k with
  | none => s.complete d x 3 0 0
  | some _ =>
    if x.reserved || x.state = 0 || 512 ≤ x.lanes then s.complete d x 3 0 0
    else
      let s1 := s.sealCtx k false
      match s1.ctxAt k with
      | none => s1
      | some c =>
        let w := bitsOf c.cod.cfg 13 2
        let lanes := ((c.cod.link.row1.map List.length).getD 0) % 16384
        let cap := match c.cod.ref with
          | some (q, l) => if c.cod.link.row1.any fun r => r.drop 6 = l then q else 0xFFFFFFFF
          | none => 0xFFFFFFFF
        (s1.writeRecord d x.state (bitsOf c.cod.cfg 0 2) w c.cod.link lanes cap).complete d x 0 0 (recordLen w lanes)

/-- RESTORE: a record loaded into the slot; the block after it is a restart. -/
def State.restoreD (s : State) (d : Nat) (x : Descr) : State :=
  let k := ctxKey d x.lanes
  match s.ctxAt k with
  | none => s.complete d x 3 0 0
  | some c =>
    if x.reserved || x.state = 0 || 512 ≤ x.lanes then s.complete d x 3 0 0
    else if s.hurt d x.state 64 then s.complete d x 5 0 0
    else match s.readRecord d x.state (bitsOf c.cod.cfg 13 2) (c.cod.link.row1.map List.length) with
      | some (l, cap) =>
        let ref := if cap = 0xFFFFFFFF then none else l.row1.map fun r => (cap, r.drop 6)
        (s.setCtx k { c with cod := { c.cod with link := l, ref := ref, restart := true } }).complete d x 0 0 0
      | none => (s.setCtx k { c with cod := { c.cod with restart := true } }).complete d x 6 0 0

/-- The descriptor at HEAD served, when it is of operation `op`. -/
def State.serve (s : State) (d op : Nat) (act : Descr → State) : State :=
  if !s.enabled (.wdie d) .codec || s.mode (.wdie d) == .midnight then s
  else match s.descr d with
    | some x => if x.op = op then act x else s
    | none => s
def execCodecEncode (d : Nat) (s : State) : Out' := keeping s <| .next (s.serve d 0 (s.encodeD d))
def execCodecDecode (d : Nat) (s : State) : Out' := keeping s <| .next (s.serve d 1 (s.decodeD d))
def execCodecSave (d : Nat) (s : State) : Out' := keeping s <| .next (s.serve d 2 (s.saveD d))
def execCodecRestore (d : Nat) (s : State) : Out' := keeping s <| .next (s.serve d 3 (s.restoreD d))

end Sys2Proof.Machine
end

