-- ==== Sys2Proof/Machine/LensFn.lean ====
section
/-! DEFINITION. Spec 14 R408 to R418: features, codes, tree blocks, margins, output links, model images, reports: the
functions on data, apart from the state that they run on. -/

namespace Sys2Proof.Machine

/-! ## FP32 beyond sums and products -/

/-- A·x + B rounded once (R410). -/
def ffma (a x b : Nat) : Nat :=
  match decodeIeee 23 8 a, decodeIeee 23 8 x, decodeIeee 23 8 b with
  | .fin p, .fin q, .fin r =>
    if p * q = 0 ∧ r = 0 then (if bitAt a 31 ≠ bitAt x 31 ∧ bitAt b 31 = 1 then 0x80000000 else 0)
    else f32Ratio (p * q + r * 2 ^ unitExp) (2 ^ unitExp)
  | .fin _, .fin _, .inf n => (FVal.inf n).f32
  | _, _, _ => fadd (fmul a x) b

/-- A quotient rounded once. -/
def fdiv (a b : Nat) : Nat :=
  let neg := bitAt a 31 != bitAt b 31
  match decodeIeee 23 8 a, decodeIeee 23 8 b with
  | .fin x, .fin y =>
    if y = 0 then (if x = 0 then f32NaN else (FVal.inf neg).f32)
    else if x = 0 then (if neg then 0x80000000 else 0)
    else f32Ratio (if neg then -(x.natAbs * 2 ^ unitExp : Nat) else (x.natAbs * 2 ^ unitExp : Nat)) y.natAbs
  | .inf _, .fin _ => (FVal.inf neg).f32
  | .fin _, .inf _ => if neg then 0x80000000 else 0
  | _, _ => f32NaN

/-- An integer rounded to FP32; a ratio of integers rounded to FP32. -/
def f32Int (v : Int) : Nat := f32Ratio (v * 2 ^ unitExp) 1
def f32Quot (a b : Int) : Nat :=
  f32Ratio ((if b < 0 then -a else a) * 2 ^ unitExp) b.natAbs

/-- a ≥ b for FP32 encodings, neither a NaN. -/
def fge (a b : Nat) : Bool := !fIsNaN a && !fIsNaN b && !fgt b a

/-! ## Exponentials (R417) -/

/-- The fixed point of the bounds: units of 2^-400. -/
def expBits : Nat := 400

/-- Partial sums of Σ y^i / i! by fuel, each term rounded down, or up; `y`, `t` and `acc` in 2^-400. -/
def expDown (y : Nat) : Nat → Nat → Nat → Nat → Nat
  | 0, _, _, acc => acc
  | n + 1, i, t, acc => let t' := t * y / (i * 2 ^ expBits); expDown y n (i + 1) t' (acc + t')
def expUp (y : Nat) : Nat → Nat → Nat → Nat → Nat
  | 0, _, t, acc => acc + t
  | n + 1, i, t, acc => let t' := ceilDiv (t * y) (i * 2 ^ expBits); expUp y n (i + 1) t' (acc + t')

/-- The square taken nine times, rounded down, or up. -/
def sqDown : Nat → Nat → Nat
  | 0, v => v
  | n + 1, v => sqDown n (v * v / 2 ^ expBits)
def sqUp : Nat → Nat → Nat
  | 0, v => v
  | n + 1, v => sqUp n (ceilDiv (v * v) (2 ^ expBits))

/-- Bounds of e^x in 2^-400 for |x| ≤ 128, x in units of 2^-149: e^(x/512) by its series, then nine squarings. -/
def expBounds (x : Int) : Nat × Nat :=
  let y := x.natAbs * 2 ^ (expBits - unitExp - 9)
  let lo := sqDown 9 (expDown y 90 1 (2 ^ expBits) (2 ^ expBits))
  let hi := sqUp 9 (expUp y 90 1 (2 ^ expBits) (2 ^ expBits))
  if 0 ≤ x then (lo, hi) else (2 ^ (2 * expBits) / hi, ceilDiv (2 ^ (2 * expBits)) lo)

/-- Bounds of e^x for any x. -/
def expAny (x : Int) : Nat × Nat :=
  if x = 0 then (2 ^ expBits, 2 ^ expBits)
  else if (128 : Int) * 2 ^ unitExp < x then (2 ^ (expBits + 184), 2 ^ (expBits + 1000000))
  else if x < -(128 : Int) * 2 ^ unitExp then (0, 2 ^ (expBits - 184))
  else expBounds x

/-- A positive number known by the bounds lo/den and hi/den, rounded to FP32; where the bounds do not settle it, a free
value. -/
def roundBounds (lo hi den : Nat) : Nat :=
  let a := roundMag 23 8 (lo * 2 ^ unitExp) den
  let b := roundMag 23 8 (hi * 2 ^ unitExp) den
  if a = b then a else Config.hardRound lo % 2 ^ 32

/-- RN(e^m). -/
def rnExp (m : Nat) : Nat :=
  match decodeIeee 23 8 m with
  | .nan => f32NaN
  | .inf neg => if neg then 0 else 0x7F800000
  | .fin v =>
    if (128 : Int) * 2 ^ unitExp < v then 0x7F800000
    else let e := expAny v
      roundBounds e.1 e.2 (2 ^ expBits)

/-- 1 ÷ Σ e^x over exact differences x, rounded to FP32. -/
def rnInverse (xs : List Int) : Nat :=
  if xs.any fun x => (128 : Int) * 2 ^ unitExp < x then 0
  else
    let es := xs.map expAny
    let lo := (es.map fun e => e.1).sum
    let hi := (es.map fun e => e.2).sum
    let a := roundMag 23 8 (2 ^ (expBits + unitExp)) hi
    let b := roundMag 23 8 (2 ^ (expBits + unitExp)) lo
    if a = b then a else Config.hardRound lo % 2 ^ 32

/-- RN(1 ÷ (1 + e^−m)). -/
def rnLogistic (m : Nat) : Nat :=
  match decodeIeee 23 8 m with
  | .nan => f32NaN
  | .inf neg => if neg then 0 else 0x3F800000
  | .fin v => rnInverse [0, -v]

/-- The finite value of an encoding in 2^-149. -/
def finOf (m : Nat) : Int := match decodeIeee 23 8 m with
  | .fin v => v
  | _ => 0
def fFinite (m : Nat) : Bool := !fIsNaN m && !fIsInf m

/-- The outputs of a model from its margins (R417): LINK 0 IDENTITY, 1 LOGISTIC, 2 EXP, 3 SOFTMAX. -/
def outputs (link : Nat) (ms : List Nat) : List Nat :=
  match link with
  | 0 => ms
  | 1 => ms.map rnLogistic
  | 2 => ms.map rnExp
  | _ => if ms.all fFinite then ms.map fun m => rnInverse (ms.map fun j => finOf j - finOf m) else ms.map fun _ => f32NaN

/-! ## Features (R408 to R412) -/

/-- A lane as an integer of its TYPE: 0 U64, 1 I64, 2 U32, 3 I32. -/
def laneInt (ty v : Nat) : Int :=
  match ty with
  | 0 => (v % 2 ^ 64 : Nat)
  | 1 => signedOf v 64
  | 2 => (v % 2 ^ 32 : Nat)
  | _ => signedOf v 32

/-- The difference d of a lane (R409), for the integer types. -/
def laneDiff (ty now prev : Nat) : Int :=
  match ty with
  | 0 => ((now % 2 ^ 64 + 2 ^ 64 - prev % 2 ^ 64) % 2 ^ 64 : Nat)
  | 1 => signedOf now 64 - signedOf prev 64
  | 2 => ((now % 2 ^ 32 + 2 ^ 32 - prev % 2 ^ 32) % 2 ^ 32 : Nat)
  | _ => signedOf now 32 - signedOf prev 32

/-- A row as the front end reads it: its kind, its capture in nanoseconds, its lanes; the previous row's. -/
structure FeatRow where
  kind : Nat
  capture : Nat
  lanes : List Nat
  prev : Option (Nat × List Nat)
deriving DecidableEq, Repr

/-- The lane of a descriptor for a group whose lanes begin at `off`. -/
def LFeat.lane (f : LFeat) (off l : Nat) : Nat := if f.shared then l else off + l

/-- The raw value x, and whether a lane lies beyond the row (R408, Table 14.2). -/
def featX (r : FeatRow) (f : LFeat) (off : Nat) : Nat × Bool :=
  let n := r.lanes.length
  let la := f.lane off f.laneA
  let lb := f.lane off f.laneB
  let a := nth r.lanes la
  if n ≤ la || (f.op = 3 && n ≤ lb) then (f32NaN, true)
  else match f.op, r.prev with
    | 0, _ => (if f.ty = 4 then a % 2 ^ 32 else f32Int (laneInt f.ty a), false)
    | _, none => (f32NaN, false)
    | 1, some p => (if f.ty = 4 then fsub (a % 2 ^ 32) (nth p.2 la % 2 ^ 32) else f32Int (laneDiff f.ty a (nth p.2 la)), false)
    | 2, some p =>
      if r.kind ≠ 4 || r.capture ≤ p.1 then (f32NaN, false)
      else (f32Quot (laneDiff f.ty a (nth p.2 la) * 1000000000) (r.capture - p.1), false)
    | _, some p =>
      let da := laneDiff f.ty a (nth p.2 la)
      let db := laneDiff f.ty (nth r.lanes lb) (nth p.2 lb)
      (if db = 0 then (if da = 0 then f32NaN else (FVal.inf (da < 0)).f32) else f32Quot da db, false)

/-- The position of the first edge at or above y (R411), by list. -/
def edgeIndex (y : Nat) : List Nat → Nat
  | [] => 0
  | e :: r => if fge e y then 0 else edgeIndex y r + 1

/-- The code of y (R411). -/
def featCode (edges : List Nat) (y : Nat) : Nat := if fIsNaN y then 0xFFFF else min (edgeIndex y edges) 0xFFFE

/-- A crossed code (R412). -/
def crossCode (a b mult : Nat) : Nat := if a = 0xFFFF || b = 0xFFFF then 0xFFFF else min (a * mult + b) 0xFFFE

/-- What the front end makes of one group of a row: y of each feature (none for CROSS), the codes, the features with NaN
x, whether a lane was missing. -/
structure FeatOut where
  ys : List (Option Nat)
  codes : List Nat
  nans : Nat
  missing : Bool
deriving DecidableEq, Repr
def featGroup (r : FeatRow) (fs : List LFeat) (off : Nat) : FeatOut :=
  let xs := fs.map fun f => if f.op = 4 then none else some (featX r f off)
  let ys := (fs.zip xs).map fun e => e.2.map fun x => ffma e.1.a x.1 e.1.b
  let c0 := (fs.zip ys).map fun e => match e.2 with
    | some y => featCode e.1.edges y
    | none => 0xFFFF
  let codes := (fs.zip c0).map fun e => if e.1.op = 4 then crossCode (nth c0 e.1.featA) (nth c0 e.1.featB) e.1.mult else e.2
  { ys := ys, codes := codes, nans := xs.countP fun x => x.any fun v => fIsNaN v.1, missing := xs.any fun x => x.any fun v => v.2 }

/-! ## Trees (R413 to R416) -/

/-- A node record (Table 14.4), valid. -/
structure LNode where
  feature : Nat
  thr : Nat
  dflt : Bool
  first : Nat
  last : Nat
deriving DecidableEq, Repr

/-- A tree block (Table 14.3). -/
structure LTree where
  cls : Nat
  leaves : Nat
  nodes : List LNode
  leaf : List Nat
deriving DecidableEq, Repr

/-- The words of a tree block: its header, node records and leaves as numbers. -/
def treeHead (b : List Nat) : Nat := leVal (b.take 16)
def treeRecs (b : List Nat) : List Nat := (chunks 256 8 ((b.drop 16).take 2040)).map leVal
def treeLeaves (b : List Nat) : List Nat := (chunks 257 4 ((b.drop 2056).take 1024)).map leVal

def nodeOf (v : Nat) : LNode := ⟨bitsOf v 52 12, bitsOf v 36 16, bitAt v 35 = 1, bitsOf v 26 8, bitsOf v 18 8⟩
def treeOf (b : List Nat) : LTree :=
  { cls := bitsOf (treeHead b) 8 4, leaves := bitsOf (treeHead b) 16 9,
    nodes := ((treeRecs b).filter fun v => bitAt v 34 = 1).map nodeOf, leaf := treeLeaves b }

/-- Whether a node's test sends a sample left (R414). -/
def LNode.left (n : LNode) (codes : List Nat) : Bool :=
  if nth codes n.feature = 0xFFFF then n.dflt else decide (nth codes n.feature ≤ n.thr)

/-- eval_tree of R414; none for NONE. -/
def evalTree (t : LTree) (codes : List Nat) : Option Nat :=
  let mask := t.nodes.foldl (fun m n =>
    if n.left codes || n.last < n.first then m else m - (m &&& (2 ^ (n.last + 1) - 2 ^ n.first))) (2 ^ 256 - 1)
  match lowestBit 256 mask with
  | some i => if t.leaves ≤ i then none else some (nth t.leaf i)
  | none => none

/-- The sums of one class by blocks of 64 trees, in tree order; what the trees gave comes as (class, value). -/
def blockSums (c : Nat) : Nat → List (Nat × Nat) → List Nat
  | 0, _ => []
  | n + 1, l =>
    if l.isEmpty then []
    else (l.take 64).foldl (fun a e => if e.1 = c then fadd a e.2 else a) 0 :: blockSums c n (l.drop 64)

/-- One level of the fixed pairwise tree, and all of them, by fuel. -/
def pairUp : List Nat → List Nat
  | a :: b :: r => fadd a b :: pairUp r
  | l => l
def pairAll : Nat → List Nat → Nat
  | 0, l => l.headD 0
  | n + 1, l => match l with
    | _ :: _ :: _ => pairAll n (pairUp l)
    | l => l.headD 0

/-- margin of R416 for every class, from what the trees gave. -/
def margins (base : List Nat) (classes : Nat) (vals : List (Nat × Nat)) : List Nat :=
  (List.range classes).map fun c => fadd (nth base c) (pairAll 20 (blockSums c (vals.length / 64 + 1) vals))

/-! ## Model images (R418, R419) -/

/-- A header's fields (Table 14.5). -/
structure LHead where
  ver : Nat
  classes : Nat
  link : Nat
  id : Nat
  trees : Nat
  feats : Nat
  edges : Nat
  base : List Nat
  crc : Nat
  reserved : Bool
deriving DecidableEq, Repr
def lheadOf (b : List Nat) : LHead :=
  let n := fun (at' w : Nat) => leVal ((b.drop at').take w)
  { ver := n 0 1, classes := n 1 1, link := n 2 1, id := n 4 4, trees := n 8 4, feats := n 12 2, edges := n 16 4,
    base := (List.range 16).map fun c => n (64 + 4 * c) 4, crc := n 252 4,
    reserved := n 3 1 != 0 || n 14 2 != 0 || n 20 44 != 0 || n 128 124 != 0 || 4 ≤ n 2 1 }

/-- Where the trees begin in the image, and its length. -/
def LHead.treeOff (h : LHead) : Nat := ceilDiv (256 + 32 * h.feats + 4 * h.edges) 64 * 64
def LHead.size (h : LHead) : Nat := h.treeOff + 3080 * h.trees

def LHead.ok (h : LHead) : Bool :=
  !h.reserved && h.ver == 1 && decide (1 ≤ h.classes) && decide (h.classes ≤ 16) && decide (1 ≤ h.trees) &&
  decide (h.trees ≤ 65536) && decide (1 ≤ h.feats) && decide (h.feats ≤ 4096) && decide (h.edges ≤ 262144) &&
  !(h.link == 3 && h.classes == 1)

/-- A descriptor's number of its 32 bytes; its fields. -/
def lfeatOf (edges : List Nat) (v : Nat) : LFeat :=
  { op := bitsOf v 0 4, ty := bitsOf v 8 3, shared := bitAt v 11 = 1, laneA := bitsOf v 16 14, laneB := bitsOf v 32 14,
    featA := bitsOf v 32 12, featB := bitsOf v 48 12, a := bitsOf v 64 32, b := bitsOf v 96 32,
    edges := (edges.drop (bitsOf v 128 32)).take (bitsOf v 160 16), mult := bitsOf v 176 16 }

/-- Edges finite and strictly ascending. -/
def ascending : List Nat → Bool
  | a :: b :: r => fgt b a && ascending (b :: r)
  | _ => true

/-- Whether descriptor `v` of a list passes R419. -/
def featOk (nEdges : Nat) (all : List LFeat) (v : Nat) (f : LFeat) : Bool :=
  bitsOf v 4 4 == 0 && bitsOf v 12 4 == 0 && bitsOf v 192 64 == 0 && decide (f.op ≤ 4) && decide (f.ty ≤ 4) &&
  decide (bitsOf v 128 32 + bitsOf v 160 16 ≤ nEdges) && f.edges.all fFinite && ascending f.edges &&
  (f.op != 4 || (((all[f.featA]?).any fun g => g.op != 4) && ((all[f.featB]?).any fun g => g.op != 4) && decide (1 ≤ f.mult))) &&
  !((f.op == 2 || f.op == 3) && f.ty == 4)

/-- Whether the block at position `i` passes R419. -/
def treeOk (h : LHead) (i : Nat) (b : List Nat) : Bool :=
  let v := treeHead b
  let recs := treeRecs b
  let t := treeOf b
  bitsOf v 12 4 == 0 && bitsOf v 25 7 == 0 && bitsOf v 40 24 == 0 && bitsOf v 96 32 == 0 && (recs.all fun r => bitsOf r 0 18 == 0) &&
  bitsOf v 0 8 == 1 && decide (t.cls < h.classes) && decide (1 ≤ t.leaves) && decide (t.leaves ≤ 256) && bitsOf v 64 32 == i &&
  bitsOf v 32 8 == t.nodes.length &&
  (t.nodes.all fun n => decide (n.feature < h.feats) && decide (n.thr ≤ 0xFFFE) && decide (n.first ≤ n.last) && decide (n.last < t.leaves)) &&
  ((t.leaf.take t.leaves).all fFinite) && ((t.leaf.drop t.leaves).all fun x => x == 0)

/-- The first failing position of a list under a check. -/
def firstBad {α : Type} (ok : Nat → α → Bool) : Nat → List α → Option Nat
  | _, [] => none
  | i, x :: r => if ok i x then firstBad ok (i + 1) r else some i

/-- A load's failure: RESULT, INDEX, IS_FEATURE. -/
structure LoadFail where
  result : Nat
  index : Nat := 0
  isFeat : Bool := false
deriving DecidableEq, Repr

/-- An image checked in R419's order, at address `at'`: the model, or the first failing item; `img` its bytes. -/
def checkImage (at' : Nat) (img : List Nat) : LModel ⊕ LoadFail :=
  let h := lheadOf img
  let body := img.drop 256
  let edges := (chunks (h.edges + 1) 4 ((body.drop (32 * h.feats)).take (4 * h.edges))).map leVal
  let words := (chunks (h.feats + 1) 32 (body.take (32 * h.feats))).map leVal
  let feats := words.map (lfeatOf edges)
  let trees := chunks (h.trees + 1) 3080 (img.drop h.treeOff)
  if (crc32c (((img.take 252) ++ body).map (BitVec.ofNat 8))).toNat != h.crc then .inr { result := 2 }
  else if !h.ok then .inr { result := 3 }
  else match firstBad (fun _ e => featOk h.edges feats e.1 e.2) 0 (words.zip feats) with
    | some i => .inr { result := 3, index := i, isFeat := true }
    | none => match firstBad (treeOk h) 0 trees with
      | some i => .inr { result := 3, index := i }
      | none => .inl { id := h.id, classes := h.classes, link := h.link, trees := h.trees, base := h.base, feats := feats,
                       edges := h.edges, treesAt := at' + h.treeOff }

/-! ## Report records (Table 14.6) -/

/-- A report's fields. -/
structure LReport where
  type : Nat
  index : Nat
  fleetLock : Bool
  kind : Nat
  job : Nat
  dieIndex : Nat
  group : Nat
  rank : Nat
  model : Nat
  value : Nat
  limit : Nat
  margin : Nat
  capture : Nat
  supp : Nat
  rowseq : Nat
deriving DecidableEq, Repr

/-- Its 64 bytes; `capture` in nanoseconds. -/
def LReport.bytes (r : LReport) : List Nat :=
  [r.type % 256, r.index % 64, r.fleetLock.toNat, r.kind % 256] ++ leBytes 2 r.job ++ [0, 0] ++ leBytes 3 r.dieIndex ++
  [r.group % 256] ++ leBytes 3 r.rank ++ [0] ++ leBytes 4 r.model ++ leBytes 4 r.value ++ leBytes 4 r.limit ++
  leBytes 4 r.margin ++ leBytes 10 (r.capture / 1000000000 % 2 ^ 48 + r.capture % 1000000000 * 2 ^ 48) ++
  leBytes 2 (min r.supp 65535) ++ leBytes 4 r.rowseq ++ List.replicate 16 0

end Sys2Proof.Machine
end

