-- ==== Sys2Proof/Machine/MergeFn.lean ====
section
/-! DEFINITION. Spec 13 R377 to R386, R393: the operations of Merge on partial states, and the bytes of partials and
results. -/

namespace Sys2Proof.Machine

/-- The number of little-endian bytes, and of `n` bytes of a list from an offset. -/
def ofLe : List Nat → Nat
  | [] => 0
  | b :: r => b % 256 + 256 * ofLe r
def leNum (l : List Nat) (off n : Nat) : Nat := ofLe ((l.drop off).take n)

/-! ## The log-histogram (R382, R383) -/

/-- The bucket of a value. -/
def bucketOf (v : Nat) : Nat :=
  if v < 128 then v else 128 + (Nat.log2 v - 7) * 128 + v / 2 ^ (Nat.log2 v - 7) % 128

/-- A bucket's lower edge. -/
def bucketEdge (b : Nat) : Nat := if b < 128 then b else (128 + (b - 128) % 128) * 2 ^ ((b - 128) / 128)

/-- A count added to a bucket, saturating. -/
def addBucket (l : List (Nat × Nat)) (b n : Nat) : List (Nat × Nat) :=
  if n = 0 then l else put b (min 4294967295 ((look b l).getD 0 + n)) l

def histTotal (l : List (Nat × Nat)) : Nat := (l.map fun e => e.2).sum

/-- The first bucket whose cumulative count reaches `r`. -/
def reachBucket (r : Nat) : Nat → List (Nat × Nat) → Option Nat
  | _, [] => none
  | c, (b, n) :: l => if r ≤ c + n then some b else reachBucket r (c + n) l

/-- The bucket of the quantile of `ppm` parts per million. -/
def quantile (l : List (Nat × Nat)) (ppm : Nat) : Option Nat :=
  reachBucket (max 1 (ceilDiv (ppm * histTotal l) 1000000)) 0 l

/-! ## Minimum and maximum, top-k (R381, R385) -/

/-- The key that orders operands of a format: 0 I64, 1 U64, 2 F32. -/
def extKey (fmt v : Nat) : Int := if fmt = 0 then signedOf v 64 else if fmt = 2 then f32Key (v % 2 ^ 32) else v

/-- The entry of two that MIN (3) or MAX (4) keeps; equal values keep the lower rank. -/
def extBest (op fmt : Nat) (a b : Nat × Nat) : Nat × Nat :=
  let ka := extKey fmt a.1
  let kb := extKey fmt b.1
  if ka = kb then (if b.2 < a.2 then b else a)
  else if (kb < ka) = (op = 3) then b else a

def extJoin (op fmt : Nat) : Option (Nat × Nat) → Option (Nat × Nat) → Option (Nat × Nat)
  | none, b => b
  | a, none => a
  | some a, some b => some (extBest op fmt a b)

/-- Whether entry `a` comes before entry `b`: by value, descending for `dir` 0, then by rank. -/
def topBefore (dir : Nat) (a b : Nat × Nat) : Bool :=
  if a.1 = b.1 then a.2 ≤ b.2 else if dir = 0 then b.1 < a.1 else a.1 < b.1

def topInsert (dir : Nat) (e : Nat × Nat) : List (Nat × Nat) → List (Nat × Nat)
  | [] => [e]
  | x :: r => if topBefore dir e x then e :: x :: r else x :: topInsert dir e r

/-- The first `k` entries of two lists. -/
def topJoin (k dir : Nat) (a b : List (Nat × Nat)) : List (Nat × Nat) := (b.foldl (fun l e => topInsert dir e l) a).take k

/-! ## Digest compare (R386) -/

def rankInsert (e : Nat × Bool) : List (Nat × Bool) → List (Nat × Bool)
  | [] => [e]
  | x :: r => if e.1 ≤ x.1 then e :: x :: r else x :: rankInsert e r

/-- The 64 lowest of two rank lists. -/
def rankJoin (a b : List (Nat × Bool)) : List (Nat × Bool) := (b.foldl (fun l e => rankInsert e l) a).take 64

def groupInsert (g : DGroup) : List DGroup → List DGroup
  | [] => [g]
  | x :: r =>
    if g.digest < x.digest then g :: x :: r
    else if g.digest = x.digest then { x with count := x.count + g.count, ranks := rankJoin x.ranks g.ranks } :: r
    else x :: groupInsert g r

/-- Groups joined; more than 16 make TOO_MANY. -/
def groupJoin : Option (List DGroup) → Option (List DGroup) → Option (List DGroup)
  | some a, some b => let l := b.foldl (fun l g => groupInsert g l) a
    if 16 < l.length then none else some l
  | _, _ => none

/-- The reference: the largest count, the lowest digest on a tie. -/
def reference (l : List DGroup) : Option DGroup :=
  l.foldl (fun best g => match best with
    | none => some g
    | some b => if b.count < g.count then some g else some b) none

/-- The 64 lowest ranks of every group but the reference. -/
def dissenters (l : List DGroup) : List (Nat × Bool) :=
  match reference l with
  | none => []
  | some ref => (l.filter fun g => g != ref).foldl (fun a g => rankJoin a g.ranks) []

/-! ## Partials (Table 13.1) -/

/-- The partial of no contribution. -/
def emptyPart (op : Nat) : Part :=
  match op with
  | 1 => .sumI 0
  | 2 => .sumF 0 0 0 0
  | 3 => .ext none 0
  | 4 => .ext none 0
  | 7 => .hist []
  | 8 => .top []
  | 9 => .digest (some [])
  | _ => .num 0

/-- The partial of one contribution. -/
def onePart (op fmt value rank : Nat) (poison : Bool) : Part :=
  match op with
  | 1 => .sumI (signedOf value 64)
  | 2 => match decodeIeee 23 8 value with
    | .nan => .sumF 0 1 0 0
    | .inf false => .sumF 0 0 1 0
    | .inf true => .sumF 0 0 0 1
    | .fin v => .sumF v 0 0 0
  | 3 => if fmt = 2 && fIsNaN value then .ext none 1 else .ext (some (value, rank)) 0
  | 4 => if fmt = 2 && fIsNaN value then .ext none 1 else .ext (some (value, rank)) 0
  | 5 => .num 1
  | 7 => .hist [(bucketOf value, 1)]
  | 8 => .top [(value, rank)]
  | 9 => .digest (some [⟨value, 1, [(rank, poison)]⟩])
  | _ => .num value

/-- R377: two partials merged. -/
def joinPart (op fmt k dir : Nat) : Part → Part → Part
  | .sumI a, .sumI b => .sumI (a + b)
  | .sumF a n p m, .sumF b n' p' m' => .sumF (a + b) (n + n') (p + p') (m + m')
  | .ext a n, .ext b m => .ext (extJoin op fmt a b) (n + m)
  | .num a, .num b => .num (if op = 6 then a ||| b else a + b)
  | .hist a, .hist b => .hist (b.foldl (fun l e => addBucket l e.1 e.2) a)
  | .top a, .top b => .top (topJoin k dir a b)
  | .digest a, .digest b => .digest (groupJoin a b)
  | a, _ => a

/-! ## The header (Table 13.4) -/

/-- A Merge header. -/
structure MHdr where
  op : Nat
  fmt : Nat
  down : Bool := false
  part : Bool := false
  sparse : Bool := false
  saturated : Bool := false
  overflow : Bool := false
  tooMany : Bool := false
  empty : Bool := false
  poisoned : Bool := false
  set : Nat
  chunk : Nat := 0
  chunks : Nat := 1
  sub : Nat
  k : Nat
  dir : Nat
  tag : Nat
  included : Nat
  members : Nat
  bodyLen : Nat := 0
  deadline : Nat
deriving DecidableEq, Repr

def bools (l : List Bool) : Nat := l.foldr (fun b a => b.toNat + 2 * a) 0

/-- The 32 bytes of a header. -/
def MHdr.bytes (h : MHdr) : List Nat :=
  [h.op + 16 * h.fmt, bools [h.down, h.part, h.sparse, h.saturated, h.overflow, h.tooMany, h.empty, h.poisoned], h.set,
   h.chunk + 16 * h.chunks] ++ leBytes 2 h.sub ++ [h.k + 128 * h.dir, 0] ++ leBytes 4 h.tag ++ leBytes 4 h.included ++
  leBytes 4 h.members ++ leBytes 2 h.bodyLen ++ [0, 0] ++ leBytes 6 h.deadline ++ [0, 0]

/-- The header of a frame's first 32 bytes. -/
def mhdrOf (l : List Nat) : MHdr :=
  let f := fun (i : Nat) => bitAt (nth l 1) i == 1
  { op := nth l 0 % 16, fmt := nth l 0 / 16 % 16, down := f 0, part := f 1, sparse := f 2, saturated := f 3, overflow := f 4,
    tooMany := f 5, empty := f 6, poisoned := f 7, set := nth l 2 % 256, chunk := nth l 3 % 16, chunks := nth l 3 / 16 % 16,
    sub := leNum l 4 2, k := nth l 6 % 128, dir := nth l 6 / 128 % 2, tag := leNum l 8 4, included := leNum l 12 4,
    members := leNum l 16 4, bodyLen := leNum l 20 2, deadline := leNum l 24 6 }

/-! ## Bodies (Table 13.5) -/

def rankWord (e : Nat × Bool) : List Nat := leBytes 4 (e.1 % 131072 + (if e.2 then 2147483648 else 0))
def wordRank (w : Nat) : Nat × Bool := (w % 131072, bitAt w 31 == 1)

/-- A histogram as sparse entries, and one chunk of it as counts. -/
def histSparse (b : List (Nat × Nat)) : List Nat := b.flatMap fun e => leBytes 4 e.1 ++ leBytes 4 e.2
def histChunk (b : List (Nat × Nat)) (c : Nat) : List Nat :=
  (List.range 2048).flatMap fun i => leBytes 4 ((look (2048 * c + i) b).getD 0)

/-- The body of a partial other than a dense histogram. -/
def partBody : Part → List Nat
  | .sumI v => leBytes 16 (ofSigned v 128)
  | .sumF a n p m => leBytes 40 (ofSigned a 320) ++ leBytes 4 n ++ leBytes 4 p ++ leBytes 4 m
  | .ext best n => leBytes 8 ((best.map fun e => e.1).getD 0) ++ leBytes 4 ((best.map fun e => e.2).getD 0) ++ leBytes 4 n
  | .num v => leBytes 8 v
  | .hist b => histSparse b
  | .top e => e.flatMap fun x => leBytes 8 x.1 ++ leBytes 8 (x.2 % 131072)
  | .digest none => []
  | .digest (some g) => g.flatMap fun x => leBytes 8 x.digest ++ leBytes 4 x.count ++ leBytes 4 x.ranks.length ++
      x.ranks.flatMap rankWord

/-- A list cut into pieces of `n`, by fuel. -/
def pieces (n : Nat) : Nat → List Nat → List (List Nat)
  | 0, _ => []
  | f + 1, l => if l.isEmpty then [] else l.take n :: pieces n f (l.drop n)

/-- Sparse entries, and counts from bucket `b0` on, as a histogram. -/
def sparseHist (l : List Nat) : List (Nat × Nat) :=
  (pieces 8 l.length l).foldl (fun a e => addBucket a (leNum e 0 2) (leNum e 4 4)) []
def denseHist (l : List Nat) : List (Nat × Nat) :=
  ((pieces 4 l.length l).zipIdx.filter fun e => ofLe e.1 ≠ 0).map fun e => (e.2, ofLe e.1)

/-- R382: buckets that no value reaches. -/
def histBad (b : List (Nat × Nat)) : Bool := b.any fun e => 7424 ≤ e.1

/-- The digest groups of a body, by fuel; none where it is malformed. -/
def bodyGroups : Nat → List Nat → Option (List DGroup)
  | 0, l => if l.isEmpty then some [] else none
  | f + 1, l =>
    if l.isEmpty then some []
    else
      let n := leNum l 12 4
      if l.length < 16 + 4 * n || 64 < n then none
      else (bodyGroups f (l.drop (16 + 4 * n))).map fun r =>
        ⟨leNum l 0 8, leNum l 8 4, (pieces 4 n (l.drop 16)).map fun w => wordRank (ofLe w)⟩ :: r

/-- The partial that a header and a whole body (the chunks of a dense histogram joined) carry; none where malformed. -/
def bodyPart (h : MHdr) (l : List Nat) : Option Part :=
  if h.poisoned then some (emptyPart h.op)
  else match h.op with
  | 1 => if l.length = 16 then some (.sumI (signedOf (ofLe l) 128)) else none
  | 2 => if l.length = 52 then some (.sumF (signedOf (leNum l 0 40) 320) (leNum l 40 4) (leNum l 44 4) (leNum l 48 4)) else none
  | 3 => if l.length = 16 then some (.ext (if h.empty then none else some (leNum l 0 8, leNum l 8 4)) (leNum l 12 4)) else none
  | 4 => if l.length = 16 then some (.ext (if h.empty then none else some (leNum l 0 8, leNum l 8 4)) (leNum l 12 4)) else none
  | 5 => if l.length = 8 then some (.num (ofLe l)) else none
  | 6 => if l.length = 8 then some (.num (ofLe l)) else none
  | 7 =>
    let b := if h.sparse then sparseHist l else denseHist l
    if histBad b || (if h.sparse then l.length % 8 ≠ 0 else l.length ≠ 32768) then none else some (.hist b)
  | 8 => if l.length % 16 = 0 then some (.top ((pieces 16 l.length l).map fun e => (leNum e 0 8, leNum e 8 8 % 131072))) else none
  | 9 => if h.tooMany then some (.digest none) else (bodyGroups 16 l).map fun g => .digest (some g)
  | _ => none

/-- The flags that a partial sets in its header: sparse or dense form aside. -/
def partFlags (h : MHdr) (p : Part) : MHdr :=
  match p with
  | .ext none _ => { h with empty := true }
  | .digest none => { h with tooMany := true }
  | _ => h

/-! ## Results (R378, R380, R381, R383, R386) -/

/-- The int64 result of an exact sum, and whether it overflows. -/
def sumResult (v : Int) : Nat × Bool :=
  if -(2 ^ 63 : Int) ≤ v ∧ v < 2 ^ 63 then (ofSigned v 64, false)
  else (if 0 < v then 0x7FFFFFFFFFFFFFFF else 0x8000000000000000, true)

/-- The FP64 result of R380. -/
def f64Result (a : Int) (n p m : Nat) : Nat :=
  if n ≠ 0 ∨ (p ≠ 0 ∧ m ≠ 0) then 0x7FF8000000000000
  else if p ≠ 0 then 0x7FF0000000000000
  else if m ≠ 0 then 0xFFF0000000000000
  else if a = 0 then 0
  else if a < 0 then 2 ^ 63 + roundMag 52 11 a.natAbs 1 else roundMag 52 11 a.natAbs 1

/-- The quantile entries of a histogram for PPM values (none where VALID is 0). -/
def quantileBytes (b : List (Nat × Nat)) (q : List (Option Nat)) : List Nat :=
  q.flatMap fun e => match e.bind fun ppm => quantile b ppm with
    | some x => leBytes 8 (x + 65536) ++ leBytes 8 (bucketEdge x)
    | none => leBytes 16 0

/-- The result's body other than a histogram's own bytes, with the header's flags, INCLUDED being `n`. -/
def resultBody (h : MHdr) (q : List (Option Nat)) (n : Nat) : Part → MHdr × List Nat
  | .sumI v => let r := sumResult v
    ({ h with overflow := r.2 }, leBytes 8 r.1 ++ leBytes 16 (ofSigned v 128))
  | .sumF a x p m => (h, partBody (.sumF a x p m) ++ leBytes 4 0 ++ leBytes 8 (f64Result a x p m))
  | .hist b => ({ h with empty := histTotal b == 0, saturated := b.any fun e => e.2 == 4294967295 }, quantileBytes b q)
  | .digest none => ({ h with tooMany := true }, leBytes 20 0)
  | .digest (some g) => match reference g with
    | none => (h, leBytes 20 0)
    | some ref =>
      let d := dissenters g
      (h, leBytes 8 ref.digest ++ leBytes 4 ref.count ++ leBytes 4 (n - ref.count) ++
        leBytes 4 (d.length + (if g.length = 1 then 1048576 else 0)) ++ d.flatMap rankWord)
  | p => (partFlags h p, partBody p)

/-- A partial or a result as its frames, header and body in each (R393): `lead` stands first in every body. -/
def mergeFrames (sparseEn : Bool) (h : MHdr) (lead : List Nat) (p : Part) : List (List Nat) :=
  let one := fun (h : MHdr) (body : List Nat) => { h with bodyLen := body.length }.bytes ++ body
  match p with
  | .hist b =>
    if sparseEn && b.length ≤ 1024 then [one { h with sparse := true } (lead ++ histSparse b)]
    else (List.range 4).map fun c => one { h with chunk := c, chunks := 4 } (lead ++ histChunk b c)
  | _ => [one h lead]

end Sys2Proof.Machine
end

