-- ==== Sys2Proof/Machine/Egress.lean ====
section
/-! DEFINITION. Spec 11 R335 to R339: the egress queues of the optical ports, their scheduler and credit. -/

namespace Sys2Proof.Machine

/-- A frame's cost: its Ethernet bytes and PORT_CFG.OVERHEAD (R336). -/
def State.frameCost (s : State) (P : Nat) (f : EgFrame) : Nat := f.bytes + s.rd (dieOfOpt P) (schedPortPortCfgOverhead (P % 2))

/-- A shaper charged at a frame's start, its gain until now taken (R337). -/
def State.charge (s : State) (u : Chip) (miss at' : Fld) (rate cost : Nat) : State :=
  (s.wr u miss (s.missNow u miss at' rate + 80 * cost)).wr u at' s.now

/-- The frame as it leaves the port. -/
def egOut (P : Nat) (f : FabricFrame) : Out := .optical P f.hdr f.body

/-- The head of queue `q` transmitted: shapers charged, credit used, receive cells freed, through Prism. -/
def State.sendHead (s : State) (P q : Nat) (f : EgFrame) : State :=
  let u := dieOfOpt P
  let p := P % 2
  let cost := s.frameCost P f
  let s1 := s.setQueue P q (s.queueOf P q).tail
  let s2 := (s1.charge u (shapeMiss p q) (shapeAt p q) (s.rd u (schedQueueShapeRate p q)) cost).charge u (portMiss p)
    (portAt p) (s.portRate P) cost
  let s3 := if s2.credited P then s2.wr u (cellsSent p q) ((s2.rd u (cellsSent p q) + cellsOf f.bytes) % 65536) else s2
  (((s3.freeCells f).wr u (waitSince p q) 0).waitFollow P).prismOut u (8 + p) q f.bytes (egOut P f.frame)

/-- R336: the frame that deficit round robin takes next, by fuel of queue visits. -/
def State.drrNext : Nat → Nat → State → State
  | 0, _, s => s
  | n + 1, P, s =>
    let u := dieOfOpt P
    let p := P % 2
    let q := 2 + (s.rd u (drrTurn p) - 2) % 6
    let next := fun (t : State) => (t.wr u (drrTurn p) (2 + (q - 1) % 6)).wr u (drrIn p) 0
    let burst := s.drrBurst u p q
    match (s.queueOf P q).head? with
    | none =>
      let d := s.rd u (drrDeficit p q) + (if s.on u (drrIn p) then 0 else s.rd u (schedQueueDrrQuantum p q))
      State.drrNext n P (next (s.wr u (drrDeficit p q) (min d burst)))
    | some f =>
      let s1 := if s.on u (drrIn p) then s
                else (s.wr u (drrDeficit p q) (s.rd u (drrDeficit p q) + s.rd u (schedQueueDrrQuantum p q))).wr u (drrIn p) 1
      if !s.eligible P q then State.drrNext n P (next s)
      else if s1.frameCost P f ≤ s1.rd u (drrDeficit p q) then
        let s2 := s1.wr u (drrDeficit p q) (s1.rd u (drrDeficit p q) - s1.frameCost P f)
        let s3 := s2.sendHead P q f
        if (s3.queueOf P q).isEmpty then next (s3.wr u (drrDeficit p q) (min (s3.rd u (drrDeficit p q)) burst)) else s3
      else State.drrNext n P (next s1)

/-- The visits after which a queue of the smallest quantum covers the largest frame. -/
def drrFuel : Nat := 6 * 10000

/-- R336: the port's scheduler takes the next frame: queue 0, then queue 1, then the round robin. -/
def State.schedule (s : State) (P : Nat) : State :=
  if s.eligible P 0 then match (s.queueOf P 0).head? with
    | some f => s.sendHead P 0 f
    | none => s
  else if s.eligible P 1 then match (s.queueOf P 1).head? with
    | some f => s.sendHead P 1 f
    | none => s
  else if (List.range 6).any fun i => s.eligible P (i + 2) && s.rd (dieOfOpt P) (schedQueueDrrQuantum (P % 2) (i + 2)) ≠ 0 then
    State.drrNext drrFuel P s
  else s

def execEgressEnqueue (P q : Nat) (frame : FabricFrame) (s : State) : Out' := storeless s <|
  .next (s.ifOn (dieOfOpt P) .sched (·.originate P (q % 8) frame))
def execEgressTransmit (P : Nat) (s : State) : Out' := storeless s <| .next (s.ifOn (dieOfOpt P) .sched (·.schedule P))

/-- R338: a credited port that is up sends the cells it has freed in each queue's POOL, in a CONTROL frame. -/
def State.sendCellCredit (s : State) (P : Nat) : State :=
  let u := dieOfOpt P
  if s.credited P && s.on u (portsStatUp (P % 2)) then
    s.originate P 0 { hdr := { kind := 5, len := 16 }, body := (List.range 8).map fun q => s.rd u (cellsFreed (P % 2) q) }
  else s
def execOpticalCreditSend (P : Nat) (s : State) : Out' := storeless s <|
  .next (s.ifOn (dieOfOpt P) .sched (·.sendCellCredit P))

/-- A CONTROL frame that arrives on a credited port occupies queue 0's POOL, and frees it as it is delivered. -/
def State.controlArrived (s : State) (P len : Nat) : State :=
  if s.credited P then s.freeCells ⟨{ hdr := { kind := 5 } }, etherBytes len, some (P, 0)⟩ else s

/-- R338: a credit frame's totals become the sender's credit. -/
def execOpticalCreditReceive (P : Nat) (totals : List Nat) (s : State) : Out' := storeless s <|
  let u := dieOfOpt P
  .next (s.ifOn u .sched fun t =>
    if t.credited P && t.on u (portsStatUp (P % 2)) then
      ((List.range 8).foldl (fun a q => a.wr u (cellsPeer (P % 2) q) (nth totals q % 65536)) (t.controlArrived P 16)).waitFollow P
    else t)

/-- A frame of queue `q` discarded, its receive cells freed. -/
def State.discardAt (s : State) (P q : Nat) (f : EgFrame) : State :=
  (((s.setQueue P q ((s.queueOf P q).erase f)).freeCells f).wr (dieOfOpt P) (waitSince (P % 2) q) 0).waitFollow P

/-- R339: the head of queue 2 that has waited for credit beyond TRANSIT_WAIT_US is discarded. -/
def execTransitWaitTimeout (P : Nat) (s : State) : Out' := storeless s <|
  let u := dieOfOpt P
  let p := P % 2
  let since := s.rd u (waitSince p 2)
  .next (s.ifOn u .sched fun t => match (t.queueOf P 2).head? with
    | some f =>
      if since ≠ 0 && since - 1 + t.rd u (schedPortPortBurstTransitWaitUs p) * us < t.now then
        ((t.discardAt P 2 f).inc u (schedPortStatsTransitDiscard p)).int u .sched 0
      else t
    | none => t)

/-- R339: queue-1 frames whose reduction deadline (spec 13 R390, in nanoseconds of the die's LTC) has passed are
discarded. -/
def execResultDeadlineDiscard (P : Nat) (s : State) : Out' := storeless s <|
  let u := dieOfOpt P
  let late := (s.queueOf P 1).filter fun f => f.frame.deadline.any fun d => d < (s.ltcOf u).nsTotal
  .next (s.ifOn u .sched fun t =>
    late.foldl (fun a f => ((a.discardAt P 1 f).inc u (schedPortResultDiscardCount (P % 2))).int u .sched 1) t)

/-- R308, Table 11.6: the frames queued to a port discarded; deficits 0, shapers full. -/
def State.clearPort (s : State) (P : Nat) (count : Bool) : State :=
  let u := dieOfOpt P
  let p := P % 2
  (List.range 8).foldl (fun t q =>
    let l := t.queueOf P q
    let t1 := l.foldl (fun a f => if count then (a.freeCells f).inc u (portsRoleDiscardCount p) else a.freeCells f)
      (t.setQueue P q [])
    (((t1.wr u (drrDeficit p q) 0).wr u (shapeMiss p q) 0).wr u (shapeAt p q) t.now).wr u (waitSince p q) 0)
    (((s.wr u (portMiss p) 0).wr u (portAt p) s.now).wr u (drrIn p) 0)

end Sys2Proof.Machine
end

