-- ==== Sys2Proof/Machine/Tree.lean ====
section
/-! DEFINITION. Spec 10 R310, R311: ring coordinates; spec 13 R387, R398: the trees of a job; R394: the table of
reduction instances. -/

namespace Sys2Proof.Machine

/-! ## Coordinates (R310, R311) -/

/-- The fabric's dimensions (Table 1.2). -/
def State.shapeDims (s : State) : Nat := match s.size with
  | .wfk2 => 1
  | .wfk4 => 2
  | .wfk8 => 3

/-- The ring length of a dimension; 1 for one the fabric does not have. -/
def State.ringLen (s : State) (u : Chip) (dim : Nat) : Nat :=
  if s.shapeDims ≤ dim then 1 else max 1 (s.rd u (if dim = 0 then torusDimsN0 else if dim = 1 then torusDimsN1 else torusDimsN2))

/-- A coordinate of an 18-bit position. -/
def coordOf (xyz dim : Nat) : Nat := xyz / 64 ^ dim % 64

/-- The signed distance from `a` to `b` round a ring of `n`, of least magnitude; a tie counts as +. -/
def ringDelta (n a b : Nat) : Int :=
  let d := (b % n + n - a % n) % n
  if 2 * d ≤ n then d else (d : Int) - n

/-- The sum of the ring distances. -/
def State.torusDist (s : State) (u : Chip) (a b : Nat) : Nat :=
  ((List.range 3).map fun i => (ringDelta (s.ringLen u i) (coordOf a i) (coordOf b i)).natAbs).sum

/-! ## Trees (spec 13 R387, R398) -/

/-- The ring lengths that the module's trees are built with, and its own coordinates. -/
def State.rings (s : State) : List Nat := (List.range 3).map fun i => s.ringLen (.wdie 0) i
def State.ownCoord (s : State) : Nat := s.rd (.wdie 0) torusCoordXyz

/-- The parent of a module toward a root: one step in the first dimension in which they differ. -/
def parentOf (rings : List Nat) (root a : Nat) : Option Nat :=
  (List.range 3).findSome? fun i =>
    let n := nth rings i
    let d := ringDelta n (coordOf a i) (coordOf root i)
    if d = 0 then none
    else some (a - coordOf a i * 64 ^ i + (coordOf a i + n + (if 0 < d then 1 else 0) - (if 0 < d then 0 else 1)) % n * 64 ^ i)

/-- A module and its parents up to the root, by fuel. -/
def chainOf (rings : List Nat) (root : Nat) : Nat → Nat → List Nat
  | 0, a => [a]
  | n + 1, a => match parentOf rings root a with
    | none => [a]
    | some b => a :: chainOf rings root n b

/-- The hops of the longest chain: half of three rings of 64 positions. -/
def chainFuel : Nat := 96

/-- The coordinates of an entry. -/
def Xlat.coord (e : Xlat) : Nat := e.x + 64 * e.y + 4096 * e.z

/-- The replica group of a rank, 0 for none. -/
def JobCfg.groupOf (c : JobCfg) (rank : Nat) : Nat := nth c.groups rank

/-- The ranks of a set with their modules, ascending. -/
def JobCfg.members (c : JobCfg) (set : Nat) : List (Nat × Nat) :=
  (c.entries.zipIdx.filter fun e => set == 0 || c.groupOf e.2 == set).map fun e => (e.2, e.1.coord)

/-- The root of a set: the module of its lowest rank. -/
def JobCfg.rootOf (c : JobCfg) (set : Nat) : Nat := ((c.members set).head?.map fun e => e.2).getD 0

/-- The chain of every rank of a set. -/
def State.chains (s : State) (c : JobCfg) (set : Nat) : List (List Nat) :=
  (c.members set).map fun e => chainOf s.rings (c.rootOf set) chainFuel e.2

/-- The node before `a` in a chain. -/
def before (a : Nat) : List Nat → Option Nat
  | x :: y :: r => if y = a then some x else before a (y :: r)
  | _ => none

/-- The children of a node. -/
def childrenIn (chains : List (List Nat)) (a : Nat) : List Nat := (chains.filterMap (before a)).eraseDups

/-- The sets in use: every rank, and each group. -/
def JobCfg.sets (c : JobCfg) : List Nat := 0 :: (c.groups.filter (· ≠ 0)).eraseDups

/-- The chains of a broadcast: the nodes of every set's tree, toward the root of set 0. -/
def State.bcastChains (s : State) (c : JobCfg) : List (List Nat) :=
  let nodes := (c.sets.flatMap fun g => (s.chains c g).flatten).eraseDups
  nodes.map fun a => chainOf s.rings (c.rootOf 0) chainFuel a

/-- The job in force with a number. -/
def State.jobOf (s : State) (job : Nat) : Option JobCfg := s.jobs.find? fun c => c.job == job
def State.setJob (s : State) (c : JobCfg) : State := { s with jobs := s.jobs.map fun x => if x.job = c.job then c else x }

/-- R389: the root of a job is the missing peer on port `P`: a neighbour node tells the scheduler. -/
def State.rootLost (s : State) (P : Nat) : State :=
  let peer := s.rd (dieOfOpt P) (portsPeerCoord (P % 2))
  if s.rd (dieOfOpt P) (portsRoleRole (P % 2)) ≠ 1 then s
  else
    (s.jobs.filter fun c => c.rootOf 0 == peer && (s.chains c 0).any fun l => l.contains s.ownCoord).foldl (fun t c =>
      let pl := pay [(c.job, 0), (peer, 16)]
      (t.event (.wdie 0) .merge 0x0D03 2 pl).notice c.job ((c.entries.head?.map fun e => e.dieIndex).getD 0) 0x0D03 pl) s

/-! ## The instances of the module (spec 13 R394) -/

def Inst.sameKey (i : Inst) (job set op sub tag : Nat) : Bool :=
  i.job == job && i.set == set && i.op == op && i.sub == sub && i.tag == tag
def State.findInst (s : State) (job set op sub tag : Nat) : Option Inst := s.insts.find? fun i => i.sameKey job set op sub tag
def State.instAt (s : State) (d slot : Nat) : Option Inst := s.insts.find? fun i => i.die == d && i.slot == slot

/-- SLOTS of a die. -/
def State.slotCounts (s : State) (d : Nat) : State :=
  let n := (s.insts.filter fun i => i.die == d).length
  (s.wr (.wdie d) mergeSlotsInUse n).wr (.wdie d) mergeSlotsPeak (max n (s.rd (.wdie d) mergeSlotsPeak))

/-- An instance set in its slot, or its slot freed. -/
def State.setInst (s : State) (i : Inst) : State :=
  { s with insts := (s.insts.filter fun (x : Inst) => !(x.die == i.die && x.slot == i.slot)) ++ [i] }.slotCounts i.die
def State.delInst (s : State) (i : Inst) : State :=
  { s with insts := s.insts.filter fun (x : Inst) => !(x.die == i.die && x.slot == i.slot) }.slotCounts i.die

/-- R402: the instances of a job discarded. -/
def State.discardJob (s : State) (job : Nat) : State :=
  (s.insts.filter fun i => i.job == job).foldl (fun t i => (t.delInst i).inc (.wdie i.die) mergeCountCDiscarded) s

/-- R395: the instances of an excluded die are lost. -/
def State.loseInsts (s : State) (d : Nat) : State :=
  { s with insts := s.insts.filter fun (i : Inst) => i.die != d }.slotCounts d

end Sys2Proof.Machine
end

