-- ==== Sys2Proof/Machine/Torus.lean ====
section
/-! DEFINITION. Spec 10 R294, R307 to R312: the D2D hypercube as frames cross it, port roles, PEER_ID, and the routing
of fabric frames. -/

namespace Sys2Proof.Machine

/-! ## D2D crossing (R294) -/

/-- Whether D2D link `k` of die `d` is up. -/
def State.d2dUp (s : State) (d k : Nat) : Bool := s.bit (.wdie d) d2dStatLinkUp k

/-- The links of each die. -/
def State.d2dLinks (s : State) : Nat := Nat.log2 s.dies

/-- A frame goes from die `a` toward die `b`, hop by hop: the lowest differing bit whose link is up, or else the lowest
other link that is up, which counts as a detour. -/
def State.cross : Nat → Nat → Nat → State → State
  | 0, _, _, s => s
  | n + 1, a, b, s =>
    if a = b then s
    else
      let ks := List.range s.d2dLinks
      match ks.find? fun k => bitAt (a ^^^ b) k = 1 && s.d2dUp a k with
      | some k => State.cross n (a ^^^ 2 ^ k) b s
      | none =>
        match ks.find? fun k => bitAt (a ^^^ b) k = 0 && s.d2dUp a k with
        | some k => State.cross n (a ^^^ 2 ^ k) b (s.inc (.wdie a) d2dDetoursNonmin)
        | none => s

/-! ## Usable ports (R309) -/

/-- The package's optical ports. -/
def State.optPorts (s : State) : List Nat := List.range (2 * s.dies)

def State.portRole (s : State) (P : Nat) : Nat := s.rd (dieOfOpt P) (portsRoleRole (P % 2))
def State.portUsable (s : State) (P : Nat) : Bool := s.on (dieOfOpt P) (portsStatUsable (P % 2)) && s.present (P / 2)

/-- The usable port of a dimension and sign (0 +, 1 −), if one is. -/
def State.dirPort (s : State) (dim sign : Nat) : Option Nat :=
  s.optPorts.find? fun P => s.portRole P == 1 && s.rd (dieOfOpt P) (portsRoleDim (P % 2)) == dim &&
    s.rd (dieOfOpt P) (portsRoleSign (P % 2)) == sign && s.portUsable P

/-- The BYPASS ports, ascending. -/
def State.bypasses (s : State) : List Nat := s.optPorts.filter fun P => s.portRole P == 3

/-- TORUS.USABLE of every die: six directions, then the BYPASS ports in ascending number. -/
def State.usableFollow (s : State) : State :=
  let dir := (List.range 6).foldl (fun a i => if (s.dirPort (i / 2) (i % 2)).isSome then a + 2 ^ i else a) 0
  let byp := (s.bypasses.zipIdx).foldl (fun a e => if s.portUsable e.1 then a + 2 ^ e.2 else a) 0
  (List.range s.dies).foldl (fun t d => (t.wr (.wdie d) torusUsableDir dir).wr (.wdie d) torusUsableBypass byp) s

/-- A port made usable or not. -/
def State.setUsable (s : State) (P v : Nat) : State := (s.wr (dieOfOpt P) (portsStatUsable (P % 2)) v).usableFollow

/-! ## next_hop (R311) -/

/-- Where a frame goes: dropped for its hops or for want of a route, to a package optical port, or here; whether the
hop began a sidestep or a reversal. -/
inductive Hop where
  | dropHops
  | dropUnroutable
  | port (P : Nat) (side reverse : Bool)
  | here
deriving DecidableEq, Repr

/-- The forced direction of a dimension in RDIR: 0 shortest, 2 +, 3 −. -/
def rdirOf (h : FabricHdr) (dim : Nat) : Nat := h.rdir / 4 ^ dim % 4
def setRdir (h : FabricHdr) (dim v : Nat) : FabricHdr := { h with rdir := h.rdir - rdirOf h dim * 4 ^ dim + v * 4 ^ dim }

/-- One dimension of next_hop that is off target: its port, a closer bypass, a sidestep, the long way round. -/
def State.hopDim (s : State) (u : Chip) (dim : Nat) (delta : Int) (h : FabricHdr) : Hop × FabricHdr :=
  let here := s.rd u torusCoordXyz
  let sign := if rdirOf h dim = 2 then 0 else if rdirOf h dim = 3 then 1 else if delta < 0 then 1 else 0
  match s.dirPort dim sign with
  | some P => (.port P false false, h)
  | none =>
    match s.bypasses.find? fun b => s.portUsable b &&
        s.torusDist u (s.rd (dieOfOpt b) (portsPeerCoord (b % 2))) h.dst + 1 < s.torusDist u here h.dst with
    | some b => (.port b false false, h)
    | none =>
      match ((List.range 6).filter fun i => i / 2 ≠ dim).findSome? fun i => (s.dirPort (i / 2) (i % 2)).map fun P => (i / 2, P) with
      | some (e, P) => (.port P true false, { h with blocked := dim, side := e })
      | none =>
        if rdirOf h dim = 0 then
          match s.dirPort dim (1 - sign) with
          | some P => (.port P false true, setRdir h dim (if sign = 0 then 3 else 2))
          | none => (.dropUnroutable, h)
        else (.dropUnroutable, h)

/-- The dimensions left to look at, in order. -/
def State.hopDims (s : State) (u : Chip) : List Nat → FabricHdr → Hop × FabricHdr
  | [], h =>
    match s.bypasses.find? fun b => s.portUsable b && s.rd (dieOfOpt b) (portsPeerCoord (b % 2)) == h.dst &&
        h.dst != s.rd u torusCoordXyz with
    | some b => (.port b false false, h)
    | none => (.here, h)
  | dim :: r, h =>
    if dim = h.side ∧ h.blocked ≠ 3 then s.hopDims u r h
    else
      let delta := ringDelta (s.ringLen u dim) (coordOf (s.rd u torusCoordXyz) dim) (coordOf h.dst dim)
      if delta = 0 then s.hopDims u r (if dim = h.blocked then { h with blocked := 3, side := 3 } else h)
      else s.hopDim u dim delta h

/-- next_hop on die `u`. -/
def State.nextHop (s : State) (u : Chip) (h : FabricHdr) : Hop × FabricHdr :=
  if s.rd u torusCtrlMaxHops ≤ h.hops then (.dropHops, h)
  else s.hopDims u (if h.blocked = 3 then [0, 1, 2] else h.blocked :: [0, 1, 2].filter (· ≠ h.blocked)) h

/-- The transit queue of a KIND (Table 11.4). -/
def transitQueue (kind : Nat) : Nat := if kind = 0 || kind = 1 || kind = 3 then 1 else 2

/-- A frame that no route takes: counted, TORUS_UNROUTABLE. -/
def State.unroutable (s : State) (u : Chip) (h : FabricHdr) (hops : Bool) : State :=
  (s.inc u (if hops then torusDropsHops else torusDropsUnroutable)).event u .torus 0x0A09 1
    (pay [(h.dst, 0), (s.rd u torusUsableDir, 18), (h.hops % 256, 24), (h.job, 32)])

/-- R33, R311: a frame for this module: a unicast to the die that serves DIE_INDEX, unless that die no longer belongs to
its job; every other kind to its engine. -/
def State.localFrame (s : State) (d : Nat) (f : FabricFrame) : State :=
  if f.hdr.kind = 2 then
    if f.hdr.job ≠ 0 ∧ s.nativeJob f.hdr.dieIndex ≠ f.hdr.job then
      (s.inc .pkg pkgrCnt1Stale).event .pkg .pkgroute 0x0102 1
        (pay [(f.hdr.dieIndex, 0), (f.hdr.job, 32), (f.hdr.rank, 64)])
    else (State.cross 8 d (f.hdr.dieIndex / 8 % 8) s).emit (.delivered (f.hdr.dieIndex / 8 % 8) f.hdr f.body)
  else s.emit (.delivered d f.hdr f.body)

/-- A frame at die `d` takes the hop chosen; `cells` names the receive cells it holds, `again` that it is routed again. -/
def State.takeHop (s : State) (d q : Nat) (f : FabricFrame) (cells : Option (Nat × Nat)) (again : Bool) : State :=
  let u := Chip.wdie d
  let eg : EgFrame := ⟨f, etherBytes f.hdr.len, cells⟩
  match s.nextHop u f.hdr with
  | (.dropHops, h) => (s.freeCells eg).unroutable u h true
  | (.dropUnroutable, h) => (s.freeCells eg).unroutable u h false
  | (.here, h) => (s.freeCells eg).localFrame d { f with hdr := h }
  | (.port P side rev, h) =>
    let s1 := if side then s.inc u torusDetoursSidestep else if rev then s.inc u torusDetoursReverse else s
    let s2 := if again then s1 else s1.inc u torusForwardedCount
    (State.cross 8 d (P / 2) s2).enqueue P q { eg with frame := { f with hdr := { h with hops := if again then h.hops else h.hops + 1 } } }

/-- R311, R312: a frame arrives on a NEIGHBOUR or BYPASS port, of the sender's queue `inq`. -/
def execFabricFrameArrival (P inq : Nat) (frame : FabricFrame) (fcs : Bool) (s : State) : Out' := storeless s <|
  let u := dieOfOpt P
  if !s.on u (portsStatUp (P % 2)) then .next s
  else if !fcs then .next (s.inc u (portsFcsErrCount (P % 2)))
  else if !s.portUsable P || s.mode u == .midnight then .next s
  else .next (s.ifOn u .torus fun t => t.takeHop (P / 2) (transitQueue frame.hdr.kind) frame (some (P, inq % 8)) false)

/-- R311: the first frame of a queue whose port is no longer usable is routed again. -/
def State.reroute (s : State) (P q : Nat) : State :=
  match (s.queueOf P q).head? with
  | none => s
  | some f =>
    if s.portUsable P || (s.portRole P ≠ 1 && s.portRole P ≠ 3) || f.frame.hdr.kind = 5 then s
    else
      let s1 := s.setQueue P q (s.queueOf P q).tail
      s1.takeHop (P / 2) q f.frame f.cells true
def execFabricFrameReroute (P q : Nat) (s : State) : Out' := storeless s <|
  .next (s.ifOn (dieOfOpt P) .torus (·.reroute P (q % 8)))

/-- A frame of an engine of die `d` leaves on port `P` with its flow and stamp. -/
def State.sendOn (s : State) (d q P : Nat) (f : FabricFrame) (h : FabricHdr) : State :=
  let u := Chip.wdie d
  let t := s.takeFlow d (2 ^ 48 + h.dst * 131072 + h.dieIndex) h.kind
  let h2 := { h with flow := t.1.1, seq := t.1.2, timeLocked := s.on u timeStatFleetLock || s.on u timeStatLocalLock,
                     created := (s.ltcOf u).nsTotal % 2 ^ 48 }
  (State.cross 8 d (P / 2) t.2).enqueue P q ⟨{ f with hdr := h2 }, etherBytes h2.len, none⟩

/-- An engine of die `d` sends a frame through the torus in queue `q`: its flow and stamp, then its first hop, with a
direction forced in RDIR where `rdir` is not 0; a frame for this module is delivered. -/
def State.torusSendBy (s : State) (d q rdir : Nat) (f : FabricFrame) : State :=
  let u := Chip.wdie d
  let h := { f.hdr with src := s.rd u torusCoordXyz, blocked := 3, side := 3, rdir := rdir, hops := 0 }
  match s.nextHop u h with
  | (.here, h') => s.localFrame d { f with hdr := h' }
  | (.port P _ _, h') => s.sendOn d q P f h'
  | (r, h') => s.unroutable u h' (r == .dropHops)
def State.torusSend (s : State) (d q : Nat) (f : FabricFrame) : State := s.torusSendBy d q 0 f

/-- A frame whose first hop sidesteps from dimension `dim` into dimension `e` (R311, spec 13 R398); nothing is sent where no
port of `e` is usable. -/
def State.sidestepSend (s : State) (d q dim e : Nat) (f : FabricFrame) : State :=
  match (s.dirPort e 0).orElse fun _ => s.dirPort e 1 with
  | some P =>
    let h := { f.hdr with src := s.rd (.wdie d) torusCoordXyz, blocked := dim, side := e, rdir := 0, hops := 0 }
    (s.inc (.wdie d) torusDetoursSidestep).sendOn d q P f h
  | none => s

/-! ## PEER_ID (R309) -/

/-- The instant of the latest PEER_ID of a local port, plus 1. -/
def peerAt (p : Nat) : Fld := cell .ports p

/-- The package size code of PEER_ID: 1 WFK-2, 2 WFK-4, 3 WFK-8. -/
def State.sizeCode (s : State) : Nat := match s.size with
  | .wfk2 => 1
  | .wfk4 => 2
  | .wfk8 => 3

/-- The coordinates that the peer of a NEIGHBOUR port must have. -/
def State.peerExpected (s : State) (P : Nat) : Nat :=
  let u := dieOfOpt P
  let dim := s.rd u (portsRoleDim (P % 2))
  let n := s.ringLen u dim
  let own := s.rd u torusCoordXyz
  let c := coordOf own dim
  let c' := (if s.on u (portsRoleSign (P % 2)) then c + n - 1 else c + 1) % n
  own - c * 64 ^ dim + c' * 64 ^ dim

/-- R309: a NEIGHBOUR or BYPASS port that is up sends a PEER_ID, once the package has joined (R547). -/
def execPeerIdSend (P : Nat) (s : State) : Out' := storeless s <|
  let u := dieOfOpt P
  .next (s.ifOn u .torus fun t =>
    if (t.portRole P = 1 || t.portRole P = 3) && t.on u (portsStatUp (P % 2)) && t.on .pkg pkgStartStatJoined then
      t.originate P 0 { hdr := { kind := 5, len := 16 }, body := [t.rd u torusCoordTray, t.rd u torusCoordXyz, t.sizeCode] }
    else t)

/-- R309: a PEER_ID arrives. -/
def State.peerId (s : State) (P tray coord size : Nat) : State :=
  let u := dieOfOpt P
  let p := P % 2
  let s1 := (((s.wr u (portsPeerTray p) tray).wr u (portsPeerCoord p) coord).wr u (portsPeerSize p) size).wr u (peerAt p)
    (s.now + 1)
  if s.portRole P = 1 then
    if coord % 262144 = s.peerExpected P ∧ size = s.sizeCode then
      (s1.wr u (portsStatPeerMismatch p) 0).setUsable P (if 2 ≤ s.rd u (portsStatLanes p) then 1 else 0)
    else
      (((s1.wr u (portsStatPeerMismatch p) 1).setUsable P 0).inc u torusMiswireCount).event u .torus 0x0A07 2
        (pay [(P, 0), (coord % 262144, 4), (tray % 2048, 22)])
  else if s.on u (portsBypExpectValid p) && s.rd u (portsBypExpectTray p) == tray then
    (s1.wr u (portsStatPeerMismatch p) 0).setUsable P (if 2 ≤ s.rd u (portsStatLanes p) then 1 else 0)
  else
    ((s1.wr u (portsStatPeerMismatch p) 1).setUsable P 0).event u .torus 0x0A08 1
      (pay [(P, 0), (tray % 2048, 4), (s.rd u (portsBypExpectTray p), 15)])
def execPeerIdReceive (P tray coord size : Nat) (s : State) : Out' := storeless s <|
  .next (s.ifOn (dieOfOpt P) .torus fun t =>
    if t.on (dieOfOpt P) (portsStatUp (P % 2)) && (t.portRole P = 1 || t.portRole P = 3) then
      (t.controlArrived P 16).peerId P tray coord size
    else t)

/-- R309: no PEER_ID for 3 ms. -/
def execPeerIdTimeout (P : Nat) (s : State) : Out' := storeless s <|
  let at' := s.rd (dieOfOpt P) (peerAt (P % 2))
  .next (if s.on (dieOfOpt P) (portsStatUsable (P % 2)) && at' - 1 + 3 * ms ≤ s.now then (s.setUsable P 0).rootLost P else s)

/-- R309: after a write of BYP_EXPECT a port whose peer it no longer names is not usable. -/
def State.bypassFollow (s : State) (P : Nat) : State :=
  let u := dieOfOpt P
  if s.portRole P = 3 && !(s.on u (portsBypExpectValid (P % 2)) &&
      s.rd u (portsBypExpectTray (P % 2)) == s.rd u (portsPeerTray (P % 2))) then s.setUsable P 0
  else s

/-! ## Roles (R308) -/

/-- R308: whether a staged role is refused. -/
def State.roleRefused (s : State) (P role dim sign : Nat) : Bool :=
  let u := dieOfOpt P
  (role == 1 && (decide (s.shapeDims ≤ dim) ||
    s.optPorts.any fun Q => Q != P &&
      ((s.portRole Q == 1 && s.rd (dieOfOpt Q) (portsRoleDim (Q % 2)) == dim && s.rd (dieOfOpt Q) (portsRoleSign (Q % 2)) == sign) ||
       (s.rd (dieOfOpt Q) (portsRoleNext (Q % 2)) == 1 && s.rd (dieOfOpt Q) (portsRoleNextDim (Q % 2)) == dim &&
        s.rd (dieOfOpt Q) (portsRoleNextSign (Q % 2)) == sign)))) ||
  (P < 2 && role != 2 && s.rd u (portsRoleNext (1 - P)) != 2) ||
  (role == 0 && (List.range s.dies).any fun d => s.rd (.wdie d) timeCtrlPtpParent == P) ||
  (role != 1 && role != 3 && (List.range s.dies).any fun d => s.rd (.wdie d) timeCtrlMerParent == P)

/-- R308: a write of ROLEp with bits [12:8] of `value`. -/
def State.stageRole (s : State) (P value : Nat) : State :=
  let u := dieOfOpt P
  let p := P % 2
  if s.roleRefused P (bitsOf value 8 2) (bitsOf value 10 2) (bitsOf value 12 1) then s.pageErr u .ports 0x0100 1
  else ((s.wr u (portsRoleNext p) (bitsOf value 8 2)).wr u (portsRoleNextDim p) (bitsOf value 10 2)).wr
    u (portsRoleNextSign p) (bitsOf value 12 1)
def execPortRoleStage (P value : Nat) (s : State) : Out' := storeless s <| .next (s.stageRole P value)

/-- R308: the staged role of one port takes force. -/
def State.swapPort (s : State) (P : Nat) : State :=
  let u := dieOfOpt P
  let p := P % 2
  if s.rd u (portsRoleNext p) = s.rd u (portsRoleRole p) ∧ s.rd u (portsRoleNextDim p) = s.rd u (portsRoleDim p) ∧
     s.rd u (portsRoleNextSign p) = s.rd u (portsRoleSign p) then s
  else
    let s1 := (((s.clearPort P true).wr u (portsRoleRole p) (s.rd u (portsRoleNext p))).wr u (portsRoleDim p)
      (s.rd u (portsRoleNextDim p))).wr u (portsRoleSign p) (s.rd u (portsRoleNextSign p))
    (s1.wr u (portsStatPeerMismatch p) 0).setUsable P 0
def execTableSwapPorts (d : Nat) (s : State) : Out' := storeless s <| .next ((s.swapPort (2 * d)).swapPort (2 * d + 1))

end Sys2Proof.Machine
end

