-- ==== Sys2Proof/Machine/Package.lean ====
section
/-! DEFINITION. Spec 10 R293 to R306, R313 to R316: D2D links, election and exclusion, DRAM, optical engines, mirror
intake, BAR2. -/

namespace Sys2Proof.Machine

/-! ## D2D links, election, exclusion (R294 to R296) -/

/-- The dies that die 0 reaches, as a mask, after `n` more hops from those in `m`. -/
def State.reach (s : State) : Nat → Nat → Nat
  | 0, m => m
  | n + 1, m => s.reach n ((List.range s.dies).foldl (fun a d =>
      if (List.range s.d2dLinks).any fun k => bitAt m (d ^^^ 2 ^ k) = 1 && s.d2dUp d k then setBit a d else a) m)

/-- Since when a die has no path to die 0, plus 1. -/
def pathLostAt : Fld := cell .d2d 0

/-- PATH_OK of every die. -/
def State.pathsFollow (s : State) : State :=
  let m := s.reach 8 1
  (List.range s.dies).foldl (fun t d =>
    let u := Chip.wdie d
    if bitAt m d = 1 then (t.wr u d2dStatPathOk 1).wr u pathLostAt 0
    else (t.wr u d2dStatPathOk 0).wr u pathLostAt (if t.rd u pathLostAt = 0 then t.now + 1 else t.rd u pathLostAt)) s

/-- R294: link `k` of die `d` goes down, at both its ends. -/
def State.d2dDown (s : State) (d k : Nat) : State :=
  let f := if k = 0 then d2dLinkDownsL0 else if k = 1 then d2dLinkDownsL1 else d2dLinkDownsL2
  [d, d ^^^ 2 ^ k].foldl (fun t e => (t.clrB (.wdie e) d2dStatLinkUp k).inc (.wdie e) f) s
def execD2dLinkDown (d k : Nat) (s : State) : Out' := storeless s <|
  .next (if k < s.d2dLinks && s.d2dUp d k then (s.d2dDown d k).pathsFollow else s)

/-- R294: the link has retrained. -/
def execD2dRetrainDone (d k : Nat) (s : State) : Out' := storeless s <|
  .next (if k < s.d2dLinks then ([d, d ^^^ 2 ^ k].foldl (fun t e => t.setB (.wdie e) d2dStatLinkUp k) s).pathsFollow else s)

/-- An optical port dark: down at once, not usable, its held frames lost. -/
def State.portDark (s : State) (P : Nat) : State :=
  let u := dieOfOpt P
  let p := P % 2
  (((((s.wr u (portsStatUp p) 0).wr u (portsStatLanes p) 0).wr u (portsStatDegraded p) 0).heldLost u (8 + p)).setUsable P 0)

/-- A die excluded (R296): not present, its ports and links idle, its queued frames and contexts lost, DIE_EXCLUDED. -/
def State.excludeDie (s : State) (d reason : Nat) : State :=
  let s1 := s.wr .pkg pkgSizeDiePresent (clrBit (s.rd .pkg pkgSizeDiePresent) d)
  let s2 := [2 * d, 2 * d + 1].foldl (fun t P => (t.portDark P).clearPort P false) ((s1.wr (.wdie d) squelched 1).linksIdle d)
  ((s2.loseDie d).loseInsts d).event (.wdie 0) .d2d 0x0A01 2 (pay [(d, 0), (reason, 4)])

/-- R295: the election window closes: `straps` the strap of each die fitted, `failed` the strap values whose die failed
its start. -/
def State.elect (s : State) (straps : List Nat) (failed : Nat) : State :=
  let holders := fun (d : Nat) => straps.countP fun x => x == d
  let primary := holders 0 = 1 && bitAt failed 0 = 0
  if !primary then
    (List.range s.dies).foldl (fun t d => (t.wr (.wdie d) squelched 1).linksIdle d)
      ((s.wr .pkg pkgSizeDiePresent 0).wr (.wdie 0) d2dStatPrimary 0)
  else
    let s0 := (s.wr (.wdie 0) d2dStatPrimary 1).pathsFollow
    let reasonOf := fun (d : Nat) =>
      if 1 < holders d then some 1
      else if holders d = 0 || bitAt failed d = 1 then some 0
      else if !s0.on (.wdie d) d2dStatPathOk then some 2
      else none
    let inn := (List.range s.dies).filter fun d => d = 0 || (reasonOf d).isNone
    let s1 := s0.wr .pkg pkgSizeDiePresent (inn.foldl (fun a d => a + 2 ^ d) 0)
    let s2 := (List.range s.dies).foldl (fun t d =>
      if d = 0 then t else match reasonOf d with
        | some r => t.excludeDie d r
        | none => t) s1
    (straps.filter fun x => s.dies ≤ x).foldl (fun t x => t.event (.wdie 0) .d2d 0x0A01 2 (pay [(x % 8, 0), (1, 4)])) s2
def execElectionClose (straps : List Nat) (failed : Nat) (s : State) : Out' := storeless s <|
  .next (s.elect straps failed)

/-- R296: 10 ms without a path, or more than 1 s in the safe state. -/
def execDiePathLoss (d : Nat) (s : State) : Out' := storeless s <|
  let u := Chip.wdie d
  if d = 0 || !s.present d then .next s
  else if s.rd u pathLostAt ≠ 0 && s.rd u pathLostAt - 1 + 10 * ms ≤ s.now then .next (s.excludeDie d 2)
  else if s.on u pwrStatSafe && s.rd u safeSince - 1 + sec < s.now then .next (s.excludeDie d 3)
  else .next s

/-! ## DRAM (R299 to R302) -/

/-- An uncorrectable error in `line` of die `d`: poisoned, counted, DRAM_UNCORR, an unrecovered fault of the channel. -/
def State.dramLineLost (s : State) (d ch cls line : Nat) : State :=
  let u := Chip.wdie d
  let a := line * 64
  let s1 := ((s.poison (lineOf (dieAddr d a))).inc u dramcEccUncorrLines).inc u dramcEccUncorrPoisonReads
  let s2 := ((s1.wr u dramcLastUncorrAddr a).wr u dramcLastInfoChannel ch).wr u dramcLastInfoClass cls
  s2.event u .dramc 0x0A02 2 (pay [(ch, 0), (cls, 3), (a, 64)])

/-- R299 to R301: a read finds an error: one bit, corrected, a recovered fault where it recurs on the line within 24 h;
or more (`unc`, or a link ECC failure), which poisons the line, or with `check` every line of its check line. -/
def State.dramError (s : State) (d addr cls : Nat) (unc check link : Bool) : State :=
  let u := Chip.wdie d
  let ch := (s.dramPlace d addr).1
  let line := addr / 64
  if unc || link then
    let s1 := if link then s.inc u dramcLinkEccUncorr else s
    let lines := if check then (List.range 8).map fun i => line / 8 * 8 + i else [line]
    (lines.foldl (fun t l => t.dramLineLost d ch cls l) s1).chanFault u (0x10 + ch) 0x0A02 0 false false true
  else
    let k := lineOf (dieAddr d addr)
    let again := (look k s.corrected).any fun t => s.now < t + 86400 * sec
    let s1 := { s with corrected := put k s.now s.corrected }.inc u dramcEccCorrCount
    if again then s1.chanFault u (0x10 + ch) 0 0 false false false else s1

/-- R302: a class cap written; refused where the sum would lie above the limit and the cap rises. -/
def State.writeCap (s : State) (d k value : Nat) : State :=
  let u := Chip.wdie d
  let cap := bitsOf value 0 16
  let old := s.rd u (dramcBwCapCap k)
  if capLimit (popCount 8 (s.keptChannels u)) < s.capSum u - old + cap && old < cap then s.pageErr u .dramc 0x0100 1
  else
    let s1 := s.wr u (dramcBwCapCap k) cap
    if k = 3 then s1 else s1.wr u (dramcBwCapHard k) (bitAt value 16)
def execDramBwCapWrite (d k value : Nat) (s : State) : Out' := storeless s <|
  .next (if k < 6 then s.writeCap d k value else s)

/-! ## The optical engines (R303 to R306) -/

/-- The half in use of a port on two lanes: 0 lanes 0–1, 1 lanes 2–3. -/
def halfUsed (p : Nat) : Fld := cell .opt (8 + p)

/-- A fault of an optical port's channel. -/
def State.portFault (s : State) (P cause : Nat) : State :=
  s.chanFault (dieOfOpt P) (8 + P % 2) cause 0 false (s.prismArmedOn (P / 2) (8 + P % 2))

/-- R441: an unplanned link-down; the withdrawal of a bypass circuit whose VALID is cleared is planned (R309). -/
def State.optDown (s : State) (P cause : Nat) : State :=
  let s1 := (s.portDark P).rootLost P
  if s.portRole P = 3 && !s.on (dieOfOpt P) (portsBypExpectValid (P % 2)) then s1 else s1.portFault P cause
def execOpticalLinkDown (P : Nat) (s : State) : Out' := storeless s <|
  .next (if s.on (dieOfOpt P) (portsStatUp (P % 2)) then s.optDown P 0 else s)

/-- The widest lane count of a port: four, half in Dusk, and on die 0's uplink one in Midnight (Table 4.13). -/
def State.lanesAllowed (s : State) (P : Nat) : Nat :=
  match s.mode (dieOfOpt P) with
  | .dusk => 2
  | .midnight => if P = 1 then 1 else 0
  | _ => 3

/-- The link of a port up on `code` lanes (1 one, 2 two, 3 four): cells counted afresh, the peer's pools in force. -/
def State.optUp (s : State) (P code : Nat) : State :=
  let u := dieOfOpt P
  let p := P % 2
  let s1 := ((s.wr u (portsStatUp p) 1).wr u (portsStatLanes p) code).wr u (portsStatDegraded p)
    (if code = 2 ∧ s.lanesAllowed P = 3 then 1 else 0)
  (List.range 8).foldl (fun t q => (((t.wr u (cellsSent p q) 0).wr u (cellsPeer p q) 0).wr u (cellsFreed p q) 0).wr u
    (cellsPool p q) (t.rd u (schedQueueBufPool p q))) s1

/-- R309: a port's link comes up on four lanes or two; not a retired port's, a dark one's or an absent die's. -/
def execOpticalLinkUp (P lanes : Nat) (s : State) : Out' := storeless s <|
  let u := dieOfOpt P
  let code := min (if lanes = 4 then 3 else if lanes = 2 then 2 else 1) (s.lanesAllowed P)
  .next (if s.on u (portsStatRetired (P % 2)) || s.on u squelched || !s.present (P / 2) || s.portRole P = 0 ||
            !s.bit u optElsOutOk (P % 2) || s.on (.wdie 0) optElsSwapPrep || code = 0 then s
         else s.optUp P code)

/-- R304: an ELS output is lost. -/
def execElsOutputLoss (P : Nat) (s : State) : Out' := storeless s <|
  let u := dieOfOpt P
  .next (if s.bit u optElsOutOk (P % 2) then
    (((s.clrB u optElsOutOk (P % 2)).portDark P).portFault P 0x0A05).event u .opt 0x0A05 2 (pay [(P, 0)])
    else s)

/-- R304: the output is lit again; the port retrains. -/
def execElsOutputRestored (P : Nat) (s : State) : Out' := storeless s <| .next (s.setB (dieOfOpt P) optElsOutOk (P % 2))

/-- R304: SWAP_PREP; on die 0 a 1 takes every port down as planned. -/
def State.swapPrep (s : State) (d value : Nat) : State :=
  let s1 := s.wr (.wdie d) optElsSwapPrep value
  if d = 0 && value % 2 = 1 && s.enabled (.wdie 0) .opt then s1.optPorts.foldl (fun t P => t.portDark P) s1 else s1
def execElsSwapPrep (d value : Nat) (s : State) : Out' := storeless s <| .next (s.swapPrep d value)

/-- R306: lane `lane` of a port fails: to the other half, or down. -/
def State.laneFail (s : State) (P lane : Nat) : State :=
  let u := dieOfOpt P
  let p := P % 2
  let l := lane % 4
  match s.rd u (portsStatLanes p) with
  | 3 =>
    let half := if l < 2 then 1 else 0
    ((((s.wr u (portsStatLanes p) 2).wr u (portsStatDegraded p) 1).wr u (halfUsed p) half).portFault P 0x0A06).event u .ports
      0x0A06 1 (pay [(P, 0), (half, 4), (l, 6)])
  | 2 => if l / 2 = s.rd u (halfUsed p) then s.optDown P 0 else s
  | 1 => if l = 0 then s.optDown P 0 else s
  | _ => s
def execOptLaneFail (P lane : Nat) (s : State) : Out' := storeless s <| .next (s.laneFail P lane)

/-- R305: a lane's monitor stays outside the capture range: a failed lane. -/
def execRingLockLoss (d lane : Nat) (s : State) : Out' := storeless s <|
  let u := Chip.wdie d
  .next (if lane < 8 && s.bit u optSweepLocked lane then
    ((s.clrB u optSweepLocked lane).inc u optLockLossCount).laneFail (2 * d + lane / 4) (lane % 4)
    else s)

/-- R305: the named lanes are swept. -/
def State.sweep (s : State) (d lanes : Nat) : State :=
  let u := Chip.wdie d
  (s.wr u optSweepBusy (s.rd u optSweepBusy ||| lanes)).wr u optSweepLocked (andNot (s.rd u optSweepLocked) lanes)
def execOptSweepStart (d lanes : Nat) (s : State) : Out' := storeless s <|
  .next (s.ifOn (.wdie d) .opt (·.sweep d (lanes % 256)))

/-- R305: a swept lane locks: the code in use, kept for warm start. -/
def execOptSweepDone (d lane heater : Nat) (s : State) : Out' := storeless s <|
  let u := Chip.wdie d
  .next (if lane < 8 && s.bit u optSweepBusy lane then
    ((((s.clrB u optSweepBusy lane).setB u optSweepLocked lane).wr u (optLaneHeater lane) heater).wr u (optLaneStored lane)
      heater).wr u (optLaneStoredValid lane) 1
    else s)

/-! ## Mirror intake (R313, R314) -/

/-- The highest stamp accepted and the last released, plus 1, in nanoseconds. -/
def mirrorTop : Fld := cell .mirror 0
def mirrorLast : Fld := cell .mirror 1

/-- A sample as it is laid out in the frame (Table 10.12), `late` in its reserved byte 14. -/
def sampleBytes (x : MirrorSample) (late : Bool) : List Nat :=
  leBytes 10 (x.sec % 2 ^ 48 + x.ns % 2 ^ 30 * 2 ^ 48) ++ leBytes 2 x.port ++ leBytes 2 x.data.length ++ [late.toNat, 0] ++
  x.data ++ List.replicate ((8 - x.data.length % 8) % 8) 0

/-- A sample handed to the mirror context, of job 0 and die index tray × 64. -/
def State.mirrorGive (s : State) (h : MirrorHeld) : State :=
  (s.arriveKey 0 0 (s.rd (.wdie 0) torusCoordTray * 64) 0x10 h.pre h.body.length none h.body).1

/-- The window set, HELD with it. -/
def State.setMirror (s : State) (l : List MirrorHeld) : State :=
  { s with mirrorWin := l }.wr (.wdie 0) mirrorHeldSamples l.length

/-- A sample inserted after those of no later stamp. -/
def insertSample (h : MirrorHeld) : List MirrorHeld → List MirrorHeld
  | [] => [h]
  | g :: r => if g.stamp ≤ h.stamp then g :: insertSample h r else h :: g :: r

/-- The oldest sample of the window released. -/
def State.mirrorOldest (s : State) : State :=
  match s.mirrorWin with
  | [] => s
  | h :: r => ((s.setMirror r).wr (.wdie 0) mirrorLast (h.stamp + 1)).mirrorGive h

/-- R314: one sample accepted. -/
def State.mirrorTake (s : State) (pre : Nat) (x : MirrorSample) : State :=
  let u := Chip.wdie 0
  let st := x.sec * 1000000000 + x.ns
  let s1 := (s.inc u mirrorAcceptedCount).wr u mirrorTop (max (s.rd u mirrorTop) (st + 1))
  if st + 1 < s.rd u mirrorLast then (s1.inc u mirrorOrderLate).mirrorGive ⟨st, sampleBytes x true, pre⟩
  else
    let s2 := if 8192 ≤ s1.mirrorWin.length then (s1.inc u mirrorOrderEarly).mirrorOldest else s1
    s2.setMirror (insertSample ⟨st, sampleBytes x false, pre⟩ s2.mirrorWin)

/-- R313: a mirror frame on package optical port `P`, coloured by its port's policer. -/
def execMirrorFrame (P switch : Nat) (samples : List MirrorSample) (malformed : Bool) (s : State) : Out' := storeless s <|
  let u := Chip.wdie 0
  let bad := malformed || samples.isEmpty || decide (64 < samples.length) || s.portRole P != 2 ||
    samples.any fun x => x.data.isEmpty || decide (128 < x.data.length)
  .next (s.ifOn u .mirror fun t =>
    if !t.on u mirrorCtrlEnable then t
    else if bad then t.inc u mirrorRejectedMalformed
    else if !(List.range 32).any fun k => t.on u (mirrorSwitchValid k) && t.rd u (mirrorSwitchSwitchId k) == switch then
      t.inc u mirrorRejectedUnknownSwitch
    else
      let r := t.portColour (P / 2) (8 + P % 2) (8 + (samples.map fun x => (sampleBytes x false).length).sum)
      samples.foldl (fun a x => a.mirrorTake r.1 x) (State.cross 8 (P / 2) 0 r.2))

/-- The samples at the front of the window that are due. -/
def State.mirrorDrain : Nat → State → State
  | 0, s => s
  | n + 1, s =>
    let u := Chip.wdie 0
    match s.mirrorWin.head? with
    | none => s
    | some h =>
      if s.rd u mirrorCtrlOrderUs = 0 || h.stamp + s.rd u mirrorCtrlOrderUs * us + 1 < s.rd u mirrorTop then
        State.mirrorDrain n s.mirrorOldest
      else s

/-- R314: samples older than ORDER_US behind the highest stamp released in order. -/
def execMirrorSampleRelease (s : State) : Out' := storeless s <|
  .next (s.ifOn (.wdie 0) .mirror fun t => State.mirrorDrain t.mirrorWin.length t)

/-! ## BAR2 (R316) -/

/-- R316: the window moved, or the write refused. -/
def State.bar2Base (s : State) (value : Nat) : State :=
  if s.dies * 64 < value % 512 + 64 then s.pageErr (.wdie 0) .pcie 0x0100 1 else s.wr (.wdie 0) pcieBar2BaseGib value
def execBar2BaseWrite (value : Nat) (s : State) : Out' := storeless s <| .next (s.bar2Base value)

/-- An access answered with an error, recorded in the TOP page of die `d` (spec 02 Table 2.4). -/
def State.addrErr (s : State) (d addr : Nat) (write : Bool) : State :=
  ((s.inc (.wdie d) topWAddrErrCountCount).wr (.wdie d) topWAddrErrLastAddr addr).wr (.wdie d) topWAddrErrLastWrite write.toNat

/-- A PCIe access that draws an error: a read completes with Completer Abort, a posted write is discarded (R59). -/
def State.pcieError (s : State) (write : Bool) : State :=
  s.answer (.wdie 0) 0 write true 0

/-- The lines of an access. -/
def linesOf (a len : Nat) : List Nat := (List.range (len / 64 + 2)).filterMap fun i =>
  if (a / 64 + i) * 64 < a + len then some (a / 64 + i) else none

/-- R316, R300: a host access of `len` bytes at BAR2 offset `addr`. -/
def State.bar2 (s : State) (write : Bool) (addr len data : Nat) (poisoned : Bool) : State :=
  let a := s.rd (.wdie 0) pcieBar2BaseGib * 1073741824 + addr
  let d := a / 68719476736
  let e := a + len - 1
  if 68719476736 < addr + len || s.dies ≤ d || !s.present d || s.rd (.wdie d) dramcCapGib * 1073741824 ≤ e - d * 68719476736 then
    (s.addrErr 0 addr write).pcieError write
  else
    let s1 := State.cross 8 0 d s
    let ls := linesOf a len
    if write then
      if poisoned then s1.inc (.wdie 0) pciePoisonReceived
      else
        let s2 := State.dramStore (bytesLE len data) a s1
        ls.foldl (fun t l => if a ≤ l * 64 && l * 64 + 64 ≤ a + len then t.unpoison l else t) s2
    else
      let v := s1.dramNum len a
      if ls.any fun l => s1.poisoned.contains l then
        (((ls.filter fun l => s1.poisoned.contains l).foldl (fun t _ => t.inc (.wdie d) dramcEccUncorrPoisonReads) s1).inc
          (.wdie 0) pciePoisonSent).emit (.poisoned v)
      else s1.respond (.wdie 0) 0 false v
def execBar2Access (write : Bool) (addr len : Nat) (data : Nat) (poisoned : Bool) (s : State) : Out' := keeping s <|
  .next (if len = 0 then s else s.bar2 write addr len data poisoned)

end Sys2Proof.Machine
end

