-- ==== Sys2Proof/Machine/Route.lean ====
section
/-! DEFINITION. Spec 01 R28 to R46 and spec 10 R297: the translation table and its page, translation of frames, flows
through the spine. -/

namespace Sys2Proof.Machine

/-! ## Translation entries (R30) -/

/-- An entry as its 128 bits (Table 1.4). -/
def Xlat.bits (e : Xlat) : Nat :=
  e.job + e.key * 2 ^ 16 + (if e.flat then 2 ^ 40 else 0) + 2 ^ 41 + e.dieIndex * 2 ^ 48 + e.x * 2 ^ 65 + e.y * 2 ^ 71 +
  e.z * 2 ^ 77 + e.gen * 2 ^ 96

/-- The entry of 128 bits, at an index. -/
def xlatOf (v index : Nat) : Xlat :=
  ⟨index, bitsOf v 0 16, bitsOf v 16 24, bitAt v 40 == 1, bitsOf v 48 17, bitsOf v 65 6, bitsOf v 71 6, bitsOf v 77 6, bitsOf v 96 32⟩

/-- The four words of E_ENTRY. -/
def State.eEntry (s : State) : Nat := ((List.range 4).map fun k => s.rd .pkg (pkgrEEntryWord k) * 2 ^ (32 * k)).sum
def State.setEEntry (s : State) (v : Nat) : State := (List.range 4).foldl (fun t k => t.wr .pkg (pkgrEEntryWord k) (v / 2 ^ (32 * k))) s

/-- The package DRAM address of entry `i` on die `d`: its master copy or replica. -/
def State.entryAddr (s : State) (d i : Nat) : Nat := dieAddr d (s.rd .pkg pkgrTblBaseAddr + 16 * i)

/-- Entry `i` of master and replicas stored as 16 bytes. -/
def State.storeEntry (s : State) (i v : Nat) : State :=
  (List.range s.dies).foldl (fun t d => if t.present d then State.dramStore (bytesLE 16 v) (t.entryAddr d i) t else t) s

/-- A lookup met a poisoned line of die `d`: ROUTE_POISON; die 0 rewrites the line, from the master copy, or the master
copy's own from the lowest present replica (R297). -/
def State.routePoison (s : State) (d i : Nat) : State :=
  let s1 := (s.event .pkg .pkgroute 0x0A04 2 (pay [(i, 0), ((if d = 0 then 1 else 0), 32)])).int .pkg .pkgroute 1
  let line := fun (e : Nat) => lineOf (s.entryAddr e i)
  let good := fun (e : Nat) => s.present e && !s.poisoned.contains (line e)
  if d = 0 then (if (List.range s.dies).any fun e => e ≠ 0 && good e then s1.unpoison (line 0) else s1)
  else if good 0 then s1.unpoison (line d)
  else s1

/-- R31, R297: the valid entry that die `d` finds; none also where its line is poisoned. -/
def State.translate (s : State) (d job key : Nat) (flat : Bool) : Option Xlat × State :=
  match s.xlat.find? fun e => e.key == key && e.flat == flat && e.job == (if flat then 0 else job) with
  | none => (none, s)
  | some e =>
    if s.poisoned.contains (lineOf (s.entryAddr d e.index)) then (none, s.routePoison d e.index) else (some e, s)

/-! ## The PKGROUTE page (R46) -/

/-- A command completes. -/
def State.routeResult (s : State) (r : Nat) : State := ((s.wr .pkg pkgrCmdResult r).wr .pkg pkgrCmdBusy 0).int .pkg .pkgroute 0

/-- The native entries staged. -/
def State.natStaged (s : State) : List Xlat := s.jobStage.flatMap fun j => j.cfg.entries

/-- STAGED_COUNT. -/
def State.stagedCount (s : State) : State :=
  s.wr .pkg pkgrStagedCountEntries (s.flatStage.length + s.natStaged.length + s.natDel.length)

/-- The entries in force and staged together, as a swap would leave them. -/
def State.entriesAfter (s : State) (stage : List (Nat × Option Xlat)) (nat : List Xlat) : Nat :=
  let kept := s.xlat.filter fun e => !e.flat || !stage.any fun c => c.1 == e.key
  kept.length + (stage.filter fun c => c.2.isSome).length + nat.length

/-- R46: ADD. -/
def State.routeAdd (s : State) : State :=
  let v := s.eEntry
  let e := xlatOf v 0
  if !e.flat || bitAt v 41 = 0 || e.job ≠ 0 || e.key = 0xFFFFFF then s.routeResult 3
  else
    let stage := put e.key (some e) s.flatStage
    if s.rd .pkg pkgrTblCapEntries < s.entriesAfter stage s.natStaged then s.routeResult 2
    else ({ s with flatStage := stage }.stagedCount).routeResult 0
def execPkgrouteAdd (s : State) : Out' := storeless s <| .next s.routeAdd

/-- R46: REMOVE. -/
def State.routeRemove (s : State) : State :=
  let k := (xlatOf s.eEntry 0).key
  let held := s.xlat.any fun e => e.flat && e.key == k
  let staged := (look k s.flatStage).any fun c => c.isSome
  if !held && !staged then s.routeResult 1
  else ({ s with flatStage := if held then put k none s.flatStage else drop k s.flatStage }.stagedCount).routeResult 0
def execPkgrouteRemove (s : State) : Out' := storeless s <| .next s.routeRemove

/-- R46, Table 1.5: LOOKUP. -/
def State.routeLookup (s : State) : State :=
  let e := xlatOf s.eEntry 0
  if !e.flat && e.job = 0 then (s.inc .pkg pkgrCnt0ReqUntrans).routeResult 1
  else
    match s.translate 0 e.job e.key e.flat with
    | (some x, t) => ((t.setEEntry x.bits).wr .pkg pkgrEIndexIdx x.index).routeResult 0
    | (none, t) => (t.inc .pkg pkgrCnt0ReqUntrans).routeResult 1
def execPkgrouteLookup (s : State) : Out' := storeless s <| .next s.routeLookup

/-- R46: DISCARD_STAGED. -/
def execPkgrouteDiscardStaged (s : State) : Out' := storeless s <|
  .next (({ s with flatStage := [] }.stagedCount).routeResult 0)

/-- R46, R297: REWRITE: the entry, and its line without poison, in master and replicas. -/
def State.routeRewrite (s : State) : State :=
  let v := s.eEntry
  let i := s.rd .pkg pkgrEIndexIdx
  let e := xlatOf v i
  if e.gen ≠ s.rd .pkg pkgrGenInForce || s.rd .pkg pkgrTblCapEntries ≤ i then s.routeResult 3
  else
    let rest := s.xlat.filter fun x => x.index != i
    let s1 := { s with xlat := if bitAt v 41 = 1 then rest ++ [e] else rest }.storeEntry i v
    ((List.range s.dies).foldl (fun t d => t.unpoison (lineOf (t.entryAddr d i))) s1).routeResult 0
def execPkgrouteRewrite (s : State) : Out' := keeping s <| .next s.routeRewrite

/-! ## The ROUTE swap (R32, R46, R297, R320) -/

/-- The lowest index not taken. -/
def freeIndex (l : List Xlat) : Nat := ((List.range (l.length + 1)).find? fun i => !l.any fun e => e.index == i).getD 0

/-- An entry enters the table in force, in the place of one of its key. -/
def State.enterXlat (s : State) (gen : Nat) (e : Xlat) : State :=
  let same := fun (x : Xlat) => x.flat == e.flat && x.key == e.key && x.job == e.job
  let i := ((s.xlat.find? same).map fun x => x.index).getD (freeIndex s.xlat)
  let e' := { e with index := i, gen := gen }
  { s with xlat := (s.xlat.filter fun x => !same x) ++ [e'] }.storeEntry i e'.bits

/-- The entries that `p` takes leave the table. -/
def State.leaveXlat (s : State) (p : Xlat → Bool) : State :=
  (s.xlat.filter p).foldl (fun t e => t.storeEntry e.index 0) { s with xlat := s.xlat.filter fun e => !p e }

/-- R320: after a swap, the contexts of a port whose job changed. -/
def State.jobFollow (s : State) (was : State) (p : Nat) : State :=
  let die := s.dieIndex p
  let j0 := was.nativeJob die
  let j1 := s.nativeJob die
  if j0 = j1 then s
  else
    let s1 := if s.on (dieOfPort p) (linkSeen (linkOfPort p)) then (s.drainDie die j0).openPort p else s
    if s1.on (dieOfPort p) (ltlStatUp (linkOfPort p)) then s1.putGovJob p else s1

/-- Whether an instant of die 0's base has come. -/
def State.instantCame (s : State) (t : Nat) : Bool := decide (t ≤ s.timeIn (.wdie 0) (s.rd (.wdie 0) timeCtrlBase))

/-- R402: a job's entries leave force: its instances are discarded. -/
def State.leaveJob (s : State) (job : Nat) : State :=
  let s1 := (s.leaveXlat fun e => !e.flat && e.job == job).discardJob job
  { s1 with jobs := s1.jobs.filter fun c => c.job != job }

/-- R400: a staged job's entries take force, in the place of earlier ones of the job. -/
def State.enterJob (s : State) (gen : Nat) (c : JobCfg) : State :=
  let s1 := s.leaveXlat fun e => !e.flat && e.job == c.job
  let s2 := c.entries.foldl (fun t e => t.enterXlat gen e) s1
  { s2 with jobs := (s2.jobs.filter fun x => x.job != c.job) ++ [c] }

/-- A TABLE_SWAP of ROUTE: the staged generation takes force on every die: the flat changes, and the jobs whose COMMIT or
END names an instant that has come. -/
def State.swapRoute (s : State) : State :=
  let gen := s.rd .pkg pkgrStagedGen
  let gone := s.natDel.filter fun e => s.instantCame e.2
  let came := s.jobStage.filter fun j => j.instant.any fun t => s.instantCame t
  let s1 := gone.foldl (fun t e => t.leaveJob e.1) s
  let s2 := s.flatStage.foldl (fun t c => match c.2 with
    | some e => t.enterXlat gen e
    | none => t.leaveXlat fun e => e.flat && e.key == c.1) s1
  let s3 := came.foldl (fun t j => t.enterJob gen j.cfg) s2
  let left := s.jobStage.filter fun j => !(j.instant.any fun t => s.instantCame t)
  let s4 := { s3 with flatStage := [], jobStage := left, natDel := s.natDel.filter fun e => !s.instantCame e.2 }
  let s5 := s4.stagedCount.wr .pkg pkgrGenInForce gen
  (List.range (8 * s.dies)).foldl (fun t p => t.jobFollow s p) s5
def execTableSwapRoute (s : State) : Out' := keeping s <| .next s.swapRoute

/-! ## Translation of frames (R31, R33) -/

/-- Table 1.5: an untranslatable frame, dropped. -/
def State.untranslatable (s : State) (cnt : Fld) (key : Nat) (flat : Bool) (job : Nat) : State :=
  (s.inc .pkg cnt).event .pkg .pkgroute 0x0101 1 (pay [(key, 0), (flat.toNat, 24), (job, 32)])

/-- R31, Table 1.5: a frame that enters the fabric at die `d`, of a host or firmware request or from a hub or the spine,
names a rank of a job or a flat identifier; `q` is the egress queue of a request's frame. -/
def State.ingress (s : State) (d : Nat) (request flat : Bool) (job key q : Nat) (frame : FabricFrame) : State :=
  if !flat && job = 0 then s.untranslatable pkgrCnt2Job0Rank key false 0
  else
    match (if flat && key = 0xFFFFFF then (none, s) else s.translate d job key flat) with
    | (some e, t) =>
      let f := { frame with hdr := { frame.hdr with job := job, rank := if flat then frame.hdr.rank else key,
                                                    dieIndex := e.dieIndex, dst := e.x + 64 * e.y + 4096 * e.z } }
      if request then t.torusSend d q f else t.takeHop d (transitQueue f.hdr.kind) f none false
    | (none, t) =>
      if request then (t.inc .pkg pkgrCnt0ReqUntrans).respond .pkg 0 true 1
      else t.untranslatable (if flat then pkgrCnt0FlatDrop else pkgrCnt0ReqUntrans) key flat job
def execFabricFrameIngress (d : Nat) (request flat : Bool) (job key q : Nat) (frame : FabricFrame) (s : State) : Out' := storeless s <|
  .next (s.ingress d request flat job key (q % 8) frame)

/-! ## Flows through the spine (R41, R43) -/

/-- The receive age limit and the reorder window, in nanoseconds and frames, and the counts AGED, LATE and DUPLICATE. -/
def ageLimit : Fld := cell .pkgroute 1 1000000
def windowNs : Fld := cell .pkgroute 2 500000
def windowFrames : Fld := cell .pkgroute 3 1024
def agedCount : Fld := cell .pkgroute 4
def lateCount : Fld := cell .pkgroute 5
def duplicateCount : Fld := cell .pkgroute 6

def isFlow (source flow : Nat) (r : RxFlow) : Bool := r.source == source && r.flow == flow
def State.rxFlow (s : State) (source flow : Nat) : Option RxFlow := s.rxFlows.find? (isFlow source flow)
def State.setRxFlow (s : State) (r : RxFlow) : State :=
  { s with rxFlows := (s.rxFlows.filter fun x => !isFlow r.source r.flow x) ++ [r] }

/-- A frame put in SEQ order among those held, from `start` on. -/
def insertHeld (start : Nat) (q : Nat) (f : FabricFrame) : List (Nat × FabricFrame) → List (Nat × FabricFrame)
  | [] => [(q, f)]
  | (q', f') :: r => if (q + 2 ^ 32 - start) % 2 ^ 32 < (q' + 2 ^ 32 - start) % 2 ^ 32 then (q, f) :: (q', f') :: r
                     else (q', f') :: insertHeld start q f r

/-- The held frames that follow on from the next SEQ, delivered on die 0's side of the package. -/
def State.deliverRun : Nat → RxFlow → State → RxFlow × State
  | 0, r, s => (r, s)
  | n + 1, r, s =>
    match r.held with
    | (q, f) :: rest =>
      if q = r.next then
        State.deliverRun n { r with next := (q + 1) % 2 ^ 32, held := rest, last := s.now, windowAt := 0 }
          (s.emit (.delivered 0 f.hdr f.body))
      else ({ r with windowAt := if r.windowAt = 0 then s.now + 1 else r.windowAt }, s)
    | [] => ({ r with windowAt := 0 }, s)

/-- R41: the window closes: every gap's frames are lost, all held ones are delivered. -/
def State.closeWindow : Nat → RxFlow → State → RxFlow × State
  | 0, r, s => (r, s)
  | n + 1, r, s =>
    match r.held with
    | [] => ({ r with windowAt := 0, started := true }, s)
    | (q, _) :: _ =>
      let gap := (q + 2 ^ 32 - r.next) % 2 ^ 32
      let r1 := { r with lost := r.lost ++ (List.range gap).map (fun i => (r.next + i) % 2 ^ 32), next := q, started := true }
      let x := State.deliverRun r.held.length r1 s
      State.closeWindow n x.1 x.2

/-- A flow's window is closed when it holds its frames or is old enough. -/
def State.windowDue (s : State) (r : RxFlow) : Bool :=
  decide (s.rd .pkg windowFrames ≤ r.held.length) || (r.windowAt ≠ 0 && decide (r.windowAt - 1 + s.rd .pkg windowNs ≤ s.now))

/-- R43: whether a frame is too old. -/
def State.aged (s : State) (u : Chip) (h : FabricHdr) : Bool :=
  let own := (s.ltcOf u).nsTotal % 2 ^ 48
  decide (s.rd .pkg ageLimit < (own + 2 ^ 48 - h.created) % 2 ^ 48) && h.timeLocked &&
  (s.on u timeStatFleetLock || s.on u timeStatLocalLock)

/-- R41: a frame of a flow: held or delivered in order, or dropped as LATE or DUPLICATE. -/
def State.flowFrame (s : State) (source : Nat) (f : FabricFrame) : State :=
  let h := f.hdr
  let r := (s.rxFlow source h.flow).getD { source := source, flow := h.flow, next := h.seq, windowAt := s.now + 1, last := s.now }
  let behind := (seqAhead r.next h.seq).isNone
  if r.held.any fun e => e.1 == h.seq then s.inc .pkg duplicateCount
  else if !r.started then
    let start := if behind then h.seq else r.next
    let r1 := { r with next := start, held := insertHeld start h.seq f r.held }
    if s.windowDue r1 then
      let x := State.closeWindow (r1.held.length + 1) r1 s
      x.2.setRxFlow x.1
    else s.setRxFlow r1
  else if behind then
    if r.lost.contains h.seq then (s.setRxFlow { r with lost := r.lost.erase h.seq }).inc .pkg lateCount
    else s.inc .pkg duplicateCount
  else
    let x := State.deliverRun (r.held.length + 1) { r with held := insertHeld r.next h.seq f r.held } s
    if x.2.windowDue x.1 then
      let y := State.closeWindow (x.1.held.length + 1) x.1 x.2
      y.2.setRxFlow y.1
    else x.2.setRxFlow x.1

/-- R41, R43: a frame received through the spine on an UPLINK port. -/
def execSpineFrameReceive (P source : Nat) (frame : FabricFrame) (s : State) : Out' := storeless s <|
  let u := dieOfOpt P
  .next (if !s.on u (portsStatUp (P % 2)) || s.portRole P ≠ 2 then s
    else if s.aged u frame.hdr then s.inc .pkg agedCount
    else s.flowFrame source frame)

def execReorderWindowClose (source flow : Nat) (s : State) : Out' := storeless s <|
  .next (match s.rxFlow source flow with
    | some r =>
      if s.windowDue r then
        let x := State.closeWindow (r.held.length + 1) r s
        x.2.setRxFlow x.1
      else s
    | none => s)

/-- R41: a flow that has delivered no frame for 100 ms is closed. -/
def execSpineFlowClose (source flow : Nat) (s : State) : Out' := storeless s <|
  .next (match s.rxFlow source flow with
    | some r => if r.last + 100 * ms ≤ s.now then { s with rxFlows := s.rxFlows.filter fun x => !isFlow source flow x } else s
    | none => s)

/-- R41: an identifier whose flow has sent no frame for 100 ms is freed. -/
def execFlowIdFree (d id : Nat) (s : State) : Out' := storeless s <|
  .next (match (s.flowsOf d).find? fun f => f.id == id with
    | some f =>
      if f.last + 100 * ms ≤ s.now then
        (s.setFlows d ((s.flowsOf d).filter fun g => g != f)).setFlowFree d (s.flowFreeOf d ++ [id])
      else s
    | none => s)

end Sys2Proof.Machine
end

