-- ==== Sys2Proof/Machine/Merge.lean ====
section
/-! DEFINITION. Spec 13 R374 to R396: reduction instances, contributions, partials, results; spec 08 R257, R260: the
lockstep rules at a job's root; spec 07 R235, R239: what follows a checkpoint count and a digest comparison. -/

namespace Sys2Proof.Machine

/-! ## Feeds and trees of an instance (R375, R387) -/

/-- Whether the Merge engine of a die works: enabled, and not in Midnight (spec 04 Table 4.13). -/
def State.mergeOn (s : State) (d : Nat) : Bool :=
  s.enabled (.wdie d) .merge && s.mode (.wdie d) != .midnight && !s.stopped d

/-- The set of an instance that a rank's contribution goes to; none for a rank outside the feed's set. -/
def feedSet (f : Feed) (group : Nat) : Option Nat :=
  if f.set = 255 then (if group = 0 then none else some group)
  else if f.set = 0 || f.set = group then some f.set else none

/-- The operations of a feed. -/
def feedOps (f : Feed) : List Nat := (List.range 10).filter fun op => op != 0 && bitAt f.mask op == 1

/-- K of a feed, within 1 to 64. -/
def Feed.kk (f : Feed) : Nat := max 1 (min 64 f.k)

/-- The dies in the order of R394's rendezvous. -/
def State.mergeRank (s : State) (job set op sub tag : Nat) : List Nat :=
  let k := mix64 (tag * 2 ^ 32 + job * 65536 + sub) ^^^ (set * 16 + op)
  let sc := fun (d : Nat) => mix64 ((k ^^^ s.rd (.wdie 0) routeCtxSeedSeed) ^^^ (d * 0x9E3779B97F4A7C15 % 2 ^ 64))
  ((List.range s.dies).filter fun d => s.present d).foldl (fun l d => insertDie sc d l) []

/-- A free slot of a die: those beyond the number taken hold at least one. -/
def State.instSlot (s : State) (d : Nat) : Option Nat :=
  let used := (s.insts.filter fun i => i.die == d).map fun i => i.slot
  if 16384 ≤ used.length then none else (List.range (used.length + 1)).find? fun i => !used.contains i

/-- The instant of epoch TAG nearest to a time of base `b` (R390). -/
def epochInstant (b now tag : Nat) : Nat :=
  let e := now / epochUnit b
  let back := (e + 2 ^ 32 - tag % 2 ^ 32) % 2 ^ 32
  (if back < 2 ^ 31 then e - back else e + (2 ^ 32 - back)) * epochUnit b

/-- The unit of a base in nanoseconds. -/
def nsToBase (b n : Nat) : Nat := if b = 0 then n else n / 20

/-- R394: an instance opened at its first sight, or none: MERGE_FULL. -/
def State.openInst (s : State) (c : JobCfg) (f : Feed) (set op sub tag : Nat) : State × Option Inst :=
  let order := s.mergeRank c.job set op sub tag
  match order.findSome? fun d => if s.enabled (.wdie d) .merge then (s.instSlot d).map fun i => (d, i) else none with
  | none =>
    let u := Chip.wdie (order.headD 0)
    ((((s.inc u mergeCountBNoSlot).int u .merge 2).event u .merge 0x0D01 2 (pay [(c.job, 0), (op, 16), (tag, 32)])), none)
  | some (d, slot) =>
    let u := Chip.wdie d
    let own := s.ownCoord
    let root := c.rootOf set
    let chain := chainOf s.rings root chainFuel own
    let b := s.rd u timeCtrlBase
    let now := s.timeIn u b
    let w := nsToBase b f.window
    let anchor := if f.mode = 1 then epochInstant b now tag else now
    let early := anchor + w - (chain.length - 1) * nsToBase b (s.rd u mergeHopAllowNs)
    let i : Inst := {
      job := c.job, set := set, op := op, sub := sub, tag := tag, die := d, slot := slot, feed := f, part := emptyPart op,
      members := (c.members set).length, expected := ((s.chains c set).filter fun l => l.contains own).length,
      depth := chain.length - 1, parent := parentOf s.rings root own, base := b,
      forwardAt := if f.mode = 1 then early else max early (anchor + w / 2), finaliseAt := anchor + w }
    (s.setInst i, some i)

/-- The instance of a key, opened where there is none. -/
def State.instFor (s : State) (c : JobCfg) (f : Feed) (set op sub tag : Nat) : State × Option Inst :=
  match s.findInst c.job set op sub tag with
  | some i => (s, some i)
  | none => s.openInst c f set op sub tag

/-! ## Lockstep at the root (spec 08 R257, R260) -/

/-- The package LTL ports of this module that a job's ranks are on. -/
def State.jobPorts (s : State) (c : JobCfg) : List Nat :=
  (c.entries.filter fun e => e.dieIndex / 64 == s.rd (.wdie 0) torusCoordTray && e.dieIndex % 64 < 8 * s.dies).map
    fun e => e.dieIndex % 64

/-- A message of the root to its children, as a BCAST frame. -/
def State.tellChildren (s : State) (c : JobCfg) (body : List Nat) : State :=
  (childrenIn (s.bcastChains c) s.ownCoord).foldl (fun t k =>
    t.torusSend 0 1 { hdr := { kind := 1, job := c.job, dst := k, len := 16 }, body := body }) s

/-- The root launches a point: placed here, told to the job's modules; the instants are epoch instants. -/
def State.launchPoint (s : State) (c : JobCfg) (idx leadUs : Nat) : State :=
  if !s.baseValid (.wdie 0) then s
  else
    let t := nextEpoch s.dieBase (s.dieTime + baseUs s.dieBase leadUs)
    let s1 := s.setJob { c with point := idx, kind2 := 0 }
    ((s1.jobPorts c).foldl (fun a p => a.placePoint p idx t) s1).tellChildren c [7, c.job, idx, t]

/-- Whether results, newest first, are those of successive epochs. -/
def successive : List (Nat × Nat × Bool) → Bool
  | a :: b :: r => (b.1 + 1) % 2 ^ 32 == a.1 && successive (b :: r)
  | _ => true

/-- R257: the root's rules on the result of an epoch. -/
def State.epochResult (s : State) (job tag v : Nat) (complete : Bool) : State :=
  match s.jobOf job with
  | none => s
  | some c0 =>
    let n := max 1 c0.raiseEpochs
    let c := { c0 with epochs := ((tag, v, complete) :: c0.epochs).take n }
    let s1 := s.setJob c
    if c.point < v then s1.launchPoint c v c.lowerLead
    else if v < c.point && c.epochs.length = n && successive c.epochs && c.epochs.all (fun e => e.2.2 && e.2.1 < c.point) then
      s1.launchPoint c ((c.epochs.map fun e => e.2.1).foldl max 0) c.raiseLead
    else s1

/-- R260: a KIND 2 report at the root. -/
def State.persistAtRoot (s : State) (job idx : Nat) : State :=
  match s.jobOf job with
  | none => s
  | some c =>
    if c.rootOf 0 ≠ s.ownCoord then s
    else
      let m := max c.kind2 (idx % 32)
      let c1 := { c with kind2 := m }
      if c.point < m then (s.setJob c1).launchPoint c1 m c.lowerLead else s.setJob c1
def execGovPersistAtRoot (job index : Nat) (s : State) : Out' := storeless s <| .next (s.persistAtRoot job index)

/-! ## In-field checks and dissents (spec 07 R235, R239) -/

/-- The lead of a check launch. -/
def checkLead : Fld := cell .merge 0 1000

/-- R235: a complete checkpoint count launches a check that is due for the job. The spec names no source of its
descriptor, which is a free value. -/
def State.checkLaunch (s : State) (job : Nat) : State :=
  match s.jobOf job with
  | none => s
  | some c =>
    if !s.baseValid (.wdie 0) || !(s.jobPorts c).any fun p => s.on (.ikb p) abftIfcCtrlPending then s
    else
      let t := s.dieTime + baseUs s.dieBase (s.rd (.wdie 0) checkLead)
      let f := s.free 28
      ((s.jobPorts c).foldl (fun a p => (a.placeIkb p 4 f.1 t).1) f.2).tellChildren c [8, job, f.1, t]

/-- R239: a comparison that is not all-equal, at the root: the notice, with up to 64 ranks. -/
def State.dissentNotice (s : State) (job sub tag : Nat) (ranks : List Nat) : State :=
  let die := ((s.jobOf job).bind fun c => (c.entries[ranks.headD 0]?).map fun e => e.dieIndex).getD 0
  s.notice job die 0x070B (pay [(job, 0), (sub, 16), (tag, 32), (ranks.headD 0, 64)]) ranks

/-- R239: at each module, a record for each dissenting rank whose die is here. -/
def State.dissentHere (s : State) (job sub tag : Nat) (ranks : List Nat) : State :=
  match s.jobOf job with
  | none => s
  | some c => ranks.foldl (fun t r =>
      if (c.entries[r]?).any fun e => e.coord == s.ownCoord then
        t.event (.wdie 0) .merge 0x070B 2 (pay [(job, 0), (sub, 16), (tag, 32), (r, 64)])
      else t) s

/-! ## Sending (R388, R389, R391, R393) -/

/-- The package optical port that leads to a neighbour module, if it is usable. -/
def State.portToward (s : State) (c : Nat) : Option Nat :=
  (List.range 3).findSome? fun i =>
    let d := ringDelta (nth s.rings i) (coordOf s.ownCoord i) (coordOf c i)
    if d = 0 then none else s.dirPort i (if 0 < d then 0 else 1)

/-- The root finalise instant of an instance in nanoseconds of its die's LTC (R391, R43). -/
def State.deadlineOf (s : State) (i : Inst) : Nat :=
  let now := s.timeIn (.wdie i.die) i.base
  let l := (s.ltcOf (.wdie i.die)).nsTotal
  if now ≤ i.finaliseAt then l + baseNs i.base (i.finaliseAt - now) else l - baseNs i.base (now - i.finaliseAt)

/-- A REDUCE frame's fabric part. -/
def reduceFrame (job dst deadline : Nat) (body : List Nat) : FabricFrame :=
  { hdr := { kind := 0, job := job, dst := dst, len := body.length }, body := body, deadline := some deadline }

/-- The header of an instance's frames. -/
def State.instHdr (s : State) (i : Inst) : MHdr :=
  { op := i.op, fmt := if i.op = 3 || i.op = 4 then i.feed.fmt else 0, set := i.set, sub := i.sub,
    k := if i.op = 8 then i.feed.kk else 0, dir := if i.op = 8 then i.feed.dir else 0, tag := i.tag, included := i.included,
    members := i.expected, deadline := s.deadlineOf i % 2 ^ 48, poisoned := i.killed }

/-- R388: the partial goes to the parent, or where its port is not usable to the grandparent. -/
def State.forwardInst (s : State) (i : Inst) : State :=
  let u := Chip.wdie i.die
  match i.parent with
  | none => s
  | some par =>
    let dst := if (s.portToward par).isSome then par
               else match s.jobOf i.job with
                 | some c => (parentOf s.rings (c.rootOf i.set) par).getD par
                 | none => par
    let h := s.instHdr i
    let late := (i.chunks.map fun e => e.1).eraseDups.length
    let frames := if i.killed then [h.bytes]
                  else mergeFrames (s.on u mergeCtrlSparseEn) (partFlags h i.part) (match i.part with
                    | .hist _ => []
                    | p => partBody p) i.part
    let s1 := frames.foldl (fun t f => t.torusSend i.die 1 (reduceFrame i.job dst (s.deadlineOf i) f)) s
    let s2 := s1.setInst { i with sent := true, chunks := [], lingerAt := s.now + max i.feed.window ms }
    s2.inc u mergeCountALate late

/-- R389: a result's frame to each child; where a child's port is not usable, to each of its children. -/
def State.sendDownTree (s : State) (d : Nat) (c : JobCfg) (set deadline : Nat) (body : List Nat) : State :=
  let chains := s.chains c set
  (childrenIn chains s.ownCoord).foldl (fun t k =>
    let dsts := if (s.portToward k).isSome then [k] else childrenIn chains k
    dsts.foldl (fun a x => a.torusSend d 1 (reduceFrame c.job x deadline body)) t) s

/-- R396: a record written to the result ring of a die, or missed. -/
def State.ringRecord (s : State) (d job : Nat) (h : MHdr) (body : List Nat) : State :=
  let u := Chip.wdie d
  let n := 2 ^ s.rd u mergeResSizeLog2
  let head := s.rd u mergeResPtrHead % n
  if !s.on u mergeCtrlResEn then s
  else if (head + 1) % n = s.rd u mergeResPtrTail % n then s.inc u mergeResMissedCount
  else
    let bytes := { h with down := true, bodyLen := body.length }.bytes ++ leBytes 4 job ++
      leBytes 4 (h.members - h.included) ++ List.replicate 24 0 ++ body
    let s1 := State.dramStore (bytes.map fun b => BitVec.ofNat 8 b) (dieAddr d (s.rd u mergeResBaseAddr + 65536 * head)) s
    (s1.wr u mergeResPtrHead ((head + 1) % n)).int u .merge 0

/-- The values of PPM of the quantile entries that are VALID. -/
def State.quantiles (s : State) (u : Chip) : List (Option Nat) :=
  (List.range 8).map fun k => if s.on u (mergeQuantileValid k) then some (s.rd u (mergeQuantilePpm k)) else none

/-- The whole body of a result as the ring holds it: a histogram in its form after what leads it. -/
def wholeBody (sparse : Bool) (lead : List Nat) : Part → List Nat
  | .hist b => lead ++ (if sparse then histSparse b else (List.range 4).flatMap fun c => histChunk b c)
  | _ => lead

/-- What a result means to this module beside the ring: the latest fleet histogram of R429, and dissents (R239). -/
def State.resultMeans (s : State) (job set op sub tag source : Nat) (complete : Bool) (ls : List (Option Nat)) (ranks : List Nat) : State :=
  let s1 := if op = 7 && source = 1 && set = 0 && complete then { s with stepHist := put job ls s.stepHist } else s
  if op = 9 then s1.dissentHere job sub tag ranks else s1

/-- R392, R389: the root forms its result. -/
def State.finaliseInst (s : State) (i : Inst) : State :=
  let u := Chip.wdie i.die
  match s.jobOf i.job with
  | none => s
  | some c =>
    let part := i.included < i.members || i.killed
    let q := s.quantiles u
    let h0 := { s.instHdr i with down := true, part := part, members := i.members }
    let r := resultBody h0 q i.included i.part
    let sparse := match i.part with
      | .hist b => s.on u mergeCtrlSparseEn && b.length ≤ 1024
      | _ => false
    let frames := mergeFrames (s.on u mergeCtrlSparseEn) r.1 r.2 i.part
    let dl := s.deadlineOf i
    let s1 := frames.foldl (fun t f => t.sendDownTree i.die c i.set dl f) s
    let s2 := if i.feed.uplink then
        frames.foldl (fun t f => t.originate t.uplink 1 (reduceFrame i.job 0 dl f)) s1 else s1
    let s3 := if i.feed.host then s2.ringRecord i.die i.job { r.1 with sparse := sparse } (wholeBody sparse r.2 i.part) else s2
    let s4 := s3.inc u mergeResultsFormed
    let s5 := if part then (s4.inc u mergeResultsPartial).int u .merge 1 else s4
    let s6 := s5.setInst { i with sent := true, seen := true, chunks := [], lingerAt := s.now + max i.feed.window ms }
    let ls := match i.part with
      | .hist b => q.map fun e => (e.bind fun ppm => quantile b ppm).map bucketEdge
      | _ => []
    let ranks := match i.part with
      | .digest (some g) => (dissenters g).map fun e => e.1
      | _ => []
    let s7 := s6.resultMeans i.job i.set i.op i.sub i.tag i.feed.source (!part) ls ranks
    match i.feed.source, i.part with
    | 2, .num _ => if i.op = 5 && i.set = 0 && !part then s7.checkLaunch i.job else s7
    | 3, .ext (some e) _ => if i.op = 4 && i.set = 0 then s7.epochResult i.job i.tag (e.1 % 32) (!part) else s7
    | _, .digest g => if (g.any fun l => l.length ≤ 1) then s7 else s7.dissentNotice i.job i.sub i.tag ranks
    | _, _ => s7

/-- R388, R392: an instance that is complete goes on at once. -/
def State.settleInst (s : State) (i : Inst) : State :=
  if i.sent then s
  else if i.parent.isNone then (if i.members ≤ i.included then s.finaliseInst i else s)
  else if i.expected ≤ i.included then s.forwardInst i
  else s

/-- Whatever it includes, an instance goes on. -/
def State.endInst (s : State) (i : Inst) : State :=
  if i.sent then s else if i.parent.isNone then s.finaliseInst i else s.forwardInst i

/-- Table 13.10: on entry to Midnight open instances go on at once. -/
def State.flushInsts (s : State) : State := s.insts.foldl (fun t i => t.endInst i) s

/-- R395: an instance killed for a poisoned line of its state. -/
def State.killInst (s : State) (i : Inst) : State :=
  let u := Chip.wdie i.die
  if i.sent then s
  else
    let s1 := (s.inc u mergeCountCPoisoned).event u .merge 0x0D02 2 (pay [(i.job, 0), (i.op, 16), (i.tag, 32), (i.set, 64)])
    s1.endInst { i with killed := true, part := emptyPart i.op, included := 0, chunks := [] }

/-! ## Contributions (R375, R376) -/

/-- One contribution to an instance. -/
def State.addRank (s : State) (i : Inst) (rank value : Nat) (poison : Bool) : State :=
  let u := Chip.wdie i.die
  if i.sent then s.inc u mergeCountALate
  else if i.ranks.contains rank then s.inc u mergeCountADup
  else
    let i1 := { i with part := joinPart i.op i.feed.fmt i.feed.kk i.feed.dir i.part (onePart i.op i.feed.fmt value rank poison),
                       included := i.included + 1, ranks := rank :: i.ranks }
    (s.setInst i1).settleInst i1

/-- Whether a feed takes a record of a source, a selector and flags (Table 13.2). -/
def feedTakes (f : Feed) (source sub flags : Nat) : Bool :=
  f.source == source && (source < 4 || (f.sub == sub && flags % 64 == 0))

/-- R375: a record of an IKB becomes one contribution per operation of each feed that takes it. -/
def State.contribute (s : State) (p source tag sub value flags : Nat) : State :=
  match s.xlat.find? fun e => !e.flat && e.dieIndex == s.dieIndex p with
  | none => s
  | some e =>
    match s.jobOf e.job with
    | none => s
    | some c =>
      let k := if source < 4 then 0 else sub
      (c.feeds.filter fun f => feedTakes f source sub flags).foldl (fun t f =>
        match feedSet f (c.groupOf e.key) with
        | none => t
        | some set => (feedOps f).foldl (fun a op =>
            match a.instFor c f set op k (tag % 2 ^ 32) with
            | (b, some i) => b.addRank i e.key (value % 2 ^ 64) (bitAt flags 6 == 1)
            | (b, none) => b) t) s
def execMergeContribution (p source tag sub value flags : Nat) (s : State) : Out' := keeping s <|
  .next (if s.mergeOn (p / 8) then s.contribute p source tag sub value flags else s)

/-- R257, R277: a governor report at the W-die: an epoch report feeds the reduction; one of KIND 1 to 3 is acknowledged,
and its first copy acted on: a KIND 2 report goes to the job's root. -/
def State.takeReport (s : State) (p fseq : Nat) (body : List Nat) : State :=
  let kind := nth body 2 / 32 % 8
  if kind = 0 then (if s.mergeOn (p / 8) then s.contribute p 3 (nth body 1) 0 (nth body 2 % 32) 0 else s)
  else
    let seen := (look p s.govSeen).getD []
    let s1 := s.sendDown p 0x06 [1, fseq]
    if seen.contains fseq then s1
    else
      let s2 := { s1 with govSeen := put p ((fseq :: seen).take 64) s1.govSeen }
      if kind ≠ 2 then s2
      else
        let job := s2.nativeJob (s2.dieIndex p)
        match s2.jobOf job with
        | none => s2
        | some c =>
          if c.rootOf 0 = s2.ownCoord then s2.persistAtRoot job (nth body 5 % 32)
          else s2.torusSend (p / 8) 1 { hdr := { kind := 1, job := job, dst := c.rootOf 0, len := 16 }, body := [9, job, nth body 5 % 32] }
def execLtlGovReport (p fseq : Nat) (body : List Nat) (s : State) : Out' := keeping s <|
  .next (s.recvTele p 0x10 1 16 body fun t => t.takeReport p fseq body)

/-! ## Partials and results received (R388, R389, R393) -/

/-- Whether a header stands to R393. -/
def headerBad (h : MHdr) (body : List Nat) : Bool :=
  h.op == 0 || 10 ≤ h.op || h.bodyLen ≠ body.length || !(h.chunks == 1 || (h.chunks == 4 && h.op == 7 && !h.sparse)) ||
  decide (h.chunks ≤ h.chunk) || (h.op == 7 && !h.sparse && h.chunks ≠ 4 && !h.poisoned)

/-- The feed that a frame's instance belongs to. -/
def JobCfg.feedFor (c : JobCfg) (h : MHdr) : Option Feed :=
  c.feeds.find? fun f => bitAt f.mask h.op == 1 && (f.set == h.set || (f.set == 255 && h.set ≠ 0)) &&
    (if f.source < 4 then h.sub == 0 else h.sub == f.sub)

/-- The chunks of a sender in an instance, joined in order, once all four have come. -/
def joinChunks (l : List (Nat × Nat × Nat × List Nat)) (src : Nat) : Option (List Nat) :=
  let part := fun (c : Nat) => (l.find? fun e => e.1 == src && e.2.1 == c).map fun e => e.2.2.2
  match part 0, part 1, part 2, part 3 with
  | some a, some b, some c, some d => some (a ++ b ++ c ++ d)
  | _, _, _, _ => none

/-- A whole partial merged into its instance. -/
def State.mergePartial (s : State) (i : Inst) (h : MHdr) (body : List Nat) : State :=
  match bodyPart h body with
  | none => (s.setInst i).inc (.wdie i.die) mergeCountBMalformed
  | some p =>
    let i1 := { i with part := joinPart i.op i.feed.fmt i.feed.kk i.feed.dir i.part p, included := i.included + h.included }
    (s.setInst i1).settleInst i1

/-- R388: a partial arrives at a node. -/
def State.partialIn (s : State) (d : Nat) (f : FabricFrame) : State :=
  let h := mhdrOf f.body
  let body := f.body.drop 32
  match s.jobOf f.hdr.job with
  | none => (s.inc .pkg pkgrCnt1Stale).event .pkg .pkgroute 0x0102 1 (pay [(f.hdr.dieIndex, 0), (f.hdr.job, 32), (f.hdr.rank, 64)])
  | some c =>
    if headerBad h body then s.inc (.wdie d) mergeCountBMalformed
    else match c.feedFor h with
      | none => s.inc (.wdie d) mergeCountBMalformed
      | some feed =>
        match s.instFor c feed h.set h.op h.sub h.tag with
        | (t, none) => t
        | (t, some i) =>
          if i.sent then t.inc (.wdie i.die) mergeCountALate
          else if h.chunks = 1 || h.poisoned then t.mergePartial i h body
          else
            let l := i.chunks.filter (fun e => !(e.1 == f.hdr.src && e.2.1 == h.chunk)) ++ [(f.hdr.src, h.chunk, h.included, body)]
            match joinChunks l f.hdr.src with
            | some b => t.mergePartial { i with chunks := l.filter fun e => e.1 != f.hdr.src } h b
            | none => t.setInst { i with chunks := l }
def execMergePartialReceive (d : Nat) (frame : FabricFrame) (s : State) : Out' := keeping s <|
  .next (if s.mergeOn d then s.partialIn d frame else s)

/-- A mark for the chunks of a result among an instance's. -/
def downMark : Nat := 262144

/-- L of each quantile entry of a HIST result's body. -/
def bodyQuantiles (l : List Nat) : List (Option Nat) :=
  (List.range 8).map fun k => if leNum l (16 * k) 8 / 65536 % 2 = 1 then some (leNum l (16 * k + 8) 8) else none

/-- The ranks of a DIGEST result's body. -/
def bodyDissents (l : List Nat) : List Nat :=
  (List.range (leNum l 16 4 % 65536)).map fun k => leNum l (20 + 4 * k) 4 % 131072

/-- A whole result at a node: to its ring where it is a member, and what it means here. -/
def State.resultHere (s : State) (d : Nat) (c : JobCfg) (feed : Feed) (h : MHdr) (body : List Nat) : State :=
  let member := (c.members h.set).any fun e => e.2 == s.ownCoord
  let s1 := if member && feed.host then s.ringRecord d c.job h body else s
  s1.resultMeans c.job h.set h.op h.sub h.tag feed.source (!h.part) (bodyQuantiles body)
    (if h.op = 9 && !h.tooMany then bodyDissents body else [])

/-- R389: a result on its way down. -/
def State.resultIn (s : State) (d : Nat) (f : FabricFrame) : State :=
  let h := mhdrOf f.body
  let body := f.body.drop 32
  match s.jobOf f.hdr.job with
  | none => (s.inc .pkg pkgrCnt1Stale).event .pkg .pkgroute 0x0102 1 (pay [(f.hdr.dieIndex, 0), (f.hdr.job, 32), (f.hdr.rank, 64)])
  | some c =>
    if headerBad h body then s.inc (.wdie d) mergeCountBMalformed
    else match c.feedFor h with
      | none => s.inc (.wdie d) mergeCountBMalformed
      | some feed =>
        let s1 := s.sendDownTree d c h.set (f.deadline.getD h.deadline) f.body
        match s1.findInst c.job h.set h.op h.sub h.tag with
        | none => if h.chunks = 1 then s1.resultHere d c feed h body else s1
        | some i =>
          if h.chunks = 1 then (s1.setInst { i with seen := true }).resultHere i.die c feed h body
          else
            let piece := if h.chunk = 0 then body else body.drop 128
            let l := i.chunks.filter (fun e => !(e.1 == downMark && e.2.1 == h.chunk)) ++ [(downMark, h.chunk, h.included, piece)]
            match joinChunks l downMark with
            | some b => (s1.setInst { i with seen := true, chunks := l.filter fun e => e.1 != downMark }).resultHere i.die c feed h b
            | none => s1.setInst { i with chunks := l }
def execMergeResultDown (d : Nat) (frame : FabricFrame) (s : State) : Out' := keeping s <|
  .next (if s.mergeOn d then s.resultIn d frame else s)

/-! ## Instants (R390, R392, R394) -/

/-- R390: the forward instant of a node. -/
def execMergeForwardInstant (d slot : Nat) (s : State) : Out' := storeless s <|
  .next (match s.instAt d slot with
    | some i => if s.mergeOn d && !i.sent && i.parent.isSome && decide (i.forwardAt ≤ s.timeIn (.wdie d) i.base) then s.forwardInst i else s
    | none => s)

/-- R392: the root finalises a complete instance, or one whose finalise instant has come. -/
def execMergeRootFinalise (d slot : Nat) (s : State) : Out' := keeping s <|
  .next (match s.instAt d slot with
    | some i =>
      if s.mergeOn d && !i.sent && i.parent.isNone && (decide (i.members ≤ i.included) || decide (i.finaliseAt ≤ s.timeIn (.wdie d) i.base)) then
        s.finaliseInst i
      else s
    | none => s)

/-- R394, R389: the linger ends: the slot is free; a member that saw no result counts it. -/
def execMergeLingerEnd (d slot : Nat) (s : State) : Out' := storeless s <|
  .next (match s.instAt d slot with
    | some i =>
      if i.sent && i.lingerAt ≤ s.now then
        let member := (s.jobOf i.job).any fun c => (c.members i.set).any fun e => e.2 == s.ownCoord
        if member && !i.seen then (s.delInst i).inc (.wdie d) mergeResMissedCount else s.delInst i
      else s
    | none => s)

end Sys2Proof.Machine
end

