-- ==== Sys2Proof/Machine/Lens.lean ====
section
/-! DEFINITION. Spec 14: bindings and samples, models, batches, reports, the DRIFT trackers; with the Codec's taking of a
row (spec 12 R347, R348), from which samples form, and the DRAM read errors (spec 10 R300, R301), which reach the owner. -/

namespace Sys2Proof.Machine

/-! ## Slots and batches -/

def lensKey (d m : Nat) : Nat := d * 8 + m % 8
def State.lslot (s : State) (d m : Nat) : LSlot := (look (lensKey d m) s.lensSlots).getD {}
def State.setLslot (s : State) (d m : Nat) (l : LSlot) : State := { s with lensSlots := put (lensKey d m) l s.lensSlots }
def State.openOf (s : State) (d : Nat) : List LBatch := (look d s.lensOpen).getD []
def State.setOpen (s : State) (d : Nat) (l : List LBatch) : State :=
  { s with lensOpen := if l.isEmpty then drop d s.lensOpen else put d l s.lensOpen }
def State.closedOf (s : State) (d : Nat) : List LBatch := (look d s.lensClosed).getD []
def State.setClosed (s : State) (d : Nat) (l : List LBatch) : State :=
  { s with lensClosed := if l.isEmpty then drop d s.lensClosed else put d l s.lensClosed }

/-- The samples of a batch, and the bytes of sample store that they take (R422). -/
def LBatch.count (b : LBatch) : Nat := (b.rows.map fun r => r.samples.length).sum
def LBatch.bytes (b : LBatch) : Nat := b.count * b.model.feats.length * 2
def State.storeUsed (s : State) (d : Nat) : Nat := ((s.openOf d ++ s.closedOf d).map LBatch.bytes).sum

/-- The models whose descriptors and edges lie in a die's stores: staged, in force, held, and those that batches of an
earlier swap still need. -/
def State.models (s : State) (d : Nat) : List LModel :=
  (List.range 8).flatMap fun m =>
    let l := s.lslot d m
    let gens := ((s.openOf d ++ s.closedOf d).filter fun b =>
      b.slot == m && b.gen != l.gen && !(b.gen + 1 == l.gen && l.held.isSome)).map fun b => (b.gen, b.model)
    l.staged.toList ++ l.force.toList ++ l.held.toList ++ gens.eraseDups.map fun g => g.2

/-- The status fields follow what the slots and batches hold (Tables 14.11, 14.12). -/
def State.lensFollow (s : State) (d : Nat) : State :=
  let u := Chip.wdie d
  let ms := s.models d
  let s1 := (s.wr u featStoreEdgesUsed (ms.map fun m => m.edges).sum).wr u featDescDescUsed (ms.map fun m => m.feats.length).sum
  let s2 := s1.wr u lensStoreUsedKib (ceilDiv (s.storeUsed d) 1024)
  let s3 := match s.closedOf d with
    | b :: _ => (s2.wr u lensStatScoring 1).wr u lensStatCurSlot b.slot
    | [] => s2.wr u lensStatScoring 0
  (List.range 8).foldl (fun t m =>
    let l := s.lslot d m
    let t1 := ((t.wr u (lensSlotStatStagedValid m) l.staged.isSome.toNat).wr u (lensSlotStatInForce m) l.force.isSome.toNat).wr
      u (lensSlotStatOldHeld m) l.held.isSome.toNat
    let t2 := match l.staged with
      | some x => t1.wr u (lensSlotStagedIdId m) x.id
      | none => t1
    match l.force with
    | some x =>
      let t3 := ((t2.wr u (lensSlotForceIdId m) x.id).wr u (lensSlotStatClasses m) x.classes).wr u (lensSlotStatLink m) x.link
      (t3.wr u (lensSlotStatTrees m) x.trees).wr u (lensSlotFeaturesCount m) x.feats.length
    | none => t2) s3

/-- STAT's mode fields (R431): whether the clock is stopped, one sample in how many. -/
def State.lensMode (s : State) (d : Nat) : State :=
  let u := Chip.wdie d
  (s.wr u lensStatStopped (s.mode u == .midnight).toNat).wr u lensStatOneIn (if s.mode u = .dusk then 8 else 1)

/-- The open batches of a die that meet a test closed, in order. -/
def State.closeBatches (s : State) (d : Nat) (p : LBatch → Bool) : State :=
  let l := s.openOf d
  (s.setClosed d (s.closedOf d ++ l.filter p)).setOpen d (l.filter fun b => !p b)

/-! ## Reports (R425, R426) -/

/-- The rank of a die of a job, by its native entry; 0x1FFFF when none. -/
def State.rankOf (s : State) (job dieIndex : Nat) : Nat :=
  match s.xlat.find? fun x => x.job == job && !x.flat && x.dieIndex == dieIndex with
  | some x => x.key
  | none => 0x1FFFF

/-- The EXPORT frame of a die sent: by its lowest usable UPLINK port, or one of die 0's. -/
def State.flushExport (s : State) (d : Nat) : State :=
  match look d s.lensExport with
  | none => s
  | some e =>
    let usable := fun (x : Nat) => [2 * x, 2 * x + 1].find? fun P =>
      s.rd (dieOfOpt P) (portsRoleRole (P % 2)) == 2 && s.on (dieOfOpt P) (portsStatUp (P % 2))
    match (usable d).orElse fun _ => usable 0 with
    | some P =>
      let bytes := e.2.flatten
      State.originate { s with lensExport := drop d s.lensExport } P 4 { hdr := { kind := 4, len := bytes.length }, body := bytes }
    | none => s

/-- A record packed for EXPORT; the 128th sends the frame. -/
def State.export (s : State) (d : Nat) (bytes : List Nat) : State :=
  let e := (look d s.lensExport).getD (s.now, [])
  let l := e.2 ++ [bytes]
  let s1 := { s with lensExport := put d (e.1, if 128 < l.length then l.drop 1 else l) s.lensExport }
  if 128 ≤ l.length then s1.flushExport d else s1

/-- A record written to the die's report ring, and packed for EXPORT. -/
def State.report (s : State) (d : Nat) (host uplink : Bool) (r : LReport) : State :=
  let u := Chip.wdie d
  let n := 2 ^ s.rd u lensRptSizeLog2
  let head := s.rd u lensRptPtrHead % n
  let s1 := if !host then s
    else if (head + 1) % n = s.rd u lensRptPtrTail % n then s.inc u lensRptMissedCount
    else
      ((State.dramStore (r.bytes.map fun b => BitVec.ofNat 8 b) (dieAddr d (s.rd u lensRptBaseAddr + 64 * head)) s).wr
        u lensRptPtrHead ((head + 1) % n)).int u .lens 0
  if uplink then s1.export d r.bytes else s1

/-- R426: an EXPORT frame leaves within 1 ms of its first record. -/
def execLensExportFlush (d : Nat) (s : State) : Out' := storeless s <| .next (s.flushExport d)

/-! ## DRIFT (R427 to R429) -/

def metricKey (k m : Nat) : Nat := k * 64 + m % 64
def State.metric (s : State) (k m : Nat) : Metric := (look (metricKey k m) s.metrics).getD {}
def State.setMetric (s : State) (k m : Nat) (x : Metric) : State :=
  { s with metrics := if x = {} then drop (metricKey k m) s.metrics else put (metricKey k m) x s.metrics }

/-- The binding that a context's rows match on a die: the lowest (R406). -/
def State.binding (s : State) (d kind job : Nat) : Option Nat :=
  let u := Chip.wdie d
  (List.range 16).find? fun b => s.on u (featBindingKeyValid b) && s.rd u (featBindingKeyKind b) == kind &&
    s.rd u (featBindingKeyJob b) == job

/-- What a metric's report says of its row. -/
structure RowInfo where
  job : Nat
  dieIndex : Nat
  kind : Nat
  capture : Nat
  rowseq : Nat
  fleetLock : Bool
deriving DecidableEq, Repr

/-- A report of TYPE `ty` raised by metric `m` of slot `k`: counted, and sent unless it falls in the holdoff of its TYPE. -/
def State.raise (s : State) (k m ty value limit : Nat) (r : RowInfo) : State :=
  let d := k / 512
  let u := Chip.wdie d
  let x := s.metric k m
  let s1 := (s.inc u driftAlarmsCount).int u .drift 0
  let h := x.holds.find? fun e => e.1 == ty
  let rest := x.holds.filter fun e => e.1 != ty
  if h.any fun e => s.now < e.2.1 + s.rd u driftHoldoffMs * ms then
    s1.setMetric k m { x with holds := rest ++ (h.map fun e => (ty, e.2.1, e.2.2 + 1)).toList }
  else
    let s2 := s1.setMetric k m { x with holds := rest ++ [(ty, s.now, 0)] }
    let b := s.binding d r.kind r.job
    let host := (b.map fun i => s.on u (featBindingReportHost i)).getD true
    let up := (b.map fun i => s.on u (featBindingReportUplink i)).getD false
    s2.report d host up
      { type := ty, index := m, fleetLock := r.fleetLock, kind := r.kind, job := r.job, dieIndex := r.dieIndex,
        group := if x.source = 0 then x.group else 0, rank := s.rankOf r.job r.dieIndex, model := 0, value := value,
        limit := limit, margin := x.mean, capture := r.capture, supp := (h.map fun e => e.2.2).getD 0, rowseq := r.rowseq }

/-- max(+0.0, v); a NaN leaves it a free value. -/
def State.clampPos (s : State) (v : Nat) : Nat × State :=
  if fIsNaN v then s.free 32 else (if fgt v 0 then v else 0, s)

/-- The z of R429, from the values of the quantile entries and the die's settings. -/
def State.zOf (s : State) (d job v : Nat) : Option Nat :=
  let u := Chip.wdie d
  match look job s.stepHist with
  | none => none
  | some ls =>
    match (ls[s.rd u driftZcfgQmid]?).join, (ls[s.rd u driftZcfgQhi]?).join with
    | some a, some b =>
      let lo := f32Int a
      let hi := f32Int b
      if lo = hi then none else some (fdiv (fmul (fsub v lo) (s.rd u driftZDivDiv)) (fsub hi lo))
    | _, _ => none

/-- The CUSUM part of drift_update (R428). -/
def State.cusumUpdate (s : State) (k m v r : Nat) (i : RowInfo) : State :=
  let x := s.metric k m
  let e := fsub v r
  let p := s.clampPos (fsub (fadd x.spos e) x.k)
  let n := p.2.clampPos (fsub (fsub x.sneg e) x.k)
  let s1 := n.2.setMetric k m { x with spos := p.1, sneg := n.1 }
  let s2 := if fgt p.1 x.h then
      let t := s1.raise k m 2 p.1 x.h i
      t.setMetric k m { t.metric k m with spos := 0 }
    else s1
  if fgt n.1 x.h then
    let t := s2.raise k m 3 n.1 x.h i
    t.setMetric k m { t.metric k m with sneg := 0 }
  else s2

/-- A value of metric `m` of slot `k` (R427 to R429). -/
def State.drift (s : State) (k m v : Nat) (i : RowInfo) : State :=
  let d := k / 512
  let u := Chip.wdie d
  let x := s.metric k m
  if fIsNaN v then s.inc u driftNanSkipsCount
  else
    let zed := if x.zEn then s.zOf d i.job v else none
    let n := (x.updates + 1) % 4294967296
    if !x.started then
      s.setMetric k m { x with started := true, mean := v, spos := 0, sneg := 0, updates := n, z := zed.getD x.z }
    else
      let r := if x.refMode = 0 then x.ref else x.mean
      let mean := fadd x.mean (fmul (fsub v x.mean) ((127 - x.alpha) * 8388608))
      let s1 := s.setMetric k m { x with mean := mean, updates := n, z := zed.getD x.z }
      let s2 := if x.cusum then s1.cusumUpdate k m v r i else s1
      match zed with
      | some z => if fgt (fabs z) x.zthr then s2.raise k m 4 z x.zthr i else s2
      | none => s2

/-- Values of the enabled metrics of slot `k` that a function gives. -/
def State.driftAll (s : State) (k : Nat) (i : RowInfo) (val : Metric → Option Nat) : State :=
  if !s.enabled (.wdie (k / 512)) .drift || s.mode (.wdie (k / 512)) == .midnight then s
  else (List.range 64).foldl (fun t m =>
    let x := t.metric k m
    if !x.enable then t
    else match val x with
      | some v => t.drift k m v i
      | none => t) s

/-- The exact mean of the finite values of a list, rounded once. -/
def fMean (l : List Nat) : Nat :=
  let f := l.filter fFinite
  if f.isEmpty then f32NaN else f32Ratio (f.map finOf).sum f.length

/-- The greatest value of a list that is not a NaN. -/
def fMax (l : List Nat) : Nat :=
  (l.filter fun x => !fIsNaN x).foldl (fun a x => if fIsNaN a || fgt x a then x else a) f32NaN

/-- The value that a row gives a metric of sources 0 to 2, from y by group and feature; a CROSS feature has no y. -/
def rowValue (ys : List (List (Option Nat))) (x : Metric) : Option Nat :=
  let col := ys.map fun g => (g[x.feature]?).map fun y => y.getD f32NaN
  match x.source with
  | 0 => ((col[x.group]?).join)
  | 1 => if col.all Option.isSome then some (fMean (col.filterMap id)) else none
  | 2 => if col.all Option.isSome then some (fMax (col.filterMap id)) else none
  | _ => none

/-! ## Samples (R406, R407, R420, R422) -/

/-- The model that scores a sample captured at an instant of the latest swap's base: in force, or held; its swap count. -/
def LSlot.modelFor (l : LSlot) (at' : Nat) : Option (LModel × Nat) :=
  if l.instant ≤ at' then l.force.map fun m => (m, l.gen)
  else l.held.map fun m => (m, l.gen - 1)

/-- Samples shed: counted, the interrupt; the event at most once per second, with the count since (R422). -/
def shedSince : Fld := cell .lens 0
def shedEvAt : Fld := cell .lens 1
def State.shed (s : State) (d n : Nat) : State :=
  let u := Chip.wdie d
  let s1 := ((s.inc u lensShedCount n).wr u shedSince (s.rd u shedSince + n)).int u .lens 4
  if s1.rd u shedEvAt = 0 || s1.rd u shedEvAt + sec ≤ s1.now + 1 then
    ((s1.event u .lens 0x0E04 0 (pay [(s1.rd u shedSince, 0)])).wr u shedSince 0).wr u shedEvAt (s1.now + 1)
  else s1

/-- Samples put into a slot's open batch for a model, which closes when full, by fuel. -/
def State.fill (d m gen : Nat) (model : LModel) : Nat → LRow → State → State
  | 0, _, s => s
  | n + 1, r, s =>
    let u := Chip.wdie d
    let l := s.openOf d
    let b := (l.find? fun b => b.slot == m && b.gen == gen).getD
      ⟨m, gen, model, s.rd u lensBatchSamples, s.rd u lensBatchCloseUs, s.now, []⟩
    let rest := l.filter fun c => !(c.slot == m && c.gen == gen)
    let space := b.limit - b.count
    if r.samples.length < space then s.setOpen d (rest ++ [{ b with rows := b.rows ++ [r] }])
    else
      let b1 := { b with rows := b.rows ++ [{ r with samples := r.samples.take space, last := decide (r.samples.length = space) }] }
      let s1 := (s.setOpen d rest).setClosed d (s.closedOf d ++ [b1])
      if r.samples.length = space then s1 else State.fill d m gen model n { r with samples := r.samples.drop space } s1

/-- A row of an OPEN context in slot `k` with a matching binding, its previous row known: features, samples, trackers. -/
def State.formSamples (s : State) (k b : Nat) (c : Ctx) (row : List Nat) (capture tick : Nat) (fleetLock : Bool) : State :=
  let d := k / 512
  let u := Chip.wdie d
  let m := s.rd u (featBindingKeySlot b)
  let l := s.lslot d m
  if l.force.isNone then s.inc u featNoModelCount
  else match l.modelFor (if l.base = 0 then capture else tick) with
    | none => (s.inc u lensAnomalyStaleModel (s.rd u (featBindingGroupsG b)))
    | some (model, gen) =>
      let g := s.rd u (featBindingGroupsG b)
      let lanes := lanesOf 8 row
      let prev := c.prevRow.filter fun p => p.2.length == lanes.length
      let fr : FeatRow := ⟨c.kind, capture, lanes, prev⟩
      let outs := (List.range g).map fun i =>
        featGroup fr model.feats (s.rd u (featBindingBaseLane b) + i * s.rd u (featBindingGroupsStride b))
      let seq := (c.rowseq + 1) % 4294967296
      let s1 := s.setCtx k { c with prevRow := some (capture, lanes), rowseq := seq }
      let s2 := (s1.inc u featLaneMissingCount (outs.countP fun o => o.missing)).inc u featNanXCount (outs.map fun o => o.nans).sum
      let s3 := s2.inc u (featBindingSamplesCount b) g
      let i : RowInfo := ⟨c.job, c.dieIndex, c.kind, capture, seq, fleetLock⟩
      let s4 := s3.driftAll k i (rowValue (outs.map fun o => o.ys))
      let take := (List.range g).filter fun j => s.mode u != .dusk || (j + seq) % 8 == 0
      let samples := take.map fun j => (j, ((outs[j]?).map fun o => o.codes).getD [])
      if samples.isEmpty || !s.enabled u .lens then s4
      else if 16777216 < s4.storeUsed d + samples.length * model.feats.length * 2 then s4.shed d samples.length
      else
        (State.fill d m gen model (samples.length + 1) ⟨k, c.kind, c.job, c.dieIndex, b, capture, seq, fleetLock, samples, true, []⟩
          s4).lensFollow d

/-- R407: the row of an accepted frame that the Codec has taken; its context as it was before. -/
def State.sampleRow (s : State) (k : Nat) (c0 : Ctx) (f : IngFrame) : State :=
  let d := k / 512
  match s.ctxAt k with
  | none => s
  | some c =>
    let u := Chip.wdie d
    if c.state ≠ 1 || !s.enabled u .feat || s.mode u == .midnight then s
    else match s.binding d c.kind c.job with
      | none => s
      | some b =>
        if c.kind = 4 then
          if bitAt (nth f.body 6) 4 = 1 then s
          else match expandCounter c0.cod.ref f.body with
            | .expanded row _ =>
              let t := leVal ((f.body.drop 8).take 10)
              s.formSamples k b c row (bitsOf t 0 48 * 1000000000 + bitsOf t 48 30) (leVal ((f.body.drop 18).take 8))
                (bitAt (nth f.body 6) 0 == 1)
            | .missing _ => s
        else s.formSamples k b c f.body f.stamp f.tick false

/-- R427: the step times of an EVENT context's records. -/
def State.stepValue (s : State) (k : Nat) (f : IngFrame) : State :=
  match s.ctxAt k with
  | none => s
  | some c =>
    if c.kind = 0 && leVal ((f.body.drop 4).take 2) == 0x0601 then
      s.driftAll k ⟨c.job, c.dieIndex, c.kind, f.stamp, c.rowseq, false⟩ fun x =>
        if x.source = 4 then some (f32Int (leVal ((f.body.drop 16).take 8))) else none
    else s

/-- R347, R348, R407: the Codec takes the oldest frame; the row forms samples and values of metrics. -/
def execCodecRowTake (d : Nat) (s : State) : Out' := keeping s <|
  match (if s.stopped d then (s, none) else s.codecTake d) with
  | (s1, some f) =>
    .next (match s.ctxAt f.ctx with
      | some c0 => (s1.sampleRow f.ctx c0 f).stepValue f.ctx f
      | none => s1)
  | (s1, none) => .next s1

/-! ## Bindings (R406, Table 14.11) -/

/-- A word of binding `k` written; a refused value leaves its field and is logged. -/
def State.bindingWrite (s : State) (d k off value : Nat) : State :=
  let u := Chip.wdie d
  match off with
  | 0 =>
    let s1 := ((s.wr u (featBindingKeyJob k) (bitsOf value 0 16)).wr u (featBindingKeyValid k) (bitAt value 24)).wr
      u (featBindingKeySlot k) (bitsOf value 25 3)
    if [0x03, 0x04, 0x11].contains (bitsOf value 16 8) then s1.wr u (featBindingKeyKind k) (bitsOf value 16 8)
    else s1.pageErr u .feat 0x0100 1
  | 4 =>
    let s1 := s.wr u (featBindingGroupsStride k) (bitsOf value 16 14)
    if 1 ≤ bitsOf value 0 9 && bitsOf value 0 9 ≤ 256 then s1.wr u (featBindingGroupsG k) (bitsOf value 0 9)
    else s1.pageErr u .feat 0x0100 1
  | 8 => s.wr u (featBindingBaseLane k) (bitsOf value 0 14)
  | 12 =>
    ((s.wr u (featBindingReportClass k) (bitsOf value 0 4)).wr u (featBindingReportHost k) (bitAt value 4)).wr
      u (featBindingReportUplink k) (bitAt value 5) |>.wr u (featBindingReportHoldoffMs k) (bitsOf value 16 16)
  | 16 => s.wr u (featBindingThrThr k) value
  | _ => s
def execFeatBindingWrite (d k off value : Nat) (s : State) : Out' := storeless s <|
  .next (if k < 16 then s.bindingWrite d k off value else s)

/-! ## Models (R419 to R421) -/

/-- BATCH written: a SAMPLES or CLOSE_US outside its range is refused, and SAMPLES that some model does not fit. -/
def State.batchWrite (s : State) (d value : Nat) : State :=
  let u := Chip.wdie d
  let n := bitsOf value 0 14
  let c := bitsOf value 16 16
  let slots := (List.range 8).flatMap fun m => (s.lslot d m).staged.toList ++ (s.lslot d m).force.toList ++ (s.lslot d m).held.toList
  let good := decide (256 ≤ n) && decide (n ≤ 8192) && n % 256 == 0 && slots.all fun x => decide (x.feats.length * n ≤ 4194304)
  let s1 := if good then s.wr u lensBatchSamples n else s.pageErr u .lens 0x0100 1
  if c = 0 then s1.pageErr u .lens 0x0100 1 else s1.wr u lensBatchCloseUs c

/-- The address of the image that a running LOAD reads. -/
def loadAddr : Fld := cell .lens 2

/-- R419: LOAD_CMD.GO. -/
def State.lensLoad (s : State) (d : Nat) : State :=
  let u := Chip.wdie d
  let m := s.rd u lensLoadCmdSlot
  if s.on u lensLoadCmdBusy then s.pageErr u .lens 0x0101 1
  else
    let s1 := ((s.wr u lensLoadCmdBusy 1).wr u lensLoadCmdResult 0).wr u loadAddr (s.rd u (lensSlotStagedAddrAddr m))
    (s1.setLslot d m { s.lslot d m with staged := none }).lensFollow d
def execLensLoad (d : Nat) (s : State) : Out' := storeless s <| .next (s.ifOn (.wdie d) .lens (·.lensLoad d))

/-- What an image loads to: a poisoned line, R419's checks, then the batch store's fit and the room on die. -/
def State.loadImage (s : State) (d a : Nat) : LModel ⊕ LoadFail :=
  let u := Chip.wdie d
  let h := lheadOf ((s.dramBytes 256 (dieAddr d a)).map BitVec.toNat)
  if s.hurt d a (max 256 h.size) then .inr { result := 5 }
  else match checkImage a ((s.dramBytes (max 256 h.size) (dieAddr d a)).map BitVec.toNat) with
    | .inr e => .inr e
    | .inl m =>
      let ms := s.models d
      if 4194304 < m.feats.length * s.rd u lensBatchSamples then .inr { result := 6 }
      else if 16384 < (ms.map fun x => x.feats.length).sum + m.feats.length || 262144 < (ms.map fun x => x.edges).sum + m.edges then
        .inr { result := 4 }
      else .inl m

/-- R419: the load ends. -/
def State.lensLoadDone (s : State) (d : Nat) : State :=
  let u := Chip.wdie d
  let m := s.rd u lensLoadCmdSlot
  if !s.on u lensLoadCmdBusy || s.mode u == .midnight then s
  else
    let s1 := s.wr u lensLoadCmdBusy 0
    match s.loadImage d (s.rd u loadAddr) with
    | .inl x =>
      let s2 := ((s1.wr u lensLoadCmdResult 1).wr u lensLoadCmdIndex 0).wr u lensLoadCmdIsFeature 0
      ((s2.setLslot d m { s.lslot d m with staged := some x }).lensFollow d).int u .lens 1
    | .inr e =>
      let s2 := ((s1.wr u lensLoadCmdResult e.result).wr u lensLoadCmdIndex e.index).wr u lensLoadCmdIsFeature e.isFeat.toNat
      (s2.event u .lens 0x0E01 1 (pay [(m, 0), (e.result, 4), (e.index, 8), (e.isFeat.toNat, 25)])).int u .lens 1
def execLensLoadDone (d : Nat) (s : State) : Out' := storeless s <| .next (s.ifOn (.wdie d) .lens (·.lensLoadDone d))

/-- R420: MODEL_SWAP of slot `m` of die `d` at a launch instant of base `b`. -/
def State.modelSwap (s : State) (d m b instant : Nat) : State :=
  let u := Chip.wdie d
  let l := s.lslot d m
  match l.staged with
  | some x =>
    if s.on u lensLoadCmdBusy && s.rd u lensLoadCmdSlot == m % 8 then
      (s.event u .lens 0x0E02 1 (pay [(m, 0), (x.id, 32)])).int u .lens 3
    else
      let s1 := s.closeBatches d fun c => c.slot == m
      let l1 : LSlot := { staged := none, force := some x, held := l.force, gen := l.gen + 1, base := b, instant := instant,
                          firedAt := s.now }
      ((s1.setLslot d m l1).lensFollow d).int u .lens 2
  | none => (s.event u .lens 0x0E02 1 (pay [(m, 0), (s.rd u (lensSlotStagedIdId m), 32)])).int u .lens 3
def execLaunchModelSwap (d m base instant : Nat) (s : State) : Out' := storeless s <|
  .next (s.ifOn (.wdie d) .lens (·.modelSwap d (m % 8) (base % 2) instant))

/-- R420: LINGER.MS after the fire, with every batch of the held model scored, it is freed; its open batch closes. -/
def State.lingerEnd (s : State) (d m : Nat) : State :=
  let u := Chip.wdie d
  let l := s.lslot d m
  if l.held.isNone || s.now < l.firedAt + max 1 (s.rd u lensLingerMs) * ms then s
  else
    let s1 := s.closeBatches d fun c => c.slot == m && c.gen != l.gen
    if (s1.closedOf d).any fun c => c.slot == m && c.gen != l.gen then s1.lensFollow d
    else (s1.setLslot d m { l with held := none }).lensFollow d
def execLensLingerEnd (d m : Nat) (s : State) : Out' := storeless s <|
  .next (s.ifOn (.wdie d) .lens (·.lingerEnd d (m % 8)))

/-- R421: a poisoned line at `addr` stopped the batch in front: discarded, its slot out of force. -/
def State.batchPoison (s : State) (d addr : Nat) : State :=
  let u := Chip.wdie d
  match s.closedOf d with
  | [] => s
  | b :: r =>
    let l := s.lslot d b.slot
    let s1 := ((s.setClosed d r).inc u lensPoisonBatches).closeBatches d fun c => c.slot == b.slot
    let s2 := (s1.setLslot d b.slot { l with force := none }).lensFollow d
    (s2.event u .lens 0x0E03 1 (pay [(b.slot, 0), (b.model.id, 32), (addr, 64)])).int u .lens 5

/-- R421: a parity error in the sample or feature stores: the batch being scored, or else the oldest open one, is
discarded; its slot stays in force. -/
def State.batchParity (s : State) (d : Nat) : State :=
  match s.closedOf d, s.openOf d with
  | _ :: r, _ => (s.setClosed d r).lensFollow d
  | [], _ :: r => (s.setOpen d r).lensFollow d
  | [], [] => s

/-! ## Scoring (R422, R423, R425) -/

/-- R422: a batch closes CLOSE_US after its first sample. -/
def execLensBatchTimeout (d m : Nat) (s : State) : Out' := storeless s <|
  .next (s.ifOn (.wdie d) .lens fun s =>
    if s.mode (.wdie d) == .midnight then s
    else (s.closeBatches d fun b => b.slot == m % 8 && decide (b.at' + b.closeUs * us ≤ s.now)).lensFollow d)

/-- A LENS report of a sample (R425): held off, or sent with what was suppressed. -/
def State.lensReport (s : State) (d : Nat) (model : LModel) (r : LRow) (g o m : Nat) : State :=
  let u := Chip.wdie d
  let b := r.binding
  let same := fun (h : LHold) => h.die == d && h.binding == b && h.job == r.job && h.dieIndex == r.dieIndex && h.kind == r.kind &&
    h.group == g
  let h := s.lensHolds.find? same
  let rest := s.lensHolds.filter fun x => !same x
  if h.any fun x => s.now < x.at' + s.rd u (featBindingReportHoldoffMs b) * ms then
    State.inc { s with lensHolds := rest ++ (h.map fun (x : LHold) => { x with supp := x.supp + 1 }).toList } u
      (featBindingReportsSuppressed b)
  else
    let s1 := State.inc { s with lensHolds := rest ++ [(⟨d, b, r.job, r.dieIndex, r.kind, g, s.now, 0⟩ : LHold)] } u (featBindingReportsReports b)
    s1.report d (s.on u (featBindingReportHost b)) (s.on u (featBindingReportUplink b))
      { type := 1, index := s.rd u (featBindingReportClass b), fleetLock := r.fleetLock, kind := r.kind, job := r.job,
        dieIndex := r.dieIndex, group := g, rank := s.rankOf r.job r.dieIndex, model := model.id, value := o,
        limit := s.rd u (featBindingThrThr b), margin := m, capture := r.capture, supp := (h.map fun x => x.supp).getD 0,
        rowseq := r.rowseq }

/-- What the trees of a model give a sample: class and value, and how many gave NONE. -/
def sampleVals (trees : List LTree) (codes : List Nat) : List (Nat × Nat) × Nat :=
  let l := trees.map fun t => (t.cls, evalTree t codes)
  (l.map fun e => (e.1, e.2.getD 0), l.countP fun e => e.2.isNone)

/-- A row's samples scored: reports, SCORE_MEAN once the row ends; else its outputs go to the row's rest. -/
def State.scoreRow (s : State) (d : Nat) (model : LModel) (trees : List LTree) (r : LRow) : State :=
  let u := Chip.wdie d
  let res := r.samples.map fun e =>
    let v := sampleVals trees e.2
    let ms := margins model.base model.classes v.1
    (e.1, ms, outputs model.link ms, v.2)
  let s1 := res.foldl (fun t e =>
    let c := t.rd u (featBindingReportClass r.binding)
    let t1 := if 0 < e.2.2.2 then t.inc u lensAnomalyMaskEmpty e.2.2.2 else t
    match e.2.2.1[c]? with
    | some o => if fge o (t1.rd u (featBindingThrThr r.binding)) then t1.lensReport d model r e.1 o (nth e.2.1 c) else t1
    | none => t1) s
  let outs := r.prior ++ res.map fun e => e.2.2.1
  if r.last then
    match s1.findCtx r.job r.dieIndex r.kind with
    | some (k, _) =>
      if k / 512 = d then
        s1.driftAll k ⟨r.job, r.dieIndex, r.kind, r.capture, r.rowseq, r.fleetLock⟩ fun x =>
          if x.source = 3 && x.feature % 16 < model.classes then some (fMean (outs.map fun o => nth o (x.feature % 16))) else none
      else s1
    | none => s1
  else
    let give := fun (l : List LBatch) => l.map fun b => { b with rows := b.rows.map fun q =>
      if q.ctx == r.ctx && q.rowseq == r.rowseq && q.job == r.job && q.dieIndex == r.dieIndex then { q with prior := outs } else q }
    (s1.setClosed d (give (s1.closedOf d))).setOpen d (give (s1.openOf d))

/-- The batch that closed first scored. -/
def State.scoreBatch (s : State) (d : Nat) : State :=
  let u := Chip.wdie d
  match s.closedOf d with
  | [] => s
  | b :: _ =>
    let len := 3080 * b.model.trees
    match s.poisoned.find? fun l => decide (dieAddr d b.model.treesAt / 64 ≤ l) && decide (l ≤ (dieAddr d b.model.treesAt + len - 1) / 64) with
    | some l => s.batchPoison d ((l * 64) % 2 ^ 36)
    | none =>
      let img := (s.dramBytes len (dieAddr d b.model.treesAt)).map BitVec.toNat
      let trees := (chunks (b.model.trees + 1) 3080 img).map treeOf
      let s1 := b.rows.foldl (fun t q => t.scoreRow d b.model trees q) s
      let s2 := (s1.inc u lensScoredCount b.count).inc u (lensSlotSamplesCount b.slot) b.count
      ((s2.inc u lensEvalsCount (b.count * b.model.trees)).setClosed d ((s1.closedOf d).drop 1)).lensFollow d
def execLensBatchScored (d : Nat) (s : State) : Out' := keeping s <|
  .next (s.ifOn (.wdie d) .lens fun s => if s.mode (.wdie d) == .midnight || s.stopped d then s else s.scoreBatch d)

/-- R431: entry to Midnight: the open batches close and are scored; previous rows are discarded. -/
def State.scoreAll : Nat → Nat → State → State
  | 0, _, s => s
  | n + 1, d, s => State.scoreAll n d (s.scoreBatch d)
def State.lensMidnight (s : State) (d : Nat) : State :=
  let s1 := s.closeBatches d fun _ => true
  let s2 := State.scoreAll ((s1.closedOf d).length) d s1
  { s2 with ctxs := s2.ctxs.map fun (e : Nat × Ctx) => if e.1 / 512 = d then (e.1, { e.2 with prevRow := none }) else e }

/-! ## DRIFT commands (R435) -/

def State.driftSel (s : State) (d : Nat) : Nat := ctxKey d (s.rd (.wdie d) driftCmdSlot)
def State.driftResult (s : State) (d r : Nat) : State := s.wr (.wdie d) driftCmdResult r

/-- READ. -/
def State.driftRead (s : State) (d : Nat) : State :=
  let u := Chip.wdie d
  let x := s.metric (s.driftSel d) (s.rd u driftCmdMetric)
  let s1 := (((s.wr u driftECfgEnable x.enable.toNat).wr u driftECfgSource x.source).wr u driftECfgFeature x.feature).wr u driftECfgGroup x.group
  let s2 := (((s1.wr u driftECfgAlphaLog2 x.alpha).wr u driftECfgRefMode x.refMode).wr u driftECfgCusumEn x.cusum.toNat).wr u driftECfgZEn x.zEn.toNat
  let s3 := (((s2.wr u driftEKK x.k).wr u driftEHH x.h).wr u driftERefRef x.ref).wr u driftEZthrZthr x.zthr
  let s4 := ((s3.wr u driftEMeanMean x.mean).wr u driftESposSpos x.spos).wr u driftESnegSneg x.sneg
  ((s4.wr u driftEZZ x.z).wr u driftECountUpdates x.updates).driftResult d 0
def execDriftRead (d : Nat) (s : State) : Out' := storeless s <| .next (s.ifOn (.wdie d) .drift (·.driftRead d))

/-- WRITE; setting ENABLE begins the metric anew (R428). -/
def State.driftWrite (s : State) (d : Nat) : State :=
  let u := Chip.wdie d
  let k := s.driftSel d
  let m := s.rd u driftCmdMetric
  let x := s.metric k m
  let kk := s.rd u driftEKK
  let h := s.rd u driftEHH
  if fgt 0 kk || !fgt h 0 || [kk, h, s.rd u driftERefRef, s.rd u driftEZthrZthr].any fIsNaN then (s.driftResult d 1).pageErr u .drift 0x0100 1
  else
    let x1 := if s.on u driftECfgEnable && !x.enable then x.restart else x
    (s.setMetric k m { x1 with
      enable := s.on u driftECfgEnable, source := s.rd u driftECfgSource, feature := s.rd u driftECfgFeature,
      group := s.rd u driftECfgGroup, alpha := s.rd u driftECfgAlphaLog2, refMode := s.rd u driftECfgRefMode,
      cusum := s.on u driftECfgCusumEn, zEn := s.on u driftECfgZEn, k := kk, h := h, ref := s.rd u driftERefRef,
      zthr := s.rd u driftEZthrZthr }).driftResult d 0
def execDriftWrite (d : Nat) (s : State) : Out' := storeless s <| .next (s.ifOn (.wdie d) .drift (·.driftWrite d))

/-- RESET. -/
def State.driftReset (s : State) (d : Nat) : State :=
  let k := s.driftSel d
  let m := s.rd (.wdie d) driftCmdMetric
  (s.setMetric k m (s.metric k m).restart).driftResult d 0
def execDriftReset (d : Nat) (s : State) : Out' := storeless s <| .next (s.ifOn (.wdie d) .drift (·.driftReset d))

/-! ## Errors of DRAM reads (R300, R301) -/

/-- What a poisoned line means to the engine that read it (R300, R321, R367, R384, R421, R466): 1 context slot `owner`, 2 the Merge
instance in slot `owner`, 3 a Lens batch; the rest is with the reader. -/
def State.ownerHurt (s : State) (d addr owner kind : Nat) : State :=
  match kind with
  | 1 => s.killCtx (ctxKey d owner)
  | 2 => match s.instAt d owner with
    | some i => s.killInst i
    | none => s
  | 3 => s.batchPoison d addr
  | _ => s
def execDramReadError (d addr cls : Nat) (unc check link : Bool) (owner kind : Nat) (s : State) : Out' := keeping s <|
  let s0 := s.dramError d addr cls unc check link
  let s1 := if cls ≠ 3 then s0
    else if unc || link then (s0.inc (.wdie d) scrubPatrolUncorrLines (if check then 8 else 1)).int (.wdie d) .scrub 2
    else s0.inc (.wdie d) scrubPatrolCorrCount
  .next (if unc || link then s1.ownerHurt d addr owner kind else s1)

end Sys2Proof.Machine
end

