-- ==== Sys2Proof/Machine/Cores.lean ====
section
/-! DEFINITION. Spec 16: control cores, mailboxes, verification, tokens and grants, background work. -/

namespace Sys2Proof.Machine

/-! ## Cores (R477, R478, R486, R494, R495) -/

/-- The control cores of a part. -/
def coreCount (u : Chip) : Nat := match u with
  | .ikb _ => 2
  | .wdie _ => 4
  | .pkg => 0

/-- Of a core: VERSION of the image it last ran plus 1, its ENTRY, whether a mode powered it down, whether it runs the
verified next image. -/
def coreVer (c : Nat) : Fld := cell .core c
def coreEntry (c : Nat) : Fld := cell .core (8 + c)
def coreByMode (c : Nat) : Fld := cell .core (16 + c)
def coreOnNext (c : Nat) : Fld := cell .core (24 + c)

def State.coreState (s : State) (u : Chip) (c : Nat) : Nat := s.rd u (coreCoreStatState c)
def State.coreRuns (s : State) (u : Chip) (c : Nat) : Bool := s.coreState u c == 2 || s.coreState u c == 3
def State.coreParam (s : State) (u : Chip) : State := s.pageErr u .core 0x0101 1

/-- A core stops: HALTED, the cause, a program counter that the model does not follow; the event; the interrupt unless a
HALT write stopped it. -/
def State.coreStop (s : State) (u : Chip) (c cause : Nat) : State :=
  let f := s.free 32
  let s1 := (((f.2.wr u (coreCoreStatState c) 1).wr u (coreCoreStatRom c) 0).wr u (coreCoreCauseCause c) cause).wr u (coreCorePcPc c) f.1
  let s2 := s1.event u .core 0x1001 1 (pay [(c, 0), (cause, 4), (f.1, 32)])
  if cause = 1 then s2 else s2.int u .core c

/-- HALT of a core, by requester `r`: of itself, or of another. -/
def State.coreHalt (s : State) (u : Chip) (r c : Nat) : State :=
  if coreCount u ≤ c || !s.coreRuns u c then s.coreParam u
  else
    let self : Bool := match u with
      | .ikb _ => r == 2 + c
      | _ => r == 9 + c
    s.coreStop u c (if self then 2 else 1)
def execCoreHalt (u : Chip) (r c : Nat) (s : State) : Out' := storeless s <| .next (s.ifOn u .core (·.coreHalt u r c))

/-- POWER_OFF and POWER_ON. -/
def State.corePowerOff (s : State) (u : Chip) (c : Nat) : State :=
  if coreCount u ≤ c || s.coreState u c ≠ 1 then s.coreParam u else s.wr u (coreCoreStatState c) 0
def State.corePowerOn (s : State) (u : Chip) (c : Nat) : State :=
  if coreCount u ≤ c || s.coreState u c ≠ 0 then s.coreParam u else s.wr u (coreCoreStatState c) 1
def execCorePowerOff (u : Chip) (c : Nat) (s : State) : Out' := storeless s <|
  .next (s.ifOn u .core (·.corePowerOff u c))
def execCorePowerOn (u : Chip) (c : Nat) (s : State) : Out' := storeless s <| .next (s.ifOn u .core (·.corePowerOn u c))

/-- The image that a START of a part reads: its header and body; none where a line of it is poisoned. -/
def State.imageAt (s : State) (u : Chip) (next : Bool) : Option (List Nat × List Nat) :=
  match u with
  | .ikb p =>
    let b := (look p s.imgBuf).getD []
    some (b.take 512, b.drop 512)
  | _ =>
    let d := u.part.code % 8
    let a := s.rd u (if next then coreImgNextAddr else coreImgCurAddr)
    let h := (s.dramBytes 512 (dieAddr d a)).map BitVec.toNat
    let n := if (compOf h).bounded then (compOf h).codeLen + (compOf h).dataLen else 0
    if s.hurt d a (512 + n) then none else some (h, (s.dramBytes n (dieAddr d (a + 512))).map BitVec.toNat)

/-- The key of a part's verified BODY_HASH: of its current image, or of its next one or its buffer. -/
def hashKey (u : Chip) (next : Bool) : Nat := u.code * 2 + (match u with
  | .ikb _ => 1
  | _ => next.toNat)

/-- The parts whose cores share interfaces with a part's (R494). -/
def State.kin (s : State) (u : Chip) : List Chip :=
  match u with
  | .ikb _ => [u]
  | _ => ((List.range s.dies).filter fun d => s.present d || Chip.wdie d == u).map Chip.wdie

/-- Whether a new image's interface agrees with every core that runs one. -/
def State.ifacesAgree (s : State) (u : Chip) (k : Comp) : Bool :=
  (s.kin u).all fun v => (List.range (coreCount v)).all fun c =>
    !s.coreRuns v c || s.on v (coreCoreStatRom c) ||
      (decide (s.rd v (coreCoreCompatCompatMin c) ≤ k.iface) && decide (k.compat ≤ s.rd v (coreCoreStatIface c)))

/-- Bytes as the words of a memory. -/
def wordsOf (l : List Nat) : List Nat := (chunks (l.length + 1) 4 l).map leVal

/-- A core runs an image from its ENTRY, the code in its instruction memory. -/
def State.coreRun (s : State) (u : Chip) (c : Nat) (next : Bool) (k : Comp) (body : List Nat) : State :=
  let changed := s.rd u (coreVer c) ≠ k.version + 1
  let s1 := { s with imem := put (u.code * 8 + c) (wordsOf (body.take k.codeLen)) s.imem }
  let s2 := match u with
    | .ikb _ =>
      if s.on u coreIkbLoadFwLoaded then s1
      else
        let l := (wordsOf ((body.drop k.codeLen).take k.dataLen)).zipIdx.filter fun (e : Nat × Nat) => e.1 != 0
        let m := l.foldl (fun m (e : Nat × Nat) => put (u.code * 4294967296 + 4 * e.2) e.1 m)
          (dropRange (u.code * 4294967296) ((u.code + 1) * 4294967296) s1.dmem)
        State.wr { s1 with dmem := m } u coreIkbLoadFwLoaded 1
    | _ => s1
  let s3 := ((s2.wr u (coreCoreStatState c) 2).wr u (coreCoreStatRom c) 0).wr u (coreCorePcPc c) k.entry
  let s4 := ((s3.wr u (coreCoreStatIface c) k.iface).wr u (coreCoreCompatCompatMin c) k.compat).wr u (coreOnNext c) next.toNat
  let s5 := (s4.wr u (coreVer c) (k.version + 1)).wr u (coreEntry c) k.entry
  if changed then s5.event u .core 0x1002 0 (pay [(c, 0), (k.iface, 16), (k.version, 32)]) else s5

/-- START of a HALTED core: refused under R494, or it runs; the flag says which. -/
def State.coreStart (s : State) (u : Chip) (c : Nat) (next : Bool) : State × Bool :=
  let refuse := (s.pageErr u .core 0x0100 1, false)
  let valid := match u with
    | .ikb _ => s.on u coreIkbLoadBufValid
    | _ => s.on u coreNextStatVerified
  if coreCount u ≤ c || s.coreState u c ≠ 1 then (s.coreParam u, false)
  else if next && !valid then refuse
  else match s.imageAt u next with
    | none => refuse
    | some (h, body) =>
      let k := compOf h
      if look (hashKey u next) s.imgHash ≠ some (sha384 (body.take (k.codeLen + k.dataLen))) || !s.ifacesAgree u k then refuse
      else (s.coreRun u c next k body, true)
def execCoreStart (u : Chip) (c : Nat) (s : State) : Out' := storeless s <|
  .next (s.ifOn u .core fun t => (t.coreStart u c (t.on u (coreCoreCtrlUseNext c))).1)

/-- R478: the cores of a part as a mode keeps them: those above the number stop and power down; those that a mode powered
down come back to the image they last ran. In an IKB's Midnight core 0 waits for interrupt. -/
def State.modeCores (s : State) (u : Chip) (n : Nat) : State :=
  (List.range (coreCount u)).foldl (fun t c =>
    if n ≤ c then
      if t.coreState u c = 0 then t
      else
        let ran := t.coreRuns u c
        let t1 := if ran then t.coreStop u c 4 else t
        (t1.wr u (coreCoreStatState c) 0).wr u (coreByMode c) 1
    else if t.on u (coreByMode c) then
      let t1 := (t.wr u (coreByMode c) 0).wr u (coreCoreCauseCause c) 4
      if t1.rd u (coreVer c) = 0 then t1.wr u (coreCoreStatState c) 1
      else (t1.wr u (coreCoreStatState c) 2).wr u (coreCorePcPc c) (t1.rd u (coreEntry c))
    else t) s

/-- The cores that a mode runs on a part (Tables 4.12, 4.13). -/
def modeCoreCount (u : Chip) (m : Mode) : Nat :=
  match u, m with
  | .ikb _, .noon => 2
  | .ikb _, .afternoon => 2
  | .ikb _, _ => 1
  | .wdie _, .noon => 4
  | .wdie _, .afternoon => 4
  | .wdie _, .dusk => 2
  | .wdie d, .midnight => if d = 0 then 1 else 0
  | .pkg, _ => 0

/-- R495: PROMOTE. -/
def State.promote (s : State) (d : Nat) : State :=
  let u := Chip.wdie d
  let all := (s.kin u).all fun v => (List.range 4).all fun c => !s.coreRuns v c || s.on v (coreOnNext c)
  if !s.on u coreNextStatVerified || !all then s.coreParam u
  else
    let s1 := ((s.wr u coreImgCurAddr (s.rd u coreImgNextAddr)).wr u coreCurInfoIface (s.rd u coreNextInfoIface)).wr
      u coreCurInfoCompatMin (s.rd u coreNextInfoCompatMin)
    match look (hashKey u true) s.imgHash with
    | some h => { s1 with imgHash := put (hashKey u false) h s1.imgHash }
    | none => s1
def execCorePromote (d : Nat) (s : State) : Out' := storeless s <| .next (s.ifOn (.wdie d) .core (·.promote d))

/-- A write of IMG_NEXT clears VERIFIED (R486). -/
def State.imgNextWrite (s : State) (d value : Nat) : State :=
  let u := Chip.wdie d
  (List.range 4).foldl (fun t c => t.wr u (coreOnNext c) 0) ((s.wr u coreImgNextAddr value).wr u coreNextStatVerified 0)

/-! ## Core memories (R504) -/

/-- The bytes of a core's instruction memory. -/
def imemBytes (u : Chip) : Nat := if u.isIkb then 65536 else 262144
def State.memWord (s : State) (u : Chip) (bank : Option Nat) : Nat :=
  let a := s.rd u coreMemAddrAddr
  match bank with
  | some c => nth ((look (u.code * 8 + c) s.imem).getD []) (a % imemBytes u / 4)
  | none => (look (u.code * 4294967296 + a / 4 * 4) s.dmem).getD 0
def State.memPut (s : State) (u : Chip) (bank : Option Nat) (v : Nat) : State :=
  let a := s.rd u coreMemAddrAddr
  match bank with
  | some c =>
    let i := a % imemBytes u / 4
    let l := (look (u.code * 8 + c) s.imem).getD []
    { s with imem := put (u.code * 8 + c) ((l ++ List.replicate (i + 1 - l.length) 0).set i v) s.imem }
  | none =>
    let k := u.code * 4294967296 + a / 4 * 4
    { s with dmem := if v = 0 then drop k s.dmem else put k v s.dmem }
/-- The core whose instruction memory MEM_ADDR lies in, none for data memory: the core address map is not in the spec. -/
def State.bankOf (s : State) (u : Chip) : Option Nat :=
  match Config.partConst 8 u.isIkb.toNat (s.rd u coreMemAddrAddr) % (coreCount u + 1) with
  | 0 => none
  | c + 1 => some c

def State.memNext (s : State) (u : Chip) : State := s.wr u coreMemAddrAddr ((s.rd u coreMemAddrAddr + 4) % 4294967296)
/-- An access of MEM_DATA: the word at MEM_ADDR, which then advances by 4; a write to a running core's instruction
memory is refused. -/
def State.memAccess (s : State) (u : Chip) (write : Bool) (value : Nat) : Nat × State :=
  let bank := s.bankOf u
  if write then
    if bank.any fun c => s.coreRuns u c then (0, (s.coreParam u).memNext u)
    else (0, (s.memPut u bank (value % 4294967296)).memNext u)
  else (s.memWord u bank, s.memNext u)
def execCoreMemAccess (u : Chip) (r : Nat) (write : Bool) (value : Nat) (s : State) : Out' := storeless s <|
  let t := s.memAccess u write value
  .next (t.2.answer u r write false t.1)

/-! ## Mailboxes (R481 to R483) -/

def mboxCount (u : Chip) : Nat := if u.isIkb then 16 else 32
def mboxKey (u : Chip) (m : Nat) : Nat := u.code * 32 + m
def State.mbox (s : State) (u : Chip) (m : Nat) : List MboxMsg := (look (mboxKey u m) s.mboxes).getD []

/-- A mailbox's messages set; COUNT and the head's fields follow. -/
def State.setMbox (s : State) (u : Chip) (m : Nat) (l : List MboxMsg) : State :=
  let s1 := { s with mboxes := if l.isEmpty then drop (mboxKey u m) s.mboxes else put (mboxKey u m) l s.mboxes }
  let h := l.headD ⟨0, 0, 0⟩
  (((s1.wr u (mboxMboxCfgCount m) l.length).wr u (mboxMboxCfgRxSender m) h.sender).wr u (mboxMboxRxTagTag m) h.tag).wr
    u (mboxMboxRxPtrPtr m) h.ptr

/-- The pointer and tag that a requester holds. -/
def State.heldSend (s : State) (u : Chip) (r : Nat) : Nat × Nat := (look (reqKey u r) s.mboxSend).getD (0, 0)

/-- A receiver: a core that is not OFF or a remote one takes messages; a core in OFF; one that the part does not have. -/
inductive Rx where
  | takes
  | off
  | absent
deriving DecidableEq, Repr
def State.rxOf (s : State) (u : Chip) (m : Nat) : Rx :=
  let x := s.rd u (mboxMboxCfgRx m)
  if x < coreCount u then (if s.coreState u x = 0 then .off else .takes)
  else if (u.isIkb && x = 6) || (!u.isIkb && x = 7) then .takes
  else .absent

/-- SEND_GO (Table 16.3): the state, and whether the response is an error. -/
def State.mboxPost (s : State) (u : Chip) (r m : Nat) : State × Bool :=
  if mboxCount u ≤ m then (s.pageErr u .mbox 0x0102 1, false)
  else match s.rxOf u m with
    | .absent => (s.pageErr u .mbox 0x0102 1, false)
    | .off => ((s.inc u mboxDropsCoreOff).pageErr u .mbox 0x0101 1, true)
    | .takes =>
      let l := s.mbox u m
      if 8 ≤ l.length then ((s.inc u mboxDropsFull).pageErr u .mbox 0x0100 1, false)
      else
        let h := s.heldSend u r
        ((s.setMbox u m (l ++ [⟨h.1, h.2, senderId u r⟩])).int u .mbox m, false)
def execMboxSend (u : Chip) (r m : Nat) (s : State) : Out' := storeless s <|
  if !s.enabled u .mbox then .next (s.answer u r true false 0)
  else
    let t := s.mboxPost u r m
    .next (t.1.answer u r true t.2 0)

/-- CFG.POP. -/
def execMboxPop (u : Chip) (m : Nat) (s : State) : Out' := storeless s <|
  .next (s.ifOn u .mbox fun t => t.setMbox u m ((t.mbox u m).drop 1))

/-! ## Verification (R486, R493) -/

/-- The image buffer receives bytes (R489); BUF_VALID clears. -/
def State.bufWrite (s : State) (p off : Nat) (bytes : List Nat) : State :=
  let l := (look p s.imgBuf).getD []
  let l1 := l ++ List.replicate (off - l.length) 0
  let l2 := l1.take off ++ bytes ++ l1.drop (off + bytes.length)
  State.wr { s with imgBuf := put p (l2.take 197120) s.imgBuf } (.ikb p) coreIkbLoadBufValid 0

/-- AUTH.CMD.VERIFY. -/
def State.authVerify (s : State) (u : Chip) : State :=
  if s.on u authStatBusy then s.pageErr u .auth 0x0100 1 else s.wr u authStatBusy 1
def execAuthVerify (u : Chip) (s : State) : Out' := storeless s <| .next (s.ifOn u .auth (·.authVerify u))

/-- A LOAD frame reaches the IKB (R489); once the component is whole the W-die writes VERIFY. -/
def execLtlLoad (p off : Nat) (bytes : List Nat) (s : State) : Out' := storeless s <|
  let want := ((s.norComponent 2).map List.length).getD 0
  .next (s.recv p true 0x78 (4 + bytes.length) fun t =>
    let t1 := t.bufWrite p (off / 64 * 64) (bytes.take 8192)
    let u := dieOfPort p
    let b := linkOfPort p
    if t1.rd u (loadStep b) = 1 && 0 < want && want ≤ off / 64 * 64 + (bytes.take 8192).length then (t1.wr u (loadStep b) 2).authVerify (.ikb p)
    else t1)

/-- The component that VERIFY examines: header, body, and whether a line is poisoned. -/
def State.verifyResult (s : State) (u : Chip) : Nat :=
  match s.imageAt u true with
  | none => 6
  | some (h, body) => s.verifyComp u (if u.isIkb then 2 else 1) h body

/-- R489: an IKB's verification has ended: its cores start, or the load failed. -/
def State.loadDone (s : State) (p res : Nat) : State :=
  let u := dieOfPort p
  let b := linkOfPort p
  if s.rd u (loadStep b) ≠ 2 then s
  else if res ≠ 1 then s.loadFail p res
  else
    let a := s.coreStart (.ikb p) 0 true
    let c := if a.1.coreState (.ikb p) 1 = 0 then (a.1, true) else a.1.coreStart (.ikb p) 1 true
    if !a.2 || !c.2 then c.1.loadFail p res
    else
      let h := compOf (((look p s.imgBuf).getD []).take 512)
      ((c.1.wr u (loadStep b) 0).event u .core 0x1005 0 (pay [(p, 0), (h.version, 32)])).writeGovJob p

/-- R486: verification completes. -/
def State.verifyDone (s : State) (u : Chip) : State :=
  if !s.on u authStatBusy then s
  else
    let res := s.verifyResult u
    let k := compOf (((s.imageAt u true).map fun e => e.1).getD [])
    let s1 := (s.wr u authStatBusy 0).wr u authStatVerifyResult res
    let s2 := if res = 1 then
        let t := { s1 with imgHash := put (hashKey u true) k.hash s1.imgHash }
        match u with
        | .ikb _ => t.wr u coreIkbLoadBufValid 1
        | _ => ((t.wr u coreNextStatVerified 1).wr u coreNextInfoIface k.iface).wr u coreNextInfoCompatMin k.compat
      else s1
    let s3 := s2.int u .auth 1
    match u with
    | .ikb p => s3.loadDone p res
    | _ => s3
def execAuthVerifyDone (u : Chip) (s : State) : Out' := storeless s <| .next (s.ifOn u .auth (·.verifyDone u))

/-- R544: ten seconds after a failed load the W-die tries again. -/
def execIkbLoadRetry (p : Nat) (s : State) : Out' := storeless s <|
  let at' := s.rd (dieOfPort p) (loadFailed (linkOfPort p))
  .next (if at' ≠ 0 && at' + 10 * sec ≤ s.now + 1 then s.loadBegin p else s)

/-! ## Tokens and grants (R490 to R492) -/

/-- Of a grant by scope 1 to 3: the seconds count at which its life ends plus 1 (0 when not in force), its EXPIRY, the dies
that it was distributed to. -/
def grantEnd (k : Nat) : Fld := cell .auth k
def grantExpiry (k : Nat) : Fld := cell .auth (4 + k)
def grantMask (k : Nat) : Fld := cell .auth (8 + k)

def authBit (k : Nat) : Fld := match k with
  | 1 => authStatClear
  | 2 => authStatUpdate
  | _ => authStatPrism

/-- PRISM.STAT.AUTH follows the grant. -/
def State.grantFollow (s : State) (u : Chip) (k : Nat) : State := if k = 3 then s.prismAuth u (s.rd u authStatPrism) else s

/-- A grant of a part ends (why: 0 lifetime, 1 expiry, 2 revoke, 3 replaced). -/
def State.grantOff (s : State) (u : Chip) (k why : Nat) : State :=
  if !s.on u (authBit k) then s
  else
    let s1 := (s.wr u (authBit k) 0).wr u (grantEnd k) 0
    let s2 := if why = 3 then s1 else s1.grantFollow u k
    (s2.event u .auth 0x1009 0 (pay [(k, 0), (why, 4)])).int u .auth 2

/-- A grant of a part opens. -/
def State.grantOn (s : State) (u : Chip) (k life expiry : Nat) : State :=
  let s1 := s.grantOff u k 3
  (((s1.wr u (authBit k) 1).wr u (grantEnd k) (s1.rd u rasFaultSecSec + life + 1)).wr u (grantExpiry k) expiry).grantFollow u k

/-- A token's bytes and fields (Table 16.6). -/
structure Token where
  ver : Nat
  scope : Nat
  page : Nat
  mask : Nat
  life : Nat
  id : Nat
  target : Nat
  nonce : Nat
  expiry : Nat
  reserved : Nat
  bytes : List Nat
deriving DecidableEq, Repr
def State.token (s : State) (u : Chip) : Token :=
  let b := ((List.range 60).map fun k => leBytes 4 (s.rd u (authTokenData k))).flatten
  let n := fun (at' w : Nat) => leVal ((b.drop at').take w)
  { ver := n 0 1, scope := n 1 1, page := n 2 1, mask := n 3 1, life := n 4 4, id := n 8 8, target := n 16 8, nonce := n 24 8,
    expiry := n 32 6, reserved := n 38 10, bytes := b }

/-- The fleet key hash in a part's fuses. -/
def fleetKey (u : Chip) : Nat := Config.partConst 3 u.code 0 % 2 ^ 384

/-- R491: the first failing check as a TOKEN_RESULT, or 1 ACCEPTED. -/
def State.tokenResult (s : State) (u : Chip) (t : Token) : Nat :=
  let key := (t.bytes.drop 48).take 96
  if t.ver ≠ 1 || t.scope = 0 || 4 < t.scope || t.life = 0 || 86400 < t.life || t.reserved ≠ 0 then 7
  else if sha384 key ≠ fleetKey u then 3
  else if !signed key (t.bytes.take 144) (t.bytes.drop 144) then 2
  else if t.target ≠ s.rd u authIdentityId then 4
  else if t.nonce ≠ s.rd u authNonceNonce then 5
  else if t.expiry ≠ 0 && s.on u timeStatValid && t.expiry ≤ (s.ltcOf u).sec then 6
  else 1

/-- A new NONCE, from the part's random source; every W-die shows die 0's. -/
def State.newNonce (s : State) (u : Chip) : State :=
  let f := s.free 64
  match u with
  | .ikb _ => f.2.wr u authNonceNonce f.1
  | _ => (List.range s.dies).foldl (fun t d => t.wr (.wdie d) authNonceNonce f.1) f.2

/-- An UNLOCK token clears LOCK.LOCKED of a page, or of every page, of a part. -/
def State.unlock (s : State) (u : Chip) (page : Nat) : State :=
  ((if u.isIkb then ikbBlks else wdieBlks).filter fun b => page = 0xFF || pageNo u b = page).foldl
    (fun t b => t.wr u (hdrLockLocked b) 0) s

/-- An accepted token's effect on one part. -/
def State.accept1 (s : State) (u : Chip) (t : Token) : State :=
  if t.scope = 4 then s.unlock u t.page else s.grantOn u t.scope t.life t.expiry

/-- The parts that a token addresses. -/
def State.addressed (s : State) (u : Chip) (mask : Nat) : List Chip :=
  match u with
  | .ikb _ => [u]
  | _ => ((List.range s.dies).filter fun d => s.present d && bitAt mask d == 1).map Chip.wdie

/-- SUBMIT. -/
def State.authSubmit (s : State) (u : Chip) : State :=
  if s.on u authStatBusy then s.pageErr u .auth 0x0100 1
  else
    let t := s.token u
    let res := match u with
      | .wdie (_ + 1) => 4
      | _ => s.tokenResult u t
    let s1 := s.wr u authStatTokenResult res
    if res ≠ 1 then (s1.event u .auth 0x1008 1 (pay [(res, 0), (t.id, 64)])).int u .auth 0
    else
      let s2 := (s.addressed u t.mask).foldl (fun a v => a.accept1 v t) s1
      let s3 := ((s2.newNonce u).wr u authLastTokenId t.id).wr u (grantMask t.scope) t.mask
      (s3.event u .auth 0x1007 1 (pay [(t.scope, 0), (t.page, 8), (t.mask, 16), (t.id, 64)])).int u .auth 0
def execAuthSubmit (u : Chip) (s : State) : Out' := storeless s <| .next (s.ifOn u .auth (·.authSubmit u))

/-- REVOKE: every grant of the part ends; of die 0, those it distributed. -/
def State.authRevoke (s : State) (u : Chip) : State :=
  let l := match u with
    | .wdie 0 => (List.range s.dies).map Chip.wdie
    | _ => [u]
  l.foldl (fun a v => [1, 2, 3].foldl (fun b k => b.grantOff v k 2) a) s
def execAuthRevoke (u : Chip) (s : State) : Out' := storeless s <| .next (s.ifOn u .auth (·.authRevoke u))

/-- R492: a grant's lifetime, or its expiry, passes. -/
def execGrantExpiry (u : Chip) (s : State) : Out' := storeless s <|
  .next ([1, 2, 3].foldl (fun a k =>
    if !a.on u (authBit k) then a
    else if a.rd u (grantEnd k) ≤ a.rd u rasFaultSecSec + 1 then a.grantOff u k 0
    else if a.rd u (grantExpiry k) ≠ 0 && a.on u timeStatValid && a.rd u (grantExpiry k) ≤ (a.ltcOf u).sec then a.grantOff u k 1
    else a) s)

/-! ## Background work (R498 to R503) -/

/-- R503: a window of 1 s of core `c`: its cycles, those not in WFI, those with BG_ACTIVE. -/
def execBgWindow (u : Chip) (c cycles busy bg : Nat) (s : State) : Out' := storeless s <|
  .next (s.ifOn u .core fun t =>
    let t1 := (t.inc u (coreCoreBusyCycles c) busy).inc u (coreCoreBgCycles c) bg
    if t1.rd u coreBgCfgBgPct * cycles < 100 * bg then
      ((t1.wr u (coreCoreBgctlBgOver c) 1).int u .core (4 + c)).event u .core 0x100B 1 (pay [(c, 0), (100 * bg / cycles, 8)])
    else t1)

/-- The kinds of error that SRAM scrub finds (R501): a corrected bit of a core memory; a parity error of another SRAM,
that of the Lens stores among them; an uncorrectable word of a core's own memory, instruction or data; one of shared data
memory. -/
def execSramScrubError (u : Chip) (kind core : Nat) (data : Bool) (addr : Nat) (s : State) : Out' := storeless s <|
  let corr := if u.isIkb then coreIkbScrubCorr else scrubSramErrCorr
  let par := if u.isIkb then coreIkbScrubParity else scrubSramErrParity
  .next (match kind with
    | 0 => s.inc u corr
    | 1 => s.inc u par
    | 2 => match u with
      | .wdie d => (s.inc u par).batchParity d
      | _ => s.inc u par
    | 3 =>
      let s1 := if s.coreRuns u core then s.coreStop u core 3 else s
      s1.event u .core 0x100A 2 (pay [(core, 0), (data.toNat, 4), (addr, 32)])
    | _ => s.pageErr u .core 0x0102 3)

/-- When the running patrol pass began. -/
def patrolAt : Fld := cell .scrub 0

/-- R502: a patrol pass completes, or outlasts PERIOD_H. -/
def execPatrolPass (d : Nat) (done : Bool) (s : State) : Out' := storeless s <|
  let u := Chip.wdie d
  if !s.on u scrubCtrlPatrolEn || s.on u scrubProgressPaused then .next s
  else
    .next (s.ifOn u .scrub fun t =>
      let late := t.rd u patrolAt + t.rd u scrubPatrolPeriodH * 3600 * sec < t.now
      let t1 := if late && !t.on u scrubProgressOverdue then (t.wr u scrubProgressOverdue 1).int u .scrub 1 else t
      if done then ((t1.wr u patrolAt t1.now).wr u scrubProgressPct 0).int u .scrub 0 else t1)

/-- R498: a DRAM channel recalibrates; its requests wait, and nothing else changes. -/
def execScrubRecal (d channel : Nat) (s : State) : Out' := storeless s <|
  .next (s.ifOn (.wdie d) .scrub fun t => t.wr (.wdie d) scrubRecalChannel (clrBit (t.rd (.wdie d) scrubRecalChannel) channel))

/-- R498: a sense channel's offset is calibrated while a spare converter samples for it. -/
def execAdcBgRecal (p channel : Nat) (s : State) : Out' := storeless s <|
  .next (s.ifOn (.ikb p) .core fun t => t.wr (.ikb p) coreBgRecalAdc (clrBit (t.rd (.ikb p) coreBgRecalAdc) channel))

end Sys2Proof.Machine
end

