-- ==== Sys2Proof/Machine/JobStart.lean ====
section
/-! DEFINITION. Spec 13 R397 to R402: job configurations, the broadcasts of a job start and end, staging, commit, abort. -/

namespace Sys2Proof.Machine

/-! ## The configuration (R397, Tables 13.6, 13.7) -/

/-- A feed entry of 16 bytes. -/
def feedOf (l : List Nat) : Feed :=
  { source := nth l 0 % 16, sub := leNum l 1 2, set := nth l 3 % 256, mask := leNum l 4 2, fmt := nth l 6 % 4,
    uplink := bitAt (nth l 6) 4 == 1, host := bitAt (nth l 6) 5 == 1, mode := bitAt (nth l 6) 6, dir := bitAt (nth l 6) 7,
    k := nth l 7 % 128, window := leNum l 8 4 * us }

/-- The feeds installed with every job (Table 13.2). -/
def implicitFeeds : List Feed :=
  [{ source := 2, set := 0, mask := 32, mode := 0, window := 10 * ms },
   { source := 3, set := 0, mask := 16, fmt := 1, mode := 1, window := 200 * us }]

/-- Whether a list of numbers rises somewhere. -/
def risesSomewhere : List Nat → Bool
  | a :: b :: r => a < b || risesSomewhere (b :: r)
  | _ => false

/-- The configuration of a list of bytes; none where R397 refuses it. -/
def parseCfg (l : List Nat) : Option JobCfg :=
  let job := leNum l 0 2
  let ranks := leNum l 4 4
  let nf := nth l 9
  let words := pieces 16 ranks (l.drop (128 + 16 * nf))
  let groups := (l.drop (128 + 16 * nf + 16 * ranks)).take ranks
  let freq := (List.range 32).map fun i => leNum l (16 + 2 * i) 2
  let entries := words.map fun w => xlatOf (ofLe w) 0
  if job = 0 || ranks = 0 || 131072 < ranks || 16 < nf || words.any (fun w => bitAt (ofLe w) 41 == 0) ||
     entries.any (fun e => e.job != job) || risesSomewhere freq || groups.contains 255 then none
  else some {
    job := job, ranks := ranks, startIdx := nth l 10 % 32, raiseEpochs := nth l 11, lowerLead := leNum l 12 2,
    raiseLead := leNum l 14 2, freqRef := freq, gen := leNum l 80 4,
    feeds := (pieces 16 nf (l.drop 128)).map feedOf ++ implicitFeeds,
    entries := entries.zipIdx.map fun e => { e.1 with key := e.2, flat := false }, groups := groups, raw := l,
    point := nth l 10 % 32 }

/-- The bytes of the configuration at JS_CFG, by its own counts. -/
def State.cfgBytes (s : State) : List Nat :=
  let a := dieAddr 0 (s.rd (.wdie 0) mergeJsCfgAddr)
  let h := (s.dramBytes 128 a).map fun b => b.toNat
  let n := 16 * min 16 (nth h 9) + 17 * min 131072 (leNum h 4 4)
  h ++ (s.dramBytes n (a + 128)).map fun b => b.toNat

/-- Whether the configuration at JS_CFG touches a poisoned line. -/
def State.cfgPoisoned (s : State) (n : Nat) : Bool :=
  let a := dieAddr 0 (s.rd (.wdie 0) mergeJsCfgAddr)
  (List.range (n / 64 + 2)).any fun i => a / 64 + i ≤ (a + n - 1) / 64 && s.poisoned.contains (a / 64 + i)

/-- The identifier of a job's broadcasts. -/
def JobCfg.bid (c : JobCfg) : Nat := c.job * 65536 + c.gen % 65536

/-! ## Messages between modules (R398) -/

def State.findBcast (s : State) (bid kind : Nat) : Option Bcast := s.bcasts.find? fun b => b.bid == bid && b.kind == kind
def State.setBcast (s : State) (b : Bcast) : State :=
  { s with bcasts := (s.bcasts.filter fun (x : Bcast) => !(x.bid == b.bid && x.kind == b.kind)) ++ [b] }
def State.forgetBcasts (s : State) (bid : Nat) (kinds : List Nat) : State :=
  { s with bcasts := s.bcasts.filter fun (x : Bcast) => !(x.bid == bid && kinds.contains x.kind) }

/-- The configuration that a BID belongs to, as this node knows it. -/
def State.cfgOfBid (s : State) (bid : Nat) : Option JobCfg :=
  (((s.jsRuns.find? fun r => r.bid == bid).map fun r => r.cfg).orElse fun _ =>
    ((s.jobStage.find? fun j => j.cfg.bid == bid).map fun j => j.cfg)).orElse fun _ =>
    s.jobs.find? fun c => c.bid == bid

/-- The dimension and sign (0 +, 1 −) in which a neighbour lies. -/
def State.dirTo (s : State) (c : Nat) : Nat × Nat :=
  ((List.range 3).findSome? fun i =>
    let d := ringDelta (nth s.rings i) (coordOf s.ownCoord i) (coordOf c i)
    if d = 0 then none else some (i, if 0 < d then 0 else 1)).getD (0, 0)

/-- The dimensions into which a message to a neighbour can sidestep. -/
def State.otherDims (s : State) (dim : Nat) : List Nat := (List.range 3).filter fun e => e != dim && 1 < nth s.rings e

/-- The paths to a neighbour: 0 the link itself, 1 the other direction round its ring, then the sidesteps, each with its
hops. -/
def State.pathHops (s : State) (c path : Nat) : Option Nat :=
  let d := (s.dirTo c).1
  if path = 0 then some 1
  else if path = 1 then some (nth s.rings d - 1)
  else (s.otherDims d)[path - 2]?.map fun _ => 3

/-- The frames of a message of `n` bytes: a 16-byte head and up to 9,118 bytes in each. -/
def msgFrames (job dst : Nat) (head bytes : List Nat) : List FabricFrame :=
  let parts := if bytes.isEmpty then [[]] else pieces 9118 bytes.length bytes
  parts.zipIdx.map fun e =>
    { hdr := { kind := 1, job := job, dst := dst, len := 16 + e.1.length }, body := head ++ [e.2, parts.length] ++ e.1 }

/-- A frame to a neighbour on a path. -/
def State.sendPath (s : State) (c path : Nat) (f : FabricFrame) : State :=
  let d := s.dirTo c
  if path = 0 then s.torusSend 0 1 f
  else if path = 1 then s.torusSendBy 0 1 ((if d.2 = 0 then 3 else 2) * 4 ^ d.1) f
  else match (s.otherDims d.1)[path - 2]? with
    | some e => s.sidestepSend 0 1 d.1 e f
    | none => s

/-- A message of a broadcast sent to a child. -/
def State.sendMsg (s : State) (b : Bcast) (c path : Nat) : State :=
  (msgFrames (b.bid / 65536) c [b.kind, b.bid, b.instant] b.bytes).foldl (fun t f => t.sendPath c path f) s

/-- ACK (5) and completion report (6) to the sender of a message. -/
def State.sendBack (s : State) (dst bid : Nat) (body : List Nat) : State :=
  s.torusSend 0 1 { hdr := { kind := 1, job := bid / 65536, dst := dst, len := 16 }, body := body }
def State.sendAck (s : State) (dst bid kind : Nat) : State := s.sendBack dst bid [5, bid, kind]

/-! ## Staging (R399) -/

/-- The first index at which an IKB's FREQ_MHZ column differs from the reference; none where its link is down. -/
def State.freqDiffers (s : State) (p : Nat) (ref : List Nat) : Option Nat :=
  if !s.on (dieOfPort p) (ltlStatUp (linkOfPort p)) then none
  else (List.range 32).find? fun i => s.rd (.ikb p) (optabEntryPointFreqMhz i) != nth ref i

/-- Why a die of this module cannot be staged: a JS_FAIL reason (0 it can) and the differing index. -/
def State.dieRefused (s : State) (c : JobCfg) (e : Xlat) : Nat × Nat :=
  let other := s.nativeJob e.dieIndex
  if (other ≠ 0 && other ≠ c.job) || s.jobStage.any (fun j => j.cfg.job != c.job && j.cfg.entries.any fun x => x.dieIndex == e.dieIndex) then
    (1, 0)
  else match s.freqDiffers (e.dieIndex % 64) c.freqRef with
    | some i => (2, i)
    | none => if 8 * s.dies ≤ e.dieIndex % 64 then (5, 0) else (0, 0)

/-- A job staged: the reason of a failure, 0 for none, and its die index. -/
def State.stageJob (s : State) (c : JobCfg) (bad : Bool) : State × Nat × Nat :=
  let mine := c.entries.filter fun e => e.dieIndex / 64 == s.rd (.wdie 0) torusCoordTray
  match mine.find? fun e => (s.dieRefused c e).1 ≠ 0 with
  | some e =>
    let r := s.dieRefused c e
    let s1 := if r.1 = 2 then s.event (.wdie 0) .merge 0x0807 2 (pay [(c.job, 0), (e.dieIndex, 16), (r.2, 40)]) else s
    (s1, r.1, e.dieIndex)
  | none =>
    if bad || s.rd .pkg pkgrTblCapEntries < s.entriesAfter s.flatStage (s.natStaged ++ c.entries) then
      (s, 5, ((mine ++ c.entries).head?.map fun e => e.dieIndex).getD 0)
    else
      let rest := s.jobStage.filter fun j => j.cfg.job != c.job
      (({ s with jobStage := rest ++ [({ cfg := c, at' := s.now } : JobStage)] }.wr .pkg pkgrStagedGen c.gen).stagedCount, 0, 0)

/-! ## Commit, abort, end (R400 to R402) -/

/-- A TABLE_SWAP of ROUTE placed on every present die; the slots, and whether every die took it. -/
def State.placeSwap (s : State) (instant : Nat) : State × List (Chip × Nat) × Bool :=
  ((List.range s.dies).filter fun d => s.present d).foldl (fun a d =>
    match a.1.placeIn (.wdie d) (List.range 24) 8 1 instant with
    | (t, some i) => (t, (.wdie d, i) :: a.2.1, a.2.2)
    | (t, none) => (t, a.2.1, false)) (s, [], true)

/-- The GOV_STEP of a start placed on the IKBs of the job; the slots. -/
def State.placeSteps (s : State) (c : JobCfg) (instant : Nat) : State × List (Chip × Nat) :=
  (s.jobPorts c).foldl (fun a p =>
    let before := (List.range 16).filter fun i => a.1.slotFree (.ikb p) i
    let t := a.1.placePoint p c.startIdx instant
    (t, (before.filter fun i => !t.slotFree (.ikb p) i).map (fun i => (Chip.ikb p, i)) ++ a.2)) (s, [])

/-- A placed launch disarmed, unless it has acted. -/
def State.unplace (s : State) (x : Chip × Nat) : State :=
  if s.rd x.1 (launchSlotCtrlState x.2) = 1 then s.disarmSlot x.1 x.2 else s

/-- R400: COMMIT at a node: a failure is told as CAPACITY. -/
def State.commitHere (s : State) (bid instant : Nat) : State × Nat :=
  match s.jobStage.find? fun j => j.cfg.bid == bid with
  | none => (s, 5)
  | some j =>
    let a := s.placeSwap instant
    let b := a.1.placeSteps j.cfg instant
    let j1 := { j with instant := some instant, placed := a.2.1 ++ b.2 }
    ({ b.1 with jobStage := b.1.jobStage.map fun x => if x.cfg.bid = bid then j1 else x }, if a.2.2 then 0 else 5)

/-- R401: what was staged for a BID discarded, its launches disarmed. -/
def State.unstage (s : State) (bid : Nat) : State :=
  let gone := s.jobStage.filter fun j => j.cfg.bid == bid
  let s1 := gone.foldl (fun t j =>
    let t1 := j.placed.foldl (fun a x => a.unplace x) t
    (t1.jobPorts j.cfg).foldl (fun a p => a.wr (dieOfPort p) (pointNext (linkOfPort p)) 0) t1) s
  { s1 with jobStage := s1.jobStage.filter fun j => j.cfg.bid != bid }.stagedCount

/-- R402: END at a node: the entries leave force at the instant, or at once where no launch can be placed for it. -/
def State.endHere (s : State) (bid instant : Nat) : State :=
  let job := bid / 65536
  let a := s.placeSwap instant
  if a.2.2 then { a.1 with natDel := (a.1.natDel.filter fun (e : Nat × Nat) => e.1 != job) ++ [(job, instant)] }.stagedCount
  else (List.range (8 * s.dies)).foldl (fun t p => t.jobFollow s p) (a.1.leaveJob job)

/-- What a message does at this node: its status and die index. -/
def State.actBcast (s : State) (b : Bcast) (cfg : Option JobCfg) (bad : Bool) : State × Nat × Nat :=
  match b.kind with
  | 1 => match cfg with
    | some c => (s.forgetBcasts b.bid [2, 3, 4]).stageJob c bad
    | none => (s, 5, 0)
  | 2 => let r := s.commitHere b.bid b.instant
    (r.1, r.2, 0)
  | 3 => ((s.unstage b.bid).forgetBcasts b.bid [1, 2], 0, 0)
  | _ => (((s.unstage b.bid).endHere b.bid b.instant).forgetBcasts b.bid [1, 2, 3], 0, 0)

/-- A message taken up at this node: kept, acted on, sent on to its children. -/
def State.openBcast (s : State) (b : Bcast) (cfg : Option JobCfg) (bad : Bool) : State :=
  let kids := (cfg.map fun c => childrenIn (s.bcastChains c) s.ownCoord).getD []
  let r := s.actBcast b cfg bad
  let b1 := { b with status := r.2.1, dieIndex := r.2.2, kids := kids.map fun k => { coord := k, sentAt := s.now } }
  kids.foldl (fun t k => t.sendMsg b1 k 0) (r.1.setBcast b1)

/-! ## The root (R397, R400 to R402) -/

def State.setRun (s : State) (r : JsRun) : State := { s with jsRuns := (s.jsRuns.filter fun (x : JsRun) => x.job != r.job) ++ [r] }
def State.findRun (s : State) (job : Nat) : Option JsRun := s.jsRuns.find? fun r => r.job == job

/-- A start or end completes with a RESULT. -/
def State.endRun (s : State) (job result bit : Nat) : State :=
  let s1 := { s with jsRuns := s.jsRuns.filter fun (x : JsRun) => x.job != job }
  ((s1.wr (.wdie 0) mergeJsCmdResult result).wr (.wdie 0) mergeJsCmdBusy (!s1.jsRuns.isEmpty).toNat).int (.wdie 0) .merge bit

/-- The modules that acknowledged a COMMIT, as the root knows. -/
def Bcast.ackCount (b : Bcast) : Nat := (b.kids.map fun k => if k.reported then k.acks else k.acked.toNat).sum

/-- R401: the start aborted. -/
def State.abortRun (s : State) (r : JsRun) (reason die : Nat) : State :=
  let u := Chip.wdie 0
  let n := ((s.findBcast r.bid 2).map Bcast.ackCount).getD 0
  let pl := pay [(r.job, 0), (reason, 16), (die, 32), (n % 65536, 64)]
  let s1 := (s.wr u mergeJsFailReason reason).wr u mergeJsFailDieIndex die
  let s2 := ((s1.endRun r.job 2 4).event u .merge 0x0D04 2 pl).notice r.job die 0x0D04 pl
  let f := s2.free 5
  let s3 := if reason = 2 then f.2.notice r.job die 0x0807 (pay [(r.job, 0), (die, 16), (f.1, 40)]) else s2
  s3.openBcast { bid := r.bid, kind := 3, sender := none, instant := 0, bytes := [] } (some r.cfg) false

/-- A broadcast of the root is complete, or has failed. -/
def State.rootDone (s : State) (r : JsRun) (b : Bcast) (all : Bool) : State :=
  let u := Chip.wdie 0
  if b.kind = 4 then (if all && b.status = 0 then s.endRun r.job 1 3 else s)
  else if b.status ≠ 0 then s.abortRun r b.status b.dieIndex
  else if b.kind = 1 && all && s.now < r.goAt + s.rd u mergeJsTimingDeadlineUs * us then
    let t := s.dieTime + baseUs s.dieBase (max 200 (s.rd u mergeJsLeadCommitLeadUs))
    (s.setRun { r with phase := 2, instant := t, base := s.dieBase }).openBcast
      { bid := r.bid, kind := 2, sender := none, instant := t, bytes := [] } (some r.cfg) false
  else s

/-- A node whose children have all reported, or failed, reports; the root goes on. -/
def State.bcastCheck (s : State) (bid kind : Nat) : State :=
  match s.findBcast bid kind with
  | none => s
  | some b =>
    let all := b.kids.all fun k => k.reported || k.lost
    match b.sender with
    | some dst =>
      if all && !b.done then
        let n := (b.kids.map fun k => k.acks).sum + (if b.kind = 2 ∧ b.status = 0 then 1 else 0)
        (s.setBcast { b with done := true }).sendBack dst bid [6, bid, kind, b.status, b.dieIndex, n]
      else s
    | none =>
      match s.jsRuns.find? fun r => r.bid == bid && r.phase == kind with
      | some r =>
        let s1 := if all then s.setBcast { b with done := true } else s
        s1.rootDone r b all
      | none => s

/-- A message at its root, taken through to a commit where the module is the only node. -/
def State.rootSend (s : State) (b : Bcast) (cfg : JobCfg) (bad : Bool) : State :=
  ((s.openBcast b (some cfg) bad).bcastCheck b.bid b.kind).bcastCheck b.bid 2

/-- R397: JS_CMD START. -/
def State.jsStart (s : State) (job : Nat) : State :=
  let u := Chip.wdie 0
  let s0 := (s.wr u mergeJsCmdOp 1).wr u mergeJsCmdJob job
  if (s0.findRun job).isSome then (s0.wr u mergeJsCmdResult 4).pageErr u .merge 0x0102 1
  else
    let bytes := s0.cfgBytes
    match parseCfg bytes with
    | none => (s0.wr u mergeJsCmdResult 3).pageErr u .merge 0x0101 1
    | some c =>
      if c.job ≠ job then (s0.wr u mergeJsCmdResult 3).pageErr u .merge 0x0101 1
      else
        let s1 := ((s0.wr u mergeJsCmdResult 0).wr u mergeJsCmdBusy 1).wr u mergeJsStatReports 0
        let s2 := ((s1.wr u mergeJsFailReason 0).wr u mergeJsFailDieIndex 0).setRun
          { job := job, bid := c.bid, phase := 1, goAt := s.now, cfg := c }
        s2.rootSend { bid := c.bid, kind := 1, sender := none, instant := 0, bytes := bytes } c (s.cfgPoisoned bytes.length)
def execJsStart (job : Nat) (s : State) : Out' := keeping s <|
  .next (s.ifOn (.wdie 0) .merge (·.jsStart (job % 65536)))

/-- R402: JS_CMD END: of a job in force here, or whose configuration JS_CFG still names. -/
def State.jsEnd (s : State) (job : Nat) : State :=
  let u := Chip.wdie 0
  let s0 := (s.wr u mergeJsCmdOp 2).wr u mergeJsCmdJob job
  if (s0.findRun job).isSome then (s0.wr u mergeJsCmdResult 4).pageErr u .merge 0x0102 1
  else match (s0.jobOf job).orElse fun _ => (parseCfg s0.cfgBytes).filter fun c => c.job == job with
    | none => (s0.wr u mergeJsCmdResult 3).pageErr u .merge 0x0101 1
    | some c =>
      let t := s.dieTime + baseUs s.dieBase (max 200 (s.rd u mergeJsLeadCommitLeadUs))
      let s1 := ((s0.wr u mergeJsCmdResult 0).wr u mergeJsCmdBusy 1).wr u mergeJsStatReports 0
      let s2 := s1.setRun { job := job, bid := c.bid, phase := 4, goAt := s.now, base := s.dieBase, instant := t, last := s.now, cfg := c }
      (s2.openBcast { bid := c.bid, kind := 4, sender := none, instant := t, bytes := [] } (some c) false).bcastCheck c.bid 4
def execJsEnd (job : Nat) (s : State) : Out' := keeping s <| .next (s.ifOn (.wdie 0) .merge (·.jsEnd (job % 65536)))

/-! ## Reception (R398) -/

/-- Whether broadcast frames are received: MERGE enabled, and not in Midnight. -/
def State.bcastOn (s : State) (f : State → State) : State := if s.mergeOn 0 then f s else s

/-- A whole message received from a node: ACK; one that is held already does nothing else. -/
def State.bcastIn (s : State) (sender bid kind instant : Nat) (bytes : List Nat) (cfg : Option JobCfg) : State :=
  let s1 := s.sendAck sender bid kind
  if (s.findBcast bid kind).isSome then s1
  else (s1.openBcast { bid := bid, kind := kind, sender := some sender, instant := instant, bytes := bytes } cfg false).bcastCheck bid kind
def execBcastStartReceive (sender bid : Nat) (cfg : List Nat) (s : State) : Out' := keeping s <|
  .next (s.bcastOn (·.bcastIn sender bid 1 0 cfg (parseCfg cfg)))
def execBcastCommitReceive (sender bid instant : Nat) (s : State) : Out' := keeping s <|
  .next (s.bcastOn (·.bcastIn sender bid 2 instant [] (s.cfgOfBid bid)))
def execBcastAbortReceive (sender bid : Nat) (s : State) : Out' := keeping s <|
  .next (s.bcastOn (·.bcastIn sender bid 3 0 [] (s.cfgOfBid bid)))
def execBcastEndReceive (sender bid instant : Nat) (s : State) : Out' := keeping s <|
  .next (s.bcastOn (·.bcastIn sender bid 4 instant [] (s.cfgOfBid bid)))

/-- A child of a broadcast changed. -/
def Bcast.withKid (b : Bcast) (c : Nat) (f : BKid → BKid) : Bcast := { b with kids := b.kids.map fun k => if k.coord = c then f k else k }

def execBcastAckReceive (sender bid kind : Nat) (s : State) : Out' := storeless s <|
  .next (s.bcastOn fun t => match t.findBcast bid kind with
    | some b => t.setBcast (b.withKid sender fun k => { k with acked := true })
    | none => t)

/-- A failure noted in a broadcast, the first one kept. -/
def Bcast.fail (b : Bcast) (status die : Nat) : Bcast := if b.status ≠ 0 || status = 0 then b else { b with status := status, dieIndex := die }

/-- A completion report arrives (R398, R400). -/
def State.reportIn (s : State) (sender bid kind status die acks : Nat) : State :=
  match s.findBcast bid kind with
  | none => s
  | some b =>
    if b.kids.any fun k => k.coord == sender && !k.reported then
      let b1 := (b.withKid sender fun k => { k with acked := true, reported := true, lost := false, acks := acks }).fail status die
      let s1 := s.setBcast b1
      let s2 := if b.sender.isNone then s1.inc (.wdie 0) mergeJsStatReports else s1
      (s2.bcastCheck bid kind).bcastCheck bid 2
    else s
def execJsReportReceive (sender bid kind status dieIndex acks : Nat) (s : State) : Out' := keeping s <|
  .next (s.bcastOn (·.reportIn sender bid kind status dieIndex acks))

/-- A die index in a module, or in its subtree: of its lowest rank. -/
def State.dieOfModule (s : State) (c : JobCfg) (coord : Nat) : Nat :=
  let own := c.entries.find? fun e => e.coord == coord
  let below := (s.bcastChains c).find? fun l => l.contains coord
  ((own.orElse fun _ => below.bind fun l => c.entries.find? fun e => e.coord == l.headD 0).map fun e => e.dieIndex).getD 0

/-- R398: a hop times out: the next path, or the module is UNREACHABLE. -/
def State.hopTimeout (s : State) (bid kind child : Nat) : State :=
  match s.findBcast bid kind with
  | none => s
  | some b =>
    match b.kids.find? fun k => k.coord == child with
    | none => s
    | some k =>
      let wait := s.rd (.wdie 0) mergeJsTimingHopTimeoutUs * us * ((s.pathHops child k.path).getD 1)
      if k.acked || k.reported || k.lost || s.now < k.sentAt + wait then s
      else if (s.pathHops child (k.path + 1)).isSome then
        let b1 := b.withKid child fun x => { x with path := k.path + 1, sentAt := s.now }
        ((s.setBcast b1).inc (.wdie 0) mergeJsStatRetries).sendMsg b1 child (k.path + 1)
      else
        let die := ((s.cfgOfBid bid).map fun c => s.dieOfModule c child).getD 0
        let s1 := s.setBcast ((b.withKid child fun x => { x with lost := true }).fail 3 die)
        (s1.bcastCheck bid kind).bcastCheck bid 2
def execBcastHopTimeout (bid kind child : Nat) (s : State) : Out' := keeping s <|
  .next (s.bcastOn (·.hopTimeout bid kind child))

/-! ## The root's and the nodes' clocks (R400 to R402) -/

/-- R401: DEADLINE_US has passed without every report. -/
def execJsDeadline (job : Nat) (s : State) : Out' := keeping s <|
  .next (match s.findRun job with
    | some r => if r.phase = 1 && r.goAt + s.rd (.wdie 0) mergeJsTimingDeadlineUs * us ≤ s.now then s.abortRun r 4 0 else s
    | none => s)

/-- R400, R401: at T − 100 µs. -/
def execJsCommitCheck (job : Nat) (s : State) : Out' := keeping s <|
  .next (match s.findRun job with
    | some r =>
      if r.phase = 2 && r.instant ≤ s.timeIn (.wdie 0) r.base + baseUs r.base 100 then
        if (s.findBcast r.bid 2).any fun b => b.done && b.status = 0 then s.endRun job 1 3 else s.abortRun r 6 0
      else s
    | none => s)

/-- R401: a node that holds staged entries and has heard neither COMMIT nor ABORT. -/
def execJsStagedExpiry (bid : Nat) (s : State) : Out' := storeless s <|
  .next (if s.jobStage.any fun j => j.cfg.bid == bid && j.instant.isNone &&
        j.at' + 2 * s.rd (.wdie 0) mergeJsTimingDeadlineUs * us ≤ s.now then
      (s.unstage bid).forgetBcasts bid [1]
    else s)

/-- R402: END repeated to the children that have not reported, or given up after 16 repeats. -/
def State.endRepeat (s : State) (r : JsRun) (b : Bcast) : State :=
  let left := b.kids.filter fun k => !k.reported
  if 16 ≤ r.repeats then
    (s.event (.wdie 0) .merge 0x0D05 2 (pay [(r.job, 0), (left.length, 16)])).endRun r.job 1 3
  else
    let b1 := { b with status := 0, kids := b.kids.map fun k => if k.reported then k else { k with path := 0, sentAt := s.now, acked := false, lost := false } }
    left.foldl (fun t k => t.sendMsg b1 k.coord 0) ((s.setBcast b1).setRun { r with repeats := r.repeats + 1, last := s.now })
def execJsEndRepeat (job : Nat) (s : State) : Out' := storeless s <|
  .next (match s.findRun job with
    | some r =>
      if r.phase = 4 && r.last + ms ≤ s.now then
        match s.findBcast r.bid 4 with
        | some b => s.endRepeat r b
        | none => s
      else s
    | none => s)

end Sys2Proof.Machine
end

