-- ==== Sys2Proof/Machine/Modes.lean ====
section
/-! DEFINITION. Spec 04 R125, R131 to R139: the four modes of IKBs and package, mode launches, the entry to power-down. -/

namespace Sys2Proof.Machine

/-! ## An IKB's mode (R132, R133, R138) -/

/-- Domains of a part that a mode lets run: at once with the root PLL locked, else when it has locked. -/
def State.wakeAll (s : State) (u : Chip) : State :=
  if s.on u (pllLockFld u) then s.wr u (domRun u) (s.selectedDoms u)
  else (if u.isIkb then s.wr u clkISrcStatPllOn 1 else s).wr u wakeWait (s.selectedDoms u)

/-- Entry to Midnight: open tiles end, soft caps clear (spec 08 R251); core 0 waits for interrupt. -/
def State.ikbMidnight (s : State) (p : Nat) : State :=
  let u := Chip.ikb p
  let s1 := (List.range 8).foldl (fun t r => t.wr u (softCap r) 0) (s.endTiles p)
  s1.wr u govStatSoftCap 0

/-- A GOV_STEP that fired in Midnight is performed (spec 08 Table 8.5): the change from the point that it left. -/
def State.govExit (s : State) (p : Nat) : State :=
  let u := Chip.ikb p
  let old := s.rd u midnightStep - 1
  let s1 := s.wr u midnightStep 0
  let i := s.rd u govStatCurIdx
  if !s.on u midnightStep || !s.enabled u .gov then s1
  else match s1.permittedIdx p i with
    | none => s1.exhaust p i
    | some b =>
      if s1.govBusy p then (s1.wr u govStatCurIdx old).goTo p i true
      else
        let c := (s1.wr u govStatCurIdx old).mkChange p b false true
        let s2 := if b ≠ i then s1.govBreak p 2 b else s1
        (s2.setChange p (some c)).advance p c

/-- Core 0 waits for interrupt in Midnight, and runs again outside it. -/
def State.coreZero (s : State) (p m : Nat) : State :=
  let u := Chip.ikb p
  if s.coreState u 0 = 2 && m = 3 then s.wr u (coreCoreStatState 0) 3
  else if s.coreState u 0 = 3 && m ≠ 3 then s.wr u (coreCoreStatState 0) 2
  else s

/-- An IKB enters mode `m`. -/
def State.enterIkb (s : State) (p m : Nat) : State :=
  let u := Chip.ikb p
  let old := s.rd u aonModeCurMode
  if old = m % 4 then s.targetFollow p
  else
    let s1 := if m % 4 = 3 then s.ikbMidnight p else s
    let s2 := ((s1.wr u aonModeCurMode m).wr u aonModeInTransition 0).targetFollow p
    let s3 := if old = 3 then (s2.wakeAll u).govExit p else s2
    let s4 := (List.range 64).foldl (fun t n => t.traceRefresh p n) s3
    (((s4.modeCores u (modeCoreCount u (Mode.ofCode m))).coreZero p (m % 4)).planWidth p true)

/-- R138: a MODE launch of an IKB. -/
def execLaunchMode (p mode : Nat) (s : State) : Out' := storeless s <| .next (s.enterIkb p mode)

/-- R139: a MODE frame: the IKB changes at once. -/
def execLtlMode (p mode : Nat) (s : State) : Out' := storeless s <|
  .next (s.recv p true 0x0B 1 fun t => t.enterIkb p mode)

/-! ## The package's mode (R134, R138) -/

/-- Whether a port runs on fewer lanes for the mode alone. -/
def modeNarrow (p : Nat) : Fld := cell .opt (10 + p)

/-- An optical port as the mode in force allows: dark, narrower, or as wide as before. -/
def State.portMode (s : State) (P : Nat) : State :=
  let u := dieOfOpt P
  let p := P % 2
  let most := s.lanesAllowed P
  let now := s.rd u (portsStatLanes p)
  if !s.on u (portsStatUp p) then s
  else if most = 0 then ((s.portDark P).rootLost P).wr u (modeNarrow p) 0
  else if most < now then (s.wr u (portsStatLanes p) most).wr u (modeNarrow p) now
  else if s.on u (modeNarrow p) && now < most then
    (s.wr u (portsStatLanes p) (min most (s.rd u (modeNarrow p)))).wr u (modeNarrow p) 0
  else s

/-- W-die `d` on entry to Midnight, while it still runs as before: batches scored, blocks coded. -/
def State.dieMidnight (s : State) (d : Nat) : State :=
  let s1 := s.lensMidnight d
  (s1.ctxs.filter fun e => e.1 / 512 == d).foldl (fun t e => t.sealCtx e.1 false) s1

/-- W-die `d` out of Midnight: DRAM leaves self-refresh, and what was staged is written (R135). -/
def State.dieWake (s : State) (d : Nat) : State :=
  let u := Chip.wdie d
  (((s.wr u pwrStatSrActive 0).wr u dramcStatSelfRefresh 0).dramWake d).wakeAll u

/-- W-die `d` in mode `m`. -/
def State.enterDie (s : State) (m d : Nat) : State :=
  let u := Chip.wdie d
  let old := s.rd u pwrStatMode
  let s0 := if old < 2 && 2 ≤ m then s.wr u unusedFrom s.now else if 2 ≤ old && m < 2 then s.wr u usedFrom s.now else s
  let s1 := (s0.wr u pwrStatMode m).wr u pwrStatInTransition 0
  let s2 := (s1.wr u clkWLensDivDiv8 (if m = 0 then 0 else 1)).wr u lensDivNow (if m = 0 then 0 else 1)
  let s3 := if m = 3 then (s2.wr u pwrStatSrActive 1).wr u dramcStatSelfRefresh 1 else s2
  ((s3.lensMode d).modeCores u (modeCoreCount u (Mode.ofCode m))).portMode (2 * d) |>.portMode (2 * d + 1)

/-- The package enters mode `m`. -/
def State.enterPkg (s : State) (m : Nat) : State :=
  let old := s.rd .pkg pkgmCurMode
  let ds := List.range s.dies
  let s1 := if m = 3 && old ≠ 3 then (ds.foldl (fun t d => t.dieMidnight d) s).flushInsts else s
  let s2 := if m ≠ 3 && old = 3 then ds.foldl (fun t d => t.dieWake d) s1 else s1
  let s3 := (s2.wr .pkg pkgmCurMode m).wr .pkg pkgmCurInTransition 0
  let s4 := ds.foldl (fun t d => t.enterDie m d) s3
  (List.range (8 * s.dies)).foldl (fun t p => t.planWidth p false) s4

/-! ## Mode launches (R137 to R139) -/

/-- The ports into whose IKBs the launch is placed, as a mask; whether the running transition started early. -/
def modePlaced : Fld := cell .pkgmode 0
def modeEarly : Fld := cell .pkgmode 1

/-- The launch instant in PKGMODE's fields, in units of base `b`. -/
def State.nextInstant (s : State) (b : Nat) : Nat :=
  unpackTime b (s.rd .pkg pkgmNextNsNs) (s.rd .pkg pkgmNextSecLoSec + 4294967296 * s.rd .pkg pkgmNextSecHiSec)

/-- The early start and the minimum arming lead of a transition in microseconds (Table 4.16). -/
def earlyUs (a b : Nat) : Nat :=
  if a = 3 && b ≠ 3 then 12000 else if a = 2 && b < 2 then 3000 else if a = 1 && b = 0 then 10 else 0
def leadUs (a b : Nat) : Nat := if a = 3 && b ≠ 3 then 13000 else if a = 2 && b < 2 then 4000 else 100

/-- The MODE launches placed into IKBs that are still reachable disarmed. -/
def State.unplaceMode (s : State) : State :=
  ((List.range (8 * s.dies)).filter fun p => s.bit .pkg modePlaced p && s.on (dieOfPort p) (ltlStatUp (linkOfPort p))).foldl
    (fun t p => ([12, 13, 14, 15].filter fun i => t.rd (.ikb p) (launchSlotCtrlState i) == 1 &&
      t.rd (.ikb p) (launchSlotCtrlAction i) == 6).foldl (fun a i => a.disarmSlot (.ikb p) i) t) s |>.wr .pkg modePlaced 0

/-- The MODE launch placed into every served IKB that the link reaches. -/
def State.placeMode (s : State) (target instant : Nat) : State :=
  (List.range (8 * s.dies)).foldl (fun t p =>
    let r := t.placeIkb p 6 target instant
    if r.2.isSome then r.1.setB .pkg modePlaced p else r.1) s

/-- Whether a transition is in progress: also until DONE of a start (spec 18 R541). -/
def State.inTransition (s : State) : Bool := s.on .pkg pkgmCurInTransition || !s.on .pkg pkgStartStatDone

/-- NEXT.ARM. -/
def State.modeArm (s : State) : State :=
  let b := s.dieBase
  let target := s.rd .pkg pkgmNextTarget
  let cur := s.rd .pkg pkgmCurMode
  let t := s.nextInstant b
  let refuse := fun (r : Nat) => s.wr .pkg pkgmStatusResult r
  if s.inTransition then refuse 3
  else if b = 0 && 1000000000 ≤ s.rd .pkg pkgmNextNsNs then refuse 7
  else if t < s.dieTime + baseUs b (leadUs cur target) then refuse 2
  else
    let s1 := if s.on .pkg pkgmNextArmed then (s.wr .pkg pkgmStatusResult 5).unplaceMode else s
    let s2 := s1.wr .pkg pkgmNextArmed 1
    if s2.on .pkg pkgmNextIkbFollow then s2.placeMode target t else s2
def execModeArm (s : State) : Out' := storeless s <| .next s.modeArm

/-- NEXT.CANCEL. -/
def State.modeCancel (s : State) : State :=
  if s.on .pkg pkgmNextArmed then ((s.wr .pkg pkgmNextArmed 0).wr .pkg pkgmStatusResult 4).unplaceMode else s
def execModeCancel (s : State) : Out' := storeless s <| .next s.modeCancel

/-- IKBs whose link is down at the launch and that hold no placed launch miss it (Table 4.17). -/
def State.countMissed (s : State) : State :=
  if !s.on .pkg pkgmNextIkbFollow then s
  else ((List.range (8 * s.dies)).filter fun p =>
    !s.bit .pkg modePlaced p && !s.on (dieOfPort p) (ltlStatUp (linkOfPort p))).foldl
    (fun t p => (t.inc .pkg pkgmStatusIkbMissed).wr (dieOfPort p) (modeMissed (linkOfPort p)) 1) s

/-- R138: the launch instant, or the early start of a transition that raises power. -/
def State.modeLaunch (s : State) : State :=
  let b := s.dieBase
  let target := s.rd .pkg pkgmNextTarget
  let cur := s.rd .pkg pkgmCurMode
  let early := earlyUs cur target
  if !s.on .pkg pkgmNextArmed || s.dieTime + baseUs b early < s.nextInstant b then s
  else
    let s1 := s.wr .pkg pkgmNextArmed 0
    if target = cur then ((s1.wr .pkg pkgmStatusResult 1).countMissed).wr .pkg modePlaced 0
    else
      let s2 := (List.range s.dies).foldl (fun t d => t.wr (.wdie d) pwrStatInTransition 1) (s1.wr .pkg pkgmCurInTransition 1)
      let s3 := (s2.wr .pkg modeEarly (decide (0 < early)).toNat).wr .pkg pkgmStatusResult 0
      if early = 0 then s3.countMissed else s3
def execModeLaunch (s : State) : Out' := storeless s <| .next s.modeLaunch

/-- R138: the target mode comes into force; while a W-die is in the safe state the transition waits (Table 4.17). -/
def State.modeDone (s : State) : State :=
  let safe := (List.range s.dies).any fun d => s.present d && s.on (.wdie d) pwrStatSafe
  if !s.on .pkg pkgmCurInTransition || !s.on .pkg pkgStartStatDone || safe then s
  else
    let s1 := if s.on .pkg modeEarly then s.countMissed else s
    let s2 := (s1.enterPkg (s.rd .pkg pkgmNextTarget)).wr .pkg modePlaced 0
    if s2.rd .pkg pkgmStatusResult = 6 then s2 else s2.wr .pkg pkgmStatusResult 1
def execModeTransitionDone (s : State) : Out' := keeping s <| .next s.modeDone

/-! ## Power-down of VIKB (R125) -/

/-- The retention store: a baseline counter's value; whether it holds a set. -/
def retained (c : Nat) : Fld := cell .aon c
def retainedSet : Fld := cell .aon 64

/-- VIKB_OFF_REQ: refused outside Midnight; in it, any mark in progress is completed. -/
def State.vikbOffReq (s : State) (p : Nat) : State :=
  let u := Chip.ikb p
  if s.rd u aonModeCurMode ≠ 3 || s.on u aonModeInTransition then s.wr u aonPwrStatRefused 1
  else s.wr u aonPwrCtrlVikbOffReq 1
def execVikbOffReq (p : Nat) (s : State) : Out' := storeless s <| .next (s.vikbOffReq p)

/-- The entry completes: the baseline counters retained, the link idle with GOODBYE, IKB_VIKB_OFF_OK. -/
def State.powerDown (s : State) (p : Nat) : State :=
  let u := Chip.ikb p
  if !s.on u aonPwrCtrlVikbOffReq then s
  else
    let s1 := if s.on u aonPwrCtrlRetainBaseline then
        (List.range 64).foldl (fun t c => t.wr u (retained c) (t.rd u (counter c))) (s.wr u retainedSet 1)
      else s.wr u retainedSet 0
    let s2 := ((s1.sendUp p 0x0E [0]).linkIdle p).wr u aonPwrCtrlVikbOffReq 0
    (s2.wr u aonPwrStatOffOk 1).emit (.pin u.code "IKB_VIKB_OFF_OK" 1)
def execPowerDownEntryDone (p : Nat) (s : State) : Out' := storeless s <| .next (s.powerDown p)

end Sys2Proof.Machine
end

