-- ==== Sys2Proof/Machine/Start.lean ====
section
/-! DEFINITION. Spec 18: cold and warm starts of the package and of an IKB; spec 15 R440, R463, R465: what leads to them. -/

namespace Sys2Proof.Machine

/-! ## What a start keeps -/

/-- The instant of the latest DONE plus 1; that of the running start; the reason of a forced cold start plus 1 and the
cause of the warm start that it replaces; whether FW_VERIFY_FAIL was written in this start; the dies present at the
latest DONE; the restarts of each die's PLL. -/
def startDoneAt : Fld := cell .pkg 0
def startAt : Fld := cell .pkg 1
def escReason : Fld := cell .pkg 2
def escCause : Fld := cell .pkg 3
def fwFailTold : Fld := cell .pkg 4
def doneDies : Fld := cell .pkg 5
def pllTries (d : Nat) : Fld := cell .pkg (16 + d)

/-- The mode in force when the start began, plus 1. -/
def modeBefore : Fld := cell .pkgmode 2

/-- The entries of a list that belong to IKBs, where each part has `w` keys. -/
def ikbOnly {α : Type} (w : Nat) (l : List (Nat × α)) : List (Nat × α) := l.filter fun e => decide (16 * w ≤ e.1)

/-- Fields written back after their pages were cleared. -/
def State.putBack (s : State) (l : List (Chip × Fld × Nat)) : State := l.foldl (fun t e => t.wr e.1 e.2.1 e.2.2) s

/-- The values of fields of a window. -/
def State.values (s : State) (u : Chip) (fs : List Fld) : List (Chip × Fld × Nat) := fs.map fun f => (u, f, s.rd u f)

/-- What a page-wise reset keeps of a RAS or HIST page (Table 18.2); an unended retry episode is its channel's STATE. -/
def rasKept (u : Chip) : List Fld :=
  [rasStatFatalSafe, rasStatRetiredN, rasFaultSecSec, rasWdogStatExpired] ++
  ((List.range (if u.isIkb then 48 else 24)).map fun c => [rasChannelStateState c, rasChannelStateCondBound c,
    rasChannelStateRetry c, rasChannelStateRec24h c, rasChannelStateUnrec24h c]).flatten

/-- The fields that a warm start keeps of the pages it clears on W-die `d`. -/
def warmKept (d : Nat) : List Fld :=
  [evrSeqNext, evrRingBaseAddr, evrHeadIdx, evrTailIdx, evrFirstStaged] ++ rasKept (.wdie d) ++
  [codecTgenGen, codecTlogBaseAddr, tlogCount, coreImgCurAddr, coreCurInfoIface, coreCurInfoCompatMin, torusCoordXyz,
   torusCoordTray, dramcCapGib, dramcCapChActive, pcieLinkSpeed, pcieLinkWidth, pcieLinkUp, pcieCtoRange,
   pcieCtoTooShort] ++
  ((List.range 16).map fun k => (List.range 10).map fun j => tableInForce k j).flatten ++
  ((List.range 8).map fun k => [optLaneStored k, optLaneStoredValid k]).flatten ++
  ((List.range 8).map fun n => [loadStop (.ltl n), loopCount (.ltl n)] ++ (List.range 4).map fun k => loopAt (.ltl n) k).flatten

/-- The pages that a warm start clears. -/
def warmCleared : List Blk := wdieBlks.filter fun b => !([Blk.top, .clk, .pwr, .time, .bbx].contains b)

/-- Internal state of the W-dies that neither start keeps. -/
def State.dropLive (s : State) : State :=
  { s with
    latches := ikbOnly 64 s.latches, buffers := ikbOnly 64 s.buffers, txq := ikbOnly 64 s.txq,
    prismHeld := ikbOnly 1 s.prismHeld, proxies := [], gaps := [], noticeGens := [], egress := [], txFlows := [],
    flowFree := [], jobStage := [], insts := [], bcasts := [], stepHist := [], govSeen := [], rxFlows := [], ingest := [],
    ingestWait := [], healthBuf := [], lensSlots := [], lensOpen := [], lensClosed := [], lensHolds := [],
    lensExport := [], metrics := [], mboxes := ikbOnly 32 s.mboxes, mboxSend := ikbOnly 64 s.mboxSend,
    imem := ikbOnly 8 s.imem, dmem := ikbOnly 4294967296 s.dmem, imgHash := ikbOnly 2 s.imgHash, mirrorWin := [],
    recent := [], barHost := {}, barEcho := [] }

/-- The time of a part after a reset that keeps its always-on island (spec 05 R151). -/
def State.timeKept (s : State) (u : Chip) : State :=
  match s.rd u timeStatState with
  | 2 => s.holdover u
  | 3 => s.holdover u
  | 4 => s
  | _ => s.setLtcState u 0

/-- W-die `d` as a warm start leaves it: pages cleared, retirements in force again, PLL to relock. -/
def State.warmDie (perst : Bool) (s : State) (d : Nat) : State :=
  let u := Chip.wdie d
  let kept := (s.values u (warmKept d)).filter fun e => !(perst && e.2.1.blkCode = Blk.pcie.code)
  let msix := if perst then 0 else s.rd u msixEnable
  let s1 := ((warmCleared.foldl (fun t b => t.clearPage u b 0 65536) s).putBack kept).wr u msixEnable msix
  let s2 := s1.wr u rasStatFatalPending (s1.holdsFatal u).toNat
  let s3 := (List.range 24).foldl (fun t c => if t.rd u (rasChannelStateState c) = 4 then t.retireActions u c else t) s2
  let s4 := if s3.on u lossRow then s3.wr u squelched 1 else (s3.wr u pwrStatSafe 0).wr u safeSince 0
  let s5 := ((s4.wr u clkWSrcStatPllLock 0).wr u clkWDomRunRun 0).wr u busStop 0
  ((s5.wr u pwrStatSrActive 1).wr u dramcStatSelfRefresh 1).timeKept u

/-- Everything that a warm start clears. -/
def State.warmClear (s : State) (perst : Bool) : State :=
  let s1 := (List.range s.dies).foldl (State.warmDie perst) s.dropLive
  let s2 := s1.clearPage .pkg .pkgmode 0x104 65536
  if perst then { s2 with msixTable := [], pba := [] } else s2

/-- Everything that a cold start clears; it keeps the NOR, the black-box ring's place in it and the field side. -/
def State.coldClear (s : State) : State :=
  let kept := s.values (.wdie 0) [bbxWrPtrBlock, bbxWrPtrPage, bbxEvBlock, bbxLgBlock, bbxAlloc]
  let s1 := s.dropLive
  State.putBack { s1 with
    regs := dropRange 0 (16 * 4294967296) s1.regs, held := ikbOnly 4294967296 s1.held,
    heldRead := s1.heldRead.filter fun k => decide (16 * 4294967296 ≤ k), msixTable := [], pba := [],
    evRing := ikbOnly 33554432 s1.evRing, staging := [], bbxPartial := [], bbxPages := [], notices := [],
    windows := ikbOnly 256 s1.windows, episodes := ikbOnly 256 s1.episodes, dram := [], poisoned := [],
    ltc := ikbOnly 1 s1.ltc, servo := ikbOnly 1 s1.servo, meridian := ikbOnly 1 s1.meridian, xlat := [], flatStage := [],
    natDel := [], jobs := [], jsRuns := [], ctxs := [], corrected := [] } kept

/-! ## The beginning of a start (R535, R537, R541, R543) -/

/-- WARM_RUN as a warm start with a cause makes it (R537). -/
def State.warmRun (s : State) (cause : Nat) : Nat :=
  if (cause = 4 || cause = 5) && s.on .pkg startDoneAt &&
     s.now + 1 < s.rd .pkg startDoneAt + max 1 (s.rd .pkg pkgWarmRunCfgRunS) * sec then s.rd .pkg pkgStartStatWarmRun + 1
  else 0

/-- R537: why a warm start is carried out as a cold start, as START_ESCALATED's reason. -/
def State.forcedReason (s : State) (cause : Nat) : Option Nat :=
  if !s.on .pkg pkgStartStatWarmOk then some 0
  else if (List.range s.dies).any fun d => s.bit .pkg doneDies d &&
      (!s.on (.wdie d) pwrStatSrHeld || !s.on (.wdie d) pwrStatDramSupply) then some 1
  else if s.rd .pkg pkgWarmRunCfgRunLimit ≤ s.warmRun cause then some 3
  else none

/-- A W-die's transmitters go idle: an up link goes down, planned (R543). -/
def State.startLinks (s : State) : State :=
  (List.range (8 * s.dies)).foldl (fun t p =>
    if t.endUp p false then ((t.downAt p false true 1).linkIdle p).wr (.ikb p) (goodbyeSent .link) 2 else t.linkIdle p) s

/-- A start begins: `kind` 1 to 4 of START_STAT.KIND; from here to DONE the package is in Midnight (R541). -/
def State.beginAs (s : State) (kind cause run : Nat) (reason : Option Nat) : State :=
  let mode := if s.on .pkg pkgStartStatDone then s.rd .pkg pkgmCurMode + 1 else s.rd .pkg modeBefore
  let ds := List.range s.dies
  let done := s.rd .pkg startDoneAt
  let s1 := (ds.foldl (fun t d => t.wr (.wdie d) pwrStatMode 3) s).startLinks
  let s2 := if kind = 4 then s1.warmClear (cause = 3) else s1.coldClear
  let s3 := (((s2.wr .pkg pkgSizeDiePresent 0).wr .pkg pkgStartStatKind kind).wr .pkg pkgStartStatCause cause).wr
    .pkg pkgStartStatStep 1
  let s4 := (((s3.wr .pkg pkgStartStatDone 0).wr .pkg pkgStartStatFailed 0).wr .pkg pkgStartStatFailedStep 0).wr
    .pkg pkgStartStatHostBoot 0
  let s5 := (((s4.wr .pkg pkgStartStatWarmRun run).wr .pkg startDoneAt done).wr .pkg startAt s.now).wr .pkg fwFailTold 0
  let s6 := ((s5.wr .pkg escReason ((reason.map (· + 1)).getD 0)).wr .pkg escCause cause).wr .pkg modeBefore mode
  (ds.foldl (fun t d => (t.wr .pkg (pllTries d) 0).wr (.wdie d) pwrStatMode 3) s6).wr .pkg pkgmCurMode 3

/-- A cold start. -/
def State.coldStart (s : State) (kind cause : Nat) : State := s.beginAs kind cause 0 none

/-- A warm start with a cause, carried out cold under R537. -/
def State.warmStart (s : State) (cause : Nat) : State :=
  match s.forcedReason cause with
  | some r => s.beginAs 3 cause 0 (some r)
  | none => s.beginAs 4 cause (s.warmRun cause) none

/-- A START_CTRL write without its key. -/
def State.startKeyBad (s : State) : State := s.pageErr .pkg .pkg 0x0100 1

/-- START_CTRL.WARM: over PCIe (requester 0) a host request, from a core a firmware restart. -/
def execStartWarm (r key : Nat) (s : State) : Out' := keeping s <|
  .next (if key = 0x5354 then s.warmStart (if r = 0 then 1 else 7) else s.startKeyBad)

/-- START_CTRL.COLD. -/
def execStartCold (key : Nat) (s : State) : Out' := keeping s <|
  .next (if key = 0x5354 then s.coldStart 2 1 else s.startKeyBad)

/-- The host-side supply comes up (spec 17 Table 17.3): a cold start. -/
def execHostPowerUp (s : State) : Out' := keeping s <|
  .next ({ s with field := { s.field with hostUp := true } }.coldStart 1 0)

/-- R535: Function Level Reset. -/
def execPcieFlr (s : State) : Out' := keeping s <| .next (s.warmStart 2)

/-- R535: PERST# released. -/
def execPciePerst (s : State) : Out' := keeping s <| .next (s.warmStart 3)

/-- R537: RUN_S after a DONE with no new start. -/
def execWarmRunExpiry (s : State) : Out' := storeless s <|
  .next (if s.on .pkg pkgStartStatDone &&
      s.rd .pkg startDoneAt + max 1 (s.rd .pkg pkgWarmRunCfgRunS) * sec ≤ s.now + 1 then s.wr .pkg pkgStartStatWarmRun 0 else s)

/-- R547: TORUS.COORD. -/
def execTorusCoordWrite (d r xyz tray : Nat) (s : State) : Out' := storeless s <|
  .next (if s.locked (.wdie d) .torus then s.lockedErr (.wdie d) .torus r 0x104
    else ((s.wr (.wdie d) torusCoordXyz xyz).wr (.wdie d) torusCoordTray tray).wr .pkg pkgStartStatJoined 1)

/-! ## Failures (R544) -/

/-- A step failed: FAILED, FAILED_STEP, START_FAILED. -/
def State.startFailed (s : State) (step d channels : Nat) : State :=
  (((s.wr .pkg pkgStartStatFailed 1).wr .pkg pkgStartStatFailedStep step).event .pkg .pkg 0x1202 2
    (pay [(step, 0), (d % 8, 8), (channels % 16, 12)])).int .pkg .pkg 1

/-- A step overran its limit on die `d`: no crystal, or no PLL lock, which is tried three times more. -/
def State.stepTimeout (s : State) (d step : Nat) : State :=
  let u := Chip.wdie d
  if s.on .pkg pkgStartStatDone then s
  else if step = 2 && !s.on u clkWSrcStatXtalReady && s.rd .pkg startAt + 50 * ms ≤ s.now then s.startFailed 2 d 0
  else if step = 3 && s.on u clkWSrcStatXtalReady && !s.on u clkWSrcStatPllLock then
    if s.rd .pkg (pllTries d) < 3 then s.wr .pkg (pllTries d) (s.rd .pkg (pllTries d) + 1) else s.startFailed 3 d 0
  else s
def execStartStepTimeout (d step : Nat) (s : State) : Out' := storeless s <| .next (s.stepTimeout d step)

/-- Channels of die `d` that failed their training (`n` of them, as a mask): one is left out, more fail the die. -/
def State.trainingFailed (s : State) (d mask : Nat) : State :=
  let u := Chip.wdie d
  let n := (List.range 8).countP fun c => bitAt mask c = 1
  if n = 0 then s
  else if n = 1 then
    let ch := ((List.range 8).find? fun c => bitAt mask c = 1).getD 0
    (((s.wr u dramcCapGib 56).wr u dramcCapChActive (clrBit 255 ch)).startFailed 5 d 1).chanFault u (0x10 + ch) 0x1202 0 false false true
  else if d = 0 then s.startFailed 5 0 n
  else (s.startFailed 5 d n).excludeDie d 0

/-! ## Firmware (R487, R488; Table 18.3 steps 7 and 8) -/

/-- Where the boot ROM of die `d` keeps the image; the spec does not give the address. -/
def imageHome (d : Nat) : Nat := Config.partConst 6 d 0 % 1073479680 * 64

/-- The image that a warm start finds at IMG_CUR and that still has its BODY_HASH. -/
def State.keptImage (s : State) (d : Nat) : Option (List Nat) :=
  (s.imageAt (.wdie d) false).elim none fun i =>
    let k := compOf i.1
    if s.rd .pkg pkgStartStatKind = 4 && k.formed && k.bounded && sha384 (i.2.take (k.codeLen + k.dataLen)) = k.hash then
      some (i.1 ++ i.2) else none

/-- A verified W-die component in force on die `d`: copied to its DRAM unless it is there, its cores started. -/
def State.takeImage (s : State) (d : Nat) (l : List Nat) (copy : Bool) (m : Nat) : State :=
  let u := Chip.wdie d
  let k := compOf (l.take 512)
  let body := l.drop 512
  let s1 := if copy then (State.dramStore (l.map (BitVec.ofNat 8)) (dieAddr d (imageHome d)) s).wr u coreImgCurAddr (imageHome d)
            else s
  let s2 := (s1.wr u coreCurInfoIface k.iface).wr u coreCurInfoCompatMin k.compat
  let s3 := { s2 with imgHash := put (hashKey u false) (sha384 (body.take (k.codeLen + k.dataLen))) s2.imgHash }
  (List.range (modeCoreCount u (Mode.ofCode m))).foldl (fun t c => t.coreRun u c false k body) s3

/-- The length of a container: the end of its last component. -/
def containerLen (h : List Nat) : Nat :=
  ((List.range 4).map fun k => ((entryOf h k).map fun e => e.1 + e.2).getD 0).foldl max 0

/-- The container that the host has posted (R487): its W-die component and the whole. -/
def State.hostContainer (s : State) : Option (List Nat × List Nat) :=
  match (s.mbox (.wdie 0) 0).head? with
  | none => none
  | some m =>
    if m.ptr ≠ 0 || m.tag ≠ 0x48424F54 then none
    else
      let h := (s.dramBytes 4096 0).map BitVec.toNat
      let all := (s.dramBytes (min (containerLen h) 33554432) 0).map BitVec.toNat
      (entryOf h 1).map fun e => ((all.drop e.1).take e.2, all)

/-- Die 0's W-die component: the copy a warm start kept, the NOR's, or the host's. The flag says that it is copied. -/
def State.bootSource (s : State) (nor : Bool) : Option (List Nat × Bool) × State :=
  let u := Chip.wdie 0
  match s.keptImage 0 with
  | some l => (some (l, false), s)
  | none =>
    let l := if nor then (s.norComponent 1).getD [] else []
    let res := if nor then s.verifyComp u 1 (l.take 512) (l.drop 512) else 5
    if res = 1 then (some (l, true), s)
    else
      let s1 := if s.on .pkg fwFailTold then s
        else ((s.wr .pkg fwFailTold 1).startFailed 7 0 0).event u .core 0x1003 2 (pay [(1, 0), (res, 4)])
      match s1.hostContainer with
      | none => (none, s1)
      | some (c, all) =>
        let r2 := s1.verifyComp u 1 (c.take 512) (c.drop 512)
        let s2 := s1.setMbox u 0 ((s1.mbox u 0).drop 1)
        if r2 ≠ 1 then (none, s2.event u .core 0x1003 2 (pay [(1, 0), (r2, 4), (1, 7)]))
        else
          let s3 := s2.norErase 0 (ceilDiv all.length 65536 * 65536)
          let s4 := if nor then { s3 with nor := memWriteList norDflt (all.map (BitVec.ofNat 8)) 0 s3.nor } else s2
          (some (c, true), (s4.wr .pkg pkgStartStatHostBoot 1).event u .core 0x1004 2 (pay [((compOf c).version, 32)]))

/-- Another die takes its copy, or the component that die 0 sends if it verifies against the die's own fuses. -/
def State.otherImage (s : State) (l : List Nat) (m d : Nat) : State :=
  if d = 0 || !s.present d then s
  else match s.keptImage d with
    | some k => s.takeImage d k false m
    | none =>
      if s.verifyComp (.wdie d) 1 (l.take 512) (l.drop 512) = 1 then s.takeImage d l true m
      else (s.startFailed 8 d 0).excludeDie d 0

/-! ## DONE (Table 18.3, R541 to R543) -/

/-- Whether the start may go on: die 0 elected, every present die locked and out of the safe state. -/
def State.startReady (s : State) : Bool :=
  s.field.hostUp && !s.on .pkg pkgStartStatDone && s.present 0 && (List.range s.dies).all fun d =>
    !s.present d || (s.on (.wdie d) clkWSrcStatPllLock && !s.on (.wdie d) pwrStatSafe)

/-- The NOR as die 0 finds it. -/
def State.norFound (s : State) (nor : Bool) : State :=
  let u := Chip.wdie 0
  let v := nor.toNat
  (((((s.wr u nvmStatPresent v).wr u nvmStatMapValid v).wr u bbxStatNorOk v).wr u bbxStatLgReady v).wr u bbxStatEvReady v).wr
    u bbxStatLgBusy 0

/-- A die of the package after steps 5 and 6: DRAM trained, or restored. -/
def State.dramUp (warm : Bool) (s : State) (d : Nat) : State :=
  if !s.present d then s
  else
    let u := Chip.wdie d
    ((((s.wr u dramcStatTrained 1).wr u dramcStatRestored warm.toNat).wr u pwrStatDramSupply 1).wr u pwrStatSrHeld 1).wr
      u d2dStatDieNum d

/-- LAST_GASP of each committed block that no earlier start reported. -/
def State.tellGasps (s : State) : State :=
  let l := s.gasps.reverse.filter fun g => !g.told
  let s1 := l.foldl (fun t g => t.event (.wdie 0) .bbx 0x0F0B 2 (pay [(g.cause, 0), (g.block, 4)])) s
  { s1 with gasps := s1.gasps.map fun (g : GaspBlock) => { g with told := true } }

/-- R543: a job start or end that ran at the root completes ABORTED with reason DEADLINE. -/
def State.abortStarts (s : State) : State :=
  s.jsRuns.foldl (fun t r =>
    let pl := pay [(r.job, 0), (4, 16)]
    let t1 := (t.wr (.wdie 0) mergeJsFailReason 4).wr (.wdie 0) mergeJsFailDieIndex 0
    ((t1.endRun r.job 2 4).event (.wdie 0) .merge 0x0D04 2 pl).notice r.job 0 0x0D04 pl) s

/-- The PCIe link after a start that trains it: its rate and width are the host's. -/
def State.pcieUp (s : State) : State :=
  let u := Chip.wdie 0
  if s.on u pcieLinkUp then s
  else
    let (a, s1) := s.free 8
    let (b, s2) := s1.free 2
    ((s2.wr u pcieLinkSpeed (a % 5 + 1)).wr u pcieLinkWidth (2 ^ b)).wr u pcieLinkUp 1

/-- SELF of W-die `d` opens when it completes its start (spec 11 R320). -/
def State.openSelf (s : State) (d : Nat) : State :=
  if s.present d then s.openCtx d 0 (s.rd (.wdie 0) torusCoordTray * 64 + 8 * d) 0x11 else s

/-- Steps 9 to 11: staged records written, mode entered, contexts reopened, DONE. -/
def State.startDone (s : State) : State :=
  let warm := s.rd .pkg pkgStartStatKind == 4
  let m := if warm then (s.rd .pkg modeBefore + 3) % 4 else 0
  let ds := List.range s.dies
  let esc := s.rd .pkg escReason
  let s1 := (ds.foldl (fun t d => t.flushStaged (.wdie d)) (s.wr .pkg pkgStartStatWarmOk 1)).tellGasps
  let s2 := s1.enterPkg m
  let s3 := (s2.ctxs.filter fun e => e.2.state != 2).foldl (fun t e => t.reopenCtx e.1) s2
  let s4 := ds.foldl State.openSelf s3.abortStarts.pcieUp
  let s5 := (((s4.wr .pkg pkgStartStatStep 0).wr .pkg pkgStartStatDone 1).wr .pkg pkgStartMsMs
    ((s.now - s.rd .pkg startAt) / ms)).wr .pkg startDoneAt (s.now + 1)
  let s6 := s5.wr .pkg doneDies (s5.rd .pkg pkgSizeDiePresent)
  let s7 := (s6.event .pkg .pkg 0x1201 0 (pay [(s6.rd .pkg pkgStartStatKind, 0), (s6.rd .pkg pkgStartStatCause, 3),
    (s6.rd .pkg pkgSizeDiePresent, 8), (s6.rd .pkg pkgStartMsMs, 32)])).int .pkg .pkg 0
  let s8 := if esc = 0 then s7
    else (s7.event .pkg .pkg 0x1203 1 (pay [(s7.rd .pkg escCause, 0), (esc - 1, 4)])).int .pkg .pkg 2
  (List.range (8 * s.dies)).foldl (fun t p => t.loadBegin p) s8

/-- R539: the start reaches DONE, unless a step fails: `nor` whether the NOR answers, `training` whether the stored
training values pass their check (a warm start), `chans` per die the DRAM channels that fail full training (a cold one). -/
def State.packageStart (s : State) (nor training : Bool) (chans : List Nat) : State :=
  let warm := s.rd .pkg pkgStartStatKind == 4
  if !s.startReady then s
  else if warm && !training then s.beginAs 3 (s.rd .pkg pkgStartStatCause) 0 (some 2)
  else
    let ds := List.range s.dies
    let s1 := if warm then s else ds.foldl (fun t d => if t.present d then t.trainingFailed d (nth chans d % 256) else t) s
    let first := (List.range 8).countP fun c => bitAt (nth chans 0) c = 1
    if !warm && 2 ≤ first then s1
    else
      let m := if warm then (s.rd .pkg modeBefore + 3) % 4 else 0
      match (ds.foldl (State.dramUp warm) (s1.norFound nor)).bootSource nor with
      | (none, s2) => s2
      | (some (l, copy), s2) => (ds.foldl (fun t d => t.otherImage l m d) (s2.takeImage 0 l copy m)).startDone

/-! ## The last gasp, the watchdog, FATAL_SAFE (spec 15 R440, R461 to R465) -/

/-- A page's error capture as the block keeps it (spec 15 Table 15.9). -/
def State.captureOf (s : State) (u : Chip) (b : Blk) : Nat :=
  pay [(s.rd u (hdrErrFirstCode b), 0), (s.rd u (hdrErrFirstValid b), 31), (s.rd u (hdrErrFirstInfoInfo b), 32),
       (s.rd u (hdrErrNextCountCount b), 64), (s.rd u (hdrErrCtrlSeverity b), 96), (s.rd u (hdrErrCtrlNested b), 98)]

/-- LTLn.STAT of a package port. -/
def State.linkStat (s : State) (p : Nat) : Nat :=
  let u := dieOfPort p
  let b := linkOfPort p
  pay [(s.rd u (ltlStatState b), 0), (s.rd u (ltlStatUp b), 3), (s.rd u (ltlStatLaneUsed b), 4),
       (s.rd u (ltlStatLaneFailed b), 5), (s.rd u (ltlStatRetired b), 7)]

/-- Die 0's ring and staging buffer, oldest record first. -/
def State.ringOrder (s : State) : List EvRec :=
  let h := s.rd (.wdie 0) evrHeadIdx
  let l := s.evRing.filter fun (e : Nat × EvRec) => e.1 < 33554432
  ((l.filter fun e => h ≤ e.1) ++ l.filter fun e => e.1 < h).map (·.2) ++ s.stagedOf (.wdie 0)

/-- The records of the block: those that await programming, then the latest others of severity 1 or above. -/
def State.gaspRecords (s : State) : List EvRec :=
  let first := s.bbxPages.flatten ++ s.bbxPartial
  let rest := s.ringOrder.filter fun r => decide (1 ≤ r.sev) && !first.contains r
  (first ++ rest.drop (rest.length - (1024 - first.length))).take 1024

/-- The block that a commit writes. -/
def State.gaspBlock (s : State) (hseq : Nat) : GaspBlock :=
  let u := Chip.wdie 0
  let l := s.ltcOf u
  let caps := ((List.range s.dies).filter s.present).map fun d =>
    ((wdieBlks.filter fun b => s.on (.wdie d) (hdrErrFirstValid b)).map fun b =>
      (d * 128 + pageNo (.wdie d) b, s.captureOf (.wdie d) b))
  let t := pay [(l.sec % 2 ^ 48, 0), (l.ns, 48), (s.rd u timeStatValid, 78), (s.rd u timeStatFleetLock, 79)]
  { block := s.rd u (if s.on u lgUseEvent then bbxEvBlock else bbxLgBlock), at' := s.now,
    cause := s.rd u lgCause, seen := s.rd u lgSeen, time := t, meridian := (s.merOf u).ticks % 2 ^ 64,
    mode := s.rd .pkg pkgmCurMode, hseq := hseq, seq := s.rd u evrSeqNext, captures := caps.flatten,
    links := (List.range (8 * s.dies)).map s.linkStat, records := s.gaspRecords }

/-- The commit completes: the block in the NOR, COMMITTED, another block erased behind it. -/
def State.gaspCommit (s : State) : State :=
  let u := Chip.wdie 0
  let (h, s0) := s.free 18
  let g := s0.gaspBlock h
  let ev := s0.on u lgUseEvent
  let s1 := { s0 with gasps := g :: s0.gasps.filter fun (x : GaspBlock) => x.block != g.block, bbxPages := [], bbxPartial := [] }
  let s2 := (((s1.inc u bbxLgCountCommitted).wr u bbxStatLastCause g.cause).wr u bbxLgLastBlock g.block).wr u bbxStatLgBusy 0
  let (n, s3) := s2.bbxNext
  if ev then (s3.wr u bbxEvBlock n).wr u bbxStatEvReady 1 else (s3.wr u bbxLgBlock n).wr u bbxStatLgReady 1

/-- R463: the header page is programmed; FATAL and WATCHDOG lead to the warm start, BUS_LOW waits for its release. -/
def State.lastGaspDone (s : State) : State :=
  let u := Chip.wdie 0
  let why := s.rd u lgCause ||| s.rd u lgSeen
  if !s.on u bbxStatLgBusy then s
  else if bitAt why 1 = 1 then s.gaspCommit.warmStart 5
  else if bitAt why 2 = 1 then s.gaspCommit.warmStart 4
  else s.gaspCommit
def execLastGaspDone (s : State) : Out' := keeping s <| .next s.lastGaspDone

/-- R440: 5 ms after a W-die's FATAL_SAFE with no commit in progress. -/
def execPackageFatalTimeout (d : Nat) (s : State) : Out' := keeping s <|
  .next (if s.on (.wdie d) fatalAt && s.rd (.wdie d) fatalAt + 5 * ms ≤ s.now + 1 && !s.on (.wdie 0) bbxStatLgBusy then
    s.warmStart 5 else s)

/-! ## The IKB (R536, R538, R540) -/

/-- The typed state of an IKB's engines, which a reset of its VIKB domain clears; LTC, servo, Meridian counter, event
ring and channel windows stay. -/
def State.dropIkb (s : State) (p : Nat) : State :=
  let c := Chip.code (.ikb p)
  let s1 := s.setTx (.ikb p) .link []
  { s1 with
    latches := dropRange (c * 64) (c * 64 + 64) s1.latches, buffers := dropRange (c * 64) (c * 64 + 64) s1.buffers,
    exchanges := drop c s1.exchanges, tagQueue := drop c s1.tagQueue, snap := drop c s1.snap,
    streams := dropRange (p * 64) (p * 64 + 64) s1.streams, tiles := dropRange (p * 16) (p * 16 + 16) s1.tiles,
    mmGens := drop c s1.mmGens, watch := drop c s1.watch, rails := dropRange (p * 8) (p * 8 + 8) s1.rails,
    change := drop c s1.change, reports := drop c s1.reports, epochs := drop c s1.epochs,
    prismHeld := drop c s1.prismHeld, mboxes := dropRange (c * 32) (c * 32 + 32) s1.mboxes,
    mboxSend := dropRange (c * 64) (c * 64 + 64) s1.mboxSend, imem := dropRange (c * 8) (c * 8 + 8) s1.imem,
    dmem := dropRange (c * 4294967296) ((c + 1) * 4294967296) s1.dmem, imgBuf := drop p s1.imgBuf,
    imgHash := dropRange (c * 2) (c * 2 + 2) s1.imgHash }

/-- The pages of the VIKB domain that its reset clears. -/
def vikbCleared : List Blk := ikbBlks.filter fun b => !([Blk.top, .clk, .aon, .time].contains b)

/-- The GOV_REQ and AVS_REQ pins of an IKB told where their level changed since `s0`; 0 while VIKB is off (spec 03
R79). -/
def State.requestsFollow (s s0 : State) (p : Nat) : State :=
  let u := Chip.ikb p
  let lv := fun (t : State) (f : Fld) => if t.on u vikbOff then 0 else t.rd u f
  (s.pinFollow u.code "GOV_REQ" (lv s0 govReq) (lv s govReq)).pinFollow u.code "AVS_REQ" (lv s0 avsReq) (lv s avsReq)

/-- A reset of the VIKB domain, which starts warm: `last` as START_STAT.LAST shows it, `ring` whether VIKB stayed
powered. -/
def State.vikbReset (s : State) (p last : Nat) (ring : Bool) : State :=
  let u := Chip.ikb p
  let kept := s.values u ([evrSeqNext] ++ (if ring then [evrHeadIdx, evrTailIdx, evrSent] else []) ++ rasKept u)
  let s0 := (if last = 1 || last = 5 then (s.sendUp p 0x0E [1]).linkIdle p else s.linkIdle p).downAt p true (last ≠ 3) 1
  let s1 := ((vikbCleared.foldl (fun t b => t.clearPage u b 0 65536) (s0.dropIkb p)).putBack kept).timeKept u
  let s2 := if ring then s1
    else { s1 with evRing := dropRange (u.code * 33554432) ((u.code + 1) * 33554432) s1.evRing }
  let s3 := (((s2.wr u aonModeCurMode 3).wr u aonModeInTransition 0).wr u aonStartStatLast last).inc u aonStartStatCount
  let s4 := s3.wr u rasStatFatalPending (s3.holdsFatal u).toNat
  let s5 := (List.range 48).foldl (fun t c => if t.rd u (rasChannelStateState c) = 4 then t.retireActions u c else t) s4
  let s6 := if s5.on u lossRow then s5.wr u govStatHard 1 else s5.wr u safeIkb 0
  let s7 := ((s6.wr u clkISrcStatPllLock 0).wr u clkIDomRunRun 0).wr u wakeWait (s6.selectedDoms u)
  ((([0, 1].foldl (fun t c => t.wr u (coreCoreCauseCause c) 5) s7).newNonce u).pinsFollow s p).requestsFollow s p

/-- R82: IKB_PORST_N: every page and all state of the IKB. -/
def State.porst (s : State) (p : Nat) : State :=
  let u := Chip.ikb p
  let c := u.code
  let s1 := (s.linkIdle p).dropIkb p
  ((State.newNonce { s1 with
    regs := dropRange (c * 4294967296) ((c + 1) * 4294967296) s1.regs,
    held := dropRange (c * 4294967296) ((c + 1) * 4294967296) s1.held,
    heldRead := s1.heldRead.filter fun k => k / 4294967296 != c,
    evRing := dropRange (c * 33554432) ((c + 1) * 33554432) s1.evRing,
    windows := dropRange (c * 256) (c * 256 + 256) s1.windows, episodes := dropRange (c * 256) (c * 256 + 256) s1.episodes,
    ltc := drop c s1.ltc, servo := drop c s1.servo, meridian := drop c s1.meridian } u).pinsFollow s p).requestsFollow s p
def execIkbPorst (p : Nat) (s : State) : Out' := storeless s <| .next (s.porst p)

/-- R82: IKB_RST_N. -/
def execIkbRst (p : Nat) (s : State) : Out' := storeless s <| .next (s.vikbReset p 1 true)

/-- R77: IKB_VIKB_PG falls; without the entry, VIKB_LOST. -/
def execVikbPgFall (p : Nat) (s : State) : Out' := storeless s <|
  let u := Chip.ikb p
  let s1 := ((if s.on u aonPwrStatOffOk then s else s.wr u aonPwrStatVikbLost 1).linkIdle p).wr u vikbOff 1
  .next ((s1.pinsFollow s p).requestsFollow s p)

/-- VIKB returns: after the entry of R125 the retained baseline set is restored; after a loss VIKB_LOST is written. -/
def State.vikbReturn (s : State) (p : Nat) : State :=
  let u := Chip.ikb p
  let planned := s.on u aonPwrStatOffOk
  let s1 := (s.vikbReset p (if planned then 2 else 3) false).wr u vikbOff 0
  if !s.on u vikbOff then s
  else if !planned then s1.event u .aon 0x0402 2
  else
    let s2 := (s1.wr u aonPwrStatOffOk 0).emit (.pin u.code "IKB_VIKB_OFF_OK" 0)
    if s.on u retainedSet then
      ((List.range 64).foldl (fun t c => t.wr u (counter c) (t.rd u (retained c))) s2).wr u aonPwrStatRetained 1
    else s2
def execVikbReturn (p : Nat) (s : State) : Out' := storeless s <| .next (s.vikbReturn p)

/-- R440: 1 ms after FATAL_SAFE. -/
def execFatalWarmStart (p : Nat) (s : State) : Out' := storeless s <|
  .next (if s.on (.ikb p) fatalAt && s.rd (.ikb p) fatalAt + ms ≤ s.now + 1 then s.vikbReset p 4 true else s)

/-- R465: a full period without a kick. -/
def State.wdogExpire (s : State) (u : Chip) : State :=
  if !s.on u rasWdogCtrlEn || s.now < s.rd u wdogFrom + s.rd u rasWdogCtrlPeriodMs * ms then s
  else
    let s1 := (s.wr u rasWdogStatExpired 1).event u .ras 0x0F0A 2 (s.rd u rasWdogCtrlPeriodMs) false false true
    match u with
    | .ikb p => s1.vikbReset p 5 true
    | _ =>
      let s2 := s1.lastGasp 2
      if s2.on (.wdie 0) bbxStatLgBusy && s2.bit (.wdie 0) bbxCtrlTrigEn 2 then s2 else s2.warmStart 4
def execWdogExpire (u : Chip) (s : State) : Out' := keeping s <| .next (s.wdogExpire u)

end Sys2Proof.Machine
end

