-- ==== Sys2Proof/Machine/Field.lean ====
section
/-! DEFINITION. Spec 17: the field side (bus, hot-swap controller, alarm inputs, coolant and fan inputs, MRAM) and the
isolation barrier between it and die 0. -/

namespace Sys2Proof.Machine

/-! ## The ends of the barrier (R519 to R522) -/

/-- The end at the field side, or die 0's. -/
def State.barEnd (s : State) (atField : Bool) : BarEnd := if atField then s.field.link else s.barHost
def State.setBar (s : State) (atField : Bool) (e : BarEnd) : State :=
  if atField then { s with field := { s.field with link := e } } else { s with barHost := e }

/-- Whether the side of an end has power. -/
def State.barAlive (s : State) (atField : Bool) : Bool := if atField then s.field.running else s.field.hostUp

/-- The unsequenced types of Table 17.8. -/
def barUnseq (ty : Nat) : Bool := ty == 0x02 || ty == 0x10

/-- A frame leaves an end: its RESENT bit, SEQ, ACK and payload (Table 17.7). -/
def State.barEmit (s : State) (atField : Bool) (ty : Nat) (resent : Bool) (seq : Nat) (payload : List Nat) : State :=
  let ack := ((s.barEnd atField).rx + 65535) % 65536
  let body := [resent.toNat, seq, ack] ++ payload
  s.emit (if atField then .barrierToHost ty body else .barrierToField ty body)

/-- The frames that wait go out while fewer than 32 are unacknowledged (R521). -/
def State.barFill : Nat → Bool → State → State
  | 0, _, s => s
  | n + 1, a, s =>
    let e := s.barEnd a
    match e.waiting with
    | [] => s
    | (ty, pl) :: r =>
      if 32 ≤ e.unacked.length then s
      else
        let e1 := { e with tx := (e.tx + 1) % 65536, unacked := e.unacked ++ [⟨ty, e.tx, pl, 1⟩], waiting := r,
                           ackAt := if e.unacked.isEmpty then s.now else e.ackAt }
        State.barFill n a ((s.setBar a e1).barEmit a ty false e.tx pl)

/-- A frame sent: an unsequenced one at once with the next SEQ, a sequenced one in its turn; nothing while the link is
down. -/
def State.barSend (s : State) (a : Bool) (ty : Nat) (payload : List Nat) : State :=
  let e := s.barEnd a
  if !s.barAlive a || !e.up then s
  else if barUnseq ty then s.barEmit a ty false e.tx payload
  else State.barFill 32 a (s.setBar a { e with waiting := e.waiting ++ [(ty, payload)] })

/-- The field-side image's VERSION: what runs, or what the container holds. -/
def State.wantedImage (s : State) : Option (List Nat) := s.norComponent 3
def State.helloBody (s : State) (a : Bool) : List Nat :=
  if a then [1, 0] ++ leBytes 4 s.field.version ++ leBytes 8 (Config.partConst 7 0 0)
  else [1, 0] ++ leBytes 4 ((s.wantedImage.map fun l => (compOf (l.take 512)).version).getD 0)

/-- HELLO sent: SEQ starts at 0. -/
def State.barHello (s : State) (a : Bool) : State :=
  (s.setBar a { s.barEnd a with tx := 1, unacked := [], waiting := [], helloAt := s.now + 1 }).barEmit a 0x01 false 0
    (s.helloBody a)

/-- The link up at an end that received HELLO. -/
def State.barUp (s : State) (a : Bool) : State :=
  let s1 := s.setBar a { s.barEnd a with up := true, rx := 1, lastRx := s.now, ackAt := s.now }
  s1.barHello a

/-- The frames that ACK covers are done with. -/
def BarEnd.acked (e : BarEnd) (ack now : Nat) : BarEnd :=
  match e.unacked.findIdx? fun t => t.seq == ack with
  | some i => { e with unacked := e.unacked.drop (i + 1), ackAt := now }
  | none => e

/-- A frame counted in BAD. -/
def State.barBad (s : State) (a : Bool) : State :=
  if a then s.setBar a { s.barEnd a with bad := min 65535 ((s.barEnd a).bad + 1) } else s.inc (.wdie 0) barDropsBad

/-- A frame of a type taken in at an end: its ACK, the time, and of a sequenced one the SEQ expected next; frames that
waited for the ACK go out. -/
def State.barTaken (s : State) (a : Bool) (ty : Nat) (f : BarFrame) : State :=
  let e := s.barEnd a
  State.barFill 32 a (s.setBar a { e.acked f.ack s.now with
    lastRx := s.now, rx := if barUnseq ty then e.rx else (e.rx + 1) % 65536 })

/-- R521: a frame of a type received at an end (`a` at the field side), then its effect. -/
def State.barRecv (s : State) (a : Bool) (ty : Nat) (f : BarFrame) (act : State → State) : State :=
  let e := s.barEnd a
  if !s.barAlive a then s
  else if f.bad then s.barBad a
  else if !e.up then s
  else if barUnseq ty || f.seq % 65536 == e.rx then act (s.barTaken a ty f)
  else
    let s1 := State.barFill 32 a (s.setBar a { e.acked f.ack s.now with lastRx := s.now })
    if a then s1 else s1.inc (.wdie 0) barDropsOutOfSeq

/-! ## Field-side configuration (R523) -/

/-- The F words of the BARRIER page by offset. -/
def fOffsets : List Nat :=
  (List.range 16).map (fun k => 0x200 + 4 * k) ++ (List.range 16).map (fun k => 0x240 + 4 * k) ++ [0x280, 0x284, 0x288]

/-- The reset value of an F word. -/
def fReset (off : Nat) : Nat :=
  if off < 0x240 then 0x003C000A else if off < 0x280 then 0x00100000
  else if off = 0x280 then 0xFF else if off = 0x284 then 0x1194 else 0x01F46401

/-- An F word as the field side runs it, and its fields. -/
def FieldSide.word (f : FieldSide) (off : Nat) : Nat := (look off f.cfg).getD (fReset off)
def FieldSide.debounce (f : FieldSide) (k : Nat) : Nat := bitsOf (f.word (0x200 + 4 * k)) 0 8
def FieldSide.enabled (f : FieldSide) (k : Nat) : Bool := bitAt (f.word (0x200 + 4 * k)) 8 == 1
def FieldSide.activeLow (f : FieldSide) (k : Nat) : Bool := bitAt (f.word (0x200 + 4 * k)) 9 == 1
def FieldSide.stuckS (f : FieldSide) (k : Nat) : Nat := bitsOf (f.word (0x200 + 4 * k)) 16 12
def FieldSide.chatterLim (f : FieldSide) (k : Nat) : Nat := bitsOf (f.word (0x240 + 4 * k)) 16 16

/-- An F word as die 0's shadow holds it. -/
def State.fWord (s : State) (off : Nat) : Nat :=
  let u := Chip.wdie 0
  let k := off % 64 / 4
  if off < 0x240 then pay [(s.rd u (barAlarmCfgDebounceMs k), 0), (s.rd u (barAlarmCfgEn k), 8),
    (s.rd u (barAlarmCfgActiveLow k), 9), (s.rd u (barAlarmCfgStuckS k), 16)]
  else if off < 0x280 then pay [(s.rd u (barAlarmCntChatterLim k), 16)]
  else if off = 0x280 then pay [(s.rd u barRtdCfgPt1000, 0), (s.rd u barRtdCfgEn, 8)]
  else if off = 0x284 then s.rd u barRtdLimHigh
  else pay [(s.rd u barFanCfgPulses, 0), (s.rd u barFanCfgFailsafeDuty, 8), (s.rd u barFanCfgMinRpm, 16)]

/-! ## Field-side records (R518, R525 to R527) -/

/-- The records of severity and payload that take no token (R518). -/
def fieldExempt (code : Nat) : Bool := [0x1103, 0x1105, 0x1106, 0x1113, 0x1114].contains code

/-- The field side's time (R526), with its 1 MHz counter. -/
def State.fieldTime (s : State) : Nat := (s.field.time + (s.now - s.field.timeAt) / us * us) % 2 ^ 64

/-- A record in the MRAM ring (Table 17.10). -/
def State.mramRecord (s : State) (code sev payload : Nat) : State :=
  let f := s.field
  let head := leBytes 4 f.fseq ++ leBytes 2 code ++ [sev, f.timeValid.toNat] ++ leBytes 8 s.fieldTime ++
    leBytes 12 (payload % 2 ^ 96)
  let bs := head.map (BitVec.ofNat 8)
  { s with
    mram := memWriteList mramDflt (bs ++ bytesLE 4 (crc32c bs).toNat) (0x5000 + 32 * f.head) s.mram,
    field := { f with fseq := (f.fseq + 1) % 4294967296, head := (f.head + 1) % 32128, count := min 32128 (f.count + 1) } }

/-- The tokens of a code now, in 10^-9 of a token: 10 in a second, at most 20 (R518). -/
def State.fieldTokens (s : State) (code : Nat) : Nat :=
  match look code s.field.tokens with
  | some (t, at') => min 20000000000 (t + 10 * (s.now - at'))
  | none => 20000000000

/-- A field-side record: suppressed without a token, else kept in the MRAM and sent as an EVENT frame. -/
def State.fieldEvent (s : State) (code sev payload : Nat) (frame : Bool := true) : State :=
  let t := s.fieldTokens code
  if !fieldExempt code && t < 1000000000 then
    { s with field := { s.field with supp := put code ((look code s.field.supp).getD 0 + 1) s.field.supp } }
  else
    let tk := if fieldExempt code then s.field.tokens else put code (t - 1000000000, s.now) s.field.tokens
    let s1 := { s with field := { s.field with tokens := tk } }.mramRecord code sev payload
    if frame then s1.barSend true 0x12 (leBytes 2 code ++ [sev, 0] ++ leBytes 16 payload) else s1

/-- R518: one FIELD_SUPPRESSED per code with suppressed records, once per second. -/
def execFieldSuppressed (s : State) : Out' := keeping s <|
  .next (if !s.field.running || s.now < s.field.suppAt + sec then s
    else
      let l := s.field.supp
      l.foldl (fun t e => t.fieldEvent 0x1112 0 (pay [(e.1, 0), (e.2 % 4294967296, 16)]))
        { s with field := { s.field with supp := [], suppAt := s.now } })

/-! ## The alarm state and the bus (R509, R510, R514, R522) -/

def State.alarmOf (s : State) (k : Nat) : AlarmIn := (look k s.field.alarms).getD {}
def State.setAlarm (s : State) (k : Nat) (a : AlarmIn) : State :=
  { s with field := { s.field with alarms := put k a s.field.alarms } }

/-- The whole alarm and bus state as ALARM and HEARTBEAT carry it (Table 17.8). -/
def State.alarmBody (s : State) (cause : Nat) : List Nat :=
  let f := s.field
  let st := (List.range 16).foldl (fun a k => a + (s.alarmOf k).state.toNat * 2 ^ k) 0
  let sk := (List.range 16).foldl (fun a k => a + (s.alarmOf k).stuck.toNat * 2 ^ k) 0
  leBytes 2 st ++ leBytes 2 sk ++ [f.busLow.toNat + 2 * f.busOv.toNat + 4 * f.hsFault.toNat + 8 * f.hsOn.toNat +
    16 * f.hsPg.toNat, 0, cause, 0] ++ leBytes 2 f.ch0
def State.alarmFrame (s : State) (cause : Nat) : State := s.barSend true 0x10 (s.alarmBody cause)

/-- The bus falls low: recorded, told at once, its capture runs on for 512 pairs (R514). -/
def State.busLowAt (s : State) (code : Nat) : State :=
  if s.field.busLow then s
  else
    let s1 := { s with field := { s.field with busLow := true, lowAt := s.now + 1, ch0 := code % 65536, capturing := true } }
    (s1.fieldEvent 0x1103 2 (pay [(code % 65536, 0), (s.field.hsFault.toNat, 16)]) false).alarmFrame 0x90

/-- What the hot-swap controller does needs no field-side firmware, but the field side's supply. -/
def State.fieldOn (s : State) (f : State → State) : State := if s.field.running then f s else s

/-- R509: the tray bus below 28 V. -/
def execBusLow (code : Nat) (s : State) : Out' := keeping s <| .next (s.fieldOn (·.busLowAt code))

/-- R509: the bus above 30 V for 100 ms with the FET on. -/
def State.busRestored (s : State) (code : Nat) : State :=
  if !s.field.busLow || !s.field.hsOn then s
  else
    let t := (s.now + 1 - s.field.lowAt) / ms % 4294967296
    ({ s with field := { s.field with busLow := false, lowAt := 0, ch0 := code % 65536 } }.alarmFrame 0x10).fieldEvent 0x1104 1 t
def execBusRestored (code : Nat) (s : State) : Out' := keeping s <| .next (s.fieldOn (·.busRestored code))

/-- The hot-swap controller opens the FET for a fault (bit of FAULTS); BUS_LOW is asserted with it (R509, R510). -/
def State.fetFault (s : State) (bit code : Nat) : State :=
  let f := { s.field with hsOn := false, hsPg := false, hsFault := true, faults := 2 ^ bit, openAt := s.now + 1, ch0 := code % 65536 }
  { s with field := f }.fieldEvent 0x1106 2 (pay [(2 ^ bit, 0), (f.retries, 8)]) |>.busLowAt code

/-- R509: the bus above 62 V for 100 µs. -/
def execBusOv (code : Nat) (s : State) : Out' := keeping s <|
  .next (s.fieldOn fun s => ({ s with field := { s.field with busOv := true } }.fieldEvent 0x1105 2 (code % 65536)).fetFault 3 code)

/-- R510: BREAKER, OC or OT opens the FET: `cause` 0 OC, 1 BREAKER, 2 OT. -/
def execHsFault (cause code : Nat) (s : State) : Out' := keeping s <| .next (s.fieldOn (·.fetFault (cause % 3) code))

/-- The FET closed and fully on. -/
def FieldSide.closed (f : FieldSide) : FieldSide :=
  { f with hsOn := true, hsPg := true, hsFault := false, busOv := false, openAt := 0, offAt := 0, offOpenAt := 0 }

/-- R510: 100 ms after insertion the FET closes, and the retries begin anew. -/
def execHsInsertion (s : State) : Out' := storeless s <|
  .next (s.fieldOn fun s => if s.field.hsOn then s else { s with field := { s.field.closed with retries := 0 } })

/-- R510: 5 s after a fault, at most three times. -/
def execHsRetry (s : State) : Out' := storeless s <|
  .next (s.fieldOn fun s =>
    if s.field.openAt = 0 || 3 ≤ s.field.retries || s.now + 1 < s.field.openAt + 5 * sec then s
    else { s with field := { s.field.closed with retries := s.field.retries + 1 } })

/-- R529: 10 ms after HS_OFF. -/
def execHsOffOpen (s : State) : Out' := storeless s <|
  .next (s.fieldOn fun s =>
    if s.field.offAt = 0 || s.now + 1 < s.field.offAt + 10 * ms then s
    else { s with field := { s.field with hsOn := false, hsPg := false, offAt := 0, offOpenAt := s.now + 1 } })

/-- R529: ON_AFTER_S after the opening. -/
def execHsOnAfter (s : State) : Out' := storeless s <|
  .next (s.fieldOn fun s =>
    if s.field.offOpenAt = 0 || s.field.onAfter = 0 || s.now + 1 < s.field.offOpenAt + s.field.onAfter * sec then s
    else { s with field := s.field.closed })

/-- R514: 512 pairs after BUS_LOW the 1,024 pairs are written to the next capture slot. -/
def State.capture17 (s : State) (pairs : List (Nat × Nat)) : State :=
  if !s.field.capturing then s
  else
    let bs := ((pairs.take 1024).map fun e => bytesLE 2 e.1 ++ bytesLE 2 e.2).flatten
    { s with mram := memWriteList mramDflt bs (0x1000 + 4096 * s.field.capSlot) s.mram,
             field := { s.field with capturing := false, capSlot := (s.field.capSlot + 1) % 4 } }
def execBusCaptureFreeze (pairs : List (Nat × Nat)) (s : State) : Out' := keeping s <|
  .next (s.fieldOn (·.capture17 pairs))

/-! ## Alarm inputs (R515 to R517) -/

/-- A debounced state changes: the frame, and ALARM_SET or ALARM_CLEAR. -/
def State.alarmState (s : State) (k : Nat) (a : AlarmIn) (v : Bool) : State :=
  let a1 := { a with state := v, timing := false, activeAt := if v then s.now + 1 else 0, setAt := if v then s.now + 1 else 0 }
  let s1 := (s.setAlarm k a1).alarmFrame (k + 128 * v.toNat)
  if v then s1.fieldEvent 0x1108 1 (pay [(k, 0), (a.chatter, 16)])
  else s1.fieldEvent 0x1109 0 (pay [(k, 0), ((s.now + 1 - a.setAt) / ms % 4294967296, 32)])

/-- R515: one sample of one enabled input; a chatter edge also counts in die 0's ALARM_CNT. -/
def State.alarmSample (s : State) (k : Nat) (lv : Bool) : State :=
  let a := s.alarmOf k
  let v := lv != s.field.activeLow k
  if v != a.lastRaw then
    let ch := a.timing.toNat
    let s1 := if a.timing && s.field.hostUp then s.inc (.wdie 0) (barAlarmCntChatter k) else s
    s1.setAlarm k { a with
      edges := a.edges + 1, chatter := min 65535 (a.chatter + ch), chatterSec := a.chatterSec + ch, lastRaw := v,
      timing := v != a.state, t := 0 }
  else if a.timing then
    if 10 * s.field.debounce k ≤ a.t + 1 then
      if a.stuck then s.setAlarm k { a with t := a.t + 1, timing := false } else s.alarmState k { a with t := a.t + 1 } v
    else s.setAlarm k { a with t := a.t + 1 }
  else s

/-- R515: every enabled input sampled: bit k of `levels` says that input k is above its threshold. -/
def execAlarmSample (levels : Nat) (s : State) : Out' := keeping s <|
  .next (s.fieldOn fun s => (List.range 16).foldl (fun t k =>
    if t.field.enabled k then t.alarmSample k (bitAt levels k == 1) else t) s)

/-- R516: active for STUCK_S without interruption. -/
def State.alarmStuck (s : State) (k : Nat) : State :=
  let a := s.alarmOf k
  if !s.field.enabled k || s.field.stuckS k = 0 || a.stuck || a.activeAt = 0 ||
     s.now + 1 < a.activeAt + s.field.stuckS k * sec then s
  else (s.setAlarm k { a with stuck := true }).fieldEvent 0x110A 2 k
def execAlarmStuck (k : Nat) (s : State) : Out' := keeping s <|
  .next (s.fieldOn fun s => if k < 16 then s.alarmStuck k else s)

/-- R517: once per second, each input whose CHATTER rose by CHATTER_LIM. -/
def execAlarmChatter (s : State) : Out' := keeping s <|
  .next (s.fieldOn fun s =>
    if s.now < s.field.chatAt + sec then s
    else (List.range 16).foldl (fun t k =>
      let a := t.alarmOf k
      let t1 := if a.chatterSec = 0 then t else t.setAlarm k { a with chatterSec := 0 }
      if t.field.enabled k && decide (t.field.chatterLim k ≤ a.chatterSec) then
        t1.fieldEvent 0x110B 1 (pay [(k, 0), (min 65535 a.chatterSec, 16)]) else t1)
      { s with field := { s.field with chatAt := s.now } })

/-! ## Coolant and fans (R513, R524) -/

/-- A reading judged; die 0's OPEN, SHORT and VALID follow. -/
def State.rtdSample (s : State) (k : Nat) (t : Int) : State :=
  if bitAt (s.field.word 0x280) (8 + k) = 0 then s
  else
    let r := (look k s.field.rtds).getD {}
    let op := decide (20000 < t)
    let sh := decide (t < -6000)
    let bad := op || sh
    let high := !bad && decide (signedOf (bitsOf (s.field.word 0x284) 0 16) 16 < t)
    let at' := if !high then 0 else if r.highAt = 0 then s.now + 1 else r.highAt
    let tell := high && !r.told && decide (at' + sec ≤ s.now + 1)
    let r1 : Rtd := { temp := if bad then r.temp else t, isOpen := op, isShort := sh, valid := !bad, highAt := at', told := high && (r.told || tell) }
    let s1 := { s with field := { s.field with rtds := put k r1 s.field.rtds } }
    let u := Chip.wdie 0
    let s2 := if s.field.hostUp then ((s1.wr u (barRtdOpen k) op.toNat).wr u (barRtdShort k) sh.toNat).wr u (barRtdValid k) (!bad).toNat else s1
    let s3 := if bad && (op != r.isOpen || sh != r.isShort) then s2.fieldEvent 0x110D 1 (pay [(k, 0), (op.toNat, 8), (sh.toNat, 9)]) else s2
    if tell then s3.fieldEvent 0x110E 2 (pay [(k, 0), (ofSigned t 16, 16)]) else s3
def execRtdSample (k : Nat) (t : Int) (s : State) : Out' := keeping s <|
  .next (s.fieldOn fun s => if k < 8 then s.rtdSample k t else s)

/-- The duty of a fan's PWM: FAILSAFE_DUTY while no image runs or its watchdog holds it; the image's choice otherwise. -/
def State.duty (s : State) : Nat × State :=
  if s.field.version = 0 || s.now < s.field.failUntil then (bitsOf (s.field.word 0x288) 8 8, s)
  else
    let (v, s1) := s.free 7
    (v % 101, s1)

/-- A tachometer's measurement judged; die 0's STALL clears with the stall. -/
def State.fanTach (s : State) (k rpm : Nat) : State :=
  let f := (look k s.field.fans).getD {}
  let (d, s0) := s.duty
  let low := decide (rpm < bitsOf (s.field.word 0x288) 16 16) && decide (20 ≤ d)
  let at' := if !low then 0 else if f.lowAt = 0 then s.now + 1 else f.lowAt
  let tell := low && !f.told && decide (at' + 2 * sec ≤ s.now + 1)
  let s1 := { s0 with field := { s0.field with fans := put k ⟨rpm, at', low && (f.told || tell)⟩ s0.field.fans } }
  if tell then s1.fieldEvent 0x110F 2 (pay [(k, 0), (rpm % 65536, 16)])
  else if !low && s.field.hostUp then s1.wr (.wdie 0) (barFanStall k) 0 else s1
def execFanTach (k rpm : Nat) (s : State) : Out' := keeping s <|
  .next (s.fieldOn fun s => if k < 8 then s.fanTach k rpm else s)

/-- R524: the image's watchdog expires: FAILSAFE_DUTY for 1 s. -/
def execFieldWatchdogExpiry (s : State) : Out' := storeless s <|
  .next (s.fieldOn fun s => if s.field.version = 0 then s else { s with field := { s.field with failUntil := s.now + sec } })

/-! ## Frames at die 0 -/

/-- The 4-byte and 2-byte numbers in a payload. -/
def num4 (l : List Nat) (i : Nat) : Nat := leVal ((l.drop i).take 4)
def num2 (l : List Nat) (i : Nat) : Nat := leVal ((l.drop i).take 2)

/-- Optics squelched and the engines of every die stopped, at BUS_LOW (spec 15 R463). -/
def State.busStopAll (s : State) : State :=
  (List.range s.dies).foldl (fun t d => (t.wr (.wdie d) busStop 1).wr (.wdie d) squelched 1) s

/-- R522: the alarm and bus state of an ALARM or HEARTBEAT frame taken into the registers; a rise of BUS_LOW is written by
the appender, starts the commit and stops the engines; a fall is the end of the dip (R463). -/
def State.barAlarms (s : State) (pl : List Nat) : State :=
  let u := Chip.wdie 0
  let st := num2 pl 0
  let sk := num2 pl 2
  let b := nth pl 4
  let was := s.on u barBusBusLow
  let bus := s.rd u barBusBusLow + 2 * s.rd u barBusBusOv + 4 * s.rd u barBusHsFault
  let s1 := (s.wr u barAlarmState st).wr u barAlarmStuck sk
  let s2 := ((((s1.wr u barBusBusLow (bitAt b 0)).wr u barBusBusOv (bitAt b 1)).wr u barBusHsFault (bitAt b 2)).wr
    u barBusHsOn (bitAt b 3)).wr u barBusHsPg (bitAt b 4)
  let s3 := if s.rd u barAlarmState ≠ st then s2.int u .barrier 1 else s2
  let s4 := if sk &&& s.rd u barAlarmStuck ≠ sk then s3.int u .barrier 2 else s3
  let s5 := if bus ≠ b % 8 then s4.int u .barrier 3 else s4
  if !was && bitAt b 0 = 1 then
    let r := { mkRec u .barrier 0x1103 2 (pay [(num2 pl 8, 0), (bitAt b 2, 16)]) false false with part := 3, hw := true }
    ((s5.eventRec u r true).busStopAll).lastGasp 0
  else if was && bitAt b 0 = 0 then s5.warmStart 6
  else s5

/-- R521: a HEARTBEAT at either end. -/
def execBarrierHeartbeat (toField : Bool) (f : BarFrame) (s : State) : Out' := keeping s <|
  .next (s.barRecv toField 0x02 f fun t => if toField then t else t.barAlarms f.payload)

/-- R522: an ALARM frame at die 0. -/
def execBarrierAlarm (f : BarFrame) (s : State) : Out' := keeping s <|
  .next (s.barRecv false 0x10 f fun t => t.barAlarms f.payload)

/-- R512: a SENSE frame at die 0. -/
def State.senseIn (s : State) (pl : List Nat) : State :=
  let u := Chip.wdie 0
  let v := fun (i : Nat) => num2 pl (2 + 2 * i)
  let n := min 8 (nth pl 1)
  match nth pl 0 with
  | 0 => (List.range n).foldl (fun t k => (t.wr u (barSenseCode k) (v k)).wr u (barSenseValid k) 1) s
  | 1 => (List.range n).foldl (fun t k => (t.wr u (barSenseICode k) (v k)).wr u (barSenseIValid k) 1) s
  | 2 => (List.range n).foldl (fun t k => t.wr u (barRtdTemp k) (v k)) s
  | 3 => (List.range n).foldl (fun t k => t.wr u (barFanRpm k) (v k)) s
  | 4 => ((s.wr u barHsVin (v 0)).wr u barHsIin (v 1)).wr u barHsTempFet (v 2)
  | _ => s
def execBarrierSense (f : BarFrame) (s : State) : Out' := storeless s <|
  .next (s.barRecv false 0x11 f fun t => t.senseIn f.payload)

/-- R527, R534: an EVENT frame's record is written by die 0 with PART 3; what it says of a register is kept there. -/
def State.fieldRecord (s : State) (pl : List Nat) : State :=
  let u := Chip.wdie 0
  let code := num2 pl 0
  let p := leVal ((pl.drop 4).take 16)
  let s1 := s.eventRec u { mkRec u .barrier code (nth pl 2 % 4) p false false with part := 3 } false
  match code with
  | 0x1106 => (s1.wr u barHsTempFaults (bitsOf p 0 5)).wr u barHsTempRetries (bitsOf p 8 3)
  | 0x110E => s1.int u .barrier 5
  | 0x110F => (s1.wr u (barFanStall (p % 8)) 1).int u .barrier 5
  | 0x1110 => (s1.wr u barFieldVerVersion (p % 4294967296)).wr u barLinkFwRun 1
  | 0x1113 => (s1.wr u barFieldVerVersion 0).wr u barLinkFwRun 0
  | _ => s1
def execBarrierEvent (f : BarFrame) (s : State) : Out' := storeless s <|
  .next (s.barRecv false 0x12 f fun t => t.fieldRecord f.payload)

/-- R523: a CFG_ECHO confirms one write of its word with its value. -/
def State.cfgEcho (s : State) (pl : List Nat) : State :=
  let off := num2 pl 0
  if !s.barEcho.contains off || num4 pl 2 ≠ s.fWord off then s
  else
    let s1 := { s with barEcho := s.barEcho.erase off }
    if s1.barEcho.isEmpty then (s1.wr (.wdie 0) barLinkFpending 0).int (.wdie 0) .barrier 6 else s1
def execBarrierCfgEcho (f : BarFrame) (s : State) : Out' := storeless s <|
  .next (s.barRecv false 0x13 f fun t => t.cfgEcho f.payload)

/-! ## Commands (R528, R529, R532, R533) -/

/-- When the running command last heard of the field side; its OP. -/
def cmdAt : Fld := cell .barrier 0
def cmdOp : Fld := cell .barrier 1

/-- A command ends with a RESULT. -/
def State.cmdEnd (s : State) (res : Nat) : State :=
  let u := Chip.wdie 0
  ((s.wr u barCmdBusy 0).wr u barCmdResult res).int u .barrier 4

/-- R528: MRAM_DATA at die 0: its bytes go to CMD_BUF. -/
def State.mramData (s : State) (pl : List Nat) : State :=
  let u := Chip.wdie 0
  if !s.on u barCmdBusy || s.rd u cmdOp ≠ 2 then s
  else
    let a := s.rd u barCmdBufAddr + (num4 pl 0 - s.rd u barCmdArgArg)
    (State.dramStore (((pl.drop 4).take 16).map (BitVec.ofNat 8)) (dieAddr 0 (a % 68719476736)) s).wr u cmdAt s.now
def execBarrierMramData (f : BarFrame) (s : State) : Out' := keeping s <|
  .next (s.barRecv false 0x14 f fun t => t.mramData f.payload)

/-- R533: CMD_DONE at die 0. -/
def State.cmdDone (s : State) (pl : List Nat) : State :=
  if s.on (.wdie 0) barCmdBusy && s.rd (.wdie 0) cmdOp = nth pl 0 then s.cmdEnd (nth pl 1 % 8) else s
def execBarrierCmdDone (f : BarFrame) (s : State) : Out' := storeless s <|
  .next (s.barRecv false 0x15 f fun t => t.cmdDone f.payload)

/-- R532: 100 ms without a frame. -/
def execBarrierCmdTimeout (s : State) : Out' := storeless s <|
  .next (if s.on (.wdie 0) barCmdBusy && s.rd (.wdie 0) cmdAt + 100 * ms ≤ s.now then s.cmdEnd 3 else s)

/-- GO with an OP at die 0: `refuse` its RESULT when it is turned away at once. -/
def State.barGo (s : State) (op arg arg2 : Nat) (refuse : Option Nat) : State :=
  let u := Chip.wdie 0
  if s.on u barCmdBusy then s.pageErr u .barrier 0x0101 1
  else
    let s0 := s.wr u barCmdOp op
    match refuse with
    | some r => s0.cmdEnd r
    | none =>
      let s1 := (((s0.wr u barCmdBusy 1).wr u barCmdResult 0).wr u cmdAt s.now).wr u cmdOp op
      s1.barSend false 0x21 ([op, 0] ++ leBytes 4 arg ++ leBytes 4 arg2)

/-- GO with the arguments of the page. -/
def State.barCmd (s : State) (op : Nat) (refuse : Option Nat) : State :=
  s.barGo op (s.rd (.wdie 0) barCmdArgArg) (s.rd (.wdie 0) barCmdArg2Arg2) refuse

/-- CMD_DONE from the field side. -/
def State.cmdReply (s : State) (op res : Nat) : State := s.barSend true 0x15 [op, res]

/-- A command frame at the field side, or GO at die 0. -/
def State.barrierCmd (s : State) (f : Option BarFrame) (go : State → State) (act : State → List Nat → State) : State :=
  match f with
  | none => go s
  | some f => s.barRecv true 0x21 f fun t => act t f.payload

/-- R516: REARM: STUCK cleared for the inputs of the mask, their state taken afresh, the timer from zero. -/
def State.rearm (s : State) (mask : Nat) : State :=
  let s1 := ((List.range 16).filter fun k => bitAt mask k = 1 && (s.alarmOf k).stuck).foldl (fun t k =>
    let a := t.alarmOf k
    t.setAlarm k { a with stuck := false, timing := a.lastRaw != a.state, t := 0, activeAt := if a.state then t.now + 1 else 0 }) s
  (s1.fieldEvent 0x110C 0 (mask % 65536)).cmdReply 1 1
def execBarrierRearm (f : Option BarFrame) (s : State) : Out' := keeping s <|
  .next (s.barrierCmd f (·.barCmd 1 none) fun t pl => t.rearm (num4 pl 2))

/-- A byte of the MRAM; the layout of its header is not given. -/
def State.mramByte (s : State) (a : Nat) : Nat × State :=
  if a < 0x1000 then s.free 8 else ((memRead mramDflt s.mram a).toNat, s)

/-- `n` bytes of the MRAM from `a` on. -/
def State.mramBytes : Nat → Nat → State → List Nat × State
  | 0, _, s => ([], s)
  | n + 1, a, s =>
    let (b, s1) := s.mramByte a
    let (l, s2) := State.mramBytes n (a + 1) s1
    (b :: l, s2)

/-- R528: MRAM_READ at the field side, in pieces of 16 bytes. -/
def State.mramRead : Nat → Nat → State → State
  | 0, _, s => s
  | n + 1, a, s =>
    let (l, s1) := State.mramBytes 16 a s
    State.mramRead n (a + 16) (s1.barSend true 0x14 (leBytes 4 a ++ l))

/-- Whether a read lies within the MRAM, its length as R528 has it. -/
def mramReadOk (off len : Nat) : Bool := 16 ≤ len && len ≤ 65536 && len % 16 == 0 && off + len ≤ 1048576
def execBarrierMramRead (f : Option BarFrame) (s : State) : Out' := storeless s <|
  let u := Chip.wdie 0
  .next (s.barrierCmd f (fun t => t.barCmd 2 (if mramReadOk (t.rd u barCmdArgArg) (t.rd u barCmdArg2Arg2) then none else some 5))
    fun t pl => (State.mramRead (num4 pl 6 / 16) (num4 pl 2) t).cmdReply 2 1)

/-- R528: MRAM_CLEAR at the field side: ring and capture slots emptied; MRAM_CLEARED is the first record after it. -/
def State.mramClear (s : State) (token : Nat) : State :=
  let s1 := { s with mram := [], field := { s.field with head := 0, count := 0, capSlot := 0 } }
  (s1.fieldEvent 0x1114 1 token).cmdReply 3 1
def execBarrierMramClear (f : Option BarFrame) (s : State) : Out' := keeping s <|
  let u := Chip.wdie 0
  .next (s.barrierCmd f (fun t =>
      let id := t.rd u authLastTokenId
      t.barGo 3 (id % 4294967296) (id / 4294967296) (if t.on u authStatClear then none else some 4))
    fun t pl => t.mramClear (num4 pl 2 + 4294967296 * num4 pl 6))

/-- R529: HS_OFF at the field side: answered, recorded; the FET opens 10 ms later. -/
def State.hsOff (s : State) (onAfter : Nat) : State :=
  ({ s with field := { s.field with offAt := s.now + 1, onAfter := onAfter } }.cmdReply 4 1).fieldEvent 0x1107 1 onAfter
def execBarrierHsOff (f : Option BarFrame) (s : State) : Out' := keeping s <|
  .next (s.barrierCmd f (fun t => t.barCmd 4 (if t.rd .pkg pkgmCurMode = 3 then none else some 2))
    fun t pl => t.hsOff (num4 pl 2))

/-- The image buffer as bytes. -/
def FieldSide.bytes (f : FieldSide) : List Nat :=
  ((List.range 5152).map fun i => (look (16 * i) f.image).getD (leBytes 16 0)).flatten

/-- R524: the checks of R486 on a KIND 3 component, with the field side's own fuses. -/
def verifyField (l : List Nat) : Nat :=
  let c := compOf (l.take 512)
  let body := l.drop 512
  if !c.formed || c.kind ≠ 3 || 65536 < c.codeLen || 16384 < c.dataLen then 5
  else if sha384 c.key ≠ Config.partConst 2 999 0 % 2 ^ 384 then 2
  else if c.svn < Config.partConst 0 999 0 % 65536 then 4
  else if sha384 (body.take (c.codeLen + c.dataLen)) ≠ c.hash || !signed c.key ((l.take 512).take 416) c.sig then 3
  else 1

/-- R524: FW_START at the field side. -/
def State.fieldStart (s : State) : State :=
  let l := s.field.bytes
  let r := verifyField l
  let v := (compOf (l.take 512)).version
  if r = 1 then
    ({ s with field := { s.field with version := v, failUntil := 0 } }.fieldEvent 0x1110 0 v).cmdReply 5 1
  else (s.fieldEvent 0x1111 2 r).cmdReply 5 r
def execBarrierFwStart (f : Option BarFrame) (s : State) : Out' := keeping s <|
  .next (s.barrierCmd f (·.barCmd 5 none) fun t _ => t.fieldStart)

/-! ## Frames at the field side -/

/-- R523: a CFG_WRITE applied and echoed; a disabled input becomes inactive (R532). -/
def State.cfgApply (s : State) (off v : Nat) : State :=
  let s1 := { s with field := { s.field with cfg := put off v s.field.cfg } }
  let k := off % 64 / 4
  let a := s1.alarmOf k
  let s2 :=
    if 0x200 ≤ off && off < 0x240 && !s1.field.enabled k && (look k s1.field.alarms).isSome then
      let s' := if a.state then s1.alarmState k a false else s1
      s'.setAlarm k { s'.alarmOf k with timing := false, stuck := false, lastRaw := false, activeAt := 0 }
    else s1
  s2.barSend true 0x13 (leBytes 2 off ++ leBytes 4 v)
def execBarrierCfgWriteFrame (f : BarFrame) (s : State) : Out' := keeping s <|
  .next (s.barRecv true 0x20 f fun t =>
    if fOffsets.contains (num2 f.payload 0) then t.cfgApply (num2 f.payload 0) (num4 f.payload 2) else t)

/-- R526: a TIME frame. -/
def execBarrierTime (f : BarFrame) (s : State) : Out' := storeless s <|
  .next (s.barRecv true 0x22 f fun t =>
    { t with field := { t.field with
      time := (leVal (f.payload.take 6) * 1000000000 + num4 f.payload 6) % 2 ^ 64,
      timeValid := bitAt (nth f.payload 10) 0 == 1, timeAt := t.now } })

/-- R524: a FW_LOAD frame: 16 bytes of the image. -/
def execBarrierFwLoad (f : BarFrame) (s : State) : Out' := storeless s <|
  .next (s.barRecv true 0x23 f fun t =>
    let off := num4 f.payload 0
    if off % 16 = 0 && off < 82432 then
      { t with field := { t.field with image := put off ((f.payload.drop 4).take 16) t.field.image } }
    else t)

/-! ## HELLO, loading, the link's timers (R521 to R524) -/

/-- A write of an F word is sent; FPENDING until it is echoed. -/
def State.fSend (s : State) (off : Nat) : State :=
  { s with barEcho := s.barEcho ++ [off] }.barSend false 0x20 (leBytes 2 off ++ leBytes 4 (s.fWord off))

/-- R524: die 0's firmware loads the container's KIND 3 component when HELLO told another VERSION, and starts it. -/
def State.fieldLoad (s : State) : State :=
  let u := Chip.wdie 0
  if !s.on .pkg pkgStartStatDone || !s.barHost.up || s.on u barCmdBusy then s
  else match s.wantedImage with
    | none => s
    | some l =>
      if l.length < 512 || 82432 < l.length || (compOf (l.take 512)).version = s.rd u barFieldVerVersion then s
      else
        let s1 := (List.range (ceilDiv l.length 16)).foldl (fun t i =>
          t.barSend false 0x23 (leBytes 4 (16 * i) ++ (l.drop (16 * i)).take 16)) s
        s1.barGo 5 0 0 none

/-- R522, R523: HELLO at an end: the link is up and SEQ starts anew; die 0 sends every F word. A HELLO that only answers
this end's own changes nothing. -/
def State.helloIn (s : State) (a : Bool) (f : BarFrame) : State :=
  let e := s.barEnd a
  if !s.barAlive a then s
  else if f.bad then s.barBad a
  else if e.up && e.rx = 1 then s.setBar a { e with lastRx := s.now }
  else
    let s1 := s.barUp a
    if a then s1
    else
      let u := Chip.wdie 0
      let v := num4 f.payload 2
      let s2 := ((((s1.wr u barLinkUp 1).wr u barLinkProto (nth f.payload 0)).wr u barFieldVerVersion v).wr
        u barLinkFwRun (decide (v ≠ 0)).toNat).wr u barLinkFpending 1
      let s3 := (s2.event u .barrier 0x1102 0 v).int u .barrier 0
      (fOffsets.foldl (fun (t : State) o => t.fSend o) { s3 with barEcho := [] }).fieldLoad
def execBarrierHello (toField : Bool) (f : BarFrame) (s : State) : Out' := storeless s <| .next (s.helloIn toField f)

/-- R521: ACK has not advanced for 200 µs. -/
def State.barResend (s : State) (a : Bool) : State :=
  let e := s.barEnd a
  if !s.barAlive a || e.unacked.isEmpty || s.now < e.ackAt + 200 * us then s
  else
    let l := e.unacked.map fun (t : BarTx) => { t with sends := t.sends + 1 }
    let s1 := s.setBar a { e with unacked := l, ackAt := s.now }
    let s2 := if a then s1 else s1.inc (.wdie 0) barResentCount l.length
    l.foldl (fun t x => t.barEmit a x.type true x.seq x.payload) s2
def execBarrierResendTimer (atField : Bool) (s : State) : Out' := storeless s <| .next (s.barResend atField)

/-- R522: an end declares the link down. -/
def State.barSilence (s : State) (a : Bool) : State :=
  let e := s.barEnd a
  let often := e.unacked.any fun t => decide (16 ≤ t.sends)
  if !s.barAlive a || !e.up || !(often || decide (e.lastRx + 10 * ms ≤ s.now)) then s
  else
    let s1 := s.setBar a { e with up := false, unacked := [], waiting := [], helloAt := 0 }
    if a then s1
    else ((s1.wr (.wdie 0) barLinkUp 0).event (.wdie 0) .barrier 0x1101 2
      (if decide (e.lastRx + 10 * ms ≤ s.now) then 0 else 1)).int (.wdie 0) .barrier 0
def execBarrierSilence (atField : Bool) (s : State) : Out' := storeless s <| .next (s.barSilence atField)

/-- R522: HELLO every 10 ms until one is received. -/
def execBarrierHelloTimer (atField : Bool) (s : State) : Out' := storeless s <|
  let e := s.barEnd atField
  .next (if !s.barAlive atField || e.up || (e.helloAt ≠ 0 && s.now + 1 < e.helloAt + 10 * ms) then s else s.barHello atField)

/-- The readings of a SENSE group: RTDs and fans as the field side judged them, the others as sampled. -/
def State.senseBody (s : State) (g : Nat) (vals : List Nat) : List Nat :=
  let vs := match g with
    | 2 => (List.range 8).map fun k => ofSigned ((look k s.field.rtds).getD {}).temp 16
    | 3 => (List.range 8).map fun k => ((look k s.field.fans).getD {}).rpm
    | _ => vals.take 8
  [g, vs.length] ++ (vs.map fun v => leBytes 2 v).flatten

/-- R520: what each side sends at its times. -/
def State.barPeriodic (s : State) (x : BarPeriodic) : State :=
  match x with
  | .heartbeat true =>
    s.barSend true 0x02 (s.alarmBody 0 ++ leBytes 2 s.field.link.bad ++ leBytes 4 ((s.now - s.field.startAt) / sec))
  | .heartbeat false => s.barSend false 0x02 []
  | .sense g vals => s.barSend true 0x11 (s.senseBody g vals)
  | .time =>
    let l := s.ltcOf (.wdie 0)
    s.barSend false 0x22 (leBytes 6 l.sec ++ leBytes 4 l.ns ++ [s.rd (.wdie 0) timeStatValid])
def execBarrierPeriodicSend (x : BarPeriodic) (s : State) : Out' := storeless s <| .next (s.barPeriodic x)

/-- A refused value of the page (R534). -/
def State.barParam (s : State) : State := s.pageErr (.wdie 0) .barrier 0x0100 1

/-- R523, Table 17.14: a write of an F word: each field takes its value or is refused. -/
def State.fWrite (s : State) (off v : Nat) : State :=
  let u := Chip.wdie 0
  let k := off % 64 / 4
  if off < 0x240 then
    let s1 := ((s.wr u (barAlarmCfgEn k) (bitAt v 8)).wr u (barAlarmCfgActiveLow k) (bitAt v 9)).wr u (barAlarmCfgStuckS k) (bitsOf v 16 12)
    if v % 256 = 0 then s1.barParam else s1.wr u (barAlarmCfgDebounceMs k) (v % 256)
  else if off < 0x280 then
    if bitsOf v 16 16 = 0 then s.barParam else s.wr u (barAlarmCntChatterLim k) (bitsOf v 16 16)
  else if off = 0x280 then (s.wr u barRtdCfgPt1000 (bitsOf v 0 8)).wr u barRtdCfgEn (bitsOf v 8 8)
  else if off = 0x284 then s.wr u barRtdLimHigh (bitsOf v 0 16)
  else
    let d := bitsOf v 8 8
    let s1 := (s.wr u barFanCfgPulses (bitsOf v 0 2)).wr u barFanCfgMinRpm (bitsOf v 16 16)
    if d < 20 || 100 < d then s1.barParam else s1.wr u barFanCfgFailsafeDuty d
def execBarrierFWrite (off value : Nat) (s : State) : Out' := storeless s <|
  .next (if fOffsets.contains off then ((s.fWrite off value).wr (.wdie 0) barLinkFpending 1).fSend off else s)

/-! ## The supplies -/

/-- R509, R511: the converter stops: the host side loses everything that a cold start clears. -/
def execHostSupplyFall (s : State) : Out' := keeping s <|
  let s1 := (List.range (8 * s.dies)).foldl (fun t p => t.linkIdle p) s
  .next { s1.coldClear with field := { s1.field with hostUp := false } }

/-- R509, R527: the field side resets and starts again; the MRAM and FSEQ survive. A reset for want of supply leaves the
hot-swap FET open. -/
def State.fieldReset (s : State) (watchdog : Bool) : State :=
  let f := s.field
  let n : FieldSide := { hostUp := f.hostUp, fseq := f.fseq, boot := (f.boot + 1) % 65536, head := f.head, count := f.count,
                         capSlot := f.capSlot, hsOn := false, hsPg := false, startAt := s.now, chatAt := s.now, suppAt := s.now }
  let n1 := if watchdog then { n with
      hsOn := f.hsOn, hsPg := f.hsPg, busLow := f.busLow, busOv := f.busOv, hsFault := f.hsFault, faults := f.faults,
      retries := f.retries, openAt := f.openAt, lowAt := f.lowAt, offAt := f.offAt, offOpenAt := f.offOpenAt, onAfter := f.onAfter } else n
  { s with field := n1 }.fieldEvent 0x1113 1 (pay [(watchdog.toNat, 0), (n.boot, 16)])
def execFieldSideReset (watchdog : Bool) (s : State) : Out' := keeping s <| .next (s.fieldReset watchdog)

/-- Spec 18 R539: a start reaches DONE; the field side's image is loaded where HELLO came before. -/
def execPackageStartDone (nor training : Bool) (chans : List Nat) (s : State) : Out' := keeping s <|
  .next (s.packageStart nor training chans).fieldLoad

end Sys2Proof.Machine
end

