-- ==== Sys2Proof/Machine/Launch.lean ====
section
/-! DEFINITION. Spec 05 R164 to R169: launch slots armed, disarmed and fired, and the launches of Table 5.6 that no other
chapter owns: marks, pulses, NOTIFY. -/

namespace Sys2Proof.Machine

/-! ## Arming and disarming (R164) -/

/-- ARM of a slot: IKB slots 12 to 15 only through the LTL proxy (requester 1); an ARMED or HELD slot is left alone. -/
def State.launchArm (s : State) (u : Chip) (r i : Nat) : State :=
  if slotCount u ≤ i then s
  else if u.isIkb && 12 ≤ i && r ≠ 1 then s.pageErr u .launch 0x0106 1
  else if !s.slotFree u i then s.pageErr u .launch 0x0100 1
  else s.armSlot u i
def execLaunchArm (u : Chip) (r slot : Nat) (s : State) : Out' := storeless s <|
  .next (s.ifOn u .launch (·.launchArm u r slot))

/-- DISARM. -/
def execLaunchDisarm (u : Chip) (slot : Nat) (s : State) : Out' := storeless s <|
  .next (s.ifOn u .launch fun s => if slot < slotCount u then s.disarmSlot u slot else s)

/-! ## Pulses (R168) -/

/-- The pin of a line, at its active or idle level. -/
def State.pulsePin (s : State) (p line : Nat) (active : Bool) : State :=
  let pol := s.rd (.ikb p) (launchPulseCfgPol line)
  s.emit (.pin (Chip.ikb p).code (pulseName line) (if active then 1 - pol else pol))

/-- A pulse starts, or restarts the width of the one in progress. -/
def State.pulse (s : State) (p line : Nat) : State :=
  let u := Chip.ikb p
  let s1 := if s.now + 1 < s.rd u (pulseEnd line) then s.wr u (launchPulseCfgOverlap line) 1 else s.pulsePin p line true
  s1.wr u (pulseEnd line) (s.now + 4 * max 1 (s.rd u (launchPulseCfgWidth line)) + 1)
def execLaunchPulse (p line : Nat) (s : State) : Out' := storeless s <|
  .next (s.ifOn (.ikb p) .launch (·.pulse p (line % 4)))

/-- The width is over. -/
def execPulseEnd (p line : Nat) (s : State) : Out' := storeless s <|
  let e := s.rd (.ikb p) (pulseEnd (line % 4))
  .next (if e ≠ 0 && e ≤ s.now + 1 then (s.wr (.ikb p) (pulseEnd (line % 4)) 0).pulsePin p (line % 4) false else s)

/-! ## Marks (R169) -/

/-- A W-die's latest capture of its self-telemetry: MARK_ID plus 1, LTC in nanoseconds, Meridian ticks, flags. -/
def wMark (k : Nat) : Fld := cell .launch (16 + k)

/-- A MARK: the IKB captures its counters unless SNAP is disabled (spec 02 R553), the W-die its self-telemetry. -/
def State.mark (s : State) (u : Chip) (markId base : Nat) (late : Bool) : State :=
  match u with
  | .ikb p =>
    if !s.enabled u .snap then s
    else
      let gen := s.on u genServed
      (s.wr u genServed 0).capture p (markId % 65536) late true gen base true
  | _ =>
    let flags := s.lockFlags u + 4 * late.toNat + 8 * base
    (((s.wr u (wMark 0) (markId + 1)).wr u (wMark 1) (s.ltcOf u).nsTotal).wr u (wMark 2) (s.merOf u).ticks).wr u (wMark 3) flags
def execLaunchMark (u : Chip) (markId : Nat) (late : Bool) (s : State) : Out' := storeless s <|
  .next (s.mark u markId (s.rd u timeCtrlBase) late)

/-- R236: an ABFT_CHECK launch. -/
def execLaunchAbftCheck (p desc : Nat) (s : State) : Out' := storeless s <|
  .next (s.ifOn (.ikb p) .abft (·.abftCheck p desc))

/-- R166: NOTIFY: the slot's interrupt bit. -/
def execLaunchNotify (u : Chip) (slot : Nat) (s : State) : Out' := storeless s <|
  .next (s.ifOn u .launch fun s => if slot < slotCount u then s.int u .launch slot else s)

/-! ## The fire of a slot (R165 to R167) -/

/-- The resource that an action takes for its edge, none where none is shared (Table 5.7); the instant plus 1 of the
latest fire on each. -/
def fireKey (action arg : Nat) : Option Nat :=
  match action with
  | 1 => some 0
  | 2 => some (1 + arg % 4)
  | 3 => some 5
  | 6 => some 6
  | 7 => some (8 + arg % 8)
  | 8 => some (16 + arg % 8)
  | _ => none
def firedAt (k : Nat) : Fld := cell .launch (32 + k)

/-- What a slot's action does when it fires. -/
def State.act (s : State) (u : Chip) (action arg base instant : Nat) (late : Bool) : State :=
  match u, action with
  | u, 1 => s.mark u arg base late
  | .ikb p, 2 => s.pulse p (arg % 4)
  | .ikb p, 3 => s.govStep p (arg % 32)
  | .ikb p, 4 => s.ifOn u .abft (·.abftCheck p arg)
  | u, 5 => s.prismLaunch u arg
  | .ikb p, 6 => s.enterIkb p (arg % 4)
  | .wdie d, 7 => s.ifOn u .lens (·.modelSwap d (arg % 8) base instant)
  | .wdie d, 8 =>
    match arg with
    | 1 => if d = 0 then s.swapRoute else s
    | 2 => (s.swapPort (2 * d)).swapPort (2 * d + 1)
    | 3 => s.swapCtxSeed d
    | 4 => s.swapDramSeed d false
    | 5 => s.swapCodec d instant
    | _ => s
  | _, _ => s

/-- Instants of a slot missed: counted and logged each. -/
def State.missSlot (u : Chip) (i : Nat) : Nat → State → State
  | 0, s => s
  | n + 1, s => State.missSlot u i n (((s.inc u (launchSlotResultMissed i)).pageErr u .launch 0x0104 1).int u .launch (lateBit u + 1))

/-- R166: after a fire or miss: COUNT, and DONE or the next instant that is not past `t`. -/
def State.slotNext (s : State) (u : Chip) (i t : Nat) : State :=
  let b := s.rd u (launchSlotCtrlBase i)
  let n := s.rd u (launchSlotCountN i)
  let per := s.rd u (launchSlotPeriodP i)
  let s1 := if n = 0 then s else s.wr u (launchSlotCountN i) (n - 1)
  let done := fun (x : State) => ((x.wr u (launchSlotCtrlState i) 2).clrB u launchArmedSlot i).slotFollow u
  if !s.on u (launchSlotCtrlPeriodic i) || n = 1 || per = 0 then done s1
  else
    let next := s.slotInstant u i b + per
    let past := if t ≤ next then 0 else ceilDiv (t - next) per
    let gone := if n = 0 then past else min past (n - 1)
    let s2 := State.missSlot u i gone s1
    let s3 := if n = 0 then s2 else s2.wr u (launchSlotCountN i) (n - 1 - gone)
    if n ≠ 0 && n - 1 ≤ gone then done s3 else (s3.setSlotInstant u i b (next + gone * per)).slotFollow u

/-- Whether a lower-numbered slot takes resource `k` at this edge. -/
def State.lowerFires (s : State) (u : Chip) (i k : Nat) : Bool :=
  s.rd u (firedAt k) == s.now + 1 || (List.range i).any fun j =>
    s.rd u (launchSlotCtrlState j) == 1 &&
    fireKey (s.rd u (launchSlotCtrlAction j)) (s.rd u (launchSlotArgArg j)) == some k &&
    decide (s.slotInstant u j (s.rd u (launchSlotCtrlBase j)) ≤ s.timeIn u (s.rd u (launchSlotCtrlBase j)))

/-- R165: an ARMED slot whose instant has come fires, or the instant is missed: too late, or the page disabled
(spec 02 R553). A missed GOV_STEP is a cause of a lockstep break (spec 08 Table 8.3). -/
def State.launchFire (s : State) (u : Chip) (i : Nat) : State :=
  let b := s.rd u (launchSlotCtrlBase i)
  let t := s.timeIn u b
  let at' := s.slotInstant u i b
  let lag := baseNs b (t - at')
  let action := s.rd u (launchSlotCtrlAction i)
  let arg := s.rd u (launchSlotArgArg i)
  if slotCount u ≤ i || s.rd u (launchSlotCtrlState i) ≠ 1 || t < at' then s
  else if !s.enabled u .launch || s.rd u launchLateLimitUs * us < lag then
    let s1 := State.missSlot u i 1 s
    let s2 := match u, action with
      | .ikb p, 3 => s1.ifOn u .gov (·.govBreak p 5 (max (s1.rd u govStatCurIdx) (s1.rd u govStatJobIdx)))
      | _, _ => s1
    s2.slotNext u i t
  else
    let late := decide (20 < lag)
    let s1 := if late then
        ((s.wr u (launchSlotCtrlLate i) 1).wr u (launchSlotResultLateNs i) (min lag 65535)).int u .launch (lateBit u) else s
    let s2 := s1.int u .launch i
    match fireKey action arg with
    | some k =>
      if s.lowerFires u i k then
        (((s2.wr u (launchSlotCtrlConflict i) 1).pageErr u .launch 0x0105 1).int u .launch (lateBit u + 2)).slotNext u i t
      else (((s2.wr u (firedAt k) (s.now + 1)).slotNext u i t).act u action arg b at' late)
    | none => (s2.slotNext u i t).act u action arg b at' late
def execLaunchFire (u : Chip) (slot : Nat) (s : State) : Out' := keeping s <| .next (s.launchFire u slot)

end Sys2Proof.Machine
end

