-- ==== Sys2Proof/Machine/Pages.lean ====
section
/-! DEFINITION. Spec 02: the pages of each window, what their registers read as, and the soft reset of a page. -/

namespace Sys2Proof.Machine

/-! ## Pages (R47 to R50, R67 to R70, R552) -/

/-- The registers of a page's body. -/
def bodyRows (u : Chip) (b : Blk) : List Row :=
  let i := u.isIkb
  match b with
  | .top => if i then rowsTopI else rowsTopW
  | .clk => if i then rowsClkI else rowsClkW
  | .aon => rowsAon
  | .time => if i then rowsTimeOnIkb else rowsTimeOnWdie
  | .launch => if i then rowsLaunchOnIkb else rowsLaunchOnWdie
  | .cntcfg => rowsCnt
  | .snap => rowsSnap
  | .health => rowsHealth
  | .gov => rowsGov
  | .optab => rowsOptab
  | .abft => rowsAbft ++ rowsAbftEng
  | .watch => rowsWatch
  | .trace => rowsTrace
  | .xrx => rowsXrx
  | .evr => if i then rowsEvrOnIkb else rowsEvrOnWdie
  | .mbox => if i then rowsMboxOnIkb else rowsMboxOnWdie
  | .core => if i then rowsCoreOnIkb else rowsCoreOnWdie
  | .coder => rowsCoder
  | .link => rowsLtlOnIkb .link
  | .prism => if i then rowsPrismOnIkb else rowsPrismOnWdie
  | .auth => if i then rowsAuthOnIkb else rowsAuthOnWdie
  | .ras => if i then rowsRasOnIkb else rowsRasOnWdie
  | .pwr => rowsPwr
  | .therm => rowsTherm
  | .bbx => rowsBbx
  | .nvm => rowsNvm
  | .dramc => rowsDramc
  | .scrub => rowsScrub
  | .ctx => rowsCtx
  | .police => rowsPolice
  | .sched => rowsSched
  | .route => rowsRoute
  | .codec => rowsCodec
  | .merge => rowsMerge
  | .feat => rowsFeat
  | .lens => rowsLens
  | .drift => rowsDrift
  | .opt => rowsOpt
  | .ports => rowsPorts
  | .torus => rowsTorus
  | .mirror => rowsMirror
  | .d2d => rowsD2d
  | .pcie => rowsPcie
  | .barrier => rowsBar
  | .pkg => rowsPkg
  | .pkgmode => rowsPkgm
  | .pkgroute => rowsPkgr
  | .ltl n => rowsLtlOnWdie (.ltl n)

/-- The pages that a window has (Tables 2.9 to 2.11, R70). -/
def pagesOf : Chip → List Blk
  | .ikb _ => ikbBlks
  | .wdie d => if d % 8 = 0 then wdieBlks else wdieBlks.filter fun b => b != .pcie && b != .barrier
  | .pkg => pkgBlks

/-- The page with number `n` of a window. -/
def pageAt (u : Chip) (n : Nat) : Option Blk := (pagesOf u).find? fun b => pageNo u b == n

/-- The clock domain of a page as Table 2.2 numbers it (Table 2.13). -/
def pageDomain (u : Chip) (b : Blk) : Nat :=
  if u.isIkb then
    match b with
    | .top | .clk | .aon => 0
    | .abft | .watch | .trace | .mbox | .core => 1
    | .cntcfg | .snap | .coder => 2
    | .time | .launch | .xrx => 3
    | _ => 4
  else
    match b with
    | .top | .clk | .pwr | .time => 0
    | .mbox | .core | .ctx | .police | .route | .codec => 1
    | .feat | .lens | .drift => 2
    | .sched | .ports | .torus | .mirror | .d2d => 3
    | .merge => 4
    | _ => 5

/-- Whether the source of a page's domain is off or lost (R119). -/
def State.sourceGone (s : State) (u : Chip) (b : Blk) : Bool :=
  let c := u.part
  let dom := pageDomain u b
  let src := s.domFeed c (dom - 1)
  let row := s.rd c lossRow
  dom != 0 && (src == 0 || (row == 1 || row == 4) || ((row == 2 || row == 5) && src == 2))

/-- R542: whether a warm start of which the link is kept still runs and clears the page (Table 18.2). -/
def State.startGates (s : State) (u : Chip) (b : Blk) : Bool :=
  !u.isIkb && !s.on .pkg pkgStartStatDone && s.rd .pkg pkgStartStatKind == 4 && s.rd .pkg pkgStartStatCause != 3 &&
    !([Blk.top, .clk, .pwr, .time, .bbx, .pkg, .pkgmode, .pkgroute].contains b)

/-- Whether a page answers as a gated one (Table 2.4). -/
def State.gated (s : State) (u : Chip) (b : Blk) : Bool :=
  !s.clocked u b || s.sourceGone u b || s.startGates u b || (u.isIkb && s.on u vikbOff)

/-- A register access wakes the domain of its page (spec 04 R122). -/
def State.wakeFor (s : State) (u : Chip) (b : Blk) : State :=
  let dom := pageDomain u b
  if dom = 0 || s.bit u.part (domRun u.part) (dom - 1) then s
  else match execDomainWake u.part (dom - 1) 0 s with
    | .next t => t
    | _ => s

/-- The first body offset. -/
def bodyAt : Nat := 0x100

/-- Whether a body acts and reads on die 0 only (spec 13 R404, spec 15 R473, R474). -/
def deadBody (u : Chip) (b : Blk) (off : Nat) : Bool :=
  match u with
  | .wdie d => d % 8 != 0 && bodyAt ≤ off &&
      (b == .bbx || b == .nvm || (b == .merge && 0x180 ≤ off && off < 0x1C0))
  | _ => false

/-! ## Registers -/

/-- Where an offset lies among the repetitions of a register: what is left of it, and the last index. -/
def place : List (Nat × Nat) → Nat → Option (Nat × Option Nat)
  | [], d => some (d, none)
  | (stride, n) :: rest, d =>
    if d / stride < n then (place rest (d % stride)).map fun e => (e.1, some (e.2.getD (d / stride))) else none

/-- A register at an offset of a page: its fields, and of a 64-bit one which word the offset names. -/
structure Reg where
  wide : Bool
  word : Nat
  fields : List Fld
deriving DecidableEq, Repr

/-- The instance of a field `shift` bytes further on. -/
def Fld.inst (f : Fld) (shift : Nat) (i : Option Nat) : Fld := { f with code := f.code + 32 * shift, idx := i.getD f.idx }

/-- The register of a row that holds offset `off`. -/
def Row.reg (r : Row) (off : Nat) : Option Reg :=
  if off < r.off then none
  else match place r.dims (off - r.off) with
    | some (rem, i) =>
      if rem < (if r.wide then 8 else 4) then
        some ⟨r.wide, rem / 4, r.fields.map fun f => f.inst (off - r.off - rem) i⟩
      else none
    | none => none

/-- The register at offset `off` of a page. -/
def regAt (u : Chip) (b : Blk) (off : Nat) : Option Reg :=
  (if off < bodyAt then rowsHdr b else bodyRows u b).findSome? fun r => r.reg off

/-- Every repetition of a register: the shift and the last index. -/
def spread : List (Nat × Nat) → List (Nat × Option Nat)
  | [] => [(0, none)]
  | (stride, n) :: rest =>
    (List.range n).flatMap fun i => (spread rest).map fun e => (stride * i + e.1, some (e.2.getD i))

/-- Every field of a page's body. -/
def bodyFields (u : Chip) (b : Blk) : List Fld :=
  (bodyRows u b).flatMap fun r => (spread r.dims).flatMap fun e => r.fields.map fun f => f.inst e.1 e.2

/-! ## What fields read as -/

/-- BLK_ID.INSTANCE (R49). -/
def instanceOf (u : Chip) (b : Blk) : Nat :=
  match u, b with
  | .wdie d, .ltl n => d * 8 + n % 8
  | .wdie d, _ => d
  | _, _ => 0

/-- BLK_ID.BLOCK (R49). -/
def blockCode (u : Chip) (b : Blk) : Nat :=
  match u with
  | .ikb _ => 0x1000 + pageNo u b
  | .wdie _ => match b with
    | .ltl _ => 0x2010
    | b => 0x2000 + pageNo u b
  | .pkg => 0x3000 + pageNo u b

/-- The constants and copies of a page's header (R49, R51, R552, Table 2.1). -/
def State.headerView (s : State) (u : Chip) (b : Blk) (off lo : Nat) : Option Nat :=
  match off, lo with
  | 0x00, 16 => some (blockCode u b)
  | 0x00, _ => some (instanceOf u b)
  | 0x14, 0 => some (s.enabled u b && !s.on u (hdrBlkStatResetBusy b)).toNat
  | 0x14, 2 => some (s.rd u (hdrBlkCtrlFreeze b))
  | 0x14, 3 => some (s.rd u (hdrErrFirstValid b))
  | 0x14, 5 => some (s.rd u (hdrLockLocked b))
  | 0x28, _ => some (s.intPend u b)
  | 0x44, 0 => some (pageDomain u b)
  | 0x44, _ => some 1
  | _, _ => none

/-- PAGE_PEND of a part's pages from number `n` on (R65). -/
def State.pendBits (s : State) (u : Chip) (n : Nat) : Nat :=
  (pagesOf u).foldl (fun a b =>
    if n ≤ pageNo u b && pageNo u b < n + 32 && s.intPend u b != 0 then a + 2 ^ (pageNo u b - n) else a) 0

/-- The seconds left of a grant (spec 16 Table 16.7). -/
def State.grantLeft (s : State) (u : Chip) (k : Nat) : Nat :=
  if s.on u (authBit k) then s.rd u (grantEnd k) - (s.rd u rasFaultSecSec + 1) else 0

/-- The erase counts of the NOR's logical blocks (spec 15 Table 15.17). -/
def State.eraseMax (s : State) : Nat := s.norErases.foldl (fun a e => max a e.2) 0
def State.eraseMin (s : State) : Nat :=
  if s.norErases.length < 3328 then 0 else s.norErases.foldl (fun a e => min a e.2) s.eraseMax

/-- The configuration words that CSEL selects (spec 12 R350). -/
def State.selCodec (s : State) (d : Nat) : Nat × Nat :=
  match s.ctxAt (ctxKey d (s.rd (.wdie d) codecCselSlot)) with
  | some c => (c.cod.cfg, c.cod.mask)
  | none => (0, 0)

/-- The views of a body: fields that show state held elsewhere. -/
def State.bodyView (s : State) (u : Chip) (b : Blk) (r : Nat) (off lo idx : Nat) : Option Nat :=
  match u, b with
  | .ikb _, .top => if off = 0x10C then some (s.pendBits u 0) else none
  | .wdie _, .top => if off < 0x110 then some (s.pendBits u (8 * (off - 0x100))) else none
  | _, .time =>
    match off with
    | 0x110 => some (s.ltcOf u).frac
    | 0x114 => some (s.ltcOf u).ns
    | 0x118 => some (s.ltcOf u).sec
    | 0x11C => some ((s.ltcOf u).sec / 4294967296)
    | 0x140 => some (s.merOf u).ticks
    | _ => none
  | .ikb p, .abft =>
    if off = abftOpenTiles.off then some ((List.range 16).foldl (fun a n => a + (s.tilesOf p n).length) 0) else none
  | .wdie d, .sched =>
    if (off - 0x200) % 256 = 0 && lo = (schedPortPortCfgCredited 0).lo then some (s.credited (2 * d + idx)).toNat else none
  | .wdie d, .codec =>
    if off = codecCtrlLevelFloor.off && lo = codecCtrlLevelFloor.lo then some (s.levelFloor d)
    else if off = codecCtrlMidnight.off && lo = codecCtrlMidnight.lo then some (s.mode u == .midnight).toNat
    else if off = 0x184 then some (s.selCodec d).1
    else if off = 0x188 then some (s.selCodec d).2
    else none
  | _, .evr =>
    let k := s.rd u evrBktSelIdx
    if off = 0x11C then some (s.rd u (evrMap (s.rd u evrMapSelIdx)))
    else if off = 0x124 then some (if lo = 0 then s.rd u (evrRate k) else s.rd u (evrBurst k))
    else if off = 0x128 then some (s.rd u (evrSupp k))
    else if 0x160 ≤ off && off < 0x180 then
      some (match look (ringKey u (s.rd u evrRdIndexIdx)) s.evRing with
        | some e => ofBytesLE (((evBytes e).drop (off - 0x160)).take 4)
        | none => 0)
    else none
  | _, .nvm =>
    if off = nvmEraseMaxCount.off then some s.eraseMax else if off = nvmEraseMinCount.off then some s.eraseMin else none
  | _, .auth =>
    if off = 0x11C then some (s.grantLeft u 1) else if off = 0x120 then some (s.grantLeft u 2)
    else if off = 0x124 then some (s.grantLeft u 3) else none
  | .pkg, .pkgmode => if off = pkgmCurInTransition.off && lo = pkgmCurInTransition.lo then some s.inTransition.toNat else none
  | _, .mbox => if off = 0x100 then some (s.heldSend u r).1 else if off = 0x108 then some (s.heldSend u r).2 else none
  | .wdie d, .d2d => if off = 0x100 && lo = 0 then some d else none
  | _, _ => none

/-- Whether a field is a measurement, or a state of a running core, that the spec gives no value: a read takes a free
value. -/
def State.measured (s : State) (u : Chip) (b : Blk) (off : Nat) (f : Fld) : Bool :=
  match b with
  | .pwr => [pwrPowerNow, pwrPowerPeak, pwrRailVcoreMv, pwrRailIcore, pwrEnergyMj].any fun g => g.code == f.code
  | .dramc => (dramcBwUsedUsed 0).off ≤ off && off < (dramcBwUsedUsed 0).off + 24 && f.acc == .ro
  | .opt => u == .wdie 0 && (f.code == optElsPresent.code || f.code == optElsReady.code)
  | .core => 0x208 ≤ off && off < 0x300 && off % 64 == 8 && s.coreRuns u ((off - 0x200) / 64)
  | _ => false

/-- What a field reads as for requester `r`. -/
def State.view (s : State) (u : Chip) (b : Blk) (r : Nat) (f : Fld) : Nat × State :=
  if s.measured u b f.off f then s.free f.w
  else if b == .barrier && [0, 1, 2, 3, 4, 5, 6, 7].any fun k => f.code == (barFanDuty k).code then s.duty
  else match (if f.off < bodyAt then s.headerView u b f.off f.lo else s.bodyView u b r f.off f.lo f.idx) with
    | some v => (v % 2 ^ f.w, s)
    | none => (s.rd u f, s)

/-- Whether FREEZE holds a field (R53). -/
def State.frozen (s : State) (u : Chip) (b : Blk) (f : Fld) : Bool :=
  s.on u (hdrBlkCtrlFreeze b) && bodyAt ≤ f.off && (f.acc == .ro || f.acc == .rc)

/-- A read of one field: RC clears it, FREEZE shows the held value (R19, R53); during a soft reset the body reads
reset values (R52). -/
def State.readField (s : State) (u : Chip) (b : Blk) (r : Nat) (f : Fld) : Nat × State :=
  if bodyAt ≤ f.off && s.on u (hdrBlkStatResetBusy b) then (f.reset s.size u, s)
  else if f.acc == .wo then (0, s)
  else if s.frozen u b f then
    let v := (look (f.key u) s.held).getD (f.reset s.size u)
    if f.acc == .rc then
      if s.heldRead.contains (f.key u) then (v, s)
      else (v, { s with held := drop (f.key u) s.held, heldRead := f.key u :: s.heldRead }.wr u f 0)
    else (v, s)
  else
    let t := s.view u b r f
    if f.acc == .rc then (t.1, t.2.wr u f 0) else t

/-- FREEZE set: the values that the body's RO and RC fields show are held (R53). -/
def State.freeze (s : State) (u : Chip) (b : Blk) : State :=
  (bodyFields u b).foldl (fun (t : State) f =>
    if f.acc == .ro || f.acc == .rc then
      let v := t.view u b 0 f
      if v.1 = f.reset s.size u then v.2 else { v.2 with held := put (f.key u) v.1 v.2.held }
    else t) s

/-- The held values of a page forgotten. -/
def State.unfreeze (s : State) (u : Chip) (b : Blk) : State :=
  let mine := fun k => k / 4294967296 == u.code && k / 2097152 % 2048 == b.code
  { s with held := s.held.filter fun e => !mine e.1, heldRead := s.heldRead.filter fun k => !mine k }

/-- R53: a write of BLK_CTRL.FREEZE. -/
def State.freezeWrite (s : State) (u : Chip) (b : Blk) (v : Nat) : State :=
  let s1 := s.wr u (hdrBlkCtrlFreeze b) v
  if v % 2 = 0 then s1.unfreeze u b
  else if s.on u (hdrBlkCtrlFreeze b) then s1
  else ((s.unfreeze u b).freeze u b).wr u (hdrBlkCtrlFreeze b) 1

/-! ## Soft reset (R52) -/

/-- The fields of a page that its soft reset keeps: those its chapter names (spec 06 R183, spec 15 R471, R472), levels
that other parts drive, state that only a reset of the always-on island clears (spec 05 R151), and what NOR, the link
partner or the host's configuration space holds. -/
def softKept (u : Chip) (b : Blk) : List Fld :=
  match b with
  | .cntcfg => (List.range 64).map counter
  | .ras => rasKept u ++ [fatalAt, cell .ras 1, cell .ras 2, unusedFrom, usedFrom]
  | .evr => [evrSeqNext, evrRingBaseAddr, evrHeadIdx, evrTailIdx, evrSent, evrFirstStaged]
  | .gov => [govAck, avsAck, railPg]
  | .time => [timeStatState, timeStatValid, timeStatLocalLock, timeStatFleetLock, timeStatMerSet, ltcStopped]
  | .clk => [clkISrcStatRefReady, clkISrcStatPllLock, clkISrcStatPllOn, clkWSrcStatXtalReady, clkWSrcStatPllLock,
             clkWSrcStatAonOnXtal, clkINwTrimTrim, safeIkb, lossAt, lossRow, refPasses]
  | .aon => [vikbOff, aonPwrStatOffOk, aonModeCurMode, aonModeTgtMode, retainedSet] ++ (List.range 64).map retained
  | .pwr => [pwrStatMode, pwrStatSafe, pwrStatSrActive, pwrStatSrHeld, pwrStatDramSupply, safeSince, busStop]
  | .bbx => [bbxWrPtrBlock, bbxWrPtrPage, bbxEvBlock, bbxLgBlock, bbxAlloc, bbxStatNorOk]
  | .nvm => [nvmStatPresent, nvmStatMapValid, nvmBlocksSpare, nvmBlocksWithdrawn]
  | .pcie => [pcieLinkSpeed, pcieLinkWidth, pcieLinkUp, pcieCtoRange, pcieCtoTooShort, msixEnable]
  | .d2d => [d2dStatPrimary]
  | .pkg => [pkgSizeDiePresent, pkgStartStatKind, pkgStartStatCause, pkgStartStatStep, pkgStartStatDone,
             pkgStartStatWarmOk, startDoneAt, startAt, escReason, escCause, doneDies]
  | .pkgmode => [pkgmCurMode, modeBefore]
  | _ => []

/-- The entries of part `i`, of `w` keys each, dropped. -/
def dropOf {α : Type} (i : Option Nat) (w : Nat) (l : List (Nat × α)) : List (Nat × α) :=
  match i with
  | some i => dropRange (i * w) (i * w + w) l
  | none => l

/-- The package port of an IKB's window, and the number of a W-die's. -/
def portOf : Chip → Option Nat
  | .ikb p => some p
  | _ => none
def dieOf : Chip → Option Nat
  | .wdie d => some d
  | _ => none

/-- Internal state of a block, held outside its page, that a soft reset clears (R52). -/
def State.softDrop (s : State) (u : Chip) (b : Blk) : State :=
  let main := u == .wdie 0
  match b with
  | .time => { s with exchanges := dropOf (portOf u) 1 s.exchanges }
  | .snap => { s with snap := dropOf (some u.code) 1 s.snap }.clearPage u .coder 0x1000 65536
  | .health => { s with rails := dropOf (portOf u) 8 s.rails }
  | .gov => { s with change := dropOf (some u.code) 1 s.change, reports := dropOf (some u.code) 1 s.reports, epochs := dropOf (some u.code) 1 s.epochs }
  | .abft => { s with mmGens := dropOf (some u.code) 1 s.mmGens }
  | .watch => { s with watch := dropOf (some u.code) 1 s.watch }
  | .trace => { s with streams := dropOf (portOf u) 64 s.streams }
  | .xrx => { s with tagQueue := dropOf (some u.code) 1 s.tagQueue }
  | .mbox => { s with mboxes := dropOf (some u.code) 32 s.mboxes, mboxSend := dropOf (some u.code) 64 s.mboxSend }
  | .core => { s with imem := dropOf (some u.code) 8 s.imem, dmem := dropOf (some u.code) 4294967296 s.dmem, imgHash := dropOf (some u.code) 2 s.imgHash,
                      imgBuf := dropOf (some u.code) 1 s.imgBuf }
  | .link => { s with txq := dropRange (txKey u b) (txKey u b + 1) s.txq }
  | .ltl n => match u with
    | .wdie d => { s with txq := dropRange (txKey u b) (txKey u b + 1) s.txq, proxies := drop (8 * d + n % 8) s.proxies,
                          gaps := drop (8 * d + n % 8) s.gaps }
    | _ => s
  | .prism => { s with prismHeld := dropOf (some u.code) 1 s.prismHeld }
  | .bbx => if main then { s with bbxPartial := [], bbxPages := [] } else s
  | .dramc => { s with corrected := match u with
      | .wdie d => dropRange (d * 1073741824) (d * 1073741824 + 1073741824) s.corrected
      | _ => s.corrected }
  | .ctx => { s with ctxs := dropOf (dieOf u) 512 s.ctxs }
  | .police => { s with ingest := dropOf (dieOf u) 1 s.ingest, ingestWait := dropOf (dieOf u) 1 s.ingestWait, recent := dropOf (dieOf u) 1 s.recent }
  | .sched => { s with egress := dropOf (dieOf u) 16 s.egress }
  | .merge => match u with
    | .wdie d =>
      let s1 := { s with insts := s.insts.filter fun x => x.die != d }
      if main then { s1 with bcasts := [], jsRuns := [], jobStage := [], stepHist := [] } else s1
    | _ => s
  | .lens => { s with lensSlots := dropOf (dieOf u) 8 s.lensSlots, lensOpen := dropOf (dieOf u) 1 s.lensOpen, lensClosed := dropOf (dieOf u) 1 s.lensClosed,
                      lensHolds := match u with
                        | .wdie d => s.lensHolds.filter fun h => h.die != d
                        | _ => s.lensHolds,
                      lensExport := dropOf (dieOf u) 1 s.lensExport }
  | .drift => { s with metrics := dropOf (dieOf u) 32768 s.metrics }
  | .torus => { s with txFlows := dropOf (dieOf u) 1 s.txFlows, flowFree := dropOf (dieOf u) 1 s.flowFree }
  | .mirror => if main then { s with mirrorWin := [] } else s
  | .barrier => { s with barHost := {}, barEcho := [] }
  | .pkgroute => { s with xlat := [], flatStage := [], natDel := [] }
  | _ => s

/-- What a soft reset does first: tiles left open end unchecked (spec 07 Table 7.3), buckets emit their summaries
(spec 15 R472), an authorisation that falls disarms Prism (spec 09 R286). -/
def State.softFirst (s : State) (u : Chip) (b : Blk) : State :=
  match u, b with
  | .ikb p, .abft => s.endTiles p
  | _, .evr => s.summariseAll u
  | _, .auth => [1, 2, 3].foldl (fun (t : State) k => t.grantOff u k 2) s
  | _, .prism => s.prismDisarmAll u 0
  | _, _ => s

/-- What a soft reset leaves to do: the time of a part is kept as over any reset that keeps its island (spec 05 R151),
a page that holds no fatal capture clears FATAL_PENDING, retirements stay in force (spec 15 R471). -/
def State.softLast (s : State) (u : Chip) (b : Blk) : State :=
  match b with
  | .time => s.timeKept u
  | .ras => s.wr u rasStatFatalPending (s.holdsFatal u).toNat
  | .health => (List.range 8).foldl (fun (t : State) k =>
      if t.rd u (rasChannelStateState k) = 4 then t.retireActions u k else t) s
  | .ltl n => if s.rd u (rasChannelStateState (n % 8)) = 4 then s.retireActions u (n % 8) else s
  | .ports => [8, 9].foldl (fun (t : State) k =>
      if t.rd u (rasChannelStateState k) = 4 then t.retireActions u k else t) s
  | _ => s

/-- R52: a write of 1 to BLK_CTRL.SOFT_RESET by requester `r`. -/
def State.softReset (s : State) (u : Chip) (b : Blk) (r : Nat) : State :=
  if s.locked u b then s.lockedErr u b r 0x10
  else
    let s1 := s.softFirst u b
    let kept := s1.values u (softKept u b)
    let s2 := ((s1.clearPage u b bodyAt 65536).putBack kept).softDrop u b
    let s3 := ((((s2.wr u (hdrIntRawSrc b) 0).wr u (hdrIntRawErr b) 0).wr u (hdrBlkCtrlEnable b) 0).freezeWrite u b 0).wr
      u (hdrBlkStatResetBusy b) 1
    (s3.softLast u b).intChanged s u b

/-- R52: the soft reset ends. -/
def State.softDone (s : State) (u : Chip) (b : Blk) : State := s.wr u (hdrBlkStatResetBusy b) 0

end Sys2Proof.Machine
end

