-- ==== Sys2Proof/Machine/Access.lean ====
section
/-! DEFINITION. Spec 02: register accesses, their outcomes, and what a write of each register does; spec 03 R86, R87: the
register port; spec 09 R283: proxied accesses. -/

namespace Sys2Proof.Machine

/-- The state after a meaning that answers a next one. -/
def taken (s : State) (o : Out') : State :=
  match o with
  | .next t => t
  | _ => s

/-! ## Reads (R53, R57) -/

/-- The latch of a requester. -/
def State.latchOf (s : State) (u : Chip) (r key : Nat) : Option Nat :=
  match look (reqKey u r) s.latches with
  | some (k, v) => if k = key then some v else none
  | none => none

/-- A read of another register drops a requester's latch; a read of a low word sets it. -/
def State.setLatch (s : State) (u : Chip) (r : Nat) (l : Option (Nat × Nat)) : State :=
  { s with latches := match l with
      | some e => put (reqKey u r) e s.latches
      | none => drop (reqKey u r) s.latches }

/-- A word of a 64-bit value whose register has key `key`: the low word latches the high word, a high word is the
latched one or the live one with LATCH_ORPHAN (R57). -/
def State.readHalf (s : State) (u : Chip) (b : Blk) (r off key word v : Nat) : Nat × State :=
  if word = 0 then (v % 4294967296, s.setLatch u r (some (key, v / 4294967296)))
  else match s.latchOf u r key with
    | some h => (h, s.setLatch u r none)
    | none => (v / 4294967296, (s.setLatch u r none).pageErr u b 0x0005 0 (accessInfo u r off false))

/-- A word of TIME.NOW: NOW_FRAC captures the LTC for the requester, whose next reads of the others return what it
captured (spec 05 R145). -/
def State.readNow (s : State) (u : Chip) (r off : Nat) : Nat × State :=
  let l := s.ltcOf u
  let all := l.ns + 4294967296 * l.sec
  let pick := fun v => bitsOf v (32 * (off / 4 - 0x45)) (if off = 0x114 then 30 else 32)
  if off = 0x110 then (l.frac, s.setLatch u r (some (timeNowFracFrac.key u, all)))
  else match s.latchOf u r (timeNowFracFrac.key u) with
    | some v => (pick v, s)
    | none => (pick all, (s.setLatch u r none).pageErr u .time 0x0005 0 (accessInfo u r off false))

/-- The fields of a register, read in turn. -/
def State.readFields (u : Chip) (b : Blk) (r : Nat) : List Fld → State → Nat × State
  | [], s => (0, s)
  | f :: fs, s =>
    let x := s.readField u b r f
    let y := State.readFields u b r fs x.2
    (x.1 * 2 ^ f.lo + y.1, y.2)

/-- The word at offset `off` of a page that is assigned and clocked. -/
def State.readWord (s : State) (u : Chip) (b : Blk) (off r : Nat) : Nat × State :=
  if deadBody u b off then (0, s.setLatch u r none)
  else if b == .time && 0x110 ≤ off && off < 0x120 && !s.on u (hdrBlkCtrlFreeze .time) then s.readNow u r off
  else if b == .core && off = 0x124 then (s.setLatch u r none).memAccess u false 0
  else match regAt u b off with
    | none => (0, s.setLatch u r none)
    | some g =>
      let x := State.readFields u b r g.fields s
      if g.wide then x.2.readHalf u b r off ((g.fields.map fun f => f.key u).headD 0) g.word x.1
      else (x.1, x.2.setLatch u r none)

/-- Both words of the 64-bit register at `off`, or the words of two registers, the lower first (R71). -/
def State.readTwo (s : State) (u : Chip) (b : Blk) (off r : Nat) : Nat × State :=
  match regAt u b off with
  | some g =>
    if g.wide && g.word = 0 then
      let x := State.readFields u b r g.fields s
      (x.1, x.2.setLatch u r none)
    else
      let x := s.readWord u b off r
      let y := x.2.readWord u b (off + 4) r
      (x.1 + 4294967296 * y.1, y.2)
  | none =>
    let x := s.readWord u b off r
    let y := x.2.readWord u b (off + 4) r
    (x.1 + 4294967296 * y.1, y.2)

/-! ## Values that a register refuses -/

/-- The code of a page's refusal of a value (the error tables of specs 01 to 18). -/
def refusalCode (b : Blk) (off : Nat) : Nat :=
  match b with
  | .time => 0x0106
  | .therm | .mbox => 0x0102
  | .cntcfg | .core | .evr | .ras | .prism => 0x0101
  | .snap => if 0x110 ≤ off && off < 0x120 then 0x0102 else 0x0100
  | .abft => if off = 0x304 then 0x0103 else 0x0101
  | _ => 0x0100

/-- The sum of a field over a port's eight queues, with `v` in place of queue `q`'s. -/
def State.queueSum (s : State) (u : Chip) (f : Nat → Fld) (q v : Nat) : Nat :=
  (List.range 8).foldl (fun a k => a + if k = q then v else s.rd u (f k)) 0

/-- Whether a value of one field is refused, the other fields of its register being written on. -/
def State.fieldBad (s : State) (u : Chip) (b : Blk) (f : Fld) (v : Nat) : Bool :=
  let at' := fun (g : Fld) => f.off == g.off && f.lo == g.lo
  let rep := fun (g : Nat → Fld) => f.lo == (g 0).lo && (g 0).off ≤ f.off && f.off == (g f.idx).off
  let outside := fun (lo hi : Nat) => decide (v < lo) || decide (hi < v)
  match b with
  | .pkgroute => (at' pkgrCmdOp && outside 1 5) ||
      (at' pkgrTblCapEntries && (decide (524288 < v) || s.rd .pkg pkgrGenInForce != 0))
  | .therm => at' thermLimitsWarn && decide (signedOf (s.rd u thermLimitsFatal) 12 ≤ signedOf v 12)
  | .time => !u.isIkb && at' timeLtlSyncUs && outside 125 8000
  | .snap => at' snapEpochNsNs && !s.on u timeCtrlBase && outside 0 999999999
  | .watch => (rep watchEntryMatchKind && v == 3) || (rep watchEntryIndexIdxBits && outside 0 12) ||
      (rep watchEntryGeomRows && outside 1 256) || (rep watchEntryGeomCols && outside 1 64)
  | .abft => at' abftIfcDlNsNs && !s.on u timeCtrlBase && outside 0 999999999
  | .cntcfg => rep cntBankCfgGate && outside 0 4
  | .prism => (rep prismRuleCfgSelect && v == 3) || (rep prismRuleCfgPoint && v == 3) || (rep prismRuleCfgHoldM && v == 0) ||
      (!u.isIkb && rep prismRuleCfgPort && outside 0 9) || (rep prismRuleCfgNLog && outside 1 32) ||
      (rep prismRuleEveryNN && v == 0)
  | .sched => (List.range 2).any fun p =>
      (f.lo == 0 && f.off == (schedQueueBufLimit p f.idx).off && decide (8192 < s.queueSum u (schedQueueBufLimit p) f.idx v)) ||
      (f.lo == 16 && f.off == (schedQueueBufLimit p f.idx).off && decide (8192 < s.queueSum u (schedQueueBufPool p) f.idx v))
  | .ctx => at' ctxEPoliceQueue && outside 2 7
  | .merge => (at' mergeHopAllowNs && v == 0) || (at' mergeResSizeLog2 && outside 4 16) ||
      (rep mergeQuantilePpm && outside 1 1000000) || (at' mergeJsCmdOp && outside 1 2) ||
      (at' mergeJsTimingHopTimeoutUs && v == 0) || (at' mergeJsTimingDeadlineUs && v == 0)
  | .lens => at' lensRptSizeLog2 && outside 8 16
  | .ras => (at' rasCfgWindowH && outside 1 168) || (at' rasLimitsRecLimit && outside 1 16) ||
      (at' rasLimitsUnrecLimit && outside 1 4) || (rep rasChannelCtrlPreloadRec && outside 0 16) ||
      (rep rasChannelCtrlPreloadUnrec && outside 0 4)
  | .evr => at' evrCtrlScope && outside 0 1
  | .nvm => at' nvmCmdOp && v == 3
  | .core => at' coreBgCfgBgPct && outside 1 100
  | .scrub => (at' scrubPatrolPeriodH && outside 1 168) || (at' scrubSramPeriodS && outside 1 3600) ||
      (at' scrubSelfPeriodMs && outside 1 1000)
  | .barrier => at' barCmdOp && outside 1 5
  | .pkg => at' pkgWarmRunCfgRunLimit && outside 2 7
  | .link => false
  | .ltl n => (List.range 8).any fun k =>
      f.off == (ltlPoolFlits (.ltl n) k).off && decide (2048 < s.queueSum u (ltlPoolFlits (.ltl n)) k v)
  | _ => false

/-- Whether an instance of a RW field is read-only: GROUP and GATE of bank 0 (spec 06 Table 6.2), the DRR fields of
queues 0 and 1 (spec 11 R344). -/
def readOnlyInst (b : Blk) (f : Fld) : Bool :=
  match b with
  | .cntcfg => f.off == 0x200 && decide (f.lo < 7)
  | .sched => decide (0x200 ≤ f.off) && (f.off % 256 == 0x80 || f.off % 256 == 0x90)
  | _ => false

/-- Whether the SNAP periods after a write of one of them break R186 of spec 06. -/
def State.periodsBad (s : State) (u : Chip) (off v : Nat) : Bool :=
  let n := if off = 0x104 then v else s.rd u snapPeriodNoonUs
  let a := if off = 0x108 then v else s.rd u snapPeriodAftUs
  let d := if off = 0x10C then v else s.rd u snapPeriodDuskUs
  [n, a, d].any (fun x => decide (x < 100) || decide (10000000 < x)) || a % n != 0 || d % n != 0

/-- Whether a write of a whole register is refused: it keeps its value. -/
def State.regBad (s : State) (u : Chip) (b : Blk) (off v : Nat) : Bool :=
  let lo := v % 65536
  let hi := bitsOf v 16 16
  match b with
  | .snap => 0x104 ≤ off && off < 0x110 && s.periodsBad u off v
  | .trace => off == 0x110 && (decide (lo < 10) || hi % lo != 0)
  | .abft =>
    let m := bitsOf v 0 8
    (0x400 ≤ off && off < 0x600 && off % 32 == 0 && (m == 0 || decide (128 < m) || bitsOf v 8 7 == 0 || bitsOf v 16 7 == 0)) ||
    (0x400 ≤ off && off < 0x600 && off % 32 == 4 && bitsOf v 0 12 == 0)
  | .gov => 0x140 ≤ off && off < 0x160 && lo != 0 && hi != 0 && decide (lo ≤ hi)
  | _ => false

/-- RAS CFG (spec 15 Table 15.14): the retry times must rise from a first that is not 0; else they keep their values. -/
def retriesBad (v : Nat) : Bool :=
  bitsOf v 0 8 == 0 || decide (bitsOf v 8 8 ≤ bitsOf v 0 8) || decide (bitsOf v 16 8 ≤ bitsOf v 8 8)

/-! ## What self-clearing bits do -/

/-- CMD.GO of a page, by the operation that its OP names. -/
def State.go (s : State) (u : Chip) (b : Blk) : State :=
  match u, b with
  | _, .pkgroute => match s.rd .pkg pkgrCmdOp with
    | 1 => taken s (execPkgrouteAdd s)
    | 2 => taken s (execPkgrouteRemove s)
    | 3 => taken s (execPkgrouteLookup s)
    | 4 => taken s (execPkgrouteDiscardStaged s)
    | 5 => taken s (execPkgrouteRewrite s)
    | _ => s
  | .wdie d, .ctx => match s.rd u ctxCmdOp with
    | 1 => taken s (execCtxRead d s)
    | 2 => taken s (execCtxWrite d s)
    | 3 => taken s (execCtxPin d s)
    | 4 => taken s (execCtxUnpin d s)
    | 5 => taken s (execCtxReopenCmd d s)
    | 6 => taken s (execCtxClose d s)
    | 7 => taken s (execCtxLookup d s)
    | _ => s.ifOn u .ctx fun t => (t.pageErr u .ctx 0x0100 1).ctxResult d 4
  | .wdie _, .merge => match s.rd u mergeJsCmdOp with
    | 1 => taken s (execJsStart (s.rd u mergeJsCmdJob) s)
    | 2 => taken s (execJsEnd (s.rd u mergeJsCmdJob) s)
    | _ => s
  | .wdie d, .drift => match s.rd u driftCmdOp with
    | 1 => taken s (execDriftRead d s)
    | 2 => taken s (execDriftWrite d s)
    | 3 => taken s (execDriftReset d s)
    | _ => s.ifOn u .drift fun t => (t.pageErr u .drift 0x0100 1).driftResult d 1
  | .wdie d, .nvm => match s.rd u nvmCmdOp with
    | 0 => taken s (execNvmRead d s)
    | 1 => taken s (execNvmProgram d s)
    | 2 => taken s (execNvmErase d s)
    | _ => s
  | .wdie _, .barrier => match s.rd u barCmdOp with
    | 1 => taken s (execBarrierRearm none s)
    | 2 => taken s (execBarrierMramRead none s)
    | 3 => taken s (execBarrierMramClear none s)
    | 4 => taken s (execBarrierHsOff none s)
    | 5 => taken s (execBarrierFwStart none s)
    | _ => s
  | _, _ => s

/-- A 1 written to a self-clearing field; `v` is the value written to the field, by requester `r`. -/
def State.trigger (s : State) (u : Chip) (b : Blk) (f : Fld) (r v : Nat) : State :=
  let each := fun (act : Nat → State → State) => (List.range f.w).foldl (fun t i => if bitAt v i = 1 then act i t else t) s
  match u, b, f.off, f.lo with
  | _, .pkgroute, 0x114, _ => s.go u b
  | _, .time, 0x100, 1 => taken s (execTimeReacquire u s)
  | _, .launch, off, lo =>
    if off < 0x200 then s
    else if lo = 6 then taken s (execLaunchArm u r ((off - 0x200) / 32) s)
    else taken s (execLaunchDisarm u ((off - 0x200) / 32) s)
  | .ikb p, .cntcfg, off, _ => s.bankClear p ((off - 0x200) / 4)
  | .ikb p, .snap, _, _ => taken s (execKeyframeNow p s)
  | .ikb p, .trace, 0x10C, _ => s.syncNow p
  | .ikb p, .abft, _, _ => s.poisonClear p
  | .ikb p, .link, 0x100, 3 => s.retrain p true
  | .wdie d, .ltl n, 0x100, 3 => s.retrain (8 * d + n % 8) false
  | .wdie d, .ltl n, 0x100, 7 => s.sendDown (8 * d + n % 8) 0x0A []
  | _, .prism, 0x100, _ => s.prismHalt u
  | _, .prism, off, lo =>
    if lo = 0 then s.prismArm u ((off - 0x214) / 32) else s.prismDisarm u ((off - 0x214) / 32)
  | .wdie d, .opt, _, _ => taken s (execOptSweepStart d v s)
  | .wdie _, .ctx, _, _ => s.go u b
  | .wdie 0, .merge, _, _ => s.go u b
  | .wdie d, .lens, _, _ => taken s (execLensLoad d s)
  | .wdie _, .drift, _, _ => s.go u b
  | _, .ras, off, lo =>
    let k := (off - 0x20C) / 16
    match lo with
    | 0 => s.rasRetire u k
    | 1 => s.rasCondDone u k
    | 2 => s.rasClear u k
    | _ => s.rasPreload u k
  | _, .evr, _, _ => s.evrClear u
  | .wdie d, .bbx, _, lo => if lo = 0 then taken s (execBbxCommitNow d s) else taken s (execBbxFlush d s)
  | .wdie _, .nvm, _, _ => s.go u b
  | _, .mbox, off, _ => taken s (execMboxPop u ((off - 0x200) / 16) s)
  | _, .auth, _, lo =>
    match lo with
    | 0 => taken s (execAuthSubmit u s)
    | 1 => taken s (execAuthVerify u s)
    | _ => taken s (execAuthRevoke u s)
  | .wdie d, .core, 0x118, _ => taken s (execCorePromote d s)
  | .ikb p, .core, 0x130, _ => each fun i t => taken t (execAdcBgRecal p i t)
  | _, .core, off, lo =>
    let c := (off - 0x200) / 64
    match lo with
    | 0 => taken s (execCoreStart u c s)
    | 1 => taken s (execCoreHalt u r c s)
    | 2 => taken s (execCorePowerOff u c s)
    | _ => taken s (execCorePowerOn u c s)
  | .wdie d, .scrub, _, _ => each fun i t => taken t (execScrubRecal d i t)
  | .wdie _, .barrier, _, _ => s.go u b
  | .ikb p, .aon, _, _ => s.vikbOffReq p
  | .pkg, .pkgmode, _, lo => if lo = 2 then s.modeArm else s.modeCancel
  | _, _, _, _ => s

/-! ## What follows a write of a register -/

/-- The vectors of the pages `bs` after their map bytes changed (R65, R66). -/
def State.remapped (s s0 : State) (u : Chip) (bs : List Blk) : State :=
  bs.foldl (fun (t : State) b => (t.vecEdge s0 (s0.vecOf u b)).vecEdge s0 (s.vecOf u b)) s

/-- MIRROR's context opens and closes with its ENABLE (spec 11 R320). -/
def State.mirrorFollow (s s0 : State) : State :=
  let die := s.rd (.wdie 0) torusCoordTray * 64
  let was := s0.on (.wdie 0) mirrorCtrlEnable
  let is' := s.on (.wdie 0) mirrorCtrlEnable
  if is' && !was then s.openCtx 0 0 die 0x10
  else if was && !is' then
    match s.findCtx 0 die 0x10 with
    | some (k, c) => s.drainCtx k c
    | none => s
  else s

/-- What follows from a register's new value at once; `s0` is the state before the write, `v` the word written. -/
def State.afterWrite (s s0 : State) (u : Chip) (b : Blk) (off v : Nat) : State :=
  match u, b with
  | .ikb _, .top => s.intChanged s0 u b
  | .ikb p, .launch => if 0x110 ≤ off && off < 0x120 then s.pinsFollow s0 p else s
  | .wdie _, .top => s.remapped s0 u ((List.range 4).filterMap fun i => pageAt u (off - 0x200 + i))
  | .pkg, .pkg => if off = 0x180 then s.remapped s0 u pkgBlks else s
  | .ikb p, .gov => if off = 0x114 || off = 0x120 then s.pointCheck p else s
  | .ikb p, .optab => s.pointCheck p
  | .ikb p, .trace => if off = 0x108 then s else (List.range 64).foldl (fun (t : State) n => t.traceRefresh p n) s
  | .ikb _, .xrx =>
    if off = 0x100 then (List.range 16).foldl (fun (t : State) n =>
      if t.rd u (rasChannelStateState (0x20 + n)) = 4 then t.retireActions u (0x20 + n) else t) s
    else s
  | .ikb p, .link =>
    if off = 0x100 && s.rd u (ltlCtrlForceOneLane b) ≠ s0.rd u (ltlCtrlForceOneLane b) then
      s.forceOneLane p true (s.rd u (ltlCtrlForceOneLane b))
    else s
  | .wdie d, .ltl n =>
    let p := 8 * d + n % 8
    if off = 0x100 then
      let s1 := if s.on u (ltlStatRetired b) then s.wr u (ltlCtrlTrainEn b) 0 else s
      let s2 := if s.rd u (ltlCtrlForceOneLane b) ≠ s0.rd u (ltlCtrlForceOneLane b) then
          s1.forceOneLane p false (s.rd u (ltlCtrlForceOneLane b))
        else s1
      if s.rd u (ltlCtrlLevelCmd b) ≠ s0.rd u (ltlCtrlLevelCmd b) then s2.sendDown p 0x09 [s.rd u (ltlCtrlLevelCmd b)] else s2
    else if off = 0x170 then
      (List.range 4).foldl (fun (t : State) l => (t.vecEdge s0 (s0.rd u (ltlIrqVecVec b l))).vecEdge s0 (s.rd u (ltlIrqVecVec b l))) s
    else s
  | .wdie d, .ports => if off % 64 = 0x0C && 0x200 ≤ off then s.bypassFollow (2 * d + (off - 0x200) / 64) else s
  | .wdie 0, .mirror => if off = 0x100 then s.mirrorFollow s0 else s
  | .wdie d, .opt => if off = 0x100 then s.swapPrep d (bitAt v 4) else s
  | _, _ => s

/-! ## Writes (R52, R56, R58) -/

/-- A write of a register's word, field by field: refused values and locked RWL fields keep theirs, self-clearing bits
act last. -/
def State.writeFields (s : State) (u : Chip) (b : Blk) (off r v : Nat) (fs : List Fld) : State :=
  let value := fun (f : Fld) => bitsOf v f.lo f.w
  let lock := s.locked u b
  let retry := b == .ras && off == 0x100 && retriesBad v
  let bad := fun (f : Fld) => (f.acc == .rw || f.acc == .rwl) && !readOnlyInst b f && (s.fieldBad u b f (value f) || (retry && f.lo < 24))
  if s.regBad u b off v then s.pageErr u b (refusalCode b off) 1
  else
    let s1 := fs.foldl (fun (t : State) f =>
      match f.acc with
      | .rw => if bad f || readOnlyInst b f then t else t.wr u f (value f)
      | .rwl => if bad f || lock then t else t.wr u f (value f)
      | .w1c => t.wr u f (andNot (t.rd u f) (value f))
      | _ => t) s
    let s2 := s1.afterWrite s u b off v
    if fs.any bad then s2.pageErr u b (refusalCode b off) 1
    else
      let s3 := fs.foldl (fun (t : State) f => if f.acc == .w1s && value f != 0 then t.trigger u b f r (value f) else t) s2
      if lock && fs.any (fun f => f.acc == .rwl) then s3.lockedErr u b r off else s3

/-- What a block does at once when its ENABLE changes: GOV goes to the job point, streams open or end (spec 02 R553,
spec 06 R202). -/
def State.enableFollow (s s0 : State) (u : Chip) (b : Blk) : State :=
  match u, b with
  | .ikb p, .gov => if s.enabled u b && !s0.enabled u b then s.goTo p (s.rd u govStatJobIdx) false else s
  | .ikb p, .trace => (List.range 64).foldl (fun (t : State) n => t.traceRefresh p n) s
  | _, _ => s

/-- A write of BLK_CTRL (R51 to R53, R56). -/
def State.writeCtrl (s : State) (u : Chip) (b : Blk) (r v : Nat) : State :=
  let s1 := s.freezeWrite u b (bitAt v 2)
  if s.locked u b then s1.lockedErr u b r 0x10
  else
    let s2 := (s1.wr u (hdrBlkCtrlEnable b) (bitAt v 0)).enableFollow s u b
    if bitAt v 1 = 1 then s2.softReset u b r else s2

/-- R64: INT_FORCE sets INT_RAW bits. -/
def State.intForce (s : State) (u : Chip) (b : Blk) (v : Nat) : State :=
  ((s.wr u (hdrIntRawSrc b) (s.rd u (hdrIntRawSrc b) ||| v % 2147483648)).wr u (hdrIntRawErr b)
    (s.rd u (hdrIntRawErr b) ||| bitAt v 31)).intChanged s u b

/-- R66: a write of INT_RAW clears bits, and the message is sent again when the vector's level stays 1. -/
def State.intRawClear (s : State) (u : Chip) (b : Blk) (v : Nat) : State :=
  let s1 := (s.wr u (hdrIntRawSrc b) (andNot (s.rd u (hdrIntRawSrc b)) (v % 2147483648))).wr u (hdrIntRawErr b)
    (andNot (s.rd u (hdrIntRawErr b)) (bitAt v 31))
  let s2 := s1.intChanged s u b
  match u with
  | .ikb _ => s2
  | _ => if s2.vecLevel (s2.vecOf u b) then s2.msixSend (s2.vecOf u b) else s2

/-- A write of a header register. -/
def State.writeHeader (s : State) (u : Chip) (b : Blk) (off r v : Nat) : State :=
  match off with
  | 0x10 => s.writeCtrl u b r v
  | 0x20 => s.intRawClear u b v
  | 0x24 =>
    if s.locked u b then s.lockedErr u b r off else (s.wr u (hdrIntEnEn b) v).intChanged s u b
  | 0x2C => s.intForce u b v
  | 0x3C => if bitAt v 3 = 1 then s.errClear u b else s
  | 0x48 => if bitAt v 0 = 1 then s.wr u (hdrLockLocked b) 1 else s
  | _ => match regAt u b off with
    | some g => s.writeFields u b off r v g.fields
    | none => s

/-- Both words of a 64-bit RW register committed (R58). -/
def State.commit (s : State) (u : Chip) (b : Blk) (off r v : Nat) (fs : List Fld) : State :=
  let plain := fun (t : State) (w : Nat) => fs.foldl (fun (t : State) f =>
    if f.acc == .rw || (f.acc == .rwl && !t.locked u b) then t.wr u f w else t) t
  match u, b with
  | _, .time =>
    if off = 0x128 then taken s (execTimeStepWrite u v s)
    else if off = 0x148 then (match u with
      | .wdie d => taken s (execMerSetWrite d v s)
      | _ => s)
    else plain s v
  | .ikb p, .abft => if 0x800 ≤ off then s.ifcExpect p ((off - 0x800) / 8) v else plain s v
  | .ikb _, .snap => plain s (setBit v 0)
  | .ikb p, .trace => (List.range 64).foldl (fun (t : State) n => t.traceRefresh p n) (plain s v)
  | .wdie d, .codec => if off = 0x120 then plain s v else s.codecConfig d off v
  | .wdie d, .core => if off = 0x108 then s.imgNextWrite d v else plain s v
  | .pkg, .pkgroute => if s.rd .pkg pkgrGenInForce = 0 then plain s v else s.pageErr .pkg .pkgroute 0x0100 1
  | _, .mbox => { s with mboxSend := put (reqKey u r) (v, (s.heldSend u r).2) s.mboxSend }
  | _, _ => plain s v

/-- A write that a page ignores whole for the state of what it names, with the code logged: the PRISM body without
authorisation or of an armed rule (spec 09 R286, R291), a launch slot that is reserved, ARMED or HELD (spec 05 R164),
the mode launch while armed (spec 04 R137). -/
def State.ignoredWrite (s : State) (u : Chip) (b : Blk) (off r v : Nat) : Option Nat :=
  match b with
  | .prism =>
    if 0x200 ≤ off && 0x18 ≤ off % 32 then none
    else if !s.on u prismStatAuth then some 0x0100
    else if 0x200 ≤ off && off % 32 < 0x14 && s.on u (prismRuleArmArmed ((off - 0x200) / 32)) then some 0x0102
    else none
  | .launch =>
    let i := (off - 0x200) / 32
    let st := s.rd u (launchSlotCtrlState i)
    if off < 0x200 || slotCount u ≤ i then none
    else if u.isIkb && 12 ≤ i && r ≠ 1 then some 0x0106
    else if (st = 1 || st = 3) && !(off % 32 = 0 && bitAt v 7 = 1) then some 0x0100
    else none
  | .pkgmode => if s.on .pkg pkgmNextArmed && 0x108 ≤ off && off < 0x114 then some 0x0100 else none
  | _ => none

/-- A write of START_CTRL (spec 18 R538): COLD before WARM, both only with the key. -/
def State.startWrite (s : State) (r v : Nat) : State :=
  let key := bitsOf v 16 16
  if bitAt v 1 = 1 then taken s (execStartCold key s)
  else if bitAt v 0 = 1 then taken s (execStartWarm r key s)
  else if key = 0x5354 then s
  else s.pageErr .pkg .pkg 0x0100 1

/-- A write of PKGMODE.NEXT: TARGET keeps its value while a launch is armed (spec 04 R137). -/
def State.nextWrite (s : State) (v : Nat) : State :=
  let s1 := s.wr .pkg pkgmNextIkbFollow (bitAt v 4)
  let s2 := if !s.on .pkg pkgmNextArmed then s1.wr .pkg pkgmNextTarget (v % 4)
            else if v % 4 = s.rd .pkg pkgmNextTarget then s1 else s1.pageErr .pkg .pkgmode 0x0100 1
  let s3 := if bitAt v 5 = 1 then s2.modeCancel else s2
  if bitAt v 2 = 1 then s3.modeArm else s3

/-- A write of a body register's word that its chapter gives a meaning of its own: the state, and whether the response
is an error; none for a register written field by field. -/
def State.writeOwn (s : State) (u : Chip) (b : Blk) (off r v : Nat) (secure : Bool) : Option (State × Bool) :=
  let ok := fun (t : State) => some (t, false)
  match u, b with
  | _, .clk =>
    if off = 0x104 then ok (taken s (execClkDomSrcWrite u v s))
    else if u.isIkb && off = 0x10C then ok (taken s (execClkBlkEnWrite u 0 v s))
    else if !u.isIkb && 0x110 ≤ off && off < 0x120 then ok (taken s (execClkBlkEnWrite u ((off - 0x110) / 4) v s))
    else match u with
      | .wdie d => if off = 0x10C then ok (taken s (execLensDivWrite d v s)) else none
      | _ => none
  | .ikb _, .top =>
    if off = 0x104 then
      ok (((List.range 6).foldl (fun (t : State) q => t.wr u (topIIrqRoute1Line q) (bitsOf v (2 * q) 2)) s).intChanged s u b)
    else none
  | _, .time =>
    if off = 0x124 then ok (taken s (execAddendCommit u r v s))
    else match u with
      | .wdie d => if off = 0x150 then ok (taken s (execOffsetInWrite d v s)) else none
      | _ => none
  | _, .launch =>
    let i := (off - 0x200) / 32
    let st := s.rd u (launchSlotCtrlState i)
    if 0x200 ≤ off && off % 32 = 0 && (st = 1 || st = 3) then ok (taken s (execLaunchDisarm u i s)) else none
  | .ikb p, .trace => if off = 0x108 then ok (s.traceAuthWrite p v secure) else none
  | .ikb p, .abft => if off = 0x100 then ok (s.abftModeWrite p v) else none
  | .ikb p, .optab =>
    if 0x400 ≤ off && off < 0x800 then ok (s.optabWrite p r ((off - 0x400) / 32) (off % 32 / 4) v) else none
  | .wdie d, .dramc => if 0x140 ≤ off && off < 0x158 then ok (s.writeCap d ((off - 0x140) / 4) v) else none
  | .wdie d, .ports =>
    if off = 0x200 || off = 0x240 then ok (s.stageRole (2 * d + (off - 0x200) / 64) v) else none
  | .wdie d, .torus => if off = 0x104 then ok (taken s (execTorusCoordWrite d r (v % 262144) (bitsOf v 18 11) s)) else none
  | .wdie 0, .pcie => if off = 0x104 then ok (s.bar2Base v) else none
  | .wdie d, .police => if 0x200 ≤ off then ok (s.policeWrite d off v) else none
  | .wdie d, .codec =>
    if off = 0x104 || off = 0x108 || off = 0x118 || off = 0x184 || (0x200 ≤ off && off < 0x280 && off % 16 = 0) then
      ok (s.codecConfig d off v)
    else if 0x400 ≤ off && off < 0x800 then
      ok (taken s (execCodecTableWrite d ((off - 0x400) / 64) (off % 64 / 4) v s))
    else none
  | .wdie d, .feat => if 0x200 ≤ off && off < 0x400 then ok (s.bindingWrite d ((off - 0x200) / 32) (off % 32) v) else none
  | .wdie d, .lens => if off = 0x100 then ok (s.batchWrite d v) else none
  | _, .ras => if off = 0x110 then ok (s.wdogCtrlWrite u r v) else none
  | _, .evr =>
    if off = 0x11C then ok (s.wr u (evrMap (s.rd u evrMapSelIdx)) v)
    else if off = 0x124 then ok (s.bktCfgWrite u v)
    else none
  | _, .mbox =>
    if off = 0x108 then ok { s with mboxSend := put (reqKey u r) ((s.heldSend u r).1, v) s.mboxSend }
    else if off = 0x10C then (if s.enabled u .mbox then some (s.mboxPost u r (v % 32)) else ok s)
    else none
  | _, .core => if off = 0x124 then ok (s.memAccess u true v).2 else none
  | .wdie 0, .barrier => if fOffsets.contains off then ok (taken s (execBarrierFWrite off v s)) else none
  | .pkg, .pkg => if off = 0x140 then ok (s.startWrite r v) else none
  | .pkg, .pkgmode => if off = 0x104 then ok (s.nextWrite v) else none
  | _, _ => none

/-- A body write of a word, soft reset and ignored writes apart. -/
def State.writeBody (s : State) (u : Chip) (b : Blk) (off r v : Nat) (secure : Bool) : State × Bool :=
  match s.writeOwn u b off r v secure with
  | some t => t
  | none => match regAt u b off with
    | some g => (s.writeFields u b off r v g.fields, false)
    | none => (s, false)

/-- Whether the register at an offset takes 64-bit writes (R58). -/
def Reg.pair (g : Reg) : Bool := g.wide && g.fields.any fun f => f.acc == .rw || f.acc == .rwl

/-- A write of a word at offset `off` of a page that is assigned and clocked: the state, and whether the response is an
error. -/
def State.writeWord (s : State) (u : Chip) (b : Blk) (off r v : Nat) (secure : Bool) : State × Bool :=
  let s1 := s.dropLow u r
  if off < bodyAt then (s1.writeHeader u b off r v, false)
  else if s.on u (hdrBlkStatResetBusy b) then
    ((s1.wr u (hdrBlkStatDroppedWrite b) 1).pageErr u b 0x0002 1 (accessInfo u r off true), false)
  else if deadBody u b off then (s1, false)
  else match s.ignoredWrite u b off r v with
    | some code => (s1.pageErr u b code 1, false)
    | none =>
      if b == .time && off = 0x120 then
        ({ s1 with buffers := put (reqKey u r) (timeAddendLoAdd.key u, v) s1.buffers }, false)
      else if b == .time && off = 0x124 then s.writeBody u b off r v secure
      else match regAt u b off with
        | some g =>
          if g.pair then
            let key := (g.fields.map fun f => f.key u).headD 0
            if g.word = 0 then ({ s1 with buffers := put (reqKey u r) (key, v) s1.buffers }, false)
            else match look (reqKey u r) s.buffers with
              | some (k, lo) =>
                if k = key then (s1.commit u b (off - 4) r (lo + 4294967296 * v) g.fields, false)
                else (s1.pageErr u b 0x0003 1 (accessInfo u r off true), false)
              | none => (s1.pageErr u b 0x0003 1 (accessInfo u r off true), false)
          else s1.writeBody u b off r v secure
        | none => s1.writeBody u b off r v secure

/-- An 8-byte write: both words of a 64-bit RW register in one cycle, else the lower word and then the upper (R58,
R71). -/
def State.writeTwo (s : State) (u : Chip) (b : Blk) (off r v : Nat) (secure : Bool) : State × Bool :=
  let x := s.writeWord u b off r (v % 4294967296) secure
  let y := x.1.writeWord u b (off + 4) r (v / 4294967296) secure
  (y.1, x.2 || y.2)

/-! ## Outcomes (R59, Table 2.4) -/

/-- What an access is answered: an error or not, the data, the state. -/
structure Answer where
  err : Bool
  data : Nat
  state : State

/-- An access answered with an error, recorded in the TOP page of the window (Table 2.4). -/
def State.lost (s : State) (u : Chip) (addr : Nat) (write : Bool) : Answer :=
  match u with
  | .ikb _ => ⟨true, 0, ((s.inc u topIAddrErrCountCount).wr u topIAddrErrLastAddr addr).wr u topIAddrErrLastWrite write.toNat⟩
  | .wdie d => ⟨true, 0, s.addrErr d addr write⟩
  | .pkg => ⟨true, 0, s.addrErr 0 addr write⟩

/-- An access by requester `r` to offset `off` of page `b`, of 4 bytes or 8. -/
def State.accessPage (s : State) (u : Chip) (b : Blk) (off r : Nat) (write wide : Bool) (v : Nat) (secure : Bool) :
    Answer :=
  if !(pagesOf u).contains b then s.lost u (pageNo u b * 4096 + off) write
  else if s.gated u b then ⟨false, 0, s⟩
  else
    let s1 := s.wakeFor u b
    if write then
      let t := if wide then s1.writeTwo u b off r v secure else s1.writeWord u b off r (v % 4294967296) secure
      ⟨t.2, 0, t.1⟩
    else
      let t := if wide then s1.readTwo u b off r else s1.readWord u b off r
      ⟨false, t.1, t.2⟩

/-- A counter or its shadow, one word or both (R57, R68). -/
def State.accessAperture (s : State) (u : Chip) (b : Blk) (f : Nat → Fld) (at' r : Nat) (write wide : Bool) : Answer :=
  if s.gated u b then ⟨false, 0, s⟩
  else
    let s1 := s.wakeFor u b
    let v := s1.rd u (f (at' / 8))
    if write then ⟨false, 0, s1.dropLow u r⟩
    else if wide then ⟨false, v, s1.setLatch u r none⟩
    else
      let t := s1.readHalf u b r (at' % 4096) ((f (at' / 8)).key u) (at' / 4 % 2) v
      ⟨false, t.1, t.2⟩

/-- R67, R68: an access to address `addr` of an IKB's window by requester `r`. -/
def State.accessIkb (s : State) (p addr r : Nat) (write wide : Bool) (v : Nat) (secure : Bool) : Answer :=
  let u := Chip.ikb p
  if addr < 0x20000 then
    match pageAt u (addr / 4096) with
    | some b => s.accessPage u b (addr % 4096) r write wide v secure
    | none => s.lost u addr write
  else if addr < 0x28000 then s.accessAperture u .cntcfg counter (addr - 0x20000) r write wide
  else if addr < 0x30000 then s.accessAperture u .snap shadow (addr - 0x28000) r write wide
  else s.lost u addr write

/-! ## Proxied accesses (R71, spec 09 R283) -/

/-- A proxied access's frame leaves the W-die. -/
def State.sendProxy (s : State) (p : Nat) (q : ProxyReq) : State :=
  s.sendDown p 0x40 [q.tag, q.write.toNat + 2 * q.wide.toNat, q.addr, q.data]

/-- The port's first 16 accesses are sent; more wait. -/
def State.proxyPump (s : State) (p : Nat) : State :=
  let l := s.proxiesOf p
  let due := (l.take 16).filter fun q => q.sentAt == 0
  let l1 := (l.take 16).map (fun q => if q.sentAt = 0 then { q with sentAt := s.now + 1 } else q) ++ l.drop 16
  due.foldl (fun (t : State) q => t.sendProxy p q) (s.setProxies p l1)

/-- The lowest tag of 8 bits that no access of the port holds. -/
def freeTag (l : List ProxyReq) : Nat := ((List.range 256).find? fun t => !l.any fun q => q.tag == t).getD 0

/-- R71: an access by requester `r` through the proxy window of package port `p`. -/
def State.proxy (s : State) (p r : Nat) (write wide : Bool) (addr v : Nat) : State :=
  let q : ProxyReq := ⟨r, freeTag (s.proxiesOf p), write, wide, addr, v, 0, false⟩
  if !s.on (dieOfPort p) (ltlStatUp (linkOfPort p)) then s.proxyFailed p q
  else (s.setProxies p (s.proxiesOf p ++ [q])).proxyPump p

/-- Whether an access to the page at `addr` of an IKB waits for a PLL that is off (spec 09 R283). -/
def State.pllWait (s : State) (p addr : Nat) : Bool :=
  let u := Chip.ikb p
  let dom := if addr < 0x20000 then ((pageAt u (addr / 4096)).map (pageDomain u)).getD 0 else if addr < 0x30000 then 2 else 0
  dom != 0 && !s.bit u (domRun u) (dom - 1) && s.domFeed u (dom - 1) == 2 && !s.on u (pllLockFld u)

/-- R283: a PROXY_REQ frame is served, after a PROXY_WAIT where a PLL must start. -/
def execLtlProxyReq (p tag : Nat) (write wide : Bool) (addr data : Nat) (s : State) : Out' := keeping s <|
  .next (s.recv p true 0x40 12 fun t =>
    let t1 := if t.pllWait p (addr % 262144) then t.sendUp p 0x42 [tag % 256] else t
    let a := t1.accessIkb p (addr % 262144) 1 write wide data false
    a.state.sendUp p 0x41 [tag % 256, a.err.toNat, if write then 0 else a.data])

/-- R283: a PROXY_RSP frame completes its access; one that comes late is counted. -/
def execLtlProxyRsp (p tag : Nat) (err : Bool) (data : Nat) (s : State) : Out' := storeless s <|
  .next (s.recv p false 0x41 10 fun t =>
    match (t.proxiesOf p).find? fun q => q.tag == tag % 256 && q.sentAt != 0 with
    | some q =>
      ((t.setProxies p ((t.proxiesOf p).erase q)).answer (dieOfPort p) q.r q.write err
        (if q.write || err then 0 else if q.wide then data % 2 ^ 64 else data % 2 ^ 32)).proxyPump p
    | none => t.inc (dieOfPort p) (ltlProxyLateRsp (linkOfPort p)))

/-- R283: a PROXY_WAIT frame restarts the timeout of its access once. -/
def execLtlProxyWait (p tag : Nat) (s : State) : Out' := storeless s <|
  .next (s.recv p false 0x42 1 fun t =>
    t.setProxies p ((t.proxiesOf p).map fun q =>
      if q.tag = tag % 256 && q.sentAt ≠ 0 && !q.waited then { q with sentAt := t.now + 1, waited := true } else q))

/-- R283: accesses not answered in 20 µs fail. -/
def execProxyTimeout (p : Nat) (s : State) : Out' := storeless s <|
  let late := fun (q : ProxyReq) => q.sentAt != 0 && decide (q.sentAt + 20 * us ≤ s.now + 1)
  let l := s.proxiesOf p
  if l.any late then
    let s1 := (l.filter late).foldl (fun (t : State) q => t.proxyFailed p q) (s.setProxies p (l.filter fun q => !late q))
    .next ((s1.int (dieOfPort p) (linkOfPort p) 4).proxyPump p)
  else .next s

/-- R71: an access to a proxy window. -/
def execProxyAccess (p r : Nat) (write wide : Bool) (addr value : Nat) (s : State) : Out' := storeless s <|
  .next (s.proxy p r write wide (addr % 262144) value)

/-! ## BAR0 (R69, R70) -/

/-- A word of the MSI-X table (reset: masked); the PBA. -/
def State.msixWord (s : State) (off : Nat) : Nat := (look off s.msixTable).getD (if off % 16 = 12 then 1 else 0)
def State.pbaWord (s : State) (k : Nat) : Nat :=
  (List.range 32).foldl (fun a i => if s.pba.contains (32 * k + i) then a + 2 ^ i else a) 0

/-- R66: what is held for a vector is sent once nothing masks it, if the level is still 1. -/
def State.unmasked (s : State) (v : Nat) : State :=
  if s.pba.contains v && s.on (.wdie 0) msixEnable && !s.msixMasked v && s.vecLevel v then s.msixSend v else s

/-- A write of a word of the MSI-X table. -/
def State.msixWrite (s : State) (off v : Nat) : State :=
  let w := if off % 16 = 12 then v % 2 else if off % 16 = 0 then v % 4294967296 / 4 * 4 else v % 4294967296
  let s1 := { s with msixTable := if w = (if off % 16 = 12 then 1 else 0) then drop off s.msixTable
                                   else put off w s.msixTable }
  s1.unmasked (off / 16)

/-- The headerless MSI-X regions (R69). -/
def State.accessMsix (s : State) (off : Nat) (write wide : Bool) (v : Nat) : Answer :=
  if off < 0x1000 then
    if write then
      let s1 := s.msixWrite off (v % 4294967296)
      ⟨false, 0, if wide then s1.msixWrite (off + 4) (v / 4294967296) else s1⟩
    else ⟨false, s.msixWord off + (if wide then 4294967296 * s.msixWord (off + 4) else 0), s⟩
  else
    let k := (off - 0x1000) / 4
    let word := fun k => if k < 8 then s.pbaWord k else 0
    ⟨false, if write then 0 else word k + (if wide then 4294967296 * word (k + 1) else 0), s⟩

/-- R69, R70, R73: a well-formed PCIe access at BAR0 offset `addr`; none where a proxy window takes it. -/
def State.accessBar0 (s : State) (addr : Nat) (write wide : Bool) (v : Nat) : Option Answer :=
  if addr < 0x3000 then
    match pageAt .pkg (addr / 4096) with
    | some b => some (s.accessPage .pkg b (addr % 4096) 0 write wide v false)
    | none => some (s.lost .pkg addr write)
  else if 0xF0000 ≤ addr && addr < 0xF2000 then some (s.accessMsix (addr - 0xF0000) write wide v)
  else if addr < 0x1000000 then some (s.lost .pkg addr write)
  else
    let d := (addr - 0x1000000) / 0x400000
    let off := (addr - 0x1000000) % 0x400000
    if s.dies ≤ d || !s.present d then some (s.lost .pkg (addr % 4194304) write)
    else if off < 0x200000 then
      let u := Chip.wdie d
      let s1 := State.cross 8 0 d s
      match pageAt u (off / 4096) with
      | some b => some (s1.accessPage u b (off % 4096) 0 write wide v false)
      | none => some (s1.lost u off write)
    else none

/-- R59: a PCIe access of `len` bytes at BAR0 offset `addr`. -/
def execPcieBar0Access (write : Bool) (addr len data : Nat) (s : State) : Out' := keeping s <|
  let a := addr % 0x4000000
  let wide := len == 8
  if (len ≠ 4 && len ≠ 8) || a % len ≠ 0 then
    let d := (a - 0x1000000) / 0x400000
    let t := if 0x1000000 ≤ a && d < s.dies && s.present d then s.lost (.wdie d) (a % 4194304) write
             else s.lost .pkg (a % 4194304) write
    .next (t.state.answer (.wdie 0) 0 write true 0)
  else match s.accessBar0 a write wide data with
    | some t => .next (t.state.answer (.wdie 0) 0 write t.err (if t.err then 0 else t.data))
    | none =>
      let d := (a - 0x1000000) / 0x400000
      let off := (a - 0x1000000) % 0x400000 - 0x200000
      .next ((State.cross 8 0 d s).proxy (8 * d + off / 0x40000) 0 write wide (off % 0x40000) data)

/-! ## The register port (spec 03 R84, R86, R87) -/

/-- R86: a request on the register port of IKB `p`; `addrOk` and `dataOk` tell whether its parity is right. -/
def execRegPortRequest (p addr : Nat) (write : Bool) (be data : Nat) (addrOk dataOk secure : Bool) (s : State) : Out' := keeping s <|
  let u := Chip.ikb p
  let a := addr % 262144
  let info := accessInfo u 0 (a % 4096) write
  if !addrOk then .next ((s.pageErr u .top 0x0004 2 info).respond u 0 true 0)
  else if write && !dataOk then
    match (if a < 0x20000 then pageAt u (a / 4096) else none) with
    | some b => .next ((s.pageErr u b 0x0004 2 info).respond u 0 true 0)
    | none => .next ((s.pageErr u .top 0x0004 2 info).respond u 0 true 0)
  else if be % 16 ≠ 15 || a % 4 ≠ 0 then
    let t := s.lost u a write
    .next (t.state.respond u 0 true 0)
  else
    let t := s.accessIkb p a 0 write false data secure
    .next (t.state.respond u 0 t.err (if t.err then 0 else t.data))

/-! ## Accesses to one page -/

/-- The end of an access by requester `r` of window `u`. -/
def Answer.give (a : Answer) (u : Chip) (r : Nat) (write : Bool) : State :=
  a.state.answer u r write a.err (if a.err then 0 else a.data)

/-- R19: a write of a register's word by requester `r`. -/
def execRegisterWrite (u : Chip) (b : Blk) (off r value : Nat) (secure : Bool) (s : State) : Out' := keeping s <|
  .next ((s.accessPage u b (off % 4096 / 4 * 4) r true false value secure).give u r true)

/-- R53: a read of a register's word, RC fields cleared. -/
def execRcRead (u : Chip) (b : Blk) (off r : Nat) (s : State) : Out' := keeping s <|
  .next ((s.accessPage u b (off % 4096 / 4 * 4) r false false 0 false).give u r false)

/-- R57: a read of the low word of the 64-bit register at `off`. -/
def execLowWordRead (u : Chip) (b : Blk) (off r : Nat) (s : State) : Out' := keeping s <|
  .next ((s.accessPage u b (off % 4096 / 8 * 8) r false false 0 false).give u r false)

/-- R57: a read of its high word. -/
def execHighWordRead (u : Chip) (b : Blk) (off r : Nat) (s : State) : Out' := keeping s <|
  .next ((s.accessPage u b (off % 4096 / 8 * 8 + 4) r false false 0 false).give u r false)

/-- R58: a write of the low word of the 64-bit register at `off`. -/
def execLowWordWrite (u : Chip) (b : Blk) (off r value : Nat) (s : State) : Out' := keeping s <|
  .next ((s.accessPage u b (off % 4096 / 8 * 8) r true false value false).give u r true)

/-- R58: a write of its high word. -/
def execHighWordWrite (u : Chip) (b : Blk) (off r value : Nat) (s : State) : Out' := keeping s <|
  .next ((s.accessPage u b (off % 4096 / 8 * 8 + 4) r true false value false).give u r true)

/-- What a write does to a page that answers; a gated page and one that the window does not have are unchanged. -/
def State.onPage (s : State) (u : Chip) (b : Blk) (act : State → State) : State :=
  if !(pagesOf u).contains b || s.gated u b then s else act (s.wakeFor u b)

/-- R52: a write of 1 to BLK_CTRL.SOFT_RESET. -/
def execSoftReset (u : Chip) (b : Blk) (r : Nat) (s : State) : Out' := storeless s <|
  .next (s.onPage u b fun t => t.softReset u b r)

/-- R52: the end of a soft reset. -/
def execSoftResetDone (u : Chip) (b : Blk) (s : State) : Out' := storeless s <| .next (s.softDone u b)

/-- R56: a write of 1 to LOCK.LOCKED. -/
def execLockSet (u : Chip) (b : Blk) (s : State) : Out' := storeless s <|
  .next (s.onPage u b fun t => t.wr u (hdrLockLocked b) 1)

/-- R53: a write of BLK_CTRL.FREEZE. -/
def execFreezeWrite (u : Chip) (b : Blk) (value : Nat) (s : State) : Out' := storeless s <|
  .next (s.onPage u b fun t => t.freezeWrite u b value)

/-- R64: a write of INT_FORCE. -/
def execIntForce (u : Chip) (b : Blk) (value : Nat) (s : State) : Out' := storeless s <|
  .next (s.onPage u b fun t => t.intForce u b value)

/-- R66: a write of INT_RAW. -/
def execIntRawClear (u : Chip) (b : Blk) (value : Nat) (s : State) : Out' := storeless s <|
  .next (s.onPage u b fun t => t.intRawClear u b value)

/-- R66: vector `some v` is unmasked in the MSI-X table; `none`: MSI-X is enabled in the function. -/
def execMsixUnmask (vector : Option Nat) (s : State) : Out' := storeless s <|
  match vector with
  | some v => .next (s.msixWrite (16 * (v % 256) + 12) 0)
  | none => .next ((List.range 256).foldl (fun (t : State) v => t.unmasked v) (s.wr (.wdie 0) msixEnable 1))

end Sys2Proof.Machine
end

