-- ==== Sys2Proof/Machine/Dispatch.lean ====
section
/-! DEFINITION. One arm per command: one direct call of its meaning. -/

namespace Sys2Proof.Machine

def exec (i : Instr) (s : State) : Host.Outcome State Fault Refusal :=
  match i with
  | .pkgrouteAdd => Sys2Proof.Machine.execPkgrouteAdd s
  | .pkgrouteRemove => Sys2Proof.Machine.execPkgrouteRemove s
  | .pkgrouteLookup => Sys2Proof.Machine.execPkgrouteLookup s
  | .pkgrouteDiscardStaged => Sys2Proof.Machine.execPkgrouteDiscardStaged s
  | .pkgrouteRewrite => Sys2Proof.Machine.execPkgrouteRewrite s
  | .tableSwapRoute => Sys2Proof.Machine.execTableSwapRoute s
  | .tableSwapPorts d => Sys2Proof.Machine.execTableSwapPorts d s
  | .tableSwapCtxSeed d => Sys2Proof.Machine.execTableSwapCtxSeed d s
  | .tableSwapDramSeed d beyond => Sys2Proof.Machine.execTableSwapDramSeed d beyond s
  | .tableSwapCodec d instant => Sys2Proof.Machine.execTableSwapCodec d instant s
  | .fabricFrameIngress d request flat job key q frame => Sys2Proof.Machine.execFabricFrameIngress d request flat job key q frame s
  | .fabricFrameArrival P inq frame fcs => Sys2Proof.Machine.execFabricFrameArrival P inq frame fcs s
  | .fabricFrameReroute P q => Sys2Proof.Machine.execFabricFrameReroute P q s
  | .spineFrameReceive P source frame => Sys2Proof.Machine.execSpineFrameReceive P source frame s
  | .reorderWindowClose source flow => Sys2Proof.Machine.execReorderWindowClose source flow s
  | .spineFlowClose source flow => Sys2Proof.Machine.execSpineFlowClose source flow s
  | .flowIdFree d id => Sys2Proof.Machine.execFlowIdFree d id s
  | .noticeRepeat seq => Sys2Proof.Machine.execNoticeRepeat seq s
  | .noticeAck job seq => Sys2Proof.Machine.execNoticeAck job seq s
  | .mirrorFrame P switch samples malformed => Sys2Proof.Machine.execMirrorFrame P switch samples malformed s
  | .mirrorSampleRelease => Sys2Proof.Machine.execMirrorSampleRelease s
  | .softReset u b r => Sys2Proof.Machine.execSoftReset u b r s
  | .softResetDone u b => Sys2Proof.Machine.execSoftResetDone u b s
  | .errClear u b => Sys2Proof.Machine.execErrClear u b s
  | .lockSet u b => Sys2Proof.Machine.execLockSet u b s
  | .freezeWrite u b value => Sys2Proof.Machine.execFreezeWrite u b value s
  | .rcRead u b off r => Sys2Proof.Machine.execRcRead u b off r s
  | .intForce u b value => Sys2Proof.Machine.execIntForce u b value s
  | .intRawClear u b value => Sys2Proof.Machine.execIntRawClear u b value s
  | .msixUnmask vector => Sys2Proof.Machine.execMsixUnmask vector s
  | .lowWordRead u b off r => Sys2Proof.Machine.execLowWordRead u b off r s
  | .highWordRead u b off r => Sys2Proof.Machine.execHighWordRead u b off r s
  | .lowWordWrite u b off r value => Sys2Proof.Machine.execLowWordWrite u b off r value s
  | .highWordWrite u b off r value => Sys2Proof.Machine.execHighWordWrite u b off r value s
  | .regPortRequest p addr write be data addrOk dataOk secure => Sys2Proof.Machine.execRegPortRequest p addr write be data addrOk dataOk secure s
  | .pcieBar0Access write addr len data => Sys2Proof.Machine.execPcieBar0Access write addr len data s
  | .proxyAccess p r write wide addr value => Sys2Proof.Machine.execProxyAccess p r write wide addr value s
  | .registerWrite u b off r value secure => Sys2Proof.Machine.execRegisterWrite u b off r value secure s
  | .ikbPorst p => Sys2Proof.Machine.execIkbPorst p s
  | .ikbRst p => Sys2Proof.Machine.execIkbRst p s
  | .vikbPgFall p => Sys2Proof.Machine.execVikbPgFall p s
  | .vikbReturn p => Sys2Proof.Machine.execVikbReturn p s
  | .evtOccurrence p input => Sys2Proof.Machine.execEvtOccurrence p input s
  | .tapBeat p n b => Sys2Proof.Machine.execTapBeat p n b s
  | .tileTimeout p n tag => Sys2Proof.Machine.execTileTimeout p n tag s
  | .tileCheckDone p n tag => Sys2Proof.Machine.execTileCheckDone p n tag s
  | .redundancyNoPair p n tag => Sys2Proof.Machine.execRedundancyNoPair p n tag s
  | .traceRetire p n r => Sys2Proof.Machine.execTraceRetire p n r s
  | .trcSleepRise p n => Sys2Proof.Machine.execTrcSleepRise p n s
  | .trcSleepFall p n => Sys2Proof.Machine.execTrcSleepFall p n s
  | .xrxDigest p port dir digest gap parity => Sys2Proof.Machine.execXrxDigest p port dir digest gap parity s
  | .senseConversion p r vcode icode => Sys2Proof.Machine.execSenseConversion p r vcode icode s
  | .govHardRelease p => Sys2Proof.Machine.execGovHardRelease p s
  | .thermSample p site code parity => Sys2Proof.Machine.execThermSample p site code parity s
  | .thermSiteStale p site => Sys2Proof.Machine.execThermSiteStale p site s
  | .govAckRise p => Sys2Proof.Machine.execGovAckRise p s
  | .govAckFall p => Sys2Proof.Machine.execGovAckFall p s
  | .govAckTimeout p => Sys2Proof.Machine.execGovAckTimeout p s
  | .govAckAbort p => Sys2Proof.Machine.execGovAckAbort p s
  | .avsAckRise p slaveAck err rdata => Sys2Proof.Machine.execAvsAckRise p slaveAck err rdata s
  | .avsTimeout p => Sys2Proof.Machine.execAvsTimeout p s
  | .railPgRise p rails => Sys2Proof.Machine.execRailPgRise p rails s
  | .railPgFall p r => Sys2Proof.Machine.execRailPgFall p r s
  | .markerStepBegin p m => Sys2Proof.Machine.execMarkerStepBegin p m s
  | .markerStepEnd p m => Sys2Proof.Machine.execMarkerStepEnd p m s
  | .markerPhase p m => Sys2Proof.Machine.execMarkerPhase p m s
  | .markerCkptBegin p m => Sys2Proof.Machine.execMarkerCkptBegin p m s
  | .markerCkptEnd p m => Sys2Proof.Machine.execMarkerCkptEnd p m s
  | .poisonIndication p kind unit gen parity full => Sys2Proof.Machine.execPoisonIndication p kind unit gen parity full s
  | .refclkWindow p count => Sys2Proof.Machine.execRefclkWindow p count s
  | .nwRecalibrate p trim => Sys2Proof.Machine.execNwRecalibrate p trim s
  | .xtalQualified d => Sys2Proof.Machine.execXtalQualified d s
  | .pllLock u => Sys2Proof.Machine.execPllLock u s
  | .sourceLoss u row => Sys2Proof.Machine.execSourceLoss u row s
  | .sourceRecovery u => Sys2Proof.Machine.execSourceRecovery u s
  | .clkDomSrcWrite u value => Sys2Proof.Machine.execClkDomSrcWrite u value s
  | .clkSwitchDone u => Sys2Proof.Machine.execClkSwitchDone u s
  | .clkBlkEnWrite u k value => Sys2Proof.Machine.execClkBlkEnWrite u k value s
  | .lensDivWrite d value => Sys2Proof.Machine.execLensDivWrite d value s
  | .domainIdleStop u dom => Sys2Proof.Machine.execDomainIdleStop u dom s
  | .domainWake u dom cause => Sys2Proof.Machine.execDomainWake u dom cause s
  | .pllIdleOff u => Sys2Proof.Machine.execPllIdleOff u s
  | .vikbOffReq p => Sys2Proof.Machine.execVikbOffReq p s
  | .powerDownEntryDone p => Sys2Proof.Machine.execPowerDownEntryDone p s
  | .modeArm => Sys2Proof.Machine.execModeArm s
  | .modeCancel => Sys2Proof.Machine.execModeCancel s
  | .modeLaunch => Sys2Proof.Machine.execModeLaunch s
  | .modeTransitionDone => Sys2Proof.Machine.execModeTransitionDone s
  | .midnightBufferFlush d => Sys2Proof.Machine.execMidnightBufferFlush d s
  | .healthBufferFlush d => Sys2Proof.Machine.execHealthBufferFlush d s
  | .thermConversion d sites => Sys2Proof.Machine.execThermConversion d sites s
  | .dramSupplyFall d => Sys2Proof.Machine.execDramSupplyFall d s
  | .selfRefreshBreak d => Sys2Proof.Machine.execSelfRefreshBreak d s
  | .addendCommit u r hi => Sys2Proof.Machine.execAddendCommit u r hi s
  | .timeNowCapture u r => Sys2Proof.Machine.execTimeNowCapture u r s
  | .timeStepWrite u step => Sys2Proof.Machine.execTimeStepWrite u step s
  | .offsetInWrite d sample => Sys2Proof.Machine.execOffsetInWrite d sample s
  | .parentTimeout u => Sys2Proof.Machine.execParentTimeout u s
  | .timeReacquire u => Sys2Proof.Machine.execTimeReacquire u s
  | .tsyncSend d => Sys2Proof.Machine.execTsyncSend d s
  | .tsyncReceive p f => Sys2Proof.Machine.execTsyncReceive p f s
  | .echoReceive p seq valid lock t3 => Sys2Proof.Machine.execEchoReceive p seq valid lock t3 s
  | .ptpMessageReceive port m => Sys2Proof.Machine.execPtpMessageReceive port m s
  | .announceTimeout d => Sys2Proof.Machine.execAnnounceTimeout d s
  | .merSetWrite d ticks => Sys2Proof.Machine.execMerSetWrite d ticks s
  | .meridianFrame port tick frac delay => Sys2Proof.Machine.execMeridianFrame port tick frac delay s
  | .launchArm u r slot => Sys2Proof.Machine.execLaunchArm u r slot s
  | .launchDisarm u slot => Sys2Proof.Machine.execLaunchDisarm u slot s
  | .launchFire u slot => Sys2Proof.Machine.execLaunchFire u slot s
  | .launchMark u markId late => Sys2Proof.Machine.execLaunchMark u markId late s
  | .launchPulse p line => Sys2Proof.Machine.execLaunchPulse p line s
  | .pulseEnd p line => Sys2Proof.Machine.execPulseEnd p line s
  | .launchGovStep p entry => Sys2Proof.Machine.execLaunchGovStep p entry s
  | .launchAbftCheck p desc => Sys2Proof.Machine.execLaunchAbftCheck p desc s
  | .launchPrism u arg => Sys2Proof.Machine.execLaunchPrism u arg s
  | .launchMode p mode => Sys2Proof.Machine.execLaunchMode p mode s
  | .launchModelSwap d m base instant => Sys2Proof.Machine.execLaunchModelSwap d m base instant s
  | .launchNotify u slot => Sys2Proof.Machine.execLaunchNotify u slot s
  | .bankClear p b => Sys2Proof.Machine.execBankClear p b s
  | .snapGenerator p => Sys2Proof.Machine.execSnapGenerator p s
  | .snapReadoutDone p => Sys2Proof.Machine.execSnapReadoutDone p s
  | .keyframeNow p => Sys2Proof.Machine.execKeyframeNow p s
  | .traceRecordClose p n => Sys2Proof.Machine.execTraceRecordClose p n s
  | .branchMapTimeout p n => Sys2Proof.Machine.execBranchMapTimeout p n s
  | .traceSyncNow p => Sys2Proof.Machine.execTraceSyncNow p s
  | .traceAuthWrite p value secure => Sys2Proof.Machine.execTraceAuthWrite p value secure s
  | .traceSampleWindow p n => Sys2Proof.Machine.execTraceSampleWindow p n s
  | .watchReportForm p => Sys2Proof.Machine.execWatchReportForm p s
  | .abftModeWrite p value => Sys2Proof.Machine.execAbftModeWrite p value s
  | .poisonClearAll p => Sys2Proof.Machine.execPoisonClearAll p s
  | .ifcPendingWrite p value => Sys2Proof.Machine.execIfcPendingWrite p value s
  | .ifcExpectWrite p k digest => Sys2Proof.Machine.execIfcExpectWrite p k digest s
  | .ifcDeadline p => Sys2Proof.Machine.execIfcDeadline p s
  | .ifcWaitExpiry p => Sys2Proof.Machine.execIfcWaitExpiry p s
  | .ifcTimeout p => Sys2Proof.Machine.execIfcTimeout p s
  | .govEpoch p => Sys2Proof.Machine.execGovEpoch p s
  | .breakPersist p => Sys2Proof.Machine.execBreakPersist p s
  | .breakClose p => Sys2Proof.Machine.execBreakClose p s
  | .raiseHoldExpiry p => Sys2Proof.Machine.execRaiseHoldExpiry p s
  | .govPersistAtRoot job index => Sys2Proof.Machine.execGovPersistAtRoot job index s
  | .optabWrite p r e w value => Sys2Proof.Machine.execOptabWrite p r e w value s
  | .adcOffsetCal p r voltage current => Sys2Proof.Machine.execAdcOffsetCal p r voltage current s
  | .ltlHello p toIkb lanes known => Sys2Proof.Machine.execLtlHello p toIkb lanes known s
  | .ltlCredit p toIkb totals => Sys2Proof.Machine.execLtlCredit p toIkb totals s
  | .creditSend p fromIkb => Sys2Proof.Machine.execCreditSend p fromIkb s
  | .ltlStatus p last irq => Sys2Proof.Machine.execLtlStatus p last irq s
  | .statusSend p => Sys2Proof.Machine.execStatusSend p s
  | .ltlAck p cls fseq => Sys2Proof.Machine.execLtlAck p cls fseq s
  | .ltlResend p seq => Sys2Proof.Machine.execLtlResend p seq s
  | .ltlRingLost p oldest => Sys2Proof.Machine.execLtlRingLost p oldest s
  | .resendRepeat p => Sys2Proof.Machine.execResendRepeat p s
  | .ltlLevelCmd p level => Sys2Proof.Machine.execLtlLevelCmd p level s
  | .ltlKeyframeReq p => Sys2Proof.Machine.execLtlKeyframeReq p s
  | .ltlMode p mode => Sys2Proof.Machine.execLtlMode p mode s
  | .ltlIrqState p levels => Sys2Proof.Machine.execLtlIrqState p levels s
  | .ltlWidth p toIkb lanes codeword => Sys2Proof.Machine.execLtlWidth p toIkb lanes codeword s
  | .widthChangePoint p lat => Sys2Proof.Machine.execWidthChangePoint p lat s
  | .ltlGoodbye p reason => Sys2Proof.Machine.execLtlGoodbye p reason s
  | .ltlGovReport p fseq body => Sys2Proof.Machine.execLtlGovReport p fseq body s
  | .govReportRepeat p => Sys2Proof.Machine.execGovReportRepeat p s
  | .ltlJobIdx p idx apply => Sys2Proof.Machine.execLtlJobIdx p idx apply s
  | .ltlEvents p recs bad => Sys2Proof.Machine.execLtlEvents p recs bad s
  | .ltlHealth p body => Sys2Proof.Machine.execLtlHealth p body s
  | .ltlProxyReq p tag write wide addr data => Sys2Proof.Machine.execLtlProxyReq p tag write wide addr data s
  | .ltlProxyRsp p tag err data => Sys2Proof.Machine.execLtlProxyRsp p tag err data s
  | .ltlProxyWait p tag => Sys2Proof.Machine.execLtlProxyWait p tag s
  | .proxyTimeout p => Sys2Proof.Machine.execProxyTimeout p s
  | .ltlWatchReport p body => Sys2Proof.Machine.execLtlWatchReport p body s
  | .ltlTagRecords p body => Sys2Proof.Machine.execLtlTagRecords p body s
  | .ltlSnapshot p body => Sys2Proof.Machine.execLtlSnapshot p body s
  | .ltlTraceRecord p body => Sys2Proof.Machine.execLtlTraceRecord p body s
  | .ltlLoad p off bytes => Sys2Proof.Machine.execLtlLoad p off bytes s
  | .linkDown p atIkb => Sys2Proof.Machine.execLinkDown p atIkb s
  | .trainingStateDone p lanes lat => Sys2Proof.Machine.execTrainingStateDone p lanes lat s
  | .trainingTimeout p => Sys2Proof.Machine.execTrainingTimeout p s
  | .linkUp p => Sys2Proof.Machine.execLinkUp p s
  | .laneFail p lane lat => Sys2Proof.Machine.execLaneFail p lane lat s
  | .lowPowerIdleEntry p => Sys2Proof.Machine.execLowPowerIdleEntry p s
  | .linkRefresh p => Sys2Proof.Machine.execLinkRefresh p s
  | .linkShedEval p => Sys2Proof.Machine.execLinkShedEval p s
  | .ltlRetrain p atIkb => Sys2Proof.Machine.execLtlRetrain p atIkb s
  | .forceOneLaneWrite p atIkb value => Sys2Proof.Machine.execForceOneLaneWrite p atIkb value s
  | .prismRuleArm u rule => Sys2Proof.Machine.execPrismRuleArm u rule s
  | .prismRuleDisarm u rule => Sys2Proof.Machine.execPrismRuleDisarm u rule s
  | .prismHalt u => Sys2Proof.Machine.execPrismHalt u s
  | .prismReorderRelease u => Sys2Proof.Machine.execPrismReorderRelease u s
  | .prismWindowEnd u rule => Sys2Proof.Machine.execPrismWindowEnd u rule s
  | .d2dLinkDown d k => Sys2Proof.Machine.execD2dLinkDown d k s
  | .d2dRetrainDone d k => Sys2Proof.Machine.execD2dRetrainDone d k s
  | .electionClose straps failed => Sys2Proof.Machine.execElectionClose straps failed s
  | .diePathLoss d => Sys2Proof.Machine.execDiePathLoss d s
  | .dramReadError d addr cls unc check link owner kind => Sys2Proof.Machine.execDramReadError d addr cls unc check link owner kind s
  | .dramBwCapWrite d k value => Sys2Proof.Machine.execDramBwCapWrite d k value s
  | .elsOutputLoss P => Sys2Proof.Machine.execElsOutputLoss P s
  | .elsSwapPrep d value => Sys2Proof.Machine.execElsSwapPrep d value s
  | .ringLockLoss d lane => Sys2Proof.Machine.execRingLockLoss d lane s
  | .optSweepStart d lanes => Sys2Proof.Machine.execOptSweepStart d lanes s
  | .optSweepDone d lane heater => Sys2Proof.Machine.execOptSweepDone d lane heater s
  | .optLaneFail P lane => Sys2Proof.Machine.execOptLaneFail P lane s
  | .portRoleStage P value => Sys2Proof.Machine.execPortRoleStage P value s
  | .peerIdSend P => Sys2Proof.Machine.execPeerIdSend P s
  | .peerIdReceive P tray coord size => Sys2Proof.Machine.execPeerIdReceive P tray coord size s
  | .peerIdTimeout P => Sys2Proof.Machine.execPeerIdTimeout P s
  | .bar2BaseWrite value => Sys2Proof.Machine.execBar2BaseWrite value s
  | .bar2Access write addr len data poisoned => Sys2Proof.Machine.execBar2Access write addr len data poisoned s
  | .pcieFlr => Sys2Proof.Machine.execPcieFlr s
  | .ctxRead d => Sys2Proof.Machine.execCtxRead d s
  | .ctxWrite d => Sys2Proof.Machine.execCtxWrite d s
  | .ctxPin d => Sys2Proof.Machine.execCtxPin d s
  | .ctxUnpin d => Sys2Proof.Machine.execCtxUnpin d s
  | .ctxReopenCmd d => Sys2Proof.Machine.execCtxReopenCmd d s
  | .ctxClose d => Sys2Proof.Machine.execCtxClose d s
  | .ctxLookup d => Sys2Proof.Machine.execCtxLookup d s
  | .ctxReopenTimer d slot => Sys2Proof.Machine.execCtxReopenTimer d slot s
  | .ctxDrainDone d slot => Sys2Proof.Machine.execCtxDrainDone d slot s
  | .ctxMigrationDone d slot => Sys2Proof.Machine.execCtxMigrationDone d slot s
  | .dramSeedSweepDone d => Sys2Proof.Machine.execDramSeedSweepDone d s
  | .imbalanceCheck moved => Sys2Proof.Machine.execImbalanceCheck moved s
  | .ctxFrameAccept d slot pre bytes port body => Sys2Proof.Machine.execCtxFrameAccept d slot pre bytes port body s
  | .policeWrite d off value => Sys2Proof.Machine.execPoliceWrite d off value s
  | .levelUpCheck d => Sys2Proof.Machine.execLevelUpCheck d s
  | .levelDownCheck d => Sys2Proof.Machine.execLevelDownCheck d s
  | .egressEnqueue P q frame => Sys2Proof.Machine.execEgressEnqueue P q frame s
  | .egressTransmit P => Sys2Proof.Machine.execEgressTransmit P s
  | .opticalCreditSend P => Sys2Proof.Machine.execOpticalCreditSend P s
  | .opticalCreditReceive P totals => Sys2Proof.Machine.execOpticalCreditReceive P totals s
  | .transitWaitTimeout P => Sys2Proof.Machine.execTransitWaitTimeout P s
  | .resultDeadlineDiscard P => Sys2Proof.Machine.execResultDeadlineDiscard P s
  | .codecRowTake d => Sys2Proof.Machine.execCodecRowTake d s
  | .codecBlockTimeout d slot => Sys2Proof.Machine.execCodecBlockTimeout d slot s
  | .codecBlockDone d slot => Sys2Proof.Machine.execCodecBlockDone d slot s
  | .codecRingTailWrite d value => Sys2Proof.Machine.execCodecRingTailWrite d value s
  | .codecEncode d => Sys2Proof.Machine.execCodecEncode d s
  | .codecDecode d => Sys2Proof.Machine.execCodecDecode d s
  | .codecSave d => Sys2Proof.Machine.execCodecSave d s
  | .codecRestore d => Sys2Proof.Machine.execCodecRestore d s
  | .codecTableWrite d k word value => Sys2Proof.Machine.execCodecTableWrite d k word value s
  | .codecConfigWrite d off value => Sys2Proof.Machine.execCodecConfigWrite d off value s
  | .mergeContribution p source tag sub value flags => Sys2Proof.Machine.execMergeContribution p source tag sub value flags s
  | .mergePartialReceive d frame => Sys2Proof.Machine.execMergePartialReceive d frame s
  | .mergeForwardInstant d slot => Sys2Proof.Machine.execMergeForwardInstant d slot s
  | .mergeRootFinalise d slot => Sys2Proof.Machine.execMergeRootFinalise d slot s
  | .mergeResultDown d frame => Sys2Proof.Machine.execMergeResultDown d frame s
  | .mergeLingerEnd d slot => Sys2Proof.Machine.execMergeLingerEnd d slot s
  | .jsStart job => Sys2Proof.Machine.execJsStart job s
  | .jsEnd job => Sys2Proof.Machine.execJsEnd job s
  | .bcastStartReceive sender bid cfg => Sys2Proof.Machine.execBcastStartReceive sender bid cfg s
  | .bcastCommitReceive sender bid instant => Sys2Proof.Machine.execBcastCommitReceive sender bid instant s
  | .bcastAbortReceive sender bid => Sys2Proof.Machine.execBcastAbortReceive sender bid s
  | .bcastEndReceive sender bid instant => Sys2Proof.Machine.execBcastEndReceive sender bid instant s
  | .bcastAckReceive sender bid kind => Sys2Proof.Machine.execBcastAckReceive sender bid kind s
  | .bcastHopTimeout bid kind child => Sys2Proof.Machine.execBcastHopTimeout bid kind child s
  | .jsReportReceive sender bid kind status dieIndex acks => Sys2Proof.Machine.execJsReportReceive sender bid kind status dieIndex acks s
  | .jsDeadline job => Sys2Proof.Machine.execJsDeadline job s
  | .jsCommitCheck job => Sys2Proof.Machine.execJsCommitCheck job s
  | .jsStagedExpiry bid => Sys2Proof.Machine.execJsStagedExpiry bid s
  | .jsEndRepeat job => Sys2Proof.Machine.execJsEndRepeat job s
  | .featBindingWrite d k off value => Sys2Proof.Machine.execFeatBindingWrite d k off value s
  | .lensLoad d => Sys2Proof.Machine.execLensLoad d s
  | .lensLoadDone d => Sys2Proof.Machine.execLensLoadDone d s
  | .lensBatchTimeout d m => Sys2Proof.Machine.execLensBatchTimeout d m s
  | .lensBatchScored d => Sys2Proof.Machine.execLensBatchScored d s
  | .lensLingerEnd d m => Sys2Proof.Machine.execLensLingerEnd d m s
  | .lensExportFlush d => Sys2Proof.Machine.execLensExportFlush d s
  | .driftRead d => Sys2Proof.Machine.execDriftRead d s
  | .driftWrite d => Sys2Proof.Machine.execDriftWrite d s
  | .driftReset d => Sys2Proof.Machine.execDriftReset d s
  | .pageError u b code sev info => Sys2Proof.Machine.execPageError u b code sev info s
  | .fatalWarmStart p => Sys2Proof.Machine.execFatalWarmStart p s
  | .channelFault u k cause unrec => Sys2Proof.Machine.execChannelFault u k cause unrec s
  | .channelRetry u k ok => Sys2Proof.Machine.execChannelRetry u k ok s
  | .channelFailedRetry u k ok => Sys2Proof.Machine.execChannelFailedRetry u k ok s
  | .rasRetire u k => Sys2Proof.Machine.execRasRetire u k s
  | .rasCondDone u k => Sys2Proof.Machine.execRasCondDone u k s
  | .rasClear u k => Sys2Proof.Machine.execRasClear u k s
  | .rasPreload u k => Sys2Proof.Machine.execRasPreload u k s
  | .evrSummary u => Sys2Proof.Machine.execEvrSummary u s
  | .evrClear u => Sys2Proof.Machine.execEvrClear u s
  | .evrBktCfgWrite u value => Sys2Proof.Machine.execEvrBktCfgWrite u value s
  | .bbxPageFlush => Sys2Proof.Machine.execBbxPageFlush s
  | .bbxFlush d => Sys2Proof.Machine.execBbxFlush d s
  | .bbxPageProgrammed => Sys2Proof.Machine.execBbxPageProgrammed s
  | .bbxOverrunSecond => Sys2Proof.Machine.execBbxOverrunSecond s
  | .bbxCommitNow d => Sys2Proof.Machine.execBbxCommitNow d s
  | .lastGaspDone => Sys2Proof.Machine.execLastGaspDone s
  | .wdogKick u => Sys2Proof.Machine.execWdogKick u s
  | .wdogCtrlWrite u r value => Sys2Proof.Machine.execWdogCtrlWrite u r value s
  | .wdogWarn u => Sys2Proof.Machine.execWdogWarn u s
  | .wdogExpire u => Sys2Proof.Machine.execWdogExpire u s
  | .nvmRead d => Sys2Proof.Machine.execNvmRead d s
  | .nvmProgram d => Sys2Proof.Machine.execNvmProgram d s
  | .nvmErase d => Sys2Proof.Machine.execNvmErase d s
  | .nvmCmdDone ok lost => Sys2Proof.Machine.execNvmCmdDone ok lost s
  | .coreStart u c => Sys2Proof.Machine.execCoreStart u c s
  | .coreHalt u r c => Sys2Proof.Machine.execCoreHalt u r c s
  | .corePowerOff u c => Sys2Proof.Machine.execCorePowerOff u c s
  | .corePowerOn u c => Sys2Proof.Machine.execCorePowerOn u c s
  | .corePromote d => Sys2Proof.Machine.execCorePromote d s
  | .coreMemAccess u r write value => Sys2Proof.Machine.execCoreMemAccess u r write value s
  | .mboxSend u r m => Sys2Proof.Machine.execMboxSend u r m s
  | .mboxPop u m => Sys2Proof.Machine.execMboxPop u m s
  | .authVerify u => Sys2Proof.Machine.execAuthVerify u s
  | .authVerifyDone u => Sys2Proof.Machine.execAuthVerifyDone u s
  | .authSubmit u => Sys2Proof.Machine.execAuthSubmit u s
  | .authRevoke u => Sys2Proof.Machine.execAuthRevoke u s
  | .grantExpiry u => Sys2Proof.Machine.execGrantExpiry u s
  | .bgWindow u c cycles busy bg => Sys2Proof.Machine.execBgWindow u c cycles busy bg s
  | .sramScrubError u kind core data addr => Sys2Proof.Machine.execSramScrubError u kind core data addr s
  | .patrolPass d done => Sys2Proof.Machine.execPatrolPass d done s
  | .scrubRecal d channel => Sys2Proof.Machine.execScrubRecal d channel s
  | .adcBgRecal p channel => Sys2Proof.Machine.execAdcBgRecal p channel s
  | .busLow code => Sys2Proof.Machine.execBusLow code s
  | .busRestored code => Sys2Proof.Machine.execBusRestored code s
  | .busOv code => Sys2Proof.Machine.execBusOv code s
  | .hsFault cause code => Sys2Proof.Machine.execHsFault cause code s
  | .hsInsertion => Sys2Proof.Machine.execHsInsertion s
  | .hsRetry => Sys2Proof.Machine.execHsRetry s
  | .hsOffOpen => Sys2Proof.Machine.execHsOffOpen s
  | .hsOnAfter => Sys2Proof.Machine.execHsOnAfter s
  | .busCaptureFreeze pairs => Sys2Proof.Machine.execBusCaptureFreeze pairs s
  | .alarmSample levels => Sys2Proof.Machine.execAlarmSample levels s
  | .alarmStuck k => Sys2Proof.Machine.execAlarmStuck k s
  | .alarmChatter => Sys2Proof.Machine.execAlarmChatter s
  | .fieldSuppressed => Sys2Proof.Machine.execFieldSuppressed s
  | .rtdSample k t => Sys2Proof.Machine.execRtdSample k t s
  | .fanTach k rpm => Sys2Proof.Machine.execFanTach k rpm s
  | .fieldWatchdogExpiry => Sys2Proof.Machine.execFieldWatchdogExpiry s
  | .barrierHello toField f => Sys2Proof.Machine.execBarrierHello toField f s
  | .barrierHeartbeat toField f => Sys2Proof.Machine.execBarrierHeartbeat toField f s
  | .barrierAlarm f => Sys2Proof.Machine.execBarrierAlarm f s
  | .barrierSense f => Sys2Proof.Machine.execBarrierSense f s
  | .barrierEvent f => Sys2Proof.Machine.execBarrierEvent f s
  | .barrierCfgEcho f => Sys2Proof.Machine.execBarrierCfgEcho f s
  | .barrierMramData f => Sys2Proof.Machine.execBarrierMramData f s
  | .barrierCmdDone f => Sys2Proof.Machine.execBarrierCmdDone f s
  | .barrierCfgWriteFrame f => Sys2Proof.Machine.execBarrierCfgWriteFrame f s
  | .barrierTime f => Sys2Proof.Machine.execBarrierTime f s
  | .barrierFwLoad f => Sys2Proof.Machine.execBarrierFwLoad f s
  | .barrierResendTimer atField => Sys2Proof.Machine.execBarrierResendTimer atField s
  | .barrierSilence atField => Sys2Proof.Machine.execBarrierSilence atField s
  | .barrierHelloTimer atField => Sys2Proof.Machine.execBarrierHelloTimer atField s
  | .barrierPeriodicSend x => Sys2Proof.Machine.execBarrierPeriodicSend x s
  | .barrierFWrite off value => Sys2Proof.Machine.execBarrierFWrite off value s
  | .barrierRearm f => Sys2Proof.Machine.execBarrierRearm f s
  | .barrierMramRead f => Sys2Proof.Machine.execBarrierMramRead f s
  | .barrierMramClear f => Sys2Proof.Machine.execBarrierMramClear f s
  | .barrierHsOff f => Sys2Proof.Machine.execBarrierHsOff f s
  | .barrierFwStart f => Sys2Proof.Machine.execBarrierFwStart f s
  | .barrierCmdTimeout => Sys2Proof.Machine.execBarrierCmdTimeout s
  | .startWarm r key => Sys2Proof.Machine.execStartWarm r key s
  | .startCold key => Sys2Proof.Machine.execStartCold key s
  | .hostPowerUp => Sys2Proof.Machine.execHostPowerUp s
  | .pciePerst => Sys2Proof.Machine.execPciePerst s
  | .packageStartDone nor training chans => Sys2Proof.Machine.execPackageStartDone nor training chans s
  | .warmRunExpiry => Sys2Proof.Machine.execWarmRunExpiry s
  | .torusCoordWrite d r xyz tray => Sys2Proof.Machine.execTorusCoordWrite d r xyz tray s
  | .avsAckFall p => Sys2Proof.Machine.execAvsAckFall p s
  | .uncorrectableCodeword p toIkb crc frames => Sys2Proof.Machine.execUncorrectableCodeword p toIkb crc frames s
  | .opticalLinkDown P => Sys2Proof.Machine.execOpticalLinkDown P s
  | .opticalLinkUp P lanes => Sys2Proof.Machine.execOpticalLinkUp P lanes s
  | .elsOutputRestored P => Sys2Proof.Machine.execElsOutputRestored P s
  | .hostSupplyFall => Sys2Proof.Machine.execHostSupplyFall s
  | .fieldSideReset watchdog => Sys2Proof.Machine.execFieldSideReset watchdog s
  | .ikbLoadRetry p => Sys2Proof.Machine.execIkbLoadRetry p s
  | .startStepTimeout d step => Sys2Proof.Machine.execStartStepTimeout d step s
  | .packageFatalTimeout d => Sys2Proof.Machine.execPackageFatalTimeout d s

end Sys2Proof.Machine
end

