-- ==== Sys2Proof/Machine/Tick.lean ====
section
/-! DEFINITION. What passes when no command waits: 20 ns, the interval after which the clocks of both parts that keep
time coincide (spec 04 R113, R115). Clocks and Meridian counters advance; nothing else happens without a command. -/

namespace Sys2Proof.Machine

/-- Whether an IKB's LTC advances: IKB_REFCLK qualified and not lost (spec 03 R80, spec 04 Table 4.6). -/
def State.ikbTimeRuns (s : State) (p : Nat) : Bool :=
  s.on (.ikb p) clkISrcStatRefReady && !s.on (.ikb p) ltcStopped

/-- 20 ns of one W-die: one LTC step, one Meridian step, a LENS division that falls due. -/
def State.tickWdie (s : State) (d : Nat) : State :=
  let u := Chip.wdie d
  let s1 := s.setLtc u (ltcStep (s.ltcOf u) (s.addend u))
  let m := s1.merOf u
  let s2 := if m.set then s1.setMer u { m with value := (m.value + m.rate) % 2 ^ 104 } else s1
  if s2.rd u lensDivAt ≠ 0 && s2.rd u lensDivAt ≤ s2.now then
    (s2.wr u lensDivNow (s2.rd u clkWLensDivDiv8)).wr u lensDivAt 0
  else s2

/-- 20 ns of one IKB, whose time stands still without IKB_REFCLK. -/
def State.tickIkb (s : State) (p : Nat) : State :=
  let u := Chip.ikb p
  if s.ikbTimeRuns p then
    let s1 := s.setLtc u (ltcTickIkb (s.bit u clkIDomRunRun 2) (s.addend u) (s.ltcOf u))
    let m := s1.merOf u
    if m.set then s1.setMer u { m with value := (m.value + m.rate) % 2 ^ 104 } else s1
  else s

/-- 20 ns of the tray. -/
def State.tick (s : State) : State :=
  let s1 := { s with now := s.now + 20 }
  let s2 := (List.range s.dies).foldl (fun t d => t.tickWdie d) s1
  (List.range (8 * s.dies)).foldl (fun t p => t.tickIkb p) s2

end Sys2Proof.Machine
end

