-- ==== Sys2Proof/WellFormed.lean ====
section
/-! DEFINITION. The well-formed commands of a tray of a given size: every operand names a part, page, port, slot or
element that the spec gives the tray, and every word and code fits its width. -/

namespace Sys2Proof

open Machine (pagesOf slotCount ruleCount domCount)

/-- A package LTL port, a W-die, a package optical port of the tray (spec 00 Table 0.1, spec 10 R303). -/
def portOk (z : PkgSize) (p : Nat) : Bool := decide (p < 8 * z.dies)
def dieOk (z : PkgSize) (d : Nat) : Bool := decide (d < z.dies)
def optOk (z : PkgSize) (P : Nat) : Bool := decide (P < 2 * z.dies)

/-- A part with blocks of its own: a W-die or an IKB. -/
def partOk (z : PkgSize) : Chip → Bool
  | .wdie d => dieOk z d
  | .ikb p => portOk z p
  | .pkg => false

/-- A page of a window (spec 02 Tables 2.9 to 2.11, R70). -/
def pageOk (z : PkgSize) (u : Chip) (b : Blk) : Bool :=
  (match u with
   | .pkg => true
   | u => partOk z u) && (pagesOf u).contains b

/-- A requester of a window: of an IKB the register port, the LTL proxy and two cores; of a W-die or the package PCIe,
eight dies and four cores (spec 02 R57, spec 16 Table 16.2). -/
def requesterOk (u : Chip) (r : Nat) : Bool := decide (r < if u.isIkb then 4 else 13)

/-- A control core of a part (spec 16 Table 16.1). -/
def coreOk (u : Chip) (c : Nat) : Bool := decide (c < if u.isIkb then 2 else 4)

/-- A channel of a part (spec 15 Table 15.2). -/
def chanOk (u : Chip) (k : Nat) : Bool :=
  if u.isIkb then decide (k < 8) || (decide (0x10 ≤ k) && decide (k < 0x30))
  else decide (k < 10) || (decide (0x10 ≤ k) && decide (k < 0x18))

/-- The fields of a beat within their widths (spec 03 Table 3.5). -/
def beatOk (b : Beat) : Bool :=
  decide (b.kind < 4) && decide (b.fmt < 8) && decide (b.tag < 16777216) && decide (b.gen < 65536)

/-- Whether a command is well formed in a tray of size `z`. -/
def Instr.wf (z : PkgSize) (i : Instr) : Bool :=
  match i with
  | .pkgrouteAdd => true
  | .pkgrouteRemove => true
  | .pkgrouteLookup => true
  | .pkgrouteDiscardStaged => true
  | .pkgrouteRewrite => true
  | .tableSwapRoute => true
  | .tableSwapPorts d => dieOk z d
  | .tableSwapCtxSeed d => dieOk z d
  | .tableSwapDramSeed d _ => dieOk z d
  | .tableSwapCodec d _ => dieOk z d
  | .fabricFrameIngress d _ _ _ _ q _ => dieOk z d && decide (q < 8)
  | .fabricFrameArrival P inq _ _ => optOk z P && decide (inq < 8)
  | .fabricFrameReroute P q => optOk z P && decide (q < 8)
  | .spineFrameReceive P _ _ => optOk z P
  | .reorderWindowClose _ _ => true
  | .spineFlowClose _ _ => true
  | .flowIdFree d id => dieOk z d && decide (id < 8192)
  | .noticeRepeat _ => true
  | .noticeAck _ _ => true
  | .mirrorFrame P switch _ _ => optOk z P && decide (switch < 65536)
  | .mirrorSampleRelease => true
  | .softReset u b r => pageOk z u b && requesterOk u r
  | .softResetDone u b => pageOk z u b
  | .errClear u b => pageOk z u b
  | .lockSet u b => pageOk z u b
  | .freezeWrite u b value => pageOk z u b && decide (value < 4294967296)
  | .rcRead u b off r => pageOk z u b && decide (off < 4096) && decide (off % 4 = 0) && requesterOk u r
  | .intForce u b value => pageOk z u b && decide (value < 4294967296)
  | .intRawClear u b value => pageOk z u b && decide (value < 4294967296)
  | .msixUnmask _ => true
  | .lowWordRead u b off r => pageOk z u b && decide (off < 4096) && decide (off % 4 = 0) && requesterOk u r
  | .highWordRead u b off r => pageOk z u b && decide (off < 4096) && decide (off % 4 = 0) && requesterOk u r
  | .lowWordWrite u b off r value => pageOk z u b && decide (off < 4096) && decide (off % 4 = 0) && requesterOk u r && decide (value < 4294967296)
  | .highWordWrite u b off r value => pageOk z u b && decide (off < 4096) && decide (off % 4 = 0) && requesterOk u r && decide (value < 4294967296)
  | .regPortRequest p addr _ be data _ _ _ => portOk z p && decide (addr < 262144) && decide (be < 16) && decide (data < 4294967296)
  | .pcieBar0Access _ _ _ _ => true
  | .proxyAccess p _ _ _ _ value => portOk z p && decide (value < 18446744073709551616)
  | .registerWrite u b off r value _ => pageOk z u b && decide (off < 4096) && decide (off % 4 = 0) && requesterOk u r && decide (value < 4294967296)
  | .ikbPorst p => portOk z p
  | .ikbRst p => portOk z p
  | .vikbPgFall p => portOk z p
  | .vikbReturn p => portOk z p
  | .evtOccurrence p input => portOk z p && decide (input < 1024)
  | .tapBeat p n b => portOk z p && decide (n < 16) && beatOk b
  | .tileTimeout p n tag => portOk z p && decide (n < 16) && decide (tag < 16777216)
  | .tileCheckDone p n tag => portOk z p && decide (n < 16) && decide (tag < 16777216)
  | .redundancyNoPair p n tag => portOk z p && decide (n < 16) && decide (tag < 16777216)
  | .traceRetire p n _ => portOk z p && decide (n < 64)
  | .trcSleepRise p n => portOk z p && decide (n < 64)
  | .trcSleepFall p n => portOk z p && decide (n < 64)
  | .xrxDigest p port dir _ _ _ => portOk z p && decide (port < 16) && decide (dir < 2)
  | .senseConversion p r _ _ => portOk z p && decide (r < 8)
  | .govHardRelease p => portOk z p
  | .thermSample p site code _ => portOk z p && decide (site < 64) && decide (code < 4096)
  | .thermSiteStale p site => portOk z p && decide (site < 64)
  | .govAckRise p => portOk z p
  | .govAckFall p => portOk z p
  | .govAckTimeout p => portOk z p
  | .govAckAbort p => portOk z p
  | .avsAckRise p slaveAck _ _ => portOk z p && decide (slaveAck < 4)
  | .avsTimeout p => portOk z p
  | .railPgRise p rails => portOk z p && decide (rails < 256)
  | .railPgFall p r => portOk z p && decide (r < 8)
  | .markerStepBegin p _ => portOk z p
  | .markerStepEnd p _ => portOk z p
  | .markerPhase p _ => portOk z p
  | .markerCkptBegin p _ => portOk z p
  | .markerCkptEnd p _ => portOk z p
  | .poisonIndication p _ _ _ _ _ => portOk z p
  | .refclkWindow p _ => portOk z p
  | .nwRecalibrate p _ => portOk z p
  | .xtalQualified d => dieOk z d
  | .pllLock u => partOk z u
  | .sourceLoss u row => partOk z u && decide (row < 5)
  | .sourceRecovery u => partOk z u
  | .clkDomSrcWrite u value => partOk z u && decide (value < 4294967296)
  | .clkSwitchDone u => partOk z u
  | .clkBlkEnWrite u k value => partOk z u && decide (k < if u.isIkb then 1 else 4) && decide (value < 4294967296)
  | .lensDivWrite d value => dieOk z d && decide (value < 4294967296)
  | .domainIdleStop u dom => partOk z u && decide (dom < domCount u)
  | .domainWake u dom _ => partOk z u && decide (dom < domCount u)
  | .pllIdleOff u => partOk z u
  | .vikbOffReq p => portOk z p
  | .powerDownEntryDone p => portOk z p
  | .modeArm => true
  | .modeCancel => true
  | .modeLaunch => true
  | .modeTransitionDone => true
  | .midnightBufferFlush d => dieOk z d
  | .healthBufferFlush d => dieOk z d
  | .thermConversion d _ => dieOk z d
  | .dramSupplyFall d => dieOk z d
  | .selfRefreshBreak d => dieOk z d
  | .addendCommit u r _ => partOk z u && requesterOk u r
  | .timeNowCapture u r => partOk z u && requesterOk u r
  | .timeStepWrite u _ => partOk z u
  | .offsetInWrite d _ => dieOk z d
  | .parentTimeout u => partOk z u
  | .timeReacquire u => partOk z u
  | .tsyncSend d => dieOk z d
  | .tsyncReceive p _ => portOk z p
  | .echoReceive p _ _ _ _ => portOk z p
  | .ptpMessageReceive port _ => optOk z port
  | .announceTimeout d => dieOk z d
  | .merSetWrite d _ => dieOk z d
  | .meridianFrame port _ _ _ => optOk z port
  | .launchArm u r slot => partOk z u && requesterOk u r && decide (slot < slotCount u)
  | .launchDisarm u slot => partOk z u && decide (slot < slotCount u)
  | .launchFire u slot => partOk z u && decide (slot < slotCount u)
  | .launchMark u _ _ => partOk z u
  | .launchPulse p line => portOk z p && decide (line < 4)
  | .pulseEnd p line => portOk z p && decide (line < 4)
  | .launchGovStep p entry => portOk z p && decide (entry < 32)
  | .launchAbftCheck p _ => portOk z p
  | .launchPrism u _ => partOk z u
  | .launchMode p mode => portOk z p && decide (mode < 4)
  | .launchModelSwap d m _ _ => dieOk z d && decide (m < 8)
  | .launchNotify u slot => partOk z u && decide (slot < slotCount u)
  | .bankClear p b => portOk z p && decide (b < 64)
  | .snapGenerator p => portOk z p
  | .snapReadoutDone p => portOk z p
  | .keyframeNow p => portOk z p
  | .traceRecordClose p n => portOk z p && decide (n < 64)
  | .branchMapTimeout p n => portOk z p && decide (n < 64)
  | .traceSyncNow p => portOk z p
  | .traceAuthWrite p value _ => portOk z p && decide (value < 4294967296)
  | .traceSampleWindow p n => portOk z p && decide (n < 64)
  | .watchReportForm p => portOk z p
  | .abftModeWrite p value => portOk z p && decide (value < 4294967296)
  | .poisonClearAll p => portOk z p
  | .ifcPendingWrite p value => portOk z p && decide (value < 4294967296)
  | .ifcExpectWrite p k digest => portOk z p && decide (k < 256) && decide (digest < 18446744073709551616)
  | .ifcDeadline p => portOk z p
  | .ifcWaitExpiry p => portOk z p
  | .ifcTimeout p => portOk z p
  | .govEpoch p => portOk z p
  | .breakPersist p => portOk z p
  | .breakClose p => portOk z p
  | .raiseHoldExpiry p => portOk z p
  | .govPersistAtRoot _ _ => true
  | .optabWrite p r e w value => portOk z p && requesterOk (.ikb p) r && decide (e < 32) && decide (w < 8) && decide (value < 4294967296)
  | .adcOffsetCal p r _ _ => portOk z p && decide (r < 8)
  | .ltlHello p _ _ _ => portOk z p
  | .ltlCredit p _ _ => portOk z p
  | .creditSend p _ => portOk z p
  | .ltlStatus p _ _ => portOk z p
  | .statusSend p => portOk z p
  | .ltlAck p cls _ => portOk z p && decide (cls < 8)
  | .ltlResend p _ => portOk z p
  | .ltlRingLost p _ => portOk z p
  | .resendRepeat p => portOk z p
  | .ltlLevelCmd p level => portOk z p && decide (level < 8)
  | .ltlKeyframeReq p => portOk z p
  | .ltlMode p mode => portOk z p && decide (mode < 4)
  | .ltlIrqState p levels => portOk z p && decide (levels < 16)
  | .ltlWidth p _ lanes _ => portOk z p && decide (1 ≤ lanes) && decide (lanes < 3)
  | .widthChangePoint p _ => portOk z p
  | .ltlGoodbye p _ => portOk z p
  | .ltlGovReport p _ _ => portOk z p
  | .govReportRepeat p => portOk z p
  | .ltlJobIdx p _ _ => portOk z p
  | .ltlEvents p _ _ => portOk z p
  | .ltlHealth p _ => portOk z p
  | .ltlProxyReq p _ _ _ _ _ => portOk z p
  | .ltlProxyRsp p _ _ _ => portOk z p
  | .ltlProxyWait p _ => portOk z p
  | .proxyTimeout p => portOk z p
  | .ltlWatchReport p _ => portOk z p
  | .ltlTagRecords p _ => portOk z p
  | .ltlSnapshot p _ => portOk z p
  | .ltlTraceRecord p _ => portOk z p
  | .ltlLoad p _ _ => portOk z p
  | .linkDown p _ => portOk z p
  | .trainingStateDone p lanes _ => portOk z p && decide (lanes < 3)
  | .trainingTimeout p => portOk z p
  | .linkUp p => portOk z p
  | .laneFail p lane _ => portOk z p && decide (lane < 2)
  | .lowPowerIdleEntry p => portOk z p
  | .linkRefresh p => portOk z p
  | .linkShedEval p => portOk z p
  | .ltlRetrain p _ => portOk z p
  | .forceOneLaneWrite p _ value => portOk z p && decide (value < 4294967296)
  | .prismRuleArm u rule => partOk z u && decide (rule < ruleCount u)
  | .prismRuleDisarm u rule => partOk z u && decide (rule < ruleCount u)
  | .prismHalt u => partOk z u
  | .prismReorderRelease u => partOk z u
  | .prismWindowEnd u rule => partOk z u && decide (rule < ruleCount u)
  | .d2dLinkDown d k => dieOk z d && decide (k < 3)
  | .d2dRetrainDone d k => dieOk z d && decide (k < 3)
  | .electionClose _ _ => true
  | .diePathLoss d => dieOk z d
  | .dramReadError d _ _ _ _ _ _ _ => dieOk z d
  | .dramBwCapWrite d k value => dieOk z d && decide (k < 6) && decide (value < 4294967296)
  | .elsOutputLoss P => optOk z P
  | .elsSwapPrep d value => dieOk z d && decide (value < 4294967296)
  | .ringLockLoss d lane => dieOk z d && decide (lane < 8)
  | .optSweepStart d lanes => dieOk z d && decide (lanes < 256)
  | .optSweepDone d lane _ => dieOk z d && decide (lane < 8)
  | .optLaneFail P lane => optOk z P && decide (lane < 4)
  | .portRoleStage P value => optOk z P && decide (value < 4294967296)
  | .peerIdSend P => optOk z P
  | .peerIdReceive P _ _ _ => optOk z P
  | .peerIdTimeout P => optOk z P
  | .bar2BaseWrite _ => true
  | .bar2Access _ _ _ _ _ => true
  | .pcieFlr => true
  | .ctxRead d => dieOk z d
  | .ctxWrite d => dieOk z d
  | .ctxPin d => dieOk z d
  | .ctxUnpin d => dieOk z d
  | .ctxReopenCmd d => dieOk z d
  | .ctxClose d => dieOk z d
  | .ctxLookup d => dieOk z d
  | .ctxReopenTimer d slot => dieOk z d && decide (slot < 512)
  | .ctxDrainDone d slot => dieOk z d && decide (slot < 512)
  | .ctxMigrationDone d slot => dieOk z d && decide (slot < 512)
  | .dramSeedSweepDone d => dieOk z d
  | .imbalanceCheck _ => true
  | .ctxFrameAccept d slot _ _ port _ => dieOk z d && decide (slot < 512) && port.all (portOk z)
  | .policeWrite d _ value => dieOk z d && decide (value < 4294967296)
  | .levelUpCheck d => dieOk z d
  | .levelDownCheck d => dieOk z d
  | .egressEnqueue P q _ => optOk z P && decide (q < 8)
  | .egressTransmit P => optOk z P
  | .opticalCreditSend P => optOk z P
  | .opticalCreditReceive P _ => optOk z P
  | .transitWaitTimeout P => optOk z P
  | .resultDeadlineDiscard P => optOk z P
  | .codecRowTake d => dieOk z d
  | .codecBlockTimeout d slot => dieOk z d && decide (slot < 512)
  | .codecBlockDone d slot => dieOk z d && decide (slot < 512)
  | .codecRingTailWrite d value => dieOk z d && decide (value < 4294967296)
  | .codecEncode d => dieOk z d
  | .codecDecode d => dieOk z d
  | .codecSave d => dieOk z d
  | .codecRestore d => dieOk z d
  | .codecTableWrite d _ _ value => dieOk z d && decide (value < 4294967296)
  | .codecConfigWrite d _ value => dieOk z d && decide (value < 4294967296)
  | .mergeContribution p _ _ _ value _ => portOk z p && decide (value < 18446744073709551616)
  | .mergePartialReceive d _ => dieOk z d
  | .mergeForwardInstant d _ => dieOk z d
  | .mergeRootFinalise d _ => dieOk z d
  | .mergeResultDown d _ => dieOk z d
  | .mergeLingerEnd d _ => dieOk z d
  | .jsStart _ => true
  | .jsEnd _ => true
  | .bcastStartReceive _ _ _ => true
  | .bcastCommitReceive _ _ _ => true
  | .bcastAbortReceive _ _ => true
  | .bcastEndReceive _ _ _ => true
  | .bcastAckReceive _ _ _ => true
  | .bcastHopTimeout _ _ _ => true
  | .jsReportReceive _ _ _ _ _ _ => true
  | .jsDeadline _ => true
  | .jsCommitCheck _ => true
  | .jsStagedExpiry _ => true
  | .jsEndRepeat _ => true
  | .featBindingWrite d k _ value => dieOk z d && decide (k < 16) && decide (value < 4294967296)
  | .lensLoad d => dieOk z d
  | .lensLoadDone d => dieOk z d
  | .lensBatchTimeout d m => dieOk z d && decide (m < 8)
  | .lensBatchScored d => dieOk z d
  | .lensLingerEnd d m => dieOk z d && decide (m < 8)
  | .lensExportFlush d => dieOk z d
  | .driftRead d => dieOk z d
  | .driftWrite d => dieOk z d
  | .driftReset d => dieOk z d
  | .pageError u b code sev _ => pageOk z u b && decide (code < 65536) && decide (sev < 4)
  | .fatalWarmStart p => portOk z p
  | .channelFault u k _ _ => partOk z u && chanOk u k
  | .channelRetry u k _ => partOk z u && chanOk u k
  | .channelFailedRetry u k _ => partOk z u && chanOk u k
  | .rasRetire u k => partOk z u && chanOk u k
  | .rasCondDone u k => partOk z u && chanOk u k
  | .rasClear u k => partOk z u && chanOk u k
  | .rasPreload u k => partOk z u && chanOk u k
  | .evrSummary u => partOk z u
  | .evrClear u => partOk z u
  | .evrBktCfgWrite u value => partOk z u && decide (value < 4294967296)
  | .bbxPageFlush => true
  | .bbxFlush d => dieOk z d
  | .bbxPageProgrammed => true
  | .bbxOverrunSecond => true
  | .bbxCommitNow d => dieOk z d
  | .lastGaspDone => true
  | .wdogKick u => partOk z u
  | .wdogCtrlWrite u r value => partOk z u && requesterOk u r && decide (value < 4294967296)
  | .wdogWarn u => partOk z u
  | .wdogExpire u => partOk z u
  | .nvmRead d => dieOk z d
  | .nvmProgram d => dieOk z d
  | .nvmErase d => dieOk z d
  | .nvmCmdDone _ _ => true
  | .coreStart u c => partOk z u && coreOk u c
  | .coreHalt u r c => partOk z u && requesterOk u r && coreOk u c
  | .corePowerOff u c => partOk z u && coreOk u c
  | .corePowerOn u c => partOk z u && coreOk u c
  | .corePromote d => dieOk z d
  | .coreMemAccess u r _ value => partOk z u && requesterOk u r && decide (value < 4294967296)
  | .mboxSend u r m => partOk z u && requesterOk u r && decide (m < 32)
  | .mboxPop u m => partOk z u && decide (m < 32)
  | .authVerify u => partOk z u
  | .authVerifyDone u => partOk z u
  | .authSubmit u => partOk z u
  | .authRevoke u => partOk z u
  | .grantExpiry u => partOk z u
  | .bgWindow u c _ _ _ => partOk z u && coreOk u c
  | .sramScrubError u _ _ _ _ => partOk z u
  | .patrolPass d _ => dieOk z d
  | .scrubRecal d channel => dieOk z d && decide (channel < 8)
  | .adcBgRecal p channel => portOk z p && decide (channel < 8)
  | .busLow code => decide (code < 4096)
  | .busRestored code => decide (code < 4096)
  | .busOv code => decide (code < 4096)
  | .hsFault _ _ => true
  | .hsInsertion => true
  | .hsRetry => true
  | .hsOffOpen => true
  | .hsOnAfter => true
  | .busCaptureFreeze _ => true
  | .alarmSample levels => decide (levels < 65536)
  | .alarmStuck k => decide (k < 16)
  | .alarmChatter => true
  | .fieldSuppressed => true
  | .rtdSample k _ => decide (k < 8)
  | .fanTach k _ => decide (k < 8)
  | .fieldWatchdogExpiry => true
  | .barrierHello _ _ => true
  | .barrierHeartbeat _ _ => true
  | .barrierAlarm _ => true
  | .barrierSense _ => true
  | .barrierEvent _ => true
  | .barrierCfgEcho _ => true
  | .barrierMramData _ => true
  | .barrierCmdDone _ => true
  | .barrierCfgWriteFrame _ => true
  | .barrierTime _ => true
  | .barrierFwLoad _ => true
  | .barrierResendTimer _ => true
  | .barrierSilence _ => true
  | .barrierHelloTimer _ => true
  | .barrierPeriodicSend _ => true
  | .barrierFWrite _ value => decide (value < 4294967296)
  | .barrierRearm _ => true
  | .barrierMramRead _ => true
  | .barrierMramClear _ => true
  | .barrierHsOff _ => true
  | .barrierFwStart _ => true
  | .barrierCmdTimeout => true
  | .startWarm _ _ => true
  | .startCold _ => true
  | .hostPowerUp => true
  | .pciePerst => true
  | .packageStartDone _ _ _ => true
  | .warmRunExpiry => true
  | .torusCoordWrite d _ xyz _ => dieOk z d && decide (xyz < 262144)
  | .avsAckFall p => portOk z p
  | .uncorrectableCodeword p _ _ _ => portOk z p
  | .opticalLinkDown P => optOk z P
  | .opticalLinkUp P _ => optOk z P
  | .elsOutputRestored P => optOk z P
  | .hostSupplyFall => true
  | .fieldSideReset _ => true
  | .ikbLoadRetry p => portOk z p
  | .startStepTimeout d step => dieOk z d && decide (1 ≤ step) && decide (step < 10)
  | .packageFatalTimeout d => dieOk z d

end Sys2Proof
end

