-- ==== Sys2Proof/Safety.lean ====
section
/-! DEFINITION. What a safe run is: every step answers a next state, and the memories and the queue keep their form. -/

namespace Sys2Proof

open Machine

/-- The memories are in canonical form and every command that waits is well formed in this tray. -/
def Safety.Inv (s : State) : Prop := Memory.wf s = true ∧ s.pending.all (·.wf s.size) = true

/-- The commands that may store in package DRAM, the NOR or the field side's MRAM. -/
def Safety.mayStore : Instr → Bool
  | .pkgrouteRewrite | .tableSwapRoute | .tableSwapCodec .. | .rcRead .. | .lowWordRead .. | .highWordRead ..
  | .lowWordWrite .. | .highWordWrite .. | .regPortRequest .. | .pcieBar0Access .. | .registerWrite ..
  | .modeTransitionDone | .launchFire .. | .ltlGovReport .. | .ltlProxyReq .. | .dramReadError ..
  | .bar2Access .. | .pcieFlr | .codecRowTake .. | .codecEncode .. | .codecDecode .. | .codecSave ..
  | .codecRestore .. | .mergeContribution .. | .mergePartialReceive .. | .mergeRootFinalise ..
  | .mergeResultDown .. | .jsStart .. | .jsEnd .. | .bcastStartReceive .. | .bcastCommitReceive ..
  | .bcastAbortReceive .. | .bcastEndReceive .. | .bcastHopTimeout .. | .jsReportReceive .. | .jsDeadline ..
  | .jsCommitCheck .. | .lensBatchScored .. | .evrClear .. | .bbxPageProgrammed | .lastGaspDone
  | .wdogExpire .. | .nvmRead .. | .nvmProgram .. | .nvmErase .. | .busLow .. | .busRestored .. | .busOv ..
  | .hsFault .. | .busCaptureFreeze .. | .alarmSample .. | .alarmStuck .. | .alarmChatter | .fieldSuppressed
  | .rtdSample .. | .fanTach .. | .barrierHeartbeat .. | .barrierAlarm .. | .barrierMramData ..
  | .barrierCfgWriteFrame .. | .barrierRearm .. | .barrierMramClear .. | .barrierHsOff .. | .barrierFwStart ..
  | .startWarm .. | .startCold .. | .hostPowerUp | .pciePerst | .packageStartDone .. | .hostSupplyFall
  | .fieldSideReset .. | .packageFatalTimeout .. => true
  | _ => false

/-- `n` steps from a state, as long as each answers a next state. -/
def Safety.run : Nat → State → Option State
  | 0, s => some s
  | n + 1, s =>
    match step s with
    | .next t => Safety.run n t
    | _ => none

/-- Every step of the first `n` answers a next state that keeps the invariant. -/
def Safety.Safe (n : Nat) (s : State) : Prop := ∃ t, Safety.run n s = some t ∧ Safety.Inv t

end Sys2Proof
end

