-- ==== Sys2Proof/Certificates/Slice0/Obligations.lean ====
section
/-! DEFINITION. The statements for the provers. An equation `exec c s = .next t` says the command completes and gives
the whole next state: `s.keepStores t` is `t` with queue, package size, time, DRAM, NOR and MRAM as in `s`; `s.keep t` is
`t` with queue, package size and time as in `s`. -/

open Sys2Proof Sys2Proof.Machine

/-- The commands of the PKGROUTE page and the swaps of ROUTE and PORTS. ADD stages a valid flat entry under its key
when the table has room for it; REMOVE stages the removal of a held key, or drops an entry staged under it; LOOKUP of
an entry that die 0 finds shows its bits and index; DISCARD_STAGED empties the staged flat changes; REWRITE of a valid
entry of the generation in force, at an index within the table, stores it on every die and clears its lines of poison.
Each of these ends with RESULT 0. TABLE_SWAP_ROUTE with no job staged or leaving puts the staged flat changes in force
and the staged generation in GEN. TABLE_SWAP_PORTS takes both ports of the die. -/
def Obligations.RouteTableCommands : Prop :=
  (∀ s : State, (xlatOf s.eEntry 0).flat = true → bitAt s.eEntry 41 = 1 → (xlatOf s.eEntry 0).job = 0 →
     (xlatOf s.eEntry 0).key ≠ 0xFFFFFF →
     s.entriesAfter (put (xlatOf s.eEntry 0).key (some (xlatOf s.eEntry 0)) s.flatStage) s.natStaged ≤
       s.rd .pkg pkgrTblCapEntries →
     exec .pkgrouteAdd s = .next (s.keepStores
       ((State.stagedCount { s with
         flatStage := put (xlatOf s.eEntry 0).key (some (xlatOf s.eEntry 0)) s.flatStage }).routeResult 0))) ∧
  (∀ s : State, (s.xlat.any fun e => e.flat && e.key == (xlatOf s.eEntry 0).key) = true →
     exec .pkgrouteRemove s = .next (s.keepStores
       ((State.stagedCount { s with flatStage := put (xlatOf s.eEntry 0).key none s.flatStage }).routeResult 0))) ∧
  (∀ s : State, (s.xlat.any fun e => e.flat && e.key == (xlatOf s.eEntry 0).key) = false →
     ((look (xlatOf s.eEntry 0).key s.flatStage).any fun c => c.isSome) = true →
     exec .pkgrouteRemove s = .next (s.keepStores
       ((State.stagedCount { s with flatStage := drop (xlatOf s.eEntry 0).key s.flatStage }).routeResult 0))) ∧
  (∀ (s t : State) (x : Xlat), ((xlatOf s.eEntry 0).flat = true ∨ (xlatOf s.eEntry 0).job ≠ 0) →
     s.translate 0 (xlatOf s.eEntry 0).job (xlatOf s.eEntry 0).key (xlatOf s.eEntry 0).flat = (some x, t) →
     exec .pkgrouteLookup s = .next (s.keepStores (((t.setEEntry x.bits).wr .pkg pkgrEIndexIdx x.index).routeResult 0))) ∧
  (∀ s : State, exec .pkgrouteDiscardStaged s =
     .next (s.keepStores ((State.stagedCount { s with flatStage := [] }).routeResult 0))) ∧
  (∀ s : State, (xlatOf s.eEntry (s.rd .pkg pkgrEIndexIdx)).gen = s.rd .pkg pkgrGenInForce →
     s.rd .pkg pkgrEIndexIdx < s.rd .pkg pkgrTblCapEntries → bitAt s.eEntry 41 = 1 →
     exec .pkgrouteRewrite s = .next (s.keep
       (((List.range s.dies).foldl (fun (t : State) d => t.unpoison (lineOf (t.entryAddr d (s.rd .pkg pkgrEIndexIdx))))
         (State.storeEntry { s with xlat := (s.xlat.filter fun x => x.index != s.rd .pkg pkgrEIndexIdx) ++
           [xlatOf s.eEntry (s.rd .pkg pkgrEIndexIdx)] } (s.rd .pkg pkgrEIndexIdx) s.eEntry)).routeResult 0))) ∧
  (∀ s : State, s.jobStage = [] → s.natDel = [] →
     exec .tableSwapRoute s = .next (s.keep
       ((List.range (8 * s.dies)).foldl (fun (t : State) p => t.jobFollow s p)
         ((State.stagedCount { (s.flatStage.foldl (fun (t : State) c => match c.2 with
             | some e => t.enterXlat (s.rd .pkg pkgrStagedGen) e
             | none => t.leaveXlat fun e => e.flat && e.key == c.1) s) with
           flatStage := [], jobStage := [], natDel := [] }).wr .pkg pkgrGenInForce (s.rd .pkg pkgrStagedGen))))) ∧
  (∀ (d : Nat) (s : State), exec (.tableSwapPorts d) s =
     .next (s.keepStores ((s.swapPort (2 * d)).swapPort (2 * d + 1))))

/-- A frame of a started flow that holds nothing back, with the next SEQ, is delivered, and the flow expects the next;
a frame too old is dropped and counted in AGED. When the window of a flow falls due it is closed, with what that loses
and delivers. A flow silent for 100 ms is closed; an identifier silent for 100 ms is freed. -/
def Obligations.SpineFlowCommands : Prop :=
  (∀ (P source : Nat) (frame : FabricFrame) (r : RxFlow) (s : State), s.on (dieOfOpt P) (portsStatUp (P % 2)) = true →
     s.portRole P = 2 → s.aged (dieOfOpt P) frame.hdr = false → s.rxFlow source frame.hdr.flow = some r → r.started = true →
     r.held = [] → frame.hdr.seq = r.next → r.next < 2 ^ 32 → 0 < s.rd .pkg windowFrames →
     exec (.spineFrameReceive P source frame) s = .next (s.keepStores
       ((s.emit (.delivered 0 frame.hdr frame.body)).setRxFlow
         { r with next := (r.next + 1) % 2 ^ 32, held := [], last := s.now, windowAt := 0 }))) ∧
  (∀ (P source : Nat) (frame : FabricFrame) (s : State), s.on (dieOfOpt P) (portsStatUp (P % 2)) = true →
     s.portRole P = 2 → s.aged (dieOfOpt P) frame.hdr = true →
     exec (.spineFrameReceive P source frame) s = .next (s.keepStores (s.inc .pkg agedCount))) ∧
  (∀ (source flow : Nat) (r : RxFlow) (s : State), s.rxFlow source flow = some r → s.windowDue r = true →
     exec (.reorderWindowClose source flow) s = .next (s.keepStores
       ((State.closeWindow (r.held.length + 1) r s).2.setRxFlow (State.closeWindow (r.held.length + 1) r s).1))) ∧
  (∀ (source flow : Nat) (r : RxFlow) (s : State), s.rxFlow source flow = some r → r.last + 100 * ms ≤ s.now →
     exec (.spineFlowClose source flow) s = .next (s.keepStores
       { s with rxFlows := s.rxFlows.filter fun x => !isFlow source flow x })) ∧
  (∀ (d id : Nat) (f : TxFlow) (s : State), (s.flowsOf d).find? (fun f => f.id == id) = some f → f.last + 100 * ms ≤ s.now →
     exec (.flowIdFree d id) s = .next (s.keepStores
       ((s.setFlows d ((s.flowsOf d).filter fun g => g != f)).setFlowFree d (s.flowFreeOf d ++ [id]))))

/-- A request's frame that translates is addressed to the entry's place and sent through the torus, and one that does
not is counted and answered with an error. A good frame on a usable port that is up, outside Midnight, takes its next
hop with the receive cells it holds; one whose FCS is wrong is counted. The head of a queue whose NEIGHBOUR port is
not usable takes its next hop again. PEER_ID is sent by a joined NEIGHBOUR or BYPASS port that is up, its reception
shows the peer, and its absence for 3 ms makes the port not usable. A role that is not refused is staged. -/
def Obligations.FabricHopCommands : Prop :=
  (∀ (d job key q : Nat) (frame : FabricFrame) (e : Xlat) (s t : State), job ≠ 0 → s.translate d job key false = (some e, t) →
     exec (.fabricFrameIngress d true false job key q frame) s = .next (s.keepStores
       (t.torusSend d (q % 8) ⟨{ frame.hdr with job := job, rank := key, dieIndex := e.dieIndex, dst := e.x + 64 * e.y + 4096 * e.z },
         frame.body, frame.deadline, frame.about⟩))) ∧
  (∀ (d job key q : Nat) (frame : FabricFrame) (s t : State), job ≠ 0 → s.translate d job key false = (none, t) →
     exec (.fabricFrameIngress d true false job key q frame) s = .next (s.keepStores
       ((t.inc .pkg pkgrCnt0ReqUntrans).respond .pkg 0 true 1))) ∧
  (∀ (P inq : Nat) (frame : FabricFrame) (s : State), s.on (dieOfOpt P) (portsStatUp (P % 2)) = true →
     s.portUsable P = true → s.mode (dieOfOpt P) ≠ .midnight → s.enabled (dieOfOpt P) .torus = true →
     exec (.fabricFrameArrival P inq frame true) s = .next (s.keepStores
       (s.takeHop (P / 2) (transitQueue frame.hdr.kind) frame (some (P, inq % 8)) false))) ∧
  (∀ (P inq : Nat) (frame : FabricFrame) (s : State), s.on (dieOfOpt P) (portsStatUp (P % 2)) = true →
     exec (.fabricFrameArrival P inq frame false) s = .next (s.keepStores (s.inc (dieOfOpt P) (portsFcsErrCount (P % 2))))) ∧
  (∀ (P q : Nat) (f : EgFrame) (s : State), s.enabled (dieOfOpt P) .torus = true → (s.queueOf P (q % 8)).head? = some f →
     s.portUsable P = false → s.portRole P = 1 → f.frame.hdr.kind ≠ 5 →
     exec (.fabricFrameReroute P q) s = .next (s.keepStores
       ((s.setQueue P (q % 8) (s.queueOf P (q % 8)).tail).takeHop (P / 2) (q % 8) f.frame f.cells true))) ∧
  (∀ (P : Nat) (s : State), s.enabled (dieOfOpt P) .torus = true → s.portRole P = 1 ∨ s.portRole P = 3 →
     s.on (dieOfOpt P) (portsStatUp (P % 2)) = true → s.on .pkg pkgStartStatJoined = true →
     exec (.peerIdSend P) s = .next (s.keepStores
       (s.originate P 0 { hdr := { kind := 5, len := 16 },
                          body := [s.rd (dieOfOpt P) torusCoordTray, s.rd (dieOfOpt P) torusCoordXyz, s.sizeCode] }))) ∧
  (∀ (P tray coord size : Nat) (s : State), s.enabled (dieOfOpt P) .torus = true →
     s.on (dieOfOpt P) (portsStatUp (P % 2)) = true → s.portRole P = 1 ∨ s.portRole P = 3 →
     exec (.peerIdReceive P tray coord size) s = .next (s.keepStores ((s.controlArrived P 16).peerId P tray coord size))) ∧
  (∀ (P : Nat) (s : State), s.on (dieOfOpt P) (portsStatUsable (P % 2)) = true →
     s.rd (dieOfOpt P) (peerAt (P % 2)) - 1 + 3 * ms ≤ s.now →
     exec (.peerIdTimeout P) s = .next (s.keepStores ((s.setUsable P 0).rootLost P))) ∧
  (∀ (P value : Nat) (s : State), s.roleRefused P (bitsOf value 8 2) (bitsOf value 10 2) (bitsOf value 12 1) = false →
     exec (.portRoleStage P value) s = .next (s.keepStores
       (((s.wr (dieOfOpt P) (portsRoleNext (P % 2)) (bitsOf value 8 2)).wr (dieOfOpt P) (portsRoleNextDim (P % 2))
         (bitsOf value 10 2)).wr (dieOfOpt P) (portsRoleNextSign (P % 2)) (bitsOf value 12 1)))) ∧
  (∀ (P value : Nat) (s : State), s.roleRefused P (bitsOf value 8 2) (bitsOf value 10 2) (bitsOf value 12 1) = true →
     exec (.portRoleStage P value) s = .next (s.keepStores (s.pageErr (dieOfOpt P) .ports 0x0100 1)))

/-- A D2D link that goes down or has retrained changes at both its ends and PATH_OK follows. When the election window
closes and not exactly one die is strapped primary, no die is present and every die is idle. A die other than 0
without a path for 10 ms is excluded. A first corrected DRAM error of a line is counted and the line and its time are
kept. A class cap within the limit is written with its HARD bit. BAR2's base moves within the package DRAM; a host
write there stores its bytes and clears the poison of the lines it fills, a read of unpoisoned lines answers the
bytes. -/
def Obligations.PackageCommands : Prop :=
  (∀ (d k : Nat) (s : State), k < s.d2dLinks → s.d2dUp d k = true →
     exec (.d2dLinkDown d k) s = .next (s.keepStores (s.d2dDown d k).pathsFollow)) ∧
  (∀ (d k : Nat) (s : State), k < s.d2dLinks →
     exec (.d2dRetrainDone d k) s = .next (s.keepStores
       ((s.setB (.wdie d) d2dStatLinkUp k).setB (.wdie (d ^^^ 2 ^ k)) d2dStatLinkUp k).pathsFollow)) ∧
  (∀ (straps : List Nat) (failed : Nat) (s : State), (straps.countP fun x => x == 0) ≠ 1 →
     exec (.electionClose straps failed) s = .next (s.keepStores
       ((List.range s.dies).foldl (fun (t : State) d => (t.wr (.wdie d) squelched 1).linksIdle d)
         ((s.wr .pkg pkgSizeDiePresent 0).wr (.wdie 0) d2dStatPrimary 0)))) ∧
  (∀ (d : Nat) (s : State), d ≠ 0 → s.present d = true → s.rd (.wdie d) pathLostAt ≠ 0 →
     s.rd (.wdie d) pathLostAt - 1 + 10 * ms ≤ s.now →
     exec (.diePathLoss d) s = .next (s.keepStores (s.excludeDie d 2))) ∧
  (∀ (d addr cls owner kind : Nat) (check : Bool) (s : State), look (lineOf (dieAddr d addr)) s.corrected = none → cls ≠ 3 →
     exec (.dramReadError d addr cls false check false owner kind) s = .next (s.keep
       (State.inc { s with corrected := put (lineOf (dieAddr d addr)) s.now s.corrected } (.wdie d) dramcEccCorrCount))) ∧
  (∀ (d k value : Nat) (s : State), k < 6 → k ≠ 3 → s.capSum (.wdie d) - s.rd (.wdie d) (dramcBwCapCap k) + bitsOf value 0 16 ≤
       capLimit (popCount 8 (s.keptChannels (.wdie d))) →
     exec (.dramBwCapWrite d k value) s = .next (s.keepStores
       ((s.wr (.wdie d) (dramcBwCapCap k) (bitsOf value 0 16)).wr (.wdie d) (dramcBwCapHard k) (bitAt value 16)))) ∧
  (∀ (value : Nat) (s : State), value % 512 + 64 ≤ s.dies * 64 →
     exec (.bar2BaseWrite value) s = .next (s.keepStores (s.wr (.wdie 0) pcieBar2BaseGib value))) ∧
  (∀ (addr len data : Nat) (s : State), 0 < len → addr + len ≤ 68719476736 →
     s.rd (.wdie 0) pcieBar2BaseGib = 0 → 0 < s.dies → s.present 0 = true →
     addr + len ≤ s.rd (.wdie 0) dramcCapGib * 1073741824 →
     exec (.bar2Access true addr len data false) s = .next (s.keep
       ((linesOf addr len).foldl (fun (t : State) l => if addr ≤ l * 64 && l * 64 + 64 ≤ addr + len then t.unpoison l else t)
         (State.dramStore (bytesLE len data) addr s)))) ∧
  (∀ (addr len : Nat) (data : Nat) (s : State), 0 < len → addr + len ≤ 68719476736 →
     s.rd (.wdie 0) pcieBar2BaseGib = 0 → 0 < s.dies → s.present 0 = true →
     addr + len ≤ s.rd (.wdie 0) dramcCapGib * 1073741824 → s.poisoned = [] →
     exec (.bar2Access false addr len data false) s = .next (s.keep (s.respond (.wdie 0) 0 false (s.dramNum len addr))))

/-- A port that is up goes down as an unplanned link-down; one that may come up on all its lanes does so. A lost ELS
output takes its port dark with a fault and the event; a restored one is shown; a SWAP_PREP that starts no preparation
is written. One lane of four lost leaves the other half, with the event; a lane of the half in use takes the port
down. A lost ring lock is counted and fails its lane; a sweep starts on the named lanes, and a swept lane keeps its
heater code. A mirror frame of a known switch with sound samples hands over its samples; a window release drains the
samples that are due. -/
def Obligations.OpticalCommands : Prop :=
  (∀ (P : Nat) (s : State), s.on (dieOfOpt P) (portsStatUp (P % 2)) = true →
     exec (.opticalLinkDown P) s = .next (s.keepStores (s.optDown P 0))) ∧
  (∀ (P : Nat) (s : State), s.on (dieOfOpt P) (portsStatRetired (P % 2)) = false → s.on (dieOfOpt P) squelched = false →
     s.present (P / 2) = true → s.portRole P ≠ 0 → s.bit (dieOfOpt P) optElsOutOk (P % 2) = true →
     s.on (.wdie 0) optElsSwapPrep = false → s.lanesAllowed P = 3 →
     exec (.opticalLinkUp P 4) s = .next (s.keepStores (s.optUp P 3))) ∧
  (∀ (P : Nat) (s : State), s.bit (dieOfOpt P) optElsOutOk (P % 2) = true →
     exec (.elsOutputLoss P) s = .next (s.keepStores
       ((((s.clrB (dieOfOpt P) optElsOutOk (P % 2)).portDark P).portFault P 0x0A05).event (dieOfOpt P) .opt 0x0A05 2
         (pay [(P, 0)])))) ∧
  (∀ (P : Nat) (s : State), exec (.elsOutputRestored P) s = .next (s.keepStores (s.setB (dieOfOpt P) optElsOutOk (P % 2)))) ∧
  (∀ (d value : Nat) (s : State), d ≠ 0 ∨ value % 2 = 0 →
     exec (.elsSwapPrep d value) s = .next (s.keepStores (s.wr (.wdie d) optElsSwapPrep value))) ∧
  (∀ (P lane : Nat) (s : State), s.rd (dieOfOpt P) (portsStatLanes (P % 2)) = 3 →
     exec (.optLaneFail P lane) s = .next (s.keepStores
       (((((s.wr (dieOfOpt P) (portsStatLanes (P % 2)) 2).wr (dieOfOpt P) (portsStatDegraded (P % 2)) 1).wr (dieOfOpt P)
         (halfUsed (P % 2)) (if lane % 4 < 2 then 1 else 0)).portFault P 0x0A06).event (dieOfOpt P) .ports 0x0A06 1
           (pay [(P, 0), (if lane % 4 < 2 then 1 else 0, 4), (lane % 4, 6)])))) ∧
  (∀ (P lane : Nat) (s : State), s.rd (dieOfOpt P) (portsStatLanes (P % 2)) = 2 →
     lane % 4 / 2 = s.rd (dieOfOpt P) (halfUsed (P % 2)) →
     exec (.optLaneFail P lane) s = .next (s.keepStores (s.optDown P 0))) ∧
  (∀ (d lane : Nat) (s : State), lane < 8 → s.bit (.wdie d) optSweepLocked lane = true →
     exec (.ringLockLoss d lane) s = .next (s.keepStores
       (((s.clrB (.wdie d) optSweepLocked lane).inc (.wdie d) optLockLossCount).laneFail (2 * d + lane / 4) (lane % 4)))) ∧
  (∀ (d lanes : Nat) (s : State), s.enabled (.wdie d) .opt = true →
     exec (.optSweepStart d lanes) s = .next (s.keepStores
       ((s.wr (.wdie d) optSweepBusy (s.rd (.wdie d) optSweepBusy ||| lanes % 256)).wr (.wdie d) optSweepLocked
         (andNot (s.rd (.wdie d) optSweepLocked) (lanes % 256))))) ∧
  (∀ (d lane heater : Nat) (s : State), lane < 8 → s.bit (.wdie d) optSweepBusy lane = true →
     exec (.optSweepDone d lane heater) s = .next (s.keepStores
       (((((s.clrB (.wdie d) optSweepBusy lane).setB (.wdie d) optSweepLocked lane).wr (.wdie d) (optLaneHeater lane) heater).wr
         (.wdie d) (optLaneStored lane) heater).wr (.wdie d) (optLaneStoredValid lane) 1))) ∧
  (∀ (P switch k : Nat) (samples : List MirrorSample) (s : State), s.enabled (.wdie 0) .mirror = true →
     s.on (.wdie 0) mirrorCtrlEnable = true → s.portRole P = 2 → samples ≠ [] → samples.length ≤ 64 →
     (∀ x ∈ samples, x.data ≠ [] ∧ x.data.length ≤ 128) → k < 32 → s.on (.wdie 0) (mirrorSwitchValid k) = true →
     s.rd (.wdie 0) (mirrorSwitchSwitchId k) = switch →
     exec (.mirrorFrame P switch samples false) s = .next (s.keepStores
       (samples.foldl (fun (a : State) x => a.mirrorTake
           (s.portColour (P / 2) (8 + P % 2) (8 + (samples.map fun x => (sampleBytes x false).length).sum)).1 x)
         (State.cross 8 (P / 2) 0
           (s.portColour (P / 2) (8 + P % 2) (8 + (samples.map fun x => (sampleBytes x false).length).sum)).2)))) ∧
  (∀ s : State, s.enabled (.wdie 0) .mirror = true →
     exec .mirrorSampleRelease s = .next (s.keepStores (State.mirrorDrain s.mirrorWin.length s)))

/-- A HEALTH, WATCH_REPORT, TAG_RECORDS, SNAPSHOT or TRACE_RECORD frame that arrives on a link that is up, from an IKB
of known version, is given to its context (KIND 2, 3, 3, 4 and 5); once taken or dropped its flits are freed, and
while it waits for room they are not. A notice that is unacknowledged for 2 ms is sent again with its count, and an
acknowledgement of its job and sequence ends it. -/
def Obligations.NoticeAndTelemetryFrames : Prop :=
  (∀ (p : Nat) (body : List Nat) (s t : State), s.on (dieOfPort p) (ltlStatUp (linkOfPort p)) = true →
     s.on (dieOfPort p) (verBad (linkOfPort p)) = false →
     (s.wr (dieOfPort p) (uncorrRun (linkOfPort p)) 0).arriveLtl p 2 body.length body = (t, true) →
     exec (.ltlHealth p body) s = .next (s.keepStores (t.wr (dieOfPort p) (rxFreed (linkOfPort p) 3)
       ((t.rd (dieOfPort p) (rxFreed (linkOfPort p) 3) + flitsOf body.length) % 65536)))) ∧
  (∀ (p : Nat) (body : List Nat) (s t : State), s.on (dieOfPort p) (ltlStatUp (linkOfPort p)) = true →
     s.on (dieOfPort p) (verBad (linkOfPort p)) = false →
     (s.wr (dieOfPort p) (uncorrRun (linkOfPort p)) 0).arriveLtl p 3 body.length body = (t, true) →
     exec (.ltlWatchReport p body) s = .next (s.keepStores (t.wr (dieOfPort p) (rxFreed (linkOfPort p) 5)
       ((t.rd (dieOfPort p) (rxFreed (linkOfPort p) 5) + flitsOf body.length) % 65536)))) ∧
  (∀ (p : Nat) (body : List Nat) (s t : State), s.on (dieOfPort p) (ltlStatUp (linkOfPort p)) = true →
     s.on (dieOfPort p) (verBad (linkOfPort p)) = false →
     (s.wr (dieOfPort p) (uncorrRun (linkOfPort p)) 0).arriveLtl p 3 body.length body = (t, true) →
     exec (.ltlTagRecords p body) s = .next (s.keepStores (t.wr (dieOfPort p) (rxFreed (linkOfPort p) 5)
       ((t.rd (dieOfPort p) (rxFreed (linkOfPort p) 5) + flitsOf body.length) % 65536)))) ∧
  (∀ (p : Nat) (body : List Nat) (s t : State), s.on (dieOfPort p) (ltlStatUp (linkOfPort p)) = true →
     s.on (dieOfPort p) (verBad (linkOfPort p)) = false →
     (s.wr (dieOfPort p) (uncorrRun (linkOfPort p)) 0).arriveLtl p 4 body.length body = (t, true) →
     exec (.ltlSnapshot p body) s = .next (s.keepStores (t.wr (dieOfPort p) (rxFreed (linkOfPort p) 6)
       ((t.rd (dieOfPort p) (rxFreed (linkOfPort p) 6) + flitsOf body.length) % 65536)))) ∧
  (∀ (p : Nat) (body : List Nat) (s t : State), s.on (dieOfPort p) (ltlStatUp (linkOfPort p)) = true →
     s.on (dieOfPort p) (verBad (linkOfPort p)) = false →
     (s.wr (dieOfPort p) (uncorrRun (linkOfPort p)) 0).arriveLtl p 5 body.length body = (t, true) →
     exec (.ltlTraceRecord p body) s = .next (s.keepStores (t.wr (dieOfPort p) (rxFreed (linkOfPort p) 7)
       ((t.rd (dieOfPort p) (rxFreed (linkOfPort p) 7) + flitsOf body.length) % 65536)))) ∧
  (∀ (seq : Nat) (n : Notice) (s : State), s.notices.find? (fun n => n.seq == seq) = some n →
     n.lastSend + 2 * ms ≤ s.now → s.on .pkg pkgStartStatDone = true → n.sends < 16 →
     exec (.noticeRepeat seq) s = .next (s.keepStores (State.sendNotice
       { s with notices := s.notices.map fun (m : Notice) => if m.seq == seq then { n with sends := n.sends + 1, lastSend := s.now } else m }
       { n with sends := n.sends + 1, lastSend := s.now }))) ∧
  (∀ (job seq : Nat) (s : State), exec (.noticeAck job seq) s = .next (s.keepStores
     { s with notices := s.notices.filter fun n => !(n.seq == seq && n.job == job) }))

/-- On a page that is enabled and a slot whose context is not migrating: READ shows the entry and ends OK; WRITE of
valid parameters sets the policer with full buckets; PIN to the die itself pins; UNPIN unpins; REOPEN of a context
that is not DRAINING reopens it; CLOSE drains it; LOOKUP shows slot and die of the key's context. Each ends with
RESULT 0. -/
def Obligations.ContextCommands : Prop :=
  (∀ (d : Nat) (c : Ctx) (s : State), s.enabled (.wdie d) .ctx = true → s.ctxAt (s.ctxSlotKey d) = some c →
     exec (.ctxRead d) s = .next (s.keepStores (s.ctxRead d)) ∧
     ∃ t : State, s.ctxRead d = (t.wr (.wdie d) ctxEKbytesCount (c.bytes / 1024)).ctxResult d 0) ∧
  (∀ (d : Nat) (c : Ctx) (s : State), s.enabled (.wdie d) .ctx = true → s.ctxAt (s.ctxSlotKey d) = some c → c.state ≠ 4 →
     2 ≤ s.rd (.wdie d) ctxEPoliceQueue →
     policeOk (s.rd (.wdie d) ctxECirCir) (s.rd (.wdie d) ctxEPirPir) (s.rd (.wdie d) ctxEBurstCbs) (s.rd (.wdie d) ctxEBurstPbs) = true →
     exec (.ctxWrite d) s = .next (s.keepStores ((s.setCtx (s.ctxSlotKey d)
       { c with aware := s.on (.wdie d) ctxEPoliceAware, redMark := s.on (.wdie d) ctxEPoliceRedMark, queue := s.rd (.wdie d) ctxEPoliceQueue, cir := s.rd (.wdie d) ctxECirCir, pir := s.rd (.wdie d) ctxEPirPir, cbs := s.rd (.wdie d) ctxEBurstCbs, pbs := s.rd (.wdie d) ctxEBurstPbs, tc := s.rd (.wdie d) ctxEBurstCbs * 4194304, tp := s.rd (.wdie d) ctxEBurstPbs * 4194304, last := s.now }).ctxResult d 0))) ∧
  (∀ (d : Nat) (c : Ctx) (s : State), s.enabled (.wdie d) .ctx = true → s.ctxAt (s.ctxSlotKey d) = some c → c.state ≠ 4 →
     s.rd (.wdie d) ctxCmdDie = d → s.present d = true →
     exec (.ctxPin d) s = .next (s.keepStores ((s.setCtx (s.ctxSlotKey d) { c with pinned := true }).ctxResult d 0))) ∧
  (∀ (d : Nat) (c : Ctx) (s : State), s.enabled (.wdie d) .ctx = true → s.ctxAt (s.ctxSlotKey d) = some c → c.state ≠ 4 →
     exec (.ctxUnpin d) s = .next (s.keepStores ((s.setCtx (s.ctxSlotKey d) { c with pinned := false }).ctxResult d 0))) ∧
  (∀ (d : Nat) (c : Ctx) (s : State), s.enabled (.wdie d) .ctx = true → s.ctxAt (s.ctxSlotKey d) = some c → c.state ≠ 4 → c.state ≠ 2 →
     exec (.ctxReopenCmd d) s = .next (s.keepStores ((s.reopenCtx (s.ctxSlotKey d)).ctxResult d 0))) ∧
  (∀ (d : Nat) (c : Ctx) (s : State), s.enabled (.wdie d) .ctx = true → s.ctxAt (s.ctxSlotKey d) = some c → c.state ≠ 4 →
     exec (.ctxClose d) s = .next (s.keepStores ((s.setCtx (s.ctxSlotKey d) { c with state := 2 }).ctxResult d 0))) ∧
  (∀ (d k : Nat) (c : Ctx) (s : State), s.enabled (.wdie d) .ctx = true →
     [0, 1, 2, 3, 4, 5, 0x10, 0x11].contains (s.rd (.wdie d) ctxKey0Kind) = true →
     s.findCtx (s.rd (.wdie d) ctxKey1Job) (s.rd (.wdie d) ctxKey0DieIndex) (s.rd (.wdie d) ctxKey0Kind) = some (k, c) →
     exec (.ctxLookup d) s = .next (s.keepStores
       (((s.wr (.wdie d) ctxCmdSlot (k % 512)).wr (.wdie d) ctxCmdDie (k / 512)).ctxResult d 0)))

/-- A frame of an open context is coloured and accepted; one whose slot holds none is counted. A KILLED context
reopens after 1 ms; a moved context is OPEN again, or DRAINING when it was closed meanwhile. TABLE_SWAP of CTX_SEED,
with no context open, puts the staged seed in force; of DRAM_SEED, with no channel pending and no sweep running, the
staged DRAM seed, and its sweep begins; the sweep's end is shown. The CFG word of a POLICE template is written with a
queue of 2 or more; the hardware raises the level of the port with the most sheddable bytes, and lowers the highest,
when their conditions have lasted. A second's imbalance check, with die 0 alone present and no context open, shows the
loads and judges channels and dies. -/
def Obligations.ContextLife : Prop :=
  (∀ (d slot pre bytes : Nat) (port : Option Nat) (body : List Nat) (c : Ctx) (s : State), s.ctxAt (ctxKey d slot) = some c →
     exec (.ctxFrameAccept d slot pre bytes port body) s = .next (s.keepStores
       (s.acceptFrame ⟨ctxKey d slot, c.kind, port, false, bytes, body, pre % 3, 0, 0⟩).1)) ∧
  (∀ (d slot pre bytes : Nat) (port : Option Nat) (body : List Nat) (s : State), s.ctxAt (ctxKey d slot) = none →
     exec (.ctxFrameAccept d slot pre bytes port body) s = .next (s.keepStores (s.inc (.wdie d) ctxMiscNoCtx))) ∧
  (∀ (d slot : Nat) (c : Ctx) (s : State), s.ctxAt (ctxKey d slot) = some c → c.state = 3 → c.since + ms ≤ s.now →
     exec (.ctxReopenTimer d slot) s = .next (s.keepStores (s.reopenCtx (ctxKey d slot)))) ∧
  (∀ (d slot : Nat) (c : Ctx) (s : State), s.ctxAt (ctxKey d slot) = some c → c.state = 4 →
     exec (.ctxMigrationDone d slot) s = .next (s.keepStores
       ((s.setCtx (ctxKey d slot) { c with state := if c.closing then 2 else 1, closing := false, origin := none }).admitWaiting d))) ∧
  (∀ (d : Nat) (s : State), s.ctxs = [] → exec (.tableSwapCtxSeed d) s = .next (s.keepStores
     ((s.wr (.wdie d) routeCtxSeedSeed (s.rd (.wdie d) routeCtxSeedNextSeed)).int (.wdie d) .route 1))) ∧
  (∀ (d : Nat) (beyond : Bool) (s : State), s.on (.wdie d) routeMigrateSweepBusy = false →
     s.rd (.wdie d) dramcStatPendRetire &&& s.rd (.wdie d) dramcCapChActive = 0 →
     exec (.tableSwapDramSeed d beyond) s = .next (s.keepStores
       (((((((s.wr (.wdie d) routeDramSeedSeed (s.rd (.wdie d) routeDramSeedNextSeed)).wr (.wdie d) dramcCapChActive
         (s.keptChannels (.wdie d))).wr (.wdie d) dramcStatPendRetire 0).wr (.wdie d) dramcCapGib
           (8 * popCount 8 (s.keptChannels (.wdie d)))).wr (.wdie d) routeMigrateSweepBusy 1).wr (.wdie d)
             routeMigrateSweepPct 0).wr (.wdie d) scrubProgressPaused 1 |>.int (.wdie d) .route 1))) ∧
  (∀ (d : Nat) (s : State), s.on (.wdie d) routeMigrateSweepBusy = true →
     exec (.dramSeedSweepDone d) s = .next (s.keepStores
       ((((s.wr (.wdie d) routeMigrateSweepBusy 0).wr (.wdie d) routeMigrateSweepPct 100).wr (.wdie d) scrubProgressPaused 0).int
         (.wdie d) .route 2))) ∧
  (∀ (d k value : Nat) (s : State), k < 8 → 2 ≤ bitsOf value 2 3 →
     exec (.policeWrite d (0x200 + 16 * k) value) s = .next (s.keepStores
       (((s.wr (.wdie d) (policeTemplateCfgAware k) (bitAt value 0)).wr (.wdie d) (policeTemplateCfgRedMark k) (bitAt value 1)).wr
         (.wdie d) (policeTemplateCfgQueue k) (bitsOf value 2 3)))) ∧
  (∀ (d p : Nat) (s : State), s.enabled (.wdie d) .police = true → s.on (.wdie d) policeLevelAuto = true →
     s.rd (.wdie d) upSince ≠ 0 → s.rd (.wdie d) upSince - 1 + s.rd (.wdie d) policeLevelTimeUpUs * us ≤ s.now →
     argMax (fun p => s.recentBytes d p) ((List.range 8).map fun n => 8 * d + n) = some p →
     s.rd (.wdie d) (ltlCtrlLevelCmd (linkOfPort p)) < 5 →
     exec (.levelUpCheck d) s = .next (s.keepStores
       ((s.wr (.wdie d) upSince (s.now + 1)).commandLevel d p (s.rd (.wdie d) (ltlCtrlLevelCmd (linkOfPort p)) + 1)))) ∧
  (∀ (d p : Nat) (s : State), s.enabled (.wdie d) .police = true → s.on (.wdie d) policeLevelAuto = true →
     s.rd (.wdie d) downSince ≠ 0 → s.rd (.wdie d) downSince - 1 + s.rd (.wdie d) policeLevelTimeDownMs * ms ≤ s.now →
     argMax (fun p => s.rd (.wdie d) (ltlCtrlLevelCmd (linkOfPort p))) ((List.range 8).map fun n => 8 * d + n) = some p →
     0 < s.rd (.wdie d) (ltlCtrlLevelCmd (linkOfPort p)) →
     exec (.levelDownCheck d) s = .next (s.keepStores
       ((s.wr (.wdie d) downSince (s.now + 1)).commandLevel d p (s.rd (.wdie d) (ltlCtrlLevelCmd (linkOfPort p)) - 1)))) ∧
  (∀ (moved : List Nat) (s : State), ((List.range s.dies).filter fun d => s.present d) = [0] → s.ctxs = [] →
     exec (.imbalanceCheck moved) s =
       (let cfg := fun (t : State) => (t.rd (.wdie 0) routeImbCfgRatio, t.rd (.wdie 0) routeImbCfgMinPct, max 1 (t.rd (.wdie 0) routeImbCfgHoldS))
        let load := s.rd (.wdie 0) dieBytes
        let s1 := s.wr (.wdie 0) (routeDieLoadMbps 0) (load / 1000000)
        let chans := (List.range 8).filter fun c => bitAt (s1.rd (.wdie 0) dramcCapChActive) c = 1
        let s2 := (List.range 8).foldl (fun (a : State) c => a.wr (.wdie 0) (routeChLoadMbps c) (nth moved (8 * 0 + c) / 1000000)) s1
        let s3 := (s2.imbalance (.wdie 0) true (cfg s2).1 (cfg s2).2.1 (cfg s2).2.2 (136500000000 / max 1 chans.length) chans
          (chans.map fun c => nth moved (8 * 0 + c))).wr (.wdie 0) dieBytes 0
        let s4 := s3.imbalance (.wdie 0) false (cfg s3).1 (cfg s3).2.1 (cfg s3).2.2 100000000000 [0] [load]
        .next (s.keepStores (s4.ctxs.foldl (fun (t : State) e => t.exceedSecond e) s4))))

/-- On a SCHED page that is enabled: a frame is originated with its flow and stamp into its queue; the head of queue 0
goes first when eligible, then that of queue 1; the cells freed are told to a credited port that is up, and a credit
frame's totals become the sender's credit; the head of queue 2 that has waited beyond TRANSIT_WAIT_US is discarded,
counted, with its interrupt; a queue-1 frame whose reduction deadline has passed is discarded, counted, with its
interrupt. -/
def Obligations.EgressCommands : Prop :=
  (∀ (P q : Nat) (frame : FabricFrame) (s : State), s.enabled (dieOfOpt P) .sched = true →
     exec (.egressEnqueue P q frame) s = .next (s.keepStores (s.originate P (q % 8) frame))) ∧
  (∀ (P : Nat) (f : EgFrame) (s : State), s.enabled (dieOfOpt P) .sched = true → s.eligible P 0 = true →
     (s.queueOf P 0).head? = some f → exec (.egressTransmit P) s = .next (s.keepStores (s.sendHead P 0 f))) ∧
  (∀ (P : Nat) (f : EgFrame) (s : State), s.enabled (dieOfOpt P) .sched = true → s.eligible P 0 = false →
     s.eligible P 1 = true → (s.queueOf P 1).head? = some f →
     exec (.egressTransmit P) s = .next (s.keepStores (s.sendHead P 1 f))) ∧
  (∀ (P : Nat) (s : State), s.enabled (dieOfOpt P) .sched = true → s.credited P = true →
     s.on (dieOfOpt P) (portsStatUp (P % 2)) = true →
     exec (.opticalCreditSend P) s = .next (s.keepStores
       (s.originate P 0 { hdr := { kind := 5, len := 16 }, body := (List.range 8).map fun q => s.rd (dieOfOpt P) (cellsFreed (P % 2) q) }))) ∧
  (∀ (P : Nat) (totals : List Nat) (s : State), s.enabled (dieOfOpt P) .sched = true → s.credited P = true →
     s.on (dieOfOpt P) (portsStatUp (P % 2)) = true →
     exec (.opticalCreditReceive P totals) s = .next (s.keepStores
       (((List.range 8).foldl (fun (a : State) q => a.wr (dieOfOpt P) (cellsPeer (P % 2) q) (nth totals q % 65536))
         (s.controlArrived P 16)).waitFollow P))) ∧
  (∀ (P : Nat) (f : EgFrame) (s : State), s.enabled (dieOfOpt P) .sched = true → (s.queueOf P 2).head? = some f →
     s.rd (dieOfOpt P) (waitSince (P % 2) 2) ≠ 0 →
     s.rd (dieOfOpt P) (waitSince (P % 2) 2) - 1 + s.rd (dieOfOpt P) (schedPortPortBurstTransitWaitUs (P % 2)) * us < s.now →
     exec (.transitWaitTimeout P) s = .next (s.keepStores
       (((s.discardAt P 2 f).inc (dieOfOpt P) (schedPortStatsTransitDiscard (P % 2))).int (dieOfOpt P) .sched 0))) ∧
  (∀ (P : Nat) (f : EgFrame) (s : State), s.enabled (dieOfOpt P) .sched = true →
     ((s.queueOf P 1).filter fun f => f.frame.deadline.any fun d => d < (s.ltcOf (dieOfOpt P)).nsTotal) = [f] →
     exec (.resultDeadlineDiscard P) s = .next (s.keepStores
       (((s.discardAt P 1 f).inc (dieOfOpt P) (schedPortResultDiscardCount (P % 2))).int (dieOfOpt P) .sched 1)))

/-- A template's CFG that the rules accept is written; a staged table word of tables 1 to 15 is written; the tail of
the ring is written. An open block closes CLOSE_MS after its first row; out of Midnight a running part's enabled Codec
codes a context's oldest closed block; it takes the next frame of the ingest buffer as a row of its context, admits
what waits for the room, and hands the row to Lens and the step-time value. 128 staged records, or 32 KiB of staged
HEALTH blocks, wake DRAM. A DRAINING context whose frames are processed seals its history and is FREE. A TABLE_SWAP of
CODEC swaps the tables at its instant. -/
def Obligations.CodecSetup : Prop :=
  (∀ (d k value : Nat) (s : State), k < 8 → cfgOk (kindOfTemplate k) value = true →
     exec (.codecConfigWrite d (0x200 + 16 * k) value) s = .next (s.keepStores (s.setTemplate d k value))) ∧
  (∀ (d k word value : Nat) (s : State), 1 ≤ k → k < 16 → word < 10 →
     exec (.codecTableWrite d k word value) s = .next (s.keepStores (s.wr (.wdie d) (codecTableLenLen k word) value))) ∧
  (∀ (d instant : Nat) (s : State), exec (.tableSwapCodec d instant) s = .next (s.keep (s.swapCodec d instant))) ∧
  (∀ (d value : Nat) (s : State), exec (.codecRingTailWrite d value) s = .next (s.keepStores (s.wr (.wdie d) codecRingPtrTail value))) ∧
  (∀ (d slot : Nat) (c : Ctx) (b : CtxBlock) (s : State), s.ctxAt (ctxKey d slot) = some c → c.cod.opened = some b →
     b.at' + s.rd (.wdie d) codecTimingCloseMs * ms ≤ s.now →
     exec (.codecBlockTimeout d slot) s = .next (s.keepStores (s.setCtx (ctxKey d slot) { c with cod := closeBlock c.cod }))) ∧
  (∀ (d slot : Nat) (b : CtxBlock) (r : List CtxBlock) (c : Ctx) (s : State), s.stopped d = false →
     s.enabled (.wdie d) .codec = true → (s.mode (.wdie (ctxKey d slot / 512)) == .midnight) = false →
     s.ctxAt (ctxKey d slot) = some c → c.cod.closed = b :: r →
     exec (.codecBlockDone d slot) s = .next (s.keepStores
       ((s.setCtx (ctxKey d slot) { c with cod := { c.cod with closed := r } }).codeOne (ctxKey d slot) b false))) ∧
  (∀ (d : Nat) (f : IngFrame) (c : Ctx) (s : State), s.stopped d = false → s.enabled (.wdie d) .codec = true →
     s.nextFrame d = some f → s.ctxAt f.ctx = some c →
     exec (.codecRowTake d) s = .next (s.keep
       ((((((s.setIngest d ((s.ingestOf d).erase f)).takeRow f.ctx f).admitWaiting d).sampleRow f.ctx c f).stepValue f.ctx f)))) ∧
  (∀ (d : Nat) (s : State), 128 ≤ (s.stagedOf (.wdie d)).length →
     exec (.midnightBufferFlush d) s = .next (s.keepStores (s.dramWake d))) ∧
  (∀ (d : Nat) (s : State), 32768 ≤ rawBytes (s.healthOf d) →
     exec (.healthBufferFlush d) s = .next (s.keepStores (s.dramWake d))) ∧
  (∀ (d slot : Nat) (c : Ctx) (s : State), s.ctxAt (ctxKey d slot) = some c → c.state = 2 →
     ((s.ingestOf d).any fun f => f.ctx == ctxKey d slot) = false →
     exec (.ctxDrainDone d slot) s = .next (s.keepStores
       ((s.sealCtx (ctxKey d slot) (s.mode (.wdie d) == .midnight)).delCtx (ctxKey d slot))))

/-- On an enabled Codec outside Midnight whose ring is enabled and not empty, the descriptor at HEAD runs as its OP
says: ENCODE and DECODE of valid descriptors free of poison deliver the coded or decoded bytes with their status, SAVE
seals the slot and writes its state record, RESTORE loads one; a descriptor that breaks the rules completes INVALID
and one that meets a poisoned line completes with its output undefined. -/
def Obligations.CodecDescriptors : Prop :=
  (∀ (d : Nat) (x : Descr) (s : State), s.enabled (.wdie d) .codec = true → (s.mode (.wdie d) == .midnight) = false →
     s.descr d = some x → x.op = 0 → x.invalid = false → s.hurt d x.src x.srcLen = false → x.state = 0 → x.path = 1 →
     (codeBlock ⟨x.path, x.level, x.pred, x.table, x.laneW, x.signed, x.mask⟩ (s.tablesInForce d)
         (s.rd (.wdie d) codecTgenGen) true false false
         (srcRows x.rows ((s.dramBytes x.srcLen (dieAddr d x.src)).map BitVec.toNat)) {}).noGain = false →
     exec (.codecEncode d) s = .next (s.keep (s.output d x 0
       (codeBlock ⟨x.path, x.level, x.pred, x.table, x.laneW, x.signed, x.mask⟩ (s.tablesInForce d)
         (s.rd (.wdie d) codecTgenGen) true false false
         (srcRows x.rows ((s.dramBytes x.srcLen (dieAddr d x.src)).map BitVec.toNat)) {}).bytes fun t => t))) ∧
  (∀ (d : Nat) (x : Descr) (s : State), s.enabled (.wdie d) .codec = true → (s.mode (.wdie d) == .midnight) = false →
     s.descr d = some x → x.op = 0 → x.invalid = true →
     exec (.codecEncode d) s = .next (s.keep (s.complete d x 3 0 0))) ∧
  (∀ (d : Nat) (x : Descr) (s : State), s.enabled (.wdie d) .codec = true → (s.mode (.wdie d) == .midnight) = false →
     s.descr d = some x → x.op = 1 → x.invalid = false → s.hurt d x.src x.srcLen = true →
     exec (.codecDecode d) s = .next (s.keep ((s.scrambleAll d (s.buffers' d x)).complete d x 5 0 0))) ∧
  (∀ (d : Nat) (x : Descr) (s : State), s.enabled (.wdie d) .codec = true → (s.mode (.wdie d) == .midnight) = false →
     s.descr d = some x → x.op = 1 → x.invalid = false → s.hurt d x.src x.srcLen = false → x.state = 0 →
     (decodeRun (s.tablesInForce d) x.signed ((s.dramBytes x.srcLen (dieAddr d x.src)).length + 1) {}
       ((s.dramBytes x.srcLen (dieAddr d x.src)).map BitVec.toNat) []).2.2 = false →
     exec (.codecDecode d) s = .next (s.keep (s.output d x 0
       (decodeRun (s.tablesInForce d) x.signed ((s.dramBytes x.srcLen (dieAddr d x.src)).length + 1) {}
         ((s.dramBytes x.srcLen (dieAddr d x.src)).map BitVec.toNat) []).1 fun t => t))) ∧
  (∀ (d : Nat) (x : Descr) (c c' : Ctx) (s : State), s.enabled (.wdie d) .codec = true →
     (s.mode (.wdie d) == .midnight) = false → s.descr d = some x → x.op = 2 → x.reserved = false → x.state ≠ 0 → x.lanes < 512 →
     s.ctxAt (ctxKey d x.lanes) = some c → (s.sealCtx (ctxKey d x.lanes) false).ctxAt (ctxKey d x.lanes) = some c' →
     c'.cod.ref = none →
     exec (.codecSave d) s = .next (s.keep
       (((s.sealCtx (ctxKey d x.lanes) false).writeRecord d x.state (bitsOf c'.cod.cfg 0 2) (bitsOf c'.cod.cfg 13 2) c'.cod.link
           (((c'.cod.link.row1.map List.length).getD 0) % 16384) 0xFFFFFFFF).complete d x 0 0
         (recordLen (bitsOf c'.cod.cfg 13 2) (((c'.cod.link.row1.map List.length).getD 0) % 16384))))) ∧
  (∀ (d : Nat) (x : Descr) (c : Ctx) (l : CodecLink) (s : State), s.enabled (.wdie d) .codec = true →
     (s.mode (.wdie d) == .midnight) = false → s.descr d = some x → x.op = 3 → x.reserved = false → x.state ≠ 0 → x.lanes < 512 →
     s.ctxAt (ctxKey d x.lanes) = some c → s.hurt d x.state 64 = false →
     s.readRecord d x.state (bitsOf c.cod.cfg 13 2) (c.cod.link.row1.map List.length) = some (l, 0xFFFFFFFF) →
     exec (.codecRestore d) s = .next (s.keep
       ((s.setCtx (ctxKey d x.lanes) { c with cod := { c.cod with link := l, ref := none, restart := true } }).complete d x 0 0 0)))

/-- A reference window that passes counts, and the sixteenth in a row sets REF_READY; one that fails on a qualified
reference is its loss. The Nightwatch trim found is stored once the reference is qualified; a qualified crystal moves
the always-on domain onto it. PLL lock sets PLL_LOCK and starts the domains that waited for it. A lost reference or
PLL of an IKB puts the part in the safe state, opens a HARD break and ends the open tiles; a W-die's loss puts that
part in the state of the loss; an IKB's recovery from a Nightwatch loss ends it with its event. A write of DOM_SRC
starts or refuses each switch it names; an edge completes the switches in progress. A write of BLK_EN gates page by
page; LENS_DIV takes effect at the second following edge. -/
def Obligations.ClockSources : Prop :=
  (∀ (p count : Nat) (s : State), 6080 ≤ count → count ≤ 6720 → s.on (.ikb p) clkISrcStatRefReady = false →
     15 ≤ s.rd (.ikb p) refPasses →
     exec (.refclkWindow p count) s = .next (s.keepStores
       (((s.wr (.ikb p) clkIRefMeasCount count).wr (.ikb p) refPasses 16).wr (.ikb p) clkISrcStatRefReady 1))) ∧
  (∀ (p count : Nat) (s : State), 6080 ≤ count → count ≤ 6720 → s.on (.ikb p) clkISrcStatRefReady = false →
     s.rd (.ikb p) refPasses < 15 →
     exec (.refclkWindow p count) s = .next (s.keepStores ((s.wr (.ikb p) clkIRefMeasCount count).inc (.ikb p) refPasses))) ∧
  (∀ (p count : Nat) (s : State), count < 6080 ∨ 6720 < count → s.on (.ikb p) clkISrcStatRefReady = true →
     exec (.refclkWindow p count) s = .next (s.keepStores ((s.wr (.ikb p) clkIRefMeasCount count).lossAtIkb p 0))) ∧
  (∀ (p trim : Nat) (s : State), s.on (.ikb p) clkISrcStatRefReady = true →
     exec (.nwRecalibrate p trim) s = .next (s.keepStores (s.wr (.ikb p) clkINwTrimTrim trim))) ∧
  (∀ (d : Nat) (s : State), exec (.xtalQualified d) s = .next (s.keepStores
     ((s.wr (.wdie d) clkWSrcStatXtalReady 1).wr (.wdie d) clkWSrcStatAonOnXtal 1))) ∧
  (∀ (p : Nat) (s : State), exec (.pllLock (.ikb p)) s =
     (let t := (s.wr (.ikb p) clkISrcStatPllOn 1).wr (.ikb p) clkISrcStatPllLock 1
      .next (s.keepStores ((t.wr (.ikb p) clkIDomRunRun (t.rd (.ikb p) clkIDomRunRun ||| t.rd (.ikb p) wakeWait)).wr
        (.ikb p) wakeWait 0)))) ∧
  (∀ (p row : Nat) (s : State), row < 2 → exec (.sourceLoss (.ikb p) row) s =
     (let t := s.sourceLost (.ikb p) row
      .next (s.keepStores ((t.govBreak p 1 (t.rd (.ikb p) optabHardIdx)).endTiles p)))) ∧
  (∀ (d row : Nat) (s : State), exec (.sourceLoss (.wdie d) row) s = .next (s.keepStores (s.sourceLost (.wdie d) row))) ∧
  (∀ (p : Nat) (s : State), s.rd (.ikb p) lossRow = 3 →
     exec (.sourceRecovery (.ikb p)) s = .next (s.keepStores ((s.wr (.ikb p) lossRow 0).event (.ikb p) .clk 0x0404 1
       (pay [(2, 0), ((s.now - s.rd (.ikb p) lossAt) / us % 4294967296, 32)])))) ∧
  (∀ (u : Chip) (value : Nat) (s : State), exec (.clkDomSrcWrite u value) s = .next (s.keepStores
       (((List.range (domCount u)).foldl (fun (t : State) i => t.domSrcWrite u i (bitsOf value (2 * i) 2)) s).showSwBusy u))) ∧
  (∀ (u : Chip) (s : State), (∀ i < domCount u, s.rd u (swTarget i) = 0) → exec (.clkSwitchDone u) s = .next (s.keepStores
       (s.wr u (swBusyFld u) 0))) ∧
  (∀ (u : Chip) (s : State), exec (.clkSwitchDone u) s = .next (s.keepStores
       (((List.range (domCount u)).foldl (fun (t : State) i => t.switchDone u i) s).showSwBusy u))) ∧
  (∀ (p k value : Nat) (s : State), exec (.clkBlkEnWrite (.ikb p) k value) s = .next (s.keepStores
       (ikbBlks.foldl (fun (t : State) b => t.blkEnBit (.ikb p) b (bitAt value (pageNo (.ikb p) b))) s))) ∧
  (∀ (d k value : Nat) (s : State), exec (.clkBlkEnWrite (.wdie d) k value) s = .next (s.keepStores
       ((wdieBlks.filter fun b => pageNo (.wdie d) b / 32 == k).foldl
         (fun (t : State) b => t.blkEnBit (.wdie d) b (bitAt value (pageNo (.wdie d) b % 32))) s))) ∧
  (∀ (d value : Nat) (s : State), exec (.lensDivWrite d value) s = .next (s.keepStores
     ((s.wr (.wdie d) clkWLensDivDiv8 value).wr (.wdie d) lensDivAt (s.now / 20 * 20 + 40))))

/-- In Midnight a domain without work stops unless a page keeps it awake; a wake cause restarts a stopped domain whose
source runs and is kept in WAKE_CAUSE; the PLL of a part other than die 0 switches off after PLL_IDLE with no fast
domain running. ARM refuses by its reason or arms; CANCEL disarms; at the launch instant the transition begins, and
DONE brings the target mode into force in every part; an IKB enters the mode of a launch or a MODE frame at once.
VIKB_OFF_REQ is refused outside Midnight and remembered in it; the entry's completion ends with IKB_VIKB_OFF_OK. The
sites of a die are converted and MAX follows; a fallen DRAM supply or broken self-refresh clears SR_HELD. -/
def Obligations.SleepAndModes : Prop :=
  (∀ (u : Chip) (dom : Nat) (s : State), s.mode u = .midnight → (∀ b ∈ domBlks u dom, s.on u (hdrClkReqKeepAwake b) = false) →
     exec (.domainIdleStop u dom) s =
       (let t := s.clrB u (domRun u) dom
        .next (s.keepStores (if t.rd u (domRun u) = 0 then t.wr u idleFrom s.now else t)))) ∧
  (∀ (d dom cause : Nat) (s : State), s.domFeed (.wdie d) dom ≠ 0 → s.bit (.wdie d) clkWDomRunRun dom = false →
     s.on (.wdie d) clkWSrcStatPllLock = true →
     exec (.domainWake (.wdie d) dom cause) s = .next (s.keepStores (s.setB (.wdie d) clkWDomRunRun dom))) ∧
  (∀ (p dom cause : Nat) (s : State), s.bit (.ikb p) clkIDomRunRun dom = true →
     exec (.domainWake (.ikb p) dom cause) s = .next (s.keepStores
       (((((s.wr (.ikb p) aonWakeCauseReg (if cause = 0 then 1 else 0)).wr (.ikb p) aonWakeCauseIrq (if cause = 1 then 1 else 0)).wr
           (.ikb p) aonWakeCauseLtl (if cause = 2 then 1 else 0)).wr (.ikb p) aonWakeCauseMarker (if cause = 3 then 1 else 0)).wr
           (.ikb p) aonWakeCauseLaunch (if cause = 4 then 1 else 0)))) ∧
  (∀ (p : Nat) (s : State), s.mode (.ikb p) = .midnight → s.rd (.ikb p) clkIDomRunRun = 0 →
     s.rd (.ikb p) idleFrom + s.rd (.ikb p) clkIIdlePllIdle * us ≤ s.now →
     exec (.pllIdleOff (.ikb p)) s = .next (s.keepStores ((s.wr (.ikb p) clkISrcStatPllOn 0).wr (.ikb p) clkISrcStatPllLock 0))) ∧
  (∀ s : State, s.inTransition = true → exec .modeArm s = .next (s.keepStores (s.wr .pkg pkgmStatusResult 3))) ∧
  (∀ s : State, s.inTransition = false → (s.dieBase = 0 → s.rd .pkg pkgmNextNsNs < 1000000000) →
     s.dieTime + baseUs s.dieBase (leadUs (s.rd .pkg pkgmCurMode) (s.rd .pkg pkgmNextTarget)) ≤ s.nextInstant s.dieBase →
     s.on .pkg pkgmNextArmed = false → (s.wr .pkg pkgmNextArmed 1).on .pkg pkgmNextIkbFollow = false →
     exec .modeArm s = .next (s.keepStores (s.wr .pkg pkgmNextArmed 1))) ∧
  (∀ s : State, s.on .pkg pkgmNextArmed = true → exec .modeCancel s = .next (s.keepStores
       ((s.wr .pkg pkgmNextArmed 0).wr .pkg pkgmStatusResult 4).unplaceMode)) ∧
  (∀ s : State, s.on .pkg pkgmNextArmed = true → s.nextInstant s.dieBase ≤ s.dieTime →
     s.rd .pkg pkgmNextTarget ≠ s.rd .pkg pkgmCurMode → earlyUs (s.rd .pkg pkgmCurMode) (s.rd .pkg pkgmNextTarget) = 0 →
     exec .modeLaunch s = .next (s.keepStores
       ((((List.range s.dies).foldl (fun (t : State) d => t.wr (.wdie d) pwrStatInTransition 1)
         ((s.wr .pkg pkgmNextArmed 0).wr .pkg pkgmCurInTransition 1)).wr .pkg modeEarly 0).wr .pkg pkgmStatusResult 0).countMissed)) ∧
  (∀ s : State, s.on .pkg pkgmCurInTransition = true → s.on .pkg pkgStartStatDone = true →
     (∀ d < s.dies, s.present d = true → s.on (.wdie d) pwrStatSafe = false) → s.on .pkg modeEarly = false →
     ((s.enterPkg (s.rd .pkg pkgmNextTarget)).wr .pkg modePlaced 0).rd .pkg pkgmStatusResult ≠ 6 →
     exec .modeTransitionDone s = .next (s.keep
       (((s.enterPkg (s.rd .pkg pkgmNextTarget)).wr .pkg modePlaced 0).wr .pkg pkgmStatusResult 1))) ∧
  (∀ (p mode : Nat) (s : State), exec (.launchMode p mode) s = .next (s.keepStores (s.enterIkb p mode))) ∧
  (∀ (p mode : Nat) (s : State), exec (.ltlMode p mode) s = .next (s.keepStores (s.recv p true 0x0B 1 fun t => t.enterIkb p mode))) ∧
  (∀ (p : Nat) (s : State), s.rd (.ikb p) aonModeCurMode = 3 → s.on (.ikb p) aonModeInTransition = false →
     exec (.vikbOffReq p) s = .next (s.keepStores (s.wr (.ikb p) aonPwrCtrlVikbOffReq 1))) ∧
  (∀ (p : Nat) (s : State), s.on (.ikb p) aonPwrCtrlVikbOffReq = true → s.on (.ikb p) aonPwrCtrlRetainBaseline = false →
     exec (.powerDownEntryDone p) s = .next (s.keepStores
       (((((s.wr (.ikb p) retainedSet 0).sendUp p 0x0E [0]).linkIdle p).wr (.ikb p) aonPwrCtrlVikbOffReq 0).wr
         (.ikb p) aonPwrStatOffOk 1 |>.emit (.pin (Chip.ikb p).code "IKB_VIKB_OFF_OK" 1)))) ∧
  (∀ (d : Nat) (sites : List (Option Nat)) (s : State), s.enabled (.wdie d) .therm = true →
     exec (.thermConversion d sites) s = .next (s.keepStores
       (((List.range 8).foldl (fun (t : State) k => t.siteConvert (.wdie d) k (sites.getD k none)) s).thermMaxUpdate (.wdie d)))) ∧
  (∀ (d : Nat) (s : State), s.on (.wdie d) pwrStatSrHeld = false → exec (.dramSupplyFall d) s = .next (s.keepStores
       ((((s.wr (.wdie d) pwrStatDramSupply 0).wr (.wdie d) pwrStatSrHeld 0).pageErr (.wdie d) .pwr 0x0100 2).int (.wdie d) .pwr 2))) ∧
  (∀ (d : Nat) (s : State), s.on (.wdie d) pwrStatSrHeld = true → exec (.selfRefreshBreak d) s = .next (s.keepStores
       (((s.wr (.wdie d) pwrStatSrHeld 0).inc (.wdie d) pwrSafeCountSrBreaks).int (.wdie d) .pwr 1)))

/-- A committed addend within 1/1024 of the nominal one is in force; a read of NOW_FRAC answers the fraction and
latches nanoseconds and seconds for the requester; a STEP in ACQUIRE steps the clock, in another state it is refused.
A sample at OFFSET_IN reaches the servo; without a parent sample for PARENT_TIMEOUT the clock holds over; REACQUIRE
returns it to ACQUIRE and holds the slots armed in its base. A listed PTP event message is stamped, the parent's
Announce gives DEPTH and lock, and three intervals without one end the lock. A committed MER_SET sets the root's
Meridian counter, and a Meridian frame of the parent port is a sample of the others. -/
def Obligations.TimeClock : Prop :=
  (∀ (u : Chip) (r hi lo : Nat) (s : State), s.heldLow u r timeAddendLoAdd = some lo →
     nominalAddend u ≤ hi % 256 * 4294967296 + lo + nominalAddend u / 1024 →
     hi % 256 * 4294967296 + lo ≤ nominalAddend u + nominalAddend u / 1024 →
     exec (.addendCommit u r hi) s = .next (s.keepStores ((s.dropLow u r).setAddend u (hi % 256 * 4294967296 + lo)))) ∧
  (∀ (u : Chip) (r : Nat) (s : State), exec (.timeNowCapture u r) s = .next (s.keepStores
       (State.respond { s with latches := put (reqKey u r) (timeNowFracFrac.key u, (s.ltcOf u).ns + 4294967296 * (s.ltcOf u).sec) s.latches }
         u r false (s.ltcOf u).frac))) ∧
  (∀ (u : Chip) (step : Nat) (s : State), s.rd u timeStatState = 1 →
     exec (.timeStepWrite u step) s = .next (s.keepStores ((s.wr u timeStepNs step).ltcStepBy u (signedOf step 64)))) ∧
  (∀ (u : Chip) (step : Nat) (s : State), s.rd u timeStatState ≠ 1 →
     exec (.timeStepWrite u step) s = .next (s.keepStores (s.pageErr u .time 0x0100 1))) ∧
  (∀ (d sample : Nat) (s : State), exec (.offsetInWrite d sample) s = .next (s.keepStores (s.offsetSample (.wdie d) (signedOf sample 32)))) ∧
  (∀ (u : Chip) (s : State), s.enabled u .time = true → s.rd u timeStatState = 2 ∨ s.rd u timeStatState = 3 →
     (s.servoOf u).lastSample + s.rd u timeParentTimeoutMs * ms ≤ s.now →
     exec (.parentTimeout u) s = .next (s.keepStores (s.holdover u))) ∧
  (∀ (u : Chip) (s : State), exec (.timeReacquire u) s = .next (s.keepStores
       (((s.setLtcState u 1).pageErr u .time 0x0104 1).holdSlots u 0))) ∧
  (∀ (port : Nat) (m : PtpMessage) (s : State), s.enabled (.wdie (port / 2)) .time = true →
     s.on (.wdie (port / 2)) timePtpCfgEnable = true → m.unlisted = false → m.domain = s.rd (.wdie (port / 2)) timePtpCfgDomain →
     ptpListed (s.rd (.wdie (port / 2)) (portsRoleRole (port % 2))) m.kind = true → m.kind ≠ 0xB →
     exec (.ptpMessageReceive port m) s = .next (s.keepStores
       (s.wr (.wdie (port / 2)) (ptpStamp (port % 2)) (s.ltcOf (.wdie (port / 2))).quarters))) ∧
  (∀ (d : Nat) (s : State), s.rd (.wdie d) announceAt ≠ 0 →
     s.rd (.wdie d) announceAt + 3 * announceNs (s.rd (.wdie d) timePtpCfgLogAnnounce) ≤ s.now + 1 →
     s.rd (.wdie d) timeStatState ≠ 3 →
     exec (.announceTimeout d) s = .next (s.keepStores
       ((s.wr (.wdie d) announceAt 0).setServo (.wdie d) { s.servoOf (.wdie d) with parentLocked := false }))) ∧
  (∀ (d ticks : Nat) (s : State), s.on (.wdie d) timeCtrlMerRoot = true → exec (.merSetWrite d ticks) s = .next (s.keepStores
       (((s.wr (.wdie d) timeMerSetTick ticks).setMer (.wdie d)
         { s.merOf (.wdie d) with value := ticks % 2 ^ 64 * 2 ^ 40, set := true, rate := 2 ^ 40 }).wr (.wdie d) timeStatMerSet 1))) ∧
  (∀ (port tick frac delay : Nat) (s : State), s.enabled (.wdie (port / 2)) .time = true →
     s.rd (.wdie (port / 2)) timeCtrlMerParent = port →
     s.rd (.wdie (port / 2)) (portsRoleRole (port % 2)) = 1 ∨ s.rd (.wdie (port / 2)) (portsRoleRole (port % 2)) = 3 →
     s.on (.wdie (port / 2)) timeCtrlMerRoot = false →
     exec (.meridianFrame port tick frac delay) s = .next (s.keepStores (s.merSample (.wdie (port / 2)) (tick * 256 + frac + delay))))

/-- Every LTL_SYNC microseconds each LTL of a die that is up gets a TSYNC; a TSYNC is taken by the IKB of an enabled
TIME page and an ECHO by the die, with its stamp kept for the next TSYNC and the offset shown. A sampled digest that
matches, with room, is recorded with its stamp and sent when the link takes it; a digest closer than 4 ns to the one
before is counted untagged. -/
def Obligations.TimeExchangeAndTags : Prop :=
  (∀ (d : Nat) (s : State), s.enabled (.wdie d) .time = true →
     exec (.tsyncSend d) s = .next (s.keepStores ((List.range 8).foldl (fun (t : State) n =>
       if t.rd (.wdie d) (tsyncSentAt (.ltl n)) = 0 ||
          t.rd (.wdie d) (tsyncSentAt (.ltl n)) + t.rd (.wdie d) timeLtlSyncUs * us ≤ t.now + 1 then t.tsyncOn d n else t) s))) ∧
  (∀ (p : Nat) (f : Tsync) (s : State), s.on (endChip p true) (ltlStatUp (endBlk p true)) = true →
     exec (.tsyncReceive p f) s = .next (s.keepStores ((s.received p true 0x04 44).takeTsync p f))) ∧
  (∀ (p seq : Nat) (valid lock : Bool) (t3 : Nat) (s : State), s.on (endChip p false) (ltlStatUp (endBlk p false)) = true →
     exec (.echoReceive p seq valid lock t3) s = .next (s.keepStores ((s.received p false 0x05 16).takeEcho p seq valid lock t3))) ∧
  (∀ (p port dir digest gap : Nat) (s : State), s.enabled (.ikb p) .xrx = true →
     s.mode (.ikb p) ≠ .midnight → s.bit (.ikb p) (if dir = 0 then xrxCtrlTxEn else xrxCtrlRxEn) port = true → 4 ≤ gap →
     digest &&& s.rd (.ikb p) xrxSampleMaskMask = s.rd (.ikb p) xrxSampleMatchMatch &&& s.rd (.ikb p) xrxSampleMaskMask →
     (s.tagsOf p).length < 256 → s.rd (.ikb p) coderShedLevel < 5 →
     exec (.xrxDigest p port dir digest gap true) s = .next (s.keepStores (State.drainTags 1 p
       (((s.wr (.ikb p) (goodSince port) (s.now + 1)).inc (.ikb p) xrxRecordedCount).setTags p (s.tagsOf p ++
         [⟨digest, port, dir, s.on (.ikb p) timeStatFleetLock, s.on (.ikb p) timeStatLocalLock, s.tagStamp p port dir⟩]))))) ∧
  (∀ (p port dir digest gap : Nat) (s : State), s.enabled (.ikb p) .xrx = true →
     s.mode (.ikb p) ≠ .midnight → s.bit (.ikb p) (if dir = 0 then xrxCtrlTxEn else xrxCtrlRxEn) port = true → gap < 4 →
     exec (.xrxDigest p port dir digest gap true) s = .next (s.keepStores
       ((s.wr (.ikb p) (goodSince port) (s.now + 1)).inc (.ikb p) xrxUntaggedSpacing)))

/-- On an enabled LAUNCH page an idle slot is armed, except an IKB's slots 12 to 15 by a requester other than the
proxy, and a slot is disarmed. An armed slot whose instant has come within LATE_LIMIT takes its resource, raises its
interrupt, counts on and performs its action. A W-die's MARK keeps its telemetry; a PULSE drives the line until its
width is over; a GOV_STEP names the point; an ABFT_CHECK begins the checks, a PRISM launch opens the windows its ARG
names, a MODEL_SWAP with a staged model puts it in force, a NOTIFY sets its interrupt. -/
def Obligations.LaunchSlots : Prop :=
  (∀ (u : Chip) (r slot : Nat) (s : State), s.enabled u .launch = true → slot < slotCount u →
     u.isIkb = false ∨ slot < 12 ∨ r = 1 → s.slotFree u slot = true →
     exec (.launchArm u r slot) s = .next (s.keepStores (s.armSlot u slot))) ∧
  (∀ (u : Chip) (slot : Nat) (s : State), s.enabled u .launch = true → slot < slotCount u →
     exec (.launchDisarm u slot) s = .next (s.keepStores (s.disarmSlot u slot))) ∧
  (∀ (u : Chip) (slot : Nat) (s : State),
     let b := s.rd u (launchSlotCtrlBase slot)
     let action := s.rd u (launchSlotCtrlAction slot)
     let arg := s.rd u (launchSlotArgArg slot)
     slot < slotCount u → s.rd u (launchSlotCtrlState slot) = 1 → s.enabled u .launch = true →
     s.slotInstant u slot b ≤ s.timeIn u b → baseNs b (s.timeIn u b - s.slotInstant u slot b) ≤ 20 →
     baseNs b (s.timeIn u b - s.slotInstant u slot b) ≤ s.rd u launchLateLimitUs * us → fireKey action arg = none →
     exec (.launchFire u slot) s = .next (s.keep
       (((s.int u .launch slot).slotNext u slot (s.timeIn u b)).act u action arg b (s.slotInstant u slot b) false))) ∧
  (∀ (d markId : Nat) (late : Bool) (s : State), exec (.launchMark (.wdie d) markId late) s = .next (s.keepStores
       ((((s.wr (.wdie d) (wMark 0) (markId + 1)).wr (.wdie d) (wMark 1) (s.ltcOf (.wdie d)).nsTotal).wr (.wdie d) (wMark 2)
         (s.merOf (.wdie d)).ticks).wr (.wdie d) (wMark 3)
           (s.lockFlags (.wdie d) + 4 * late.toNat + 8 * s.rd (.wdie d) timeCtrlBase)))) ∧
  (∀ (p line : Nat) (s : State), s.enabled (.ikb p) .launch = true → s.rd (.ikb p) (pulseEnd (line % 4)) ≤ s.now + 1 →
     exec (.launchPulse p line) s = .next (s.keepStores ((s.pulsePin p (line % 4) true).wr (.ikb p) (pulseEnd (line % 4))
       (s.now + 4 * max 1 (s.rd (.ikb p) (launchPulseCfgWidth (line % 4))) + 1)))) ∧
  (∀ (p line : Nat) (s : State), s.rd (.ikb p) (pulseEnd (line % 4)) ≠ 0 → s.rd (.ikb p) (pulseEnd (line % 4)) ≤ s.now + 1 →
     exec (.pulseEnd p line) s = .next (s.keepStores ((s.wr (.ikb p) (pulseEnd (line % 4)) 0).pulsePin p (line % 4) false))) ∧
  (∀ (p entry : Nat) (s : State), exec (.launchGovStep p entry) s = .next (s.keepStores (s.govStep p entry))) ∧
  (∀ (p desc : Nat) (s : State), s.enabled (.ikb p) .abft = true →
     exec (.launchAbftCheck p desc) s = .next (s.keepStores (s.abftCheck p desc))) ∧
  (∀ (u : Chip) (arg : Nat) (s : State), s.enabled u .prism = true → bitAt arg 16 = 1 →
     ((List.range (ruleCount u)).filter fun r => bitAt arg r = 1) ≠ [] →
     exec (.launchPrism u arg) s = .next (s.keepStores
       ((((List.range (ruleCount u)).filter fun r => bitAt arg r = 1).foldl (fun (t : State) r =>
           (t.wr u (prismRuleArmWinOpen r) 1).wr u (prismWinEnd r)
             (if bitsOf arg 17 15 = 0 then 0 else s.now + bitsOf arg 17 15 * us + 1)) s).windowEvent u
         (((List.range (ruleCount u)).filter fun r => bitAt arg r = 1).foldl (fun a r => a + 2 ^ r) 0) 1))) ∧
  (∀ (d m base instant : Nat) (x : LModel) (s : State), s.enabled (.wdie d) .lens = true →
     (s.lslot d (m % 8)).staged = some x → s.on (.wdie d) lensLoadCmdBusy = false →
     exec (.launchModelSwap d m base instant) s = .next (s.keepStores
       ((((s.closeBatches d fun c => c.slot == m % 8).setLslot d (m % 8)
         { staged := none, force := some x, held := (s.lslot d (m % 8)).force, gen := (s.lslot d (m % 8)).gen + 1, base := base % 2,
           instant := instant, firedAt := s.now }).lensFollow d).int (.wdie d) .lens 2))) ∧
  (∀ (u : Chip) (slot : Nat) (s : State), s.enabled u .launch = true → slot < slotCount u →
     exec (.launchNotify u slot) s = .next (s.keepStores (s.int u .launch slot)))

/-- An event occurrence outside Midnight raises every baseline counter that selects its input and, in each bank of its
group whose gate is open, the counter of its position; in Midnight the baseline alone. A bank clear zeroes the bank's
counters and is refused for the baseline. The generator acts on its latest instant at or before now, once. A
read-out's end forwards the record when the link has room, counts it as shed when it is not to be forwarded.
KEYFRAME_NOW makes the next forward a key frame. -/
def Obligations.CountersAndSnapshots : Prop :=
  (∀ (p input : Nat) (s : State), s.enabled (.ikb p) .cntcfg = true → s.mode (.ikb p) ≠ .midnight →
     exec (.evtOccurrence p input) s = .next (s.keepStores ((List.range 63).foldl (fun (t : State) i =>
       if s.rd (.ikb p) (cntBankCfgGroup (i + 1)) = input % 1024 / 64 && s.gateOpen p (i + 1) then
         t.inc (.ikb p) (counter (64 * (i + 1) + input % 1024 % 64)) else t)
       ((List.range 64).foldl (fun (t : State) c => if s.baseSel p c = input % 1024 then t.inc (.ikb p) (counter c) else t) s)))) ∧
  (∀ (p input : Nat) (s : State), s.enabled (.ikb p) .cntcfg = true → s.mode (.ikb p) = .midnight →
     exec (.evtOccurrence p input) s = .next (s.keepStores
       ((List.range 64).foldl (fun (t : State) c => if s.baseSel p c = input % 1024 then t.inc (.ikb p) (counter c) else t) s))) ∧
  (∀ (p b : Nat) (s : State), b % 64 ≠ 0 → s.bit (.ikb p) snapSendMaskBanks (b % 64) = false →
     exec (.bankClear p b) s = .next (s.keepStores (s.clearBank p (b % 64)))) ∧
  (∀ (p b : Nat) (s : State), b % 64 = 0 → exec (.bankClear p b) s = .next (s.keepStores (s.pageErr (.ikb p) .cntcfg 0x0100 1))) ∧
  (∀ (p per : Nat) (s : State), let b := s.rd (.ikb p) timeCtrlBase; let now := s.timeIn (.ikb p) b
     let t := now - (now - s.snapEpoch p b) % per
     s.snapPeriod p b = some per → s.enabled (.ikb p) .snap = true → s.on (.ikb p) snapCtrlGenEn = true → s.snapEpoch p b ≤ now →
     per ≠ 0 → s.rd (.ikb p) genLast ≠ t + 1 →
     exec (.snapGenerator p) s = .next (s.keepStores (s.genInstant p b t per (baseNs b (now - t))))) ∧
  (∀ (p : Nat) (r : SnapRec) (s : State), look (Chip.ikb p).code s.snap = some r → r.forward = true →
     s.on (.ikb p) (ltlStatUp .link) = true →
     (State.int { s with snap := drop (Chip.ikb p).code s.snap } (.ikb p) .snap 0).snapRoom p r
       ((State.int { s with snap := drop (Chip.ikb p).code s.snap } (.ikb p) .snap 0).keyDue p r.mask) = true →
     exec (.snapReadoutDone p) s = .next (s.keepStores
       ((State.int { s with snap := drop (Chip.ikb p).code s.snap } (.ikb p) .snap 0).forwardSnap p r (s.rd (.ikb p) (cell .snap 4102))))) ∧
  (∀ (p : Nat) (r : SnapRec) (s : State), look (Chip.ikb p).code s.snap = some r → r.forward = false →
     exec (.snapReadoutDone p) s = .next (s.keepStores
       ((State.int { s with snap := drop (Chip.ikb p).code s.snap } (.ikb p) .snap 0).inc (.ikb p) snapStatCountsShed))) ∧
  (∀ (p : Nat) (s : State), exec (.keyframeNow p) s = .next (s.keepStores (s.wr (.ikb p) keyWanted 1)))

/-- A retire of a sequencer that does not sleep, with good parity, is traced by Table 6.7 as its stream now stands;
one that finds it asleep is counted. Sleep of a running stream flushes its map, adds the SLEEP packet and stops it;
wake adds the WAKE packet and asks for a SYNC. A record closes 10 us after its first packet, a branch map is emitted
10 us after its first outcome. SYNC_NOW marks each traced stream of the IKB; a non-secure write of AUTH is refused and
counted, a secure one before AUTH_LOCK is taken. A sample window's edge starts or stops the stream. -/
def Obligations.TraceCommands : Prop :=
  (∀ (p n : Nat) (r : Retire) (s : State), (s.streamOf p n).sleep = false → r.parity = true →
     (s.traceRefresh p n).traced p n = true →
     exec (.traceRetire p n r) s = .next (s.keepStores
       ((s.traceRefresh p n).settle p n ((s.traceRefresh p n).retireTraced p n r)))) ∧
  (∀ (p n : Nat) (r : Retire) (s : State), (s.streamOf p n).sleep = true →
     exec (.traceRetire p n r) s = .next (s.keepStores (s.inc (.ikb p) traceSleepDiscardCount))) ∧
  (∀ (p n : Nat) (s : State), (s.streamOf p n).sleep = false → (s.streamOf p n).st = 2 →
     exec (.trcSleepRise p n) s = .next (s.keepStores
       (let t1 := (Stream.flushMap { s.streamOf p n with sleep := true } s.now).push s.now
          (sleepPacket false (s.streamOf p n).lastAddr (s.traceTime p)) 0
        s.settle p n { t1 with st := 4, lastTarget := none }))) ∧
  (∀ (p n : Nat) (s : State), (s.streamOf p n).sleep = true → (s.streamOf p n).st = 4 →
     exec (.trcSleepFall p n) s = .next (s.keepStores
       (s.settle p n { (Stream.push { s.streamOf p n with sleep := false } s.now (wakePacket (s.traceTime p)) 0) with st := 1, reason := 2 }))) ∧
  (∀ (p n : Nat) (s : State), (s.streamOf p n).buf ≠ [] → (s.streamOf p n).bufAt + 10 * us ≤ s.now →
     exec (.traceRecordClose p n) s = .next (s.keepStores ((s.closeRecord p n).placeOverflow p n))) ∧
  (∀ (p n : Nat) (s : State), (s.streamOf p n).map ≠ [] → (s.streamOf p n).mapAt + 10 * us ≤ s.now →
     exec (.branchMapTimeout p n) s = .next (s.keepStores (s.settle p n ((s.streamOf p n).flushMap s.now)))) ∧
  (∀ (p : Nat) (s : State), exec (.traceSyncNow p) s = .next (s.keepStores { s with streams := s.streams.map fun e =>
       if e.1 / 64 = p && e.2.st ≠ 0 then (e.1, { e.2 with syncNow := true }) else e })) ∧
  (∀ (p value : Nat) (s : State), exec (.traceAuthWrite p value false) s = .next (s.keepStores
       ((s.inc (.ikb p) traceAuthRefusedCount).int (.ikb p) .trace 1))) ∧
  (∀ (p value : Nat) (s : State), s.on (.ikb p) traceAuthAuthLock = false →
     exec (.traceAuthWrite p value true) s = .next (s.keepStores
       ((s.wr (.ikb p) traceAuthTraceAuth value).wr (.ikb p) traceAuthAuthLock (bitAt value 3)))) ∧
  (∀ (p n : Nat) (s : State), (s.streamOf p n).st = 0 → s.traced p n = true →
     exec (.traceSampleWindow p n) s = .next (s.keepStores (s.setStream p n { s.streamOf p n with
       st := if (s.streamOf p n).sleep then 4 else 1, reason := 1, lastTarget := none, sinceSync := 0, lastAddr := none })))

/-- A marker with good parity that meets room and a known kind has its effect: STEP_BEGIN opens the step, STEP_END of
the open step closes it and writes its time, another is an orphan; PHASE sets the phase of the gates; CKPT_BEGIN and
CKPT_END drive the in-field check. A marker with bad parity is discarded and counted with the event. A poison
indication with good parity enters its generation, counts its kind and raises the event and interrupt; CLEAR_ALL
empties the table. -/
def Obligations.MarkersAndPoison : Prop :=
  (∀ (p : Nat) (m : Marker) (s : State), m.parity = true → m.full = false → m.reserved = false →
     exec (.markerStepBegin p m) s = .next (s.keepStores
       ((((s.ifOn (.ikb p) .cntcfg fun t => t.wr (.ikb p) cntStepStatInStep 1).wr (.ikb p) stepNo (m.step % 4294967296 + 1)).wr
         (.ikb p) stepAt (s.ltcOf (.ikb p)).nsTotal).watchBegin p (m.step % 4294967296)))) ∧
  (∀ (p : Nat) (m : Marker) (s : State), m.parity = true → m.full = false → m.reserved = false →
     s.rd (.ikb p) stepNo = m.step % 4294967296 + 1 →
     exec (.markerStepEnd p m) s = .next (s.keepStores
       ((((s.ifOn (.ikb p) .cntcfg fun t => t.wr (.ikb p) cntStepStatInStep 0).wr (.ikb p) stepNo 0).event (.ikb p) .snap 0x0601 0
         (pay [(m.step % 4294967296, 0), (((s.ltcOf (.ikb p)).nsTotal + 2 ^ 64 - s.rd (.ikb p) stepAt) % 2 ^ 64, 32)])).watchEnd p))) ∧
  (∀ (p : Nat) (m : Marker) (s : State), m.parity = true → m.full = false → m.reserved = false →
     s.rd (.ikb p) stepNo ≠ m.step % 4294967296 + 1 →
     exec (.markerStepEnd p m) s = .next (s.keepStores (s.markerLost p snapMarkersOrphan))) ∧
  (∀ (p : Nat) (m : Marker) (s : State), m.parity = true → m.full = false → m.reserved = false →
     s.enabled (.ikb p) .cntcfg = true →
     exec (.markerPhase p m) s = .next (s.keepStores
       ((s.wr (.ikb p) cntStepStatPhase m.phase).wr (.ikb p) cntStepStatPhaseValid 1))) ∧
  (∀ (p : Nat) (m : Marker) (s : State), m.parity = true → m.full = false → m.reserved = false →
     exec (.markerCkptBegin p m) s = .next (s.keepStores
       ((s.event (.ikb p) .snap 0x0602 0 (m.step % 4294967296)).ifcCkptBegin p))) ∧
  (∀ (p : Nat) (m : Marker) (s : State), m.parity = true → m.full = false → m.reserved = false →
     exec (.markerCkptEnd p m) s = .next (s.keepStores (s.ifcCkptEnd p))) ∧
  (∀ (p : Nat) (m : Marker) (s : State), m.parity = false →
     exec (.markerPhase p m) s = .next (s.keepStores ((s.markerLost p snapMarkersParity).event (.ikb p) .snap 0x0301 1 0))) ∧
  (∀ (p unit gen : Nat) (s : State),
     exec (.poisonIndication p 0 unit gen true false) s = .next (s.keepStores
       (((((s.poisonGen p (gen % 65536) 1).inc (.ikb p) abftPsnCountMem).event (.ikb p) .abft 0x0704 2
         (pay [(0, 0), (unit % 64, 8), (gen % 65536, 16)])).int (.ikb p) .abft 3)))) ∧
  (∀ (p : Nat) (s : State), exec (.poisonClearAll p) s = .next (s.keepStores ((List.range 16).foldl (fun (t : State) k =>
       ((t.wr (.ikb p) (abftPoisonGen k) 0).wr (.ikb p) (abftPoisonValid k) 0).wr (.ikb p) (abftPoisonSource k) 0) s)))

/-- A beat outside Midnight is counted in its engine's load and taken into its tile; in Midnight it is recorded as
activity. A tile not closed 100 us after its first beat is a breach TAP_TIMEOUT; a closed tile's check gives its
result; a copy without a partner 100 us after its last beat is unchecked, NO_PAIR. A mode that the rules accept is
taken, another refused; PENDING is written; an expected digest is written unless a check runs. The deadline in PENDING
puts the fallback in force; WAIT_MS after CKPT_BEGIN releases the checkpoint; TIMEOUT_MS after the fire the check ends
INCOMPLETE. The reports of the oldest ended step are formed once its tiles have ended. -/
def Obligations.TapsAndChecks : Prop :=
  (∀ (p n : Nat) (b : Beat) (s : State), s.mode (.ikb p) ≠ .midnight → b.tag < 16777216 → b.gen < 65536 → b.kind < 4 →
     exec (.tapBeat p n b) s = .next (s.keepStores ((s.countBeat p n).beat p n b))) ∧
  (∀ (p n : Nat) (b : Beat) (s : State), s.mode (.ikb p) = .midnight →
     exec (.tapBeat p n b) s = .next (s.keepStores (s.event (.ikb p) .abft 0x0401 1 (pay [(0, 0), (n, 4)])))) ∧
  (∀ (p n tag : Nat) (t : Tile) (s : State), ((s.tilesOf p n).find? fun t => t.tag == tag % 16777216) = some t → t.closed = false →
     t.dead = none → t.firstAt + 100 * us ≤ s.now →
     exec (.tileTimeout p n tag) s = .next (s.keepStores ((s.setTiles p n (dropTile t.id (s.tilesOf p n))).breach p n t 0x5))) ∧
  (∀ (p n tag : Nat) (t : Tile) (s : State),
     ((s.tilesOf p n).find? fun t => t.tag == tag % 16777216 && t.closed && t.result.isNone && t.dead.isNone) = some t →
     t.check ≠ 0 → t.test = false → t.check ≠ 3 →
     exec (.tileCheckDone p n tag) s = .next (s.keepStores
       (((s.free 32).2.free 32).2.endTile p n t (((s.free 32).2.free 32).2.checkTile p n t (s.free 32).1 ((s.free 32).2.free 32).1)))) ∧
  (∀ (p n tag : Nat) (t : Tile) (s : State), ((s.tilesOf p n).find? fun t => t.tag == tag % 16777216) = some t → t.check = 3 →
     t.test = false → t.closed = true → t.dead = none → t.lastAt + 100 * us ≤ s.now → s.partner p n t = none →
     exec (.redundancyNoPair p n tag) s = .next (s.keepStores
       ((((s.setTiles p n (dropTile t.id (s.tilesOf p n))).inc (.ikb p) (abftEngPairNoPair n)).commitTile p n t).unchecked
         p n tag t.gen 0x9 t.hold))) ∧
  (∀ (p value : Nat) (s : State), bitsOf value 0 3 ≤ 3 → bitAt value 3 = 0 ∨ 2 ≤ bitsOf value 0 3 → bitsOf value 4 4 ≠ 0 →
     exec (.abftModeWrite p value) s = .next (s.keepStores
       (((((s.wr (.ikb p) abftModeCheck (bitsOf value 0 3)).wr (.ikb p) abftModeHold (bitAt value 3)).wr (.ikb p) abftModeSampleN
         (bitsOf value 4 4)).wr (.ikb p) abftModeEngEn (bitsOf value 16 16)).effUpdate p))) ∧
  (∀ (p value : Nat) (s : State), bitsOf value 4 4 = 0 →
     exec (.abftModeWrite p value) s = .next (s.keepStores (s.pageErr (.ikb p) .abft 0x0100 1))) ∧
  (∀ (p value : Nat) (s : State), exec (.ifcPendingWrite p value) s = .next (s.keepStores (s.wr (.ikb p) abftIfcCtrlPending value))) ∧
  (∀ (p k digest : Nat) (s : State), s.on (.ikb p) abftIfcCtrlRunning = false →
     exec (.ifcExpectWrite p k digest) s = .next (s.keepStores (s.wr (.ikb p) (abftIfcExpectDigest (k % 256)) digest))) ∧
  (∀ (p : Nat) (s : State), s.on (.ikb p) abftIfcCtrlPending = true → s.on (.ikb p) abftIfcCtrlRunning = false →
     s.on (.ikb p) abftModeFallback = false → s.ifcAhead p = false →
     exec (.ifcDeadline p) s = .next (s.keepStores ((s.setFallback p 1).event (.ikb p) .abft 0x0709 1
       (pay [(if s.on (.ikb p) ifcFired then s.rd (.ikb p) abftIfcDescDesc else 0, 0),
             (s.rd (.ikb p) abftIfcDlSecLoSec + 4294967296 * s.rd (.ikb p) abftIfcDlSecHiSec, 32)])))) ∧
  (∀ (p : Nat) (s : State), s.on (.ikb p) ifcCkptAt = true → s.on (.ikb p) abftIfcCtrlRunning = false →
     s.rd (.ikb p) ifcCkptAt + s.rd (.ikb p) abftIfcTimingWaitMs * ms ≤ s.now + 1 →
     exec (.ifcWaitExpiry p) s = .next (s.keepStores ((s.wr (.ikb p) ifcCkptAt 0).ifcRelease p))) ∧
  (∀ (p : Nat) (s : State), s.on (.ikb p) abftIfcCtrlRunning = true →
     s.rd (.ikb p) ifcFireAt + s.rd (.ikb p) abftIfcTimingTimeoutMs * ms ≤ s.now →
     exec (.ifcTimeout p) s = .next (s.keepStores (s.ifcIncomplete p))) ∧
  (∀ (p : Nat) (w : WatchStep) (ws : List WatchStep) (s : State), s.watchOf p = w :: ws → w.ended = true →
     s.stepOpen p w.id = false →
     exec (.watchReportForm p) s = .next (s.keepStores
       (w.entries.foldl (fun (t : State) x => t.sendReport p w x) (s.setWatch p ws))))

/-- A rise of GOV_ACK with a request standing puts the requested point in force and withdraws the request; its fall
ends the handshake. 1 us without the rise is logged and opens a break, 100 us abandon the handshake and ask for the
recovery. A clean AVS_ACK withdraws the request, its fall ends the transaction, 100 us without it stop the change.
RAIL_PG bits that rise are taken, one that falls with no voltage change in progress is a rail fault. The hold past,
GOV_HARD falls unless a loss or an exhaustion keeps it. -/
def Obligations.GovernorHandshakes : Prop :=
  (∀ (p : Nat) (s : State), let t : State := (((s.wr (.ikb p) govAck 1).wr (.ikb p) govReq 0).wr (.ikb p) govStatCurIdx (s.rd (.ikb p) govReqIdx)).wr (.ikb p) govStageCurSet 1
     (s.wr (.ikb p) govAck 1).on (.ikb p) govReq = true → s.changeOf p = none →
     exec (.govAckRise p) s = .next (s.keepStores (t.emit (.pin (Chip.ikb p).code "GOV_REQ" 0)))) ∧
  (∀ (p : Nat) (s : State), (s.wr (.ikb p) govAck 0).on (.ikb p) govReq = false →
     exec (.govAckFall p) s = .next (s.keepStores (((s.wr (.ikb p) govAck 0).wr (.ikb p) govStatHsBusy 0).govNext p))) ∧
  (∀ (p : Nat) (s : State), s.on (.ikb p) govReq = true → s.on (.ikb p) govTimedOut = false → s.rd (.ikb p) govReqAt + us ≤ s.now →
     exec (.govAckTimeout p) s = .next (s.keepStores
       ((((s.wr (.ikb p) govTimedOut 1).pageErr (.ikb p) .gov 0x0101 2).int (.ikb p) .gov 4).govBreak p 4 (s.rd (.ikb p) govStatCurIdx)))) ∧
  (∀ (p : Nat) (s : State), s.on (.ikb p) govReq = true → s.rd (.ikb p) govReqAt + 100 * us ≤ s.now → s.on (.ikb p) govAck = true →
     exec (.govAckAbort p) s = .next (s.keepStores
       ((((((s.wr (.ikb p) govReq 0).pageErr (.ikb p) .gov 0x0104 2).int (.ikb p) .gov 4).emit (.pin (Chip.ikb p).code "GOV_REQ" 0)).setChange
         p none).wr (.ikb p) govRecover 1))) ∧
  (∀ (p ack rdata : Nat) (s : State), ack % 4 = 0 → ((s.wr (.ikb p) avsAck 1).wr (.ikb p) (cell .gov 23) rdata).on (.ikb p) avsReq = true →
     exec (.avsAckRise p ack false rdata) s = .next (s.keepStores
       ((((s.wr (.ikb p) avsAck 1).wr (.ikb p) (cell .gov 23) rdata).wr (.ikb p) avsReq 0).emit (.pin (Chip.ikb p).code "AVS_REQ" 0)))) ∧
  (∀ (p : Nat) (s : State), s.on (.ikb p) avsReq = false →
     exec (.avsAckFall p) s = .next (s.keepStores (((s.wr (.ikb p) avsAck 0).wr (.ikb p) govStatAvsBusy 0).govNext p))) ∧
  (∀ (p : Nat) (s : State),
     let t : State := (((s.wr (.ikb p) avsReq 0).emit (.pin (Chip.ikb p).code "AVS_REQ" 0)).pageErr (.ikb p) .gov 0x0102 2).int (.ikb p) .gov 4
     s.on (.ikb p) avsReq = true → s.rd (.ikb p) avsAt + 100 * us ≤ s.now → t.changeOf p = none → s.on (.ikb p) avsAck = true →
     exec (.avsTimeout p) s = .next (s.keepStores t)) ∧
  (∀ (p rails : Nat) (s : State), s.changeOf p = none →
     exec (.railPgRise p rails) s = .next (s.keepStores (s.wr (.ikb p) railPg (s.rd (.ikb p) railPg ||| rails % 256)))) ∧
  (∀ (p r : Nat) (s : State), s.voltChanging p = false →
     exec (.railPgFall p r) s = .next (s.keepStores
       ((((s.wr (.ikb p) railPg (clrBit (s.rd (.ikb p) railPg) (r % 8))).setB (.ikb p) healthRailFaultPgFall (r % 8)).event (.ikb p) .health
         0x0806 2 (pay [(r % 8, 0), (s.rd (.ikb p) (healthRailNowVNow (r % 8)), 16), (s.rd (.ikb p) (healthRailNowINow (r % 8)), 32)])).int
           (.ikb p) .health 0))) ∧
  (∀ (p : Nat) (s : State), s.on (.ikb p) govStatHard = true → s.rd (.ikb p) hardUntil ≤ s.now → s.on (.ikb p) safeIkb = false →
     s.on (.ikb p) hardAwaitSample = false → s.on (.ikb p) exhausted = false →
     exec (.govHardRelease p) s = .next (s.keepStores
       (((s.wr (.ikb p) govStatHard 0).wr (.ikb p) causeAt s.now).emit (.pin (Chip.ikb p).code "GOV_HARD" 0))))

/-- A conversion of an enabled channel outside Midnight gives V_NOW and I_NOW, enters average and peak, and passes the
low-voltage, window and hard checks. A calibration offset beyond 8 codes is a fault of the channel. A thermal sample
with good parity refreshes its site and the maximum follows; a present site not refreshed for 1 ms becomes stale. An
epoch instant not acted on forms the request and reports it. A break open for PERSIST_US with a recent cause persists;
one without a cause for PERSIST_US closes and is reported; RAISE_HOLD_MS later its request ends. The root of a job
raises its point to a persisted one. A free OPTAB entry is written. A JOB_IDX frame sets the job point, at once when
it says so. -/
def Obligations.GovernorSensing : Prop :=
  (∀ (p r vcode icode : Nat) (s : State),
     let u := Chip.ikb p
     let k := r % 8
     let v := vcode % 4096 * 1200 / 4096
     let i := icode % 4096 * s.rd u (healthRailScaleScale k) * 15 / 131072
     let t := (s.wr u (healthRailNowVNow k) v).wr u (healthRailNowINow k) i
     let w := (t.averaged p k i).wr u (healthRailStatsIPeak k) (max (t.rd u (healthRailStatsIPeak k)) i)
     s.enabled u .health = true → s.bit u healthChanEnEn k = true → s.on u hardAwaitSample = false → s.mode u ≠ .midnight →
     w.bit u healthChanEnFaulted k = false →
     exec (.senseConversion p r vcode icode) s = .next (s.keepStores (((w.lowCheck p k v).windowCheck p k v).hardCheck p k i))) ∧
  (∀ (p r : Nat) (voltage current : Int) (s : State), current.natAbs ≤ voltage.natAbs → 8 < voltage.natAbs →
     exec (.adcOffsetCal p r voltage current) s = .next (s.keepStores
       (s.senseFault p (r % 8) 0x0809 (pay [(r % 8, 0), (0, 8), (ofSigned voltage 16, 16)])))) ∧
  (∀ (p site code : Nat) (s : State), s.enabled (.ikb p) .health = true →
     exec (.thermSample p site code true) s = .next (s.keepStores
       ((((s.wr (.ikb p) (siteCode (site % 64)) (code % 4096)).wr (.ikb p) (siteAt (site % 64)) (s.now + 1)).clrB
         (.ikb p) healthThermStaleSites (site % 64)).thermUpdate p))) ∧
  (∀ (p site : Nat) (s : State), s.bit (.ikb p) healthThermPresentSites (site % 64) = true →
     s.bit (.ikb p) healthThermStaleSites (site % 64) = false → s.rd (.ikb p) (siteAt (site % 64)) + ms ≤ s.now + 1 →
     exec (.thermSiteStale p site) s = .next (s.keepStores
       (((s.setB (.ikb p) healthThermStaleSites (site % 64)).int (.ikb p) .health 2).thermUpdate p))) ∧
  (∀ (p : Nat) (s : State),
     let t := (s.wr (.ikb p) epochLast (s.epochNo (.ikb p) + 1)).softCaps p
     let w := (t.wr (.ikb p) govStatReqIdx (t.request p)).govReport p 0 (t.rd (.ikb p) govStatCause)
     s.enabled (.ikb p) .gov = true → s.mode (.ikb p) ≠ .midnight → s.baseValid (.ikb p) = true →
     s.rd (.ikb p) epochLast ≠ s.epochNo (.ikb p) + 1 → w.rd (.ikb p) govJobJob = 0 →
     exec (.govEpoch p) s = .next (s.keepStores (w.localRule p (t.request p)))) ∧
  (∀ (p : Nat) (s : State), s.on (.ikb p) govStatBreak = true → s.on (.ikb p) govStatPersist = false →
     s.rd (.ikb p) breakAt + s.persistNs p ≤ s.now → 2 * s.quiet p < s.persistNs p →
     exec (.breakPersist p) s = .next (s.keepStores (s.breakPersists p))) ∧
  (∀ (p : Nat) (s : State), s.on (.ikb p) govStatBreak = true → s.rd (.ikb p) govStatCurIdx = s.rd (.ikb p) govStatJobIdx →
     s.on (.ikb p) govStatHard = false → s.persistNs p ≤ s.quiet p →
     exec (.breakClose p) s = .next (s.keepStores
       (let t := (s.wr (.ikb p) govStatBreak 0).wr (.ikb p) govStatPersist 0
        ((t.govReport p 3 (s.rd (.ikb p) govStatCause)).wr (.ikb p) govStatCause 0).wr (.ikb p) breakHold
         (s.now + s.rd (.ikb p) govBreakCfgRaiseHoldMs * ms + 1)))) ∧
  (∀ (p : Nat) (s : State), s.on (.ikb p) govStatBreak = false → s.on (.ikb p) breakHold = true →
     s.rd (.ikb p) breakHold ≤ s.now + 1 →
     exec (.raiseHoldExpiry p) s = .next (s.keepStores ((s.wr (.ikb p) govStatBreakIdx 0).wr (.ikb p) breakHold 0))) ∧
  (∀ (job index : Nat) (c : JobCfg) (s : State), s.jobOf job = some c → c.rootOf 0 = s.ownCoord → c.point < max c.kind2 (index % 32) →
     exec (.govPersistAtRoot job index) s = .next (s.keepStores
       ((s.setJob { c with kind2 := max c.kind2 (index % 32) }).launchPoint { c with kind2 := max c.kind2 (index % 32) }
         (max c.kind2 (index % 32)) c.lowerLead))) ∧
  (∀ (p r i value : Nat) (s : State), s.locked (.ikb p) .optab = false → s.entryBusy p (i % 32) = false → bitAt value 7 = 0 →
     exec (.optabWrite p r i 0 value) s = .next (s.keepStores
       ((((s.wr (.ikb p) (optabEntryPointFsel (i % 32)) value).wr (.ikb p) (optabEntryPointValid (i % 32)) 0).wr
         (.ikb p) (optabEntryPointFreqMhz (i % 32)) (bitsOf value 16 16)).pointCheck p))) ∧
  (∀ (p idx : Nat) (apply : Bool) (s : State), s.on (endChip p true) (ltlStatUp (endBlk p true)) = true →
     s.on (endChip p true) (verBad (endBlk p true)) = false →
     exec (.ltlJobIdx p idx apply) s = .next (s.keepStores ((s.received p true 0x11 2).takeJobIdx p idx apply)))

/-- A CREDIT frame's totals become the transmitter's credit and waiting frames follow; CREDIT and STATUS are sent with
their totals and sequences. At the die a STATUS tells missing records and line levels, IRQ_STATE the levels, RING_LOST
that what the ring no longer holds is lost; at the IKB a RESEND is answered from the ring. An open gap is asked for
again 50 us after the last RESEND, up to eight sends, and then its records are lost. The sound record of an EVENTS
frame of one record is judged. An ACK ends a report's repeats; a report is repeated 10 us after its last send, a
report that arrives is taken. LEVEL_CMD sets the commanded level, KEYFRAME_REQ asks for a key frame. -/
def Obligations.LinkFrames : Prop :=
  (∀ (p : Nat) (totals : List Nat) (s : State), s.on (endChip p false) (ltlStatUp (endBlk p false)) = true →
     exec (.ltlCredit p false totals) s =
     (let u := endChip p false
      let b := endBlk p false
      let t := (List.range 8).foldl (fun (t : State) c => t.wr u (txFreed b c) (nth totals c % 65536)) (s.wr u (uncorrRun b) 0)
      .next (s.keepStores (State.pump (t.txWaiting u b).length u b t)))) ∧
  (∀ (p : Nat) (s : State), exec (.creditSend p true) s = .next (s.keepStores
       (s.sendUp p 2 ((List.range 8).map fun c => s.rd (.ikb p) (rxFreed .link c))))) ∧
  (∀ (p : Nat) (s : State), exec (.creditSend p false) s = .next (s.keepStores
       (s.sendDown p 2 ((List.range 8).map fun c => s.rd (dieOfPort p) (rxFreed (linkOfPort p) c))))) ∧
  (∀ (p last irq : Nat) (s : State), s.on (endChip p false) (ltlStatUp (endBlk p false)) = true →
     exec (.ltlStatus p last irq) s = .next (s.keepStores (((s.received p false 0x03 8).statusSeen p last).fwdLevels p irq))) ∧
  (∀ (p : Nat) (s : State), s.enabled (.ikb p) .link = true → exec (.statusSend p) s = .next (s.keepStores
       (s.sendUp p 0x03 [(s.rd (.ikb p) evrSeqNext + 4294967295) % 4294967296, (s.rd (.ikb p) (txFseq .link 1) + 65535) % 65536,
         s.irqLevels p]))) ∧
  (∀ (p levels : Nat) (s : State), s.on (endChip p false) (ltlStatUp (endBlk p false)) = true →
     exec (.ltlIrqState p levels) s = .next (s.keepStores ((s.received p false 0x0C 1).fwdLevels p levels))) ∧
  (∀ (p seq : Nat) (r : EvRec) (rs : List EvRec) (s : State), s.on (endChip p true) (ltlStatUp (endBlk p true)) = true →
     (((s.received p true 0x07 4).ringHeld (.ikb p)).filter fun r => (seqAhead seq r.seq).isSome) = r :: rs →
     r.seq = seq % 4294967296 →
     exec (.ltlResend p seq) s = .next (s.keepStores
       (((r :: rs).foldl (fun (a : State) r => a.sendUpAs p 0x20 true (recWords r)) (s.received p true 0x07 4)).wr (.ikb p) evrSent
         ((s.received p true 0x07 4).rd (.ikb p) evrSeqNext)))) ∧
  (∀ (p oldest : Nat) (s : State), s.on (endChip p false) (ltlStatUp (endBlk p false)) = true →
     exec (.ltlRingLost p oldest) s =
     (let t1 := (s.received p false 0x08 4).openGap p oldest
      let t2 := if (seqAhead (t1.rd (dieOfPort p) (evNext (linkOfPort p))) oldest).isSome
        then t1.wr (dieOfPort p) (evNext (linkOfPort p)) oldest else t1
      .next (s.keepStores (t2.loseEvents p ((t2.gapOf p).missing.filter fun q => (seqAhead q oldest).isSome && q ≠ oldest))))) ∧
  (∀ (p : Nat) (s : State), (s.gapOf p).missing ≠ [] → (s.gapOf p).last + 50 * us ≤ s.now → (s.gapOf p).sends < 8 →
     exec (.resendRepeat p) s = .next (s.keepStores (s.resend p))) ∧
  (∀ (p : Nat) (s : State), (s.gapOf p).missing ≠ [] → (s.gapOf p).last + 50 * us ≤ s.now → 8 ≤ (s.gapOf p).sends →
     exec (.resendRepeat p) s = .next (s.keepStores (s.loseEvents p (s.gapOf p).missing))) ∧
  (∀ (p : Nat) (r : EvRec) (s t : State), s.on (dieOfPort p) (ltlStatUp (linkOfPort p)) = true →
     s.on (dieOfPort p) (verBad (linkOfPort p)) = false →
     (s.wr (dieOfPort p) (uncorrRun (linkOfPort p)) 0).arriveLtl p 0 32 ((evBytes r).map fun b => b.toNat) = (t, true) →
     exec (.ltlEvents p [r] []) s = .next (s.keepStores ((t.wr (dieOfPort p) (rxFreed (linkOfPort p) 2)
       ((t.rd (dieOfPort p) (rxFreed (linkOfPort p) 2) + flitsOf 32) % 65536)).recvRec p r).1)) ∧
  (∀ (p fseq : Nat) (s : State), s.on (endChip p true) (ltlStatUp (endBlk p true)) = true →
     exec (.ltlAck p 1 fseq) s = .next (s.keepStores
       ((s.received p true 0x06 4).setReports p (((s.received p true 0x06 4).reportsOf p).filter fun r => r.fseq != fseq)))) ∧
  (∀ (p : Nat) (r : GovReport) (s : State), s.reportsOf p = [r] → r.last + 10 * us ≤ s.now → r.sends < 8 →
     exec (.govReportRepeat p) s = .next (s.keepStores
       ((s.setReports p [{ r with sends := r.sends + 1, last := s.now }]).sendUpAs p 0x10 true (r.fseq :: r.body)))) ∧
  (∀ (p fseq : Nat) (body : List Nat) (s t : State), s.on (dieOfPort p) (ltlStatUp (linkOfPort p)) = true →
     s.on (dieOfPort p) (verBad (linkOfPort p)) = false →
     (s.wr (dieOfPort p) (uncorrRun (linkOfPort p)) 0).arriveLtl p 1 16 body = (t, true) →
     exec (.ltlGovReport p fseq body) s = .next (s.keep ((t.wr (dieOfPort p) (rxFreed (linkOfPort p) 1)
       ((t.rd (dieOfPort p) (rxFreed (linkOfPort p) 1) + flitsOf 16) % 65536)).takeReport p fseq body))) ∧
  (∀ (p level : Nat) (s : State), s.on (endChip p true) (ltlStatUp (endBlk p true)) = true →
     exec (.ltlLevelCmd p level) s = .next (s.keepStores
       ((s.received p true 0x09 1).setShed p ((s.received p true 0x09 1).rd (.ikb p) coderShedLocal) level))) ∧
  (∀ (p : Nat) (s : State), s.on (endChip p true) (ltlStatUp (endBlk p true)) = true →
     exec (.ltlKeyframeReq p) s = .next (s.keepStores ((s.received p true 0x0A 0).wr (.ikb p) keyWanted 1)))

/-- A link that may train goes from state to state as the lanes pass, ends in HELLO and, with both HELLOs, comes up at
both ends with their credit; training that takes 10 ms ends with a link fault. An end that falls handles its
link-down; GOODBYE and RETRAIN make it planned. An uncorrectable codeword is counted, the sixteenth in a row brings
the link down. A failed lane of two leaves the other; a WIDTH frame names the change, which both ends make at the
codeword; FORCE_ONE_LANE is written and its change begun. In Midnight an idle link enters low-power idle and refreshes
each 1 ms. The transmit buffer's occupancy raises or lowers the local level. -/
def Obligations.LinkState : Prop :=
  (∀ (p lanes lat : Nat) (s : State), s.mayTrain p = true → s.rd (.ikb p) (ltlStatState .link) = 0 →
     exec (.trainingStateDone p lanes lat) s = .next (s.keepStores
       (((s.both p ltlStatState 1).both p lanesOk 3).both p trainAt s.now))) ∧
  (∀ (p lanes lat : Nat) (s : State), s.mayTrain p = true → s.rd (.ikb p) (ltlStatState .link) = 4 →
     s.on (.ikb p) (helloGot .link) = true → s.on (dieOfPort p) (helloGot (linkOfPort p)) = true →
     s.rd (.ikb p) (lanesOk .link) = 3 → s.oneLaneWanted p = false →
     exec (.trainingStateDone p lanes lat) s =
     (let t := (((s.setWidth p 2 (s.laneKept p) lat).both p ltlStatUp 1).both p ltlStatLaneFailed 0).both p upDue 1
      .next (s.keepStores ((((t.startCredit p).both p downDue 0).both p uncorrRun 0).both p lowPower 0)))) ∧
  (∀ (p lanes : Nat) (s : State), s.rd (endChip p true) (ltlStatState (endBlk p true)) = 4 →
     exec (.ltlHello p true lanes true) s = .next (s.keepStores
       ((s.wr (endChip p true) (helloGot (endBlk p true)) 1).both p lanesOk
         (s.rd (endChip p true) (lanesOk (endBlk p true)) &&& lanes)))) ∧
  (∀ (p : Nat) (s : State), 1 ≤ s.rd (.ikb p) (ltlStatState .link) → s.rd (.ikb p) (ltlStatState .link) ≤ 4 →
     s.rd (.ikb p) (trainAt .link) + 10 * ms ≤ s.now →
     exec (.trainingTimeout p) s = .next (s.keepStores ((s.both p ltlStatState 0).linkFault p))) ∧
  (∀ (p : Nat) (s : State), s.on (dieOfPort p) (upDue (linkOfPort p)) = true → (s.linkUpDie p).on (.ikb p) (upDue .link) = true →
     exec (.linkUp p) s = .next (s.keepStores
       (State.drainTags 16 p (((s.linkUpDie p).wr (.ikb p) (upDue .link) 0).int (.ikb p) .link 1)))) ∧
  (∀ (p : Nat) (s : State), s.endUp p false = true → exec (.linkDown p false) s = .next (s.keepStores (s.downAtDie p false 0))) ∧
  (∀ (p : Nat) (s : State), s.endUp p true = true → s.rd (.ikb p) (goodbyeSent .link) = 0 →
     exec (.linkDown p true) s = .next (s.keepStores (s.downAtIkb p false 0))) ∧
  (∀ (p reason : Nat) (s : State), s.on (endChip p false) (ltlStatUp (endBlk p false)) = true →
     exec (.ltlGoodbye p reason) s = .next (s.keepStores ((s.received p false 0x0E 1).downAt p false true (reason % 4)))) ∧
  (∀ (p : Nat) (atIkb : Bool) (s : State), exec (.ltlRetrain p atIkb) s = .next (s.keepStores
       ((s.downAt p atIkb true 0).downAt p (!atIkb) true 0))) ∧
  (∀ (p frames : Nat) (s : State), s.on (endChip p true) (ltlStatUp (endBlk p true)) = true →
     exec (.uncorrectableCodeword p true true frames) s = .next (s.keepStores
       ((s.inc (endChip p true) (ltlRxErrRxBad (endBlk p true)) frames).inc (endChip p true) (ltlRxErrCrc (endBlk p true))))) ∧
  (∀ (p lane lat : Nat) (s : State), s.rd (.ikb p) (ltlStatState .link) = 5 →
     exec (.laneFail p lane lat) s = .next (s.keepStores
       ((((s.setWidth p 1 (1 - lane % 2) lat).both p ltlStatLaneFailed (2 ^ (lane % 2))).widthEvent p 1 1).linkFault p))) ∧
  (∀ (p lane lat : Nat) (s : State), s.rd (.ikb p) (ltlStatState .link) = 6 → s.rd (.ikb p) (ltlStatLaneUsed .link) = lane % 2 →
     exec (.laneFail p lane lat) s = .next (s.keepStores ((s.downAt p false false 0).downAt p true false 0))) ∧
  (∀ (p lanes codeword : Nat) (s : State), s.on (endChip p true) (ltlStatUp (endBlk p true)) = true → 16 ≤ codeword →
     exec (.ltlWidth p true lanes codeword) s = .next (s.keepStores
       ((s.received p true 0x0D 4).wr (endChip p true) (widthPend (endBlk p true)) (if lanes = 1 then 1 else 2)))) ∧
  (∀ (p lat : Nat) (s : State), s.rd (.ikb p) (widthPend .link) = 1 → s.rd (dieOfPort p) (widthPend (linkOfPort p)) = 1 →
     s.rd (.ikb p) (ltlStatState .link) = 5 →
     exec (.widthChangePoint p lat) s = .next (s.keepStores
       (((s.both p widthPend 0).setWidth p 1 (s.laneKept p) lat).widthEvent p 1 0))) ∧
  (∀ (p value : Nat) (atIkb : Bool) (s : State), exec (.forceOneLaneWrite p atIkb value) s = .next (s.keepStores
       ((s.wr (endChip p atIkb) (ltlCtrlForceOneLane (endBlk p atIkb)) value).planWidth p atIkb))) ∧
  (∀ (p : Nat) (s : State), s.mode (.ikb p) = .midnight → s.on (.ikb p) (ltlStatUp .link) = true →
     s.txWaiting (.ikb p) .link = [] →
     exec (.lowPowerIdleEntry p) s = .next (s.keepStores ((s.both p lowPower 1).both p refreshAt (s.now + 1)))) ∧
  (∀ (p : Nat) (s : State), s.on (.ikb p) (lowPower .link) = true → s.rd (.ikb p) (refreshAt .link) + ms ≤ s.now + 1 →
     exec (.linkRefresh p) s = .next (s.keepStores (s.both p refreshAt (s.now + 1)))) ∧
  (∀ (p : Nat) (s : State), s.enabled (.ikb p) .link = true →
     s.rd (.ikb p) (ltlShedCfgUpPct .link) * 65536 ≤ 100 * s.txHeld (.ikb p) .link → s.rd (.ikb p) coderShedLocal < 5 →
     exec (.linkShedEval p) s = .next (s.keepStores (s.shedUp p)))

/-- With a grant, ARM of a rule the part has arms it, its LFSR takes SEED and its candidates count afresh; DISARM
disarms it; HALT disarms every rule, sends the held frames and writes PRISM_DISARMED. Without a grant each is refused.
Frames held for 100 us are sent. An open window whose duration has passed closes with its event. -/
def Obligations.PrismRules : Prop :=
  (∀ (u : Chip) (r : Nat) (s : State), s.on u prismStatAuth = true → r < ruleCount u →
     exec (.prismRuleArm u r) s = .next (s.keepStores
       ((((s.wr u (prismRuleArmArmed r) 1).setB u prismStatArmed r).wr u (prismLfsr r) (s.rd u prismSeedSeed)).wr u (prismCand r) 0))) ∧
  (∀ (u : Chip) (r : Nat) (s : State), s.on u prismStatAuth = false →
     exec (.prismRuleArm u r) s = .next (s.keepStores (s.pageErr u .prism 0x0100 1))) ∧
  (∀ (u : Chip) (r : Nat) (s : State), s.on u prismStatAuth = true → r < ruleCount u →
     exec (.prismRuleDisarm u r) s = .next (s.keepStores ((s.wr u (prismRuleArmArmed r) 0).clrB u prismStatArmed r))) ∧
  (∀ (u : Chip) (s : State), s.on u prismStatAuth = true → exec (.prismHalt u) s = .next (s.keepStores (s.prismDisarmAll u 1))) ∧
  (∀ (u : Chip) (s : State), exec (.prismReorderRelease u) s = .next (s.keepStores
       (((s.heldOf u).filter fun h => h.since + 100 * us ≤ s.now).foldl (fun (t : State) h => t.emit h.frame)
         (s.setHeld u ((s.heldOf u).filter fun h => s.now < h.since + 100 * us))))) ∧
  (∀ (u : Chip) (r : Nat) (s : State), s.on u (prismRuleArmWinOpen r) = true → s.rd u (prismWinEnd r) ≠ 0 →
     s.rd u (prismWinEnd r) ≤ s.now + 1 →
     exec (.prismWindowEnd u r) s = .next (s.keepStores
       (((s.wr u (prismRuleArmWinOpen r) 0).wr u (prismWinEnd r) 0).windowEvent u (2 ^ r) 0)))

/-- On a MERGE that runs: an IKB's record enters the feeds of its job that take it; a whole partial of sound header
whose instance has not been sent is merged into it; a result of sound header goes down its tree and, at a node without
the instance, means here what its kind says. An instance with a parent is sent at its forward instant, a root
finalises a complete one. A lingering slot is freed; a member that saw no result counts it. -/
def Obligations.MergeCommands : Prop :=
  (∀ (p source tag sub value flags : Nat) (s : State), s.mergeOn (p / 8) = true →
     exec (.mergeContribution p source tag sub value flags) s = .next (s.keep (s.contribute p source tag sub value flags))) ∧
  (∀ (d : Nat) (f : FabricFrame) (c : JobCfg) (feed : Feed) (i : Inst) (s t : State), s.mergeOn d = true →
     s.jobOf f.hdr.job = some c → headerBad (mhdrOf f.body) (f.body.drop 32) = false → c.feedFor (mhdrOf f.body) = some feed →
     s.instFor c feed (mhdrOf f.body).set (mhdrOf f.body).op (mhdrOf f.body).sub (mhdrOf f.body).tag = (t, some i) →
     i.sent = false → (mhdrOf f.body).chunks = 1 →
     exec (.mergePartialReceive d f) s = .next (s.keep (t.mergePartial i (mhdrOf f.body) (f.body.drop 32)))) ∧
  (∀ (d : Nat) (f : FabricFrame) (c : JobCfg) (feed : Feed) (s : State), s.mergeOn d = true →
     s.jobOf f.hdr.job = some c → headerBad (mhdrOf f.body) (f.body.drop 32) = false → c.feedFor (mhdrOf f.body) = some feed →
     (mhdrOf f.body).chunks = 1 →
     (s.sendDownTree d c (mhdrOf f.body).set (f.deadline.getD (mhdrOf f.body).deadline) f.body).findInst c.job (mhdrOf f.body).set
       (mhdrOf f.body).op (mhdrOf f.body).sub (mhdrOf f.body).tag = none →
     exec (.mergeResultDown d f) s = .next (s.keep
       ((s.sendDownTree d c (mhdrOf f.body).set (f.deadline.getD (mhdrOf f.body).deadline) f.body).resultHere d c feed (mhdrOf f.body)
         (f.body.drop 32)))) ∧
  (∀ (d slot : Nat) (i : Inst) (s : State), s.instAt d slot = some i → s.mergeOn d = true → i.sent = false → i.parent ≠ none →
     i.forwardAt ≤ s.timeIn (.wdie d) i.base →
     exec (.mergeForwardInstant d slot) s = .next (s.keepStores (s.forwardInst i))) ∧
  (∀ (d slot : Nat) (i : Inst) (s : State), s.instAt d slot = some i → s.mergeOn d = true → i.sent = false → i.parent = none →
     i.members ≤ i.included →
     exec (.mergeRootFinalise d slot) s = .next (s.keep (s.finaliseInst i))) ∧
  (∀ (d slot : Nat) (i : Inst) (s : State), s.instAt d slot = some i → i.sent = true → i.lingerAt ≤ s.now → i.seen = true →
     exec (.mergeLingerEnd d slot) s = .next (s.keepStores (s.delInst i)))

/-- With no run of the job, START of a configuration that parses and names the job clears the status, keeps the run
and sends START; one that does not parse is INVALID. END of a job in force keeps the run and sends END at its instant.
At T - 100 us a COMMIT that every module acknowledged without a failure ends the start with success; a start whose
deadline passes is aborted with reason 4; a report of a child is noted at its broadcast and what waits for it is
judged again; what a node has staged and heard nothing of for two deadlines is discarded; END is repeated 1 ms after
its last sending. -/
def Obligations.JobStarts : Prop :=
  (∀ (job : Nat) (c : JobCfg) (s : State),
     let t : State := (s.wr (.wdie 0) mergeJsCmdOp 1).wr (.wdie 0) mergeJsCmdJob (job % 65536)
     s.enabled (.wdie 0) .merge = true → t.findRun (job % 65536) = none → parseCfg t.cfgBytes = some c → c.job = job % 65536 →
     exec (.jsStart job) s = .next (s.keep
       ((((((((t.wr (.wdie 0) mergeJsCmdResult 0).wr (.wdie 0) mergeJsCmdBusy 1).wr (.wdie 0) mergeJsStatReports 0).wr
         (.wdie 0) mergeJsFailReason 0).wr (.wdie 0) mergeJsFailDieIndex 0).setRun
           { job := job % 65536, bid := c.bid, phase := 1, goAt := s.now, cfg := c }).rootSend
         { bid := c.bid, kind := 1, sender := none, instant := 0, bytes := t.cfgBytes } c (s.cfgPoisoned t.cfgBytes.length))))) ∧
  (∀ (job : Nat) (s : State),
     let t : State := (s.wr (.wdie 0) mergeJsCmdOp 1).wr (.wdie 0) mergeJsCmdJob (job % 65536)
     s.enabled (.wdie 0) .merge = true → t.findRun (job % 65536) = none → parseCfg t.cfgBytes = none →
     exec (.jsStart job) s = .next (s.keep ((t.wr (.wdie 0) mergeJsCmdResult 3).pageErr (.wdie 0) .merge 0x0101 1))) ∧
  (∀ (job : Nat) (c : JobCfg) (s : State),
     let t : State := (s.wr (.wdie 0) mergeJsCmdOp 2).wr (.wdie 0) mergeJsCmdJob (job % 65536)
     let at' := s.dieTime + baseUs s.dieBase (max 200 (s.rd (.wdie 0) mergeJsLeadCommitLeadUs))
     s.enabled (.wdie 0) .merge = true → t.findRun (job % 65536) = none → t.jobOf (job % 65536) = some c →
     exec (.jsEnd job) s = .next (s.keep
       (((((((t.wr (.wdie 0) mergeJsCmdResult 0).wr (.wdie 0) mergeJsCmdBusy 1).wr (.wdie 0) mergeJsStatReports 0).setRun
         { job := job % 65536, bid := c.bid, phase := 4, goAt := s.now, base := s.dieBase, instant := at', last := s.now, cfg := c }).openBcast
           { bid := c.bid, kind := 4, sender := none, instant := at', bytes := [] } (some c) false).bcastCheck c.bid 4)))) ∧
  (∀ (job : Nat) (r : JsRun) (s : State), s.findRun job = some r → r.phase = 1 →
     r.goAt + s.rd (.wdie 0) mergeJsTimingDeadlineUs * us ≤ s.now →
     exec (.jsDeadline job) s = .next (s.keep (s.abortRun r 4 0))) ∧
  (∀ (job : Nat) (r : JsRun) (b : Bcast) (s : State), s.findRun job = some r → r.phase = 2 →
     r.instant ≤ s.timeIn (.wdie 0) r.base + baseUs r.base 100 → s.findBcast r.bid 2 = some b → b.done = true → b.status = 0 →
     exec (.jsCommitCheck job) s = .next (s.keep (s.endRun job 1 3))) ∧
  (∀ (sender bid kind status dieIndex acks : Nat) (b : Bcast) (s : State), s.mergeOn 0 = true → s.findBcast bid kind = some b →
     (b.kids.any fun k => k.coord == sender && !k.reported) = true → b.sender ≠ none →
     exec (.jsReportReceive sender bid kind status dieIndex acks) s = .next (s.keep
       (((s.setBcast ((b.withKid sender fun k => { k with acked := true, reported := true, lost := false, acks := acks }).fail status
         dieIndex)).bcastCheck bid kind).bcastCheck bid 2))) ∧
  (∀ (bid : Nat) (s : State), (s.jobStage.any fun j => j.cfg.bid == bid && j.instant.isNone &&
         j.at' + 2 * s.rd (.wdie 0) mergeJsTimingDeadlineUs * us ≤ s.now) = true →
     exec (.jsStagedExpiry bid) s = .next (s.keepStores ((s.unstage bid).forgetBcasts bid [1]))) ∧
  (∀ (job : Nat) (r : JsRun) (b : Bcast) (s : State), s.findRun job = some r → r.phase = 4 → r.last + ms ≤ s.now →
     s.findBcast r.bid 4 = some b → exec (.jsEndRepeat job) s = .next (s.keepStores (s.endRepeat r b)))

/-- A START, COMMIT, ABORT or END that this node does not hold yet is acknowledged, taken up and checked; one that it
holds is acknowledged alone. An ACK is noted at the child it came from. A hop without an answer goes to the next path
of its child. -/
def Obligations.Broadcasts : Prop :=
  (∀ (sender bid : Nat) (cfg : List Nat) (s : State), s.mergeOn 0 = true → s.findBcast bid 1 = none →
     exec (.bcastStartReceive sender bid cfg) s = .next (s.keep
       (((s.sendAck sender bid 1).openBcast { bid := bid, kind := 1, sender := some sender, instant := 0, bytes := cfg } (parseCfg cfg)
         false).bcastCheck bid 1))) ∧
  (∀ (sender bid : Nat) (cfg : List Nat) (b : Bcast) (s : State), s.mergeOn 0 = true → s.findBcast bid 1 = some b →
     exec (.bcastStartReceive sender bid cfg) s = .next (s.keep (s.sendAck sender bid 1))) ∧
  (∀ (sender bid instant : Nat) (s : State), s.mergeOn 0 = true → s.findBcast bid 2 = none →
     exec (.bcastCommitReceive sender bid instant) s = .next (s.keep
       (((s.sendAck sender bid 2).openBcast { bid := bid, kind := 2, sender := some sender, instant := instant, bytes := [] }
         (s.cfgOfBid bid) false).bcastCheck bid 2))) ∧
  (∀ (sender bid : Nat) (s : State), s.mergeOn 0 = true → s.findBcast bid 3 = none →
     exec (.bcastAbortReceive sender bid) s = .next (s.keep
       (((s.sendAck sender bid 3).openBcast { bid := bid, kind := 3, sender := some sender, instant := 0, bytes := [] }
         (s.cfgOfBid bid) false).bcastCheck bid 3))) ∧
  (∀ (sender bid instant : Nat) (s : State), s.mergeOn 0 = true → s.findBcast bid 4 = none →
     exec (.bcastEndReceive sender bid instant) s = .next (s.keep
       (((s.sendAck sender bid 4).openBcast { bid := bid, kind := 4, sender := some sender, instant := instant, bytes := [] }
         (s.cfgOfBid bid) false).bcastCheck bid 4))) ∧
  (∀ (sender bid kind : Nat) (b : Bcast) (s : State), s.mergeOn 0 = true → s.findBcast bid kind = some b →
     exec (.bcastAckReceive sender bid kind) s = .next (s.keepStores
       (s.setBcast (b.withKid sender fun k => { k with acked := true })))) ∧
  (∀ (bid kind child : Nat) (b : Bcast) (k : BKid) (s : State), s.mergeOn 0 = true → s.findBcast bid kind = some b →
     (b.kids.find? fun k => k.coord == child) = some k → k.acked = false → k.reported = false → k.lost = false →
     k.sentAt + s.rd (.wdie 0) mergeJsTimingHopTimeoutUs * us * ((s.pathHops child k.path).getD 1) ≤ s.now →
     (s.pathHops child (k.path + 1)).isSome = true →
     exec (.bcastHopTimeout bid kind child) s = .next (s.keep
       (((s.setBcast (b.withKid child fun x => { x with path := k.path + 1, sentAt := s.now })).inc (.wdie 0) mergeJsStatRetries).sendMsg
         (b.withKid child fun x => { x with path := k.path + 1, sentAt := s.now }) child (k.path + 1))))

/-- With LENS enabled on a die: LOAD_CMD.GO without a load running marks it BUSY with RESULT 0, drops what is staged
in the slot and takes the slot's image address; with one running it is refused. A load that ends outside Midnight
stages the model its image gives with RESULT 1, or gives the fault's result and place with event LENS_LOAD_FAIL. An
open batch closes CLOSE_US after its first sample. The batch that closed first is scored row by row outside Midnight
when its tree blocks hold no poison, and leaves the store; its samples, its evaluations and its slot's are counted;
nothing is done with none closed. A held model is freed when LINGER has passed and all its batches are scored. An
export frame's deadline sends it. A binding's lane, threshold and group words are stored, a KIND that forms no samples
or a G outside 1 to 256 is refused. -/
def Obligations.LensCommands : Prop :=
  (∀ (d : Nat) (s : State), let u := Chip.wdie d; let m := s.rd u lensLoadCmdSlot
     let t : State := ((s.wr u lensLoadCmdBusy 1).wr u lensLoadCmdResult 0).wr u loadAddr (s.rd u (lensSlotStagedAddrAddr m))
     s.enabled u .lens = true → s.on u lensLoadCmdBusy = false →
     exec (.lensLoad d) s = .next (s.keepStores ((t.setLslot d m { s.lslot d m with staged := none }).lensFollow d))) ∧
  (∀ (d : Nat) (s : State), s.enabled (.wdie d) .lens = true → s.on (.wdie d) lensLoadCmdBusy = true →
     exec (.lensLoad d) s = .next (s.keepStores (s.pageErr (.wdie d) .lens 0x0101 1))) ∧
  (∀ (d : Nat) (x : LModel) (s : State), let u := Chip.wdie d; let m := s.rd u lensLoadCmdSlot
     s.enabled u .lens = true → s.on u lensLoadCmdBusy = true → s.mode u ≠ .midnight →
     s.loadImage d (s.rd u loadAddr) = .inl x →
     exec (.lensLoadDone d) s = .next (s.keepStores
       ((((((((s.wr u lensLoadCmdBusy 0).wr u lensLoadCmdResult 1).wr u lensLoadCmdIndex 0).wr u lensLoadCmdIsFeature 0).setLslot d m
         { s.lslot d m with staged := some x }).lensFollow d)).int u .lens 1))) ∧
  (∀ (d : Nat) (e : LoadFail) (s : State), let u := Chip.wdie d; let m := s.rd u lensLoadCmdSlot
     s.enabled u .lens = true → s.on u lensLoadCmdBusy = true → s.mode u ≠ .midnight →
     s.loadImage d (s.rd u loadAddr) = .inr e →
     exec (.lensLoadDone d) s = .next (s.keepStores
       ((((((s.wr u lensLoadCmdBusy 0).wr u lensLoadCmdResult e.result).wr u lensLoadCmdIndex e.index).wr u lensLoadCmdIsFeature
         e.isFeat.toNat).event u .lens 0x0E01 1 (pay [(m, 0), (e.result, 4), (e.index, 8), (e.isFeat.toNat, 25)])).int u .lens 1))) ∧
  (∀ (d m : Nat) (s : State), s.enabled (.wdie d) .lens = true → s.mode (.wdie d) ≠ .midnight →
     exec (.lensBatchTimeout d m) s = .next (s.keepStores
       ((s.closeBatches d fun b => b.slot == m % 8 && decide (b.at' + b.closeUs * us ≤ s.now)).lensFollow d))) ∧
  (∀ (d : Nat) (b : LBatch) (l : List LBatch) (s : State), let u := Chip.wdie d
     let trees := (chunks (b.model.trees + 1) 3080 ((s.dramBytes (3080 * b.model.trees) (dieAddr d b.model.treesAt)).map BitVec.toNat)).map treeOf
     let t := b.rows.foldl (fun (t : State) q => t.scoreRow d b.model trees q) s
     s.enabled u .lens = true → s.mode u ≠ .midnight → s.stopped d = false → s.closedOf d = b :: l →
     (s.poisoned.find? fun x => decide (dieAddr d b.model.treesAt / 64 ≤ x) &&
       decide (x ≤ (dieAddr d b.model.treesAt + 3080 * b.model.trees - 1) / 64)) = none →
     exec (.lensBatchScored d) s = .next (s.keep
       (((((t.inc u lensScoredCount b.count).inc u (lensSlotSamplesCount b.slot) b.count).inc u lensEvalsCount
         (b.count * b.model.trees)).setClosed d ((t.closedOf d).drop 1)).lensFollow d))) ∧
  (∀ (d : Nat) (s : State), s.enabled (.wdie d) .lens = true → s.closedOf d = [] →
     exec (.lensBatchScored d) s = .next s) ∧
  (∀ (d m : Nat) (s : State), let l := s.lslot d (m % 8)
     let t := s.closeBatches d fun c => c.slot == m % 8 && c.gen != l.gen
     s.enabled (.wdie d) .lens = true → l.held.isSome = true →
     l.firedAt + max 1 (s.rd (.wdie d) lensLingerMs) * ms ≤ s.now →
     ((t.closedOf d).any fun c => c.slot == m % 8 && c.gen != l.gen) = false →
     exec (.lensLingerEnd d m) s = .next (s.keepStores ((t.setLslot d (m % 8) { l with held := none }).lensFollow d))) ∧
  (∀ (d : Nat) (s : State), exec (.lensExportFlush d) s = .next (s.keepStores (s.flushExport d))) ∧
  (∀ (d P P' : Nat) (e : Nat × List (List Nat)) (s : State), look d s.lensExport = some e → P = 2 * d + P' → P' < 2 →
     (P' = 1 → s.rd (dieOfOpt (2 * d)) (portsRoleRole (2 * d % 2)) ≠ 2) →
     s.rd (dieOfOpt P) (portsRoleRole (P % 2)) = 2 → s.on (dieOfOpt P) (portsStatUp (P % 2)) = true →
     s.flushExport d = State.originate { s with lensExport := drop d s.lensExport } P 4
       { hdr := { kind := 4, len := e.2.flatten.length }, body := e.2.flatten }) ∧
  (∀ (d k value : Nat) (s : State), k < 16 →
     exec (.featBindingWrite d k 8 value) s = .next (s.keepStores (s.wr (.wdie d) (featBindingBaseLane k) (bitsOf value 0 14)))) ∧
  (∀ (d k value : Nat) (s : State), k < 16 →
     exec (.featBindingWrite d k 16 value) s = .next (s.keepStores (s.wr (.wdie d) (featBindingThrThr k) value))) ∧
  (∀ (d k value : Nat) (s : State), k < 16 → 1 ≤ bitsOf value 0 9 → bitsOf value 0 9 ≤ 256 →
     exec (.featBindingWrite d k 4 value) s = .next (s.keepStores ((s.wr (.wdie d) (featBindingGroupsStride k) (bitsOf value 16 14)).wr
       (.wdie d) (featBindingGroupsG k) (bitsOf value 0 9)))) ∧
  (∀ (d k value : Nat) (s : State), k < 16 → bitsOf value 0 9 = 0 ∨ 256 < bitsOf value 0 9 →
     exec (.featBindingWrite d k 4 value) s = .next (s.keepStores ((s.wr (.wdie d) (featBindingGroupsStride k) (bitsOf value 16 14)).pageErr
       (.wdie d) .feat 0x0100 1))) ∧
  (∀ (d k value : Nat) (s : State), k < 16 → bitsOf value 16 8 = 3 ∨ bitsOf value 16 8 = 4 ∨ bitsOf value 16 8 = 0x11 →
     exec (.featBindingWrite d k 0 value) s = .next (s.keepStores ((((s.wr (.wdie d) (featBindingKeyJob k) (bitsOf value 0 16)).wr (.wdie d)
       (featBindingKeyValid k) (bitAt value 24)).wr (.wdie d) (featBindingKeySlot k) (bitsOf value 25 3)).wr (.wdie d)
       (featBindingKeyKind k) (bitsOf value 16 8))))

/-- With DRIFT enabled on a die: READ shows the selected metric in the E_ registers; WRITE with K below zero, H not
above zero or a NaN setting ends INVALID and is logged; another WRITE stores the settings, beginning the metric anew
where it sets ENABLE; RESET begins it anew. Each other ends OK. -/
def Obligations.DriftCommands : Prop :=
  (∀ (d : Nat) (s : State), s.enabled (.wdie d) .drift = true → exec (.driftRead d) s = .next (s.keepStores (s.driftRead d))) ∧
  (∀ (d : Nat) (s : State), let x := s.metric (s.driftSel d) (s.rd (.wdie d) driftCmdMetric)
     (s.driftRead d).rd (.wdie d) driftEMeanMean = x.mean % 2 ^ driftEMeanMean.w ∧
     (s.driftRead d).rd (.wdie d) driftEKK = x.k % 2 ^ driftEKK.w ∧ (s.driftRead d).rd (.wdie d) driftEHH = x.h % 2 ^ driftEHH.w ∧
     (s.driftRead d).rd (.wdie d) driftESposSpos = x.spos % 2 ^ driftESposSpos.w ∧
     (s.driftRead d).rd (.wdie d) driftESnegSneg = x.sneg % 2 ^ driftESnegSneg.w ∧
     (s.driftRead d).rd (.wdie d) driftEZZ = x.z % 2 ^ driftEZZ.w ∧
     (s.driftRead d).rd (.wdie d) driftECountUpdates = x.updates % 2 ^ driftECountUpdates.w ∧
     (s.driftRead d).rd (.wdie d) driftCmdResult = 0) ∧
  (∀ (d : Nat) (s : State), let u := Chip.wdie d
     s.enabled u .drift = true →
     (fgt 0 (s.rd u driftEKK) || !fgt (s.rd u driftEHH) 0 ||
       [s.rd u driftEKK, s.rd u driftEHH, s.rd u driftERefRef, s.rd u driftEZthrZthr].any fIsNaN) = true →
     exec (.driftWrite d) s = .next (s.keepStores ((s.wr u driftCmdResult 1).pageErr u .drift 0x0100 1))) ∧
  (∀ (d : Nat) (s : State), let u := Chip.wdie d; let k := s.driftSel d; let m := s.rd u driftCmdMetric; let x := s.metric k m
     let y := if s.on u driftECfgEnable && !x.enable then x.restart else x
     s.enabled u .drift = true →
     (fgt 0 (s.rd u driftEKK) || !fgt (s.rd u driftEHH) 0 ||
       [s.rd u driftEKK, s.rd u driftEHH, s.rd u driftERefRef, s.rd u driftEZthrZthr].any fIsNaN) = false →
     exec (.driftWrite d) s = .next (s.keepStores ((s.setMetric k m { y with
       enable := s.on u driftECfgEnable, source := s.rd u driftECfgSource, feature := s.rd u driftECfgFeature,
       group := s.rd u driftECfgGroup, alpha := s.rd u driftECfgAlphaLog2, refMode := s.rd u driftECfgRefMode,
       cusum := s.on u driftECfgCusumEn, zEn := s.on u driftECfgZEn, k := s.rd u driftEKK, h := s.rd u driftEHH,
       ref := s.rd u driftERefRef, zthr := s.rd u driftEZthrZthr }).wr u driftCmdResult 0))) ∧
  (∀ (d : Nat) (s : State), s.enabled (.wdie d) .drift = true → exec (.driftReset d) s = .next (s.keepStores
     ((s.setMetric (s.driftSel d) (s.rd (.wdie d) driftCmdMetric)
       (s.metric (s.driftSel d) (s.rd (.wdie d) driftCmdMetric)).restart).wr (.wdie d) driftCmdResult 0)))

/-- The first error of a page is captured with code, information and severity, sets INT_RAW.ERR and writes
ERR_CAPTURE; below severity 3 it does no more. A later error is counted and sets NESTED; one of severity 0, or below
the capture's, does no more. An IKB's warm start comes 1 ms after its FATAL_SAFE. A fault of an enabled part's channel
of no fixed class in OK opens an episode with STATE RETRY; one of a DRAM channel is classed at once. A retry due of a
used channel is counted and, when it succeeds, returns the channel to OK and classes the fault recovered; the third
that fails classes it unrecovered and leaves FAILED; an earlier one leaves the next to come. A FAILED channel's retry
that succeeds a second after returns it to OK. RETIRE retires a channel that is not retired; a tap of an engine takes
the STATE alone. COND_DONE returns a PERMANENT channel to OK with COND_BOUND; CLEAR under a grant empties the channel,
without one it is refused; PRELOAD adds the counts to the window, at this FAULT_SEC. -/
def Obligations.FaultChannels : Prop :=
  (∀ (u : Chip) (b : Blk) (code sev info : Nat) (s : State), s.on u (hdrErrFirstValid b) = false → sev % 4 ≠ 3 →
     exec (.pageError u b code sev info) s = .next (s.keepStores
       ((((((s.wr u (hdrErrFirstCode b) (code % 65536)).wr u (hdrErrFirstValid b) 1).wr u (hdrErrFirstInfoInfo b) info).wr
         u (hdrErrCtrlSeverity b) (sev % 4)).intErr u b).event u b 0x0F01 (sev % 4)
         (pay [(code % 65536, 0), (sev % 4, 16), (s.rd u (hdrErrCtrlNested b), 18), (info % 4294967296, 32),
               (s.rd u (hdrErrNextCountCount b), 64)])))) ∧
  (∀ (u : Chip) (b : Blk) (code sev info : Nat) (s : State), s.on u (hdrErrFirstValid b) = true →
     sev % 4 = 0 ∨ (sev % 4 ≠ 3 ∧ sev % 4 < s.rd u (hdrErrCtrlSeverity b)) →
     exec (.pageError u b code sev info) s = .next (s.keepStores ((s.inc u (hdrErrNextCountCount b)).wr u (hdrErrCtrlNested b) 1))) ∧
  (∀ (p : Nat) (s : State), s.on (.ikb p) fatalAt = true → s.rd (.ikb p) fatalAt + ms ≤ s.now + 1 →
     exec (.fatalWarmStart p) s = .next (s.keepStores (s.vikbReset p 4 true))) ∧
  (∀ (d k cause : Nat) (unrec : Bool) (s : State), k < 10 → s.enabled (.wdie d) .ras = true →
     s.rd (.wdie d) (rasChannelStateState k) = 0 →
     exec (.channelFault (.wdie d) k cause unrec) s = .next (s.keepStores
       ((((s.setEpisode (.wdie d) k (some ⟨s.now, cause, 0, false, false, 0, 0⟩)).wr (.wdie d) (rasChannelStateState k) 1).wr
         (.wdie d) (rasChannelStateRetry k) 0).int (.wdie d) .ras 0))) ∧
  (∀ (d k cause : Nat) (unrec : Bool) (s : State), 0x10 ≤ k → k < 0x18 → s.enabled (.wdie d) .ras = true →
     exec (.channelFault (.wdie d) k cause unrec) s = .next (s.keepStores (s.classFault (.wdie d) k cause 0 false false unrec))) ∧
  (∀ (u : Chip) (k : Nat) (ok : Bool) (e : Episode) (s : State), s.episodeOf u k = some e → s.rd u (rasChannelStateState k) = 1 →
     s.retryDue u e e.retries ≤ s.now → s.chanUsed u k = true →
     exec (.channelRetry u k ok) s = .next (s.keepStores
       (let t := s.inc u (rasChannelStateRetry k)
        if ok then (t.chanRecovered u k 0).classFault u k e.cause e.bin e.stale e.inj false
        else if e.retries < 2 then t.setEpisode u k (some { e with retries := e.retries + 1, start := e.start + s.suspended u e })
        else ((t.setEpisode u k (some { e with retries := 3, failedAt := s.now })).wr u (rasChannelStateState k) 2).classFault
          u k e.cause e.bin e.stale e.inj true))) ∧
  (∀ (u : Chip) (k : Nat) (e : Episode) (s : State), s.episodeOf u k = some e → s.rd u (rasChannelStateState k) = 2 →
     e.failedAt + sec ≤ s.now → s.chanUsed u k = true →
     exec (.channelFailedRetry u k true) s = .next (s.keepStores (s.chanRecovered u k (s.now - e.failedAt)))) ∧
  (∀ (u : Chip) (k : Nat) (s : State), chanExists u k = true → s.rd u (rasChannelStateState k) ≠ 4 → chanTap u k = false →
     exec (.rasRetire u k) s = .next (s.keepStores (s.retireChan u k))) ∧
  (∀ (u : Chip) (k : Nat) (s : State), chanExists u k = true → s.rd u (rasChannelStateState k) ≠ 4 → chanTap u k = true →
     exec (.rasRetire u k) s = .next (s.keepStores
       ((((s.setEpisode u k none).wr u (rasChannelStateState k) 4).inc u rasStatRetiredN).int u .ras 1))) ∧
  (∀ (u : Chip) (k : Nat) (s : State), chanExists u k = true → s.rd u (rasChannelStateState k) = 3 →
     exec (.rasCondDone u k) s = .next (s.keepStores
       ((((s.setWindow u k {}).showCounts u k).wr u (rasChannelStateCondBound k) 1).chanRecovered u k 0))) ∧
  (∀ (u : Chip) (k : Nat) (s : State), chanExists u k = true → s.rd u (rasChannelStateState k) ≠ 3 →
     exec (.rasCondDone u k) s = .next (s.keepStores (s.pageErr u .ras 0x0101 1))) ∧
  (∀ (u : Chip) (k : Nat) (s : State), chanExists u k = true → s.on u authStatClear = true →
     s.rd u (rasChannelStateState k) ≠ 4 →
     exec (.rasClear u k) s = .next (s.keepStores
       (((((s.setEpisode u k none).setWindow u k {}).showCounts u k).wr u (rasChannelStateCondBound k) 0).wr
         u (rasChannelStateState k) 0))) ∧
  (∀ (u : Chip) (k : Nat) (s : State), chanExists u k = true → s.on u authStatClear = true →
     s.rd u (rasChannelStateState k) = 4 →
     exec (.rasClear u k) s = .next (s.keepStores
       (((((((s.unretire u k).wr u rasStatRetiredN (s.rd u rasStatRetiredN - 1)).setEpisode u k none).setWindow u k {}).showCounts
         u k).wr u (rasChannelStateCondBound k) 0).wr u (rasChannelStateState k) 0))) ∧
  (∀ (u : Chip) (k : Nat) (s : State), chanExists u k = true → s.on u authStatClear = false →
     exec (.rasClear u k) s = .next (s.keepStores (s.pageErr u .ras 0x0100 1))) ∧
  (∀ (u : Chip) (k : Nat) (s : State), chanExists u k = true →
     exec (.rasPreload u k) s = .next (s.keepStores
       (State.declareIfPermanent (State.showCounts (s.setWindow u k
         { recov := (List.replicate (s.rd u (rasChannelCtrlPreloadRec k)) (s.rd u rasFaultSecSec, noBin) ++ (s.windowOf u k).recov).take 16,
           unrecov := (List.replicate (s.rd u (rasChannelCtrlPreloadUnrec k)) (s.rd u rasFaultSecSec, noBin) ++
             (s.windowOf u k).unrecov).take 4 }) u k) u k)))

/-- At a part's second FAULT_SEC rises by one, windows and suppressed buckets are told. A BKT_CFG write sets RATE, and
a BURST above 0 with the tokens held clamped to it; a BURST of 0 is refused. EVR.CTRL.CLEAR without a grant is
refused; with one and SCOPE 0 on a W-die TAIL becomes HEAD and EVR_CLEARED is written. A partial page is queued
FLUSH_MS after its first record, or at once by FLUSH on die 0 alone. The oldest queued page is programmed at the write
pointer while the NOR answers and no commit runs. Once per second BBX_OVERRUN tells the records not copied. COMMIT_NOW
on die 0 starts a commit of cause HOST. A commit's end writes the block and, for FATAL or WATCHDOG, begins the
package's warm start. -/
def Obligations.EventsAndBlackBox : Prop :=
  (∀ (u : Chip) (s : State), exec (.evrSummary u) s = .next (s.keepStores
     (State.summariseAll (State.refreshWindows (s.wr u rasFaultSecSec ((s.rd u rasFaultSecSec + 1) % 4294967296)) u) u))) ∧
  (∀ (u : Chip) (value : Nat) (s : State), let k := s.rd u evrBktSelIdx
     bitsOf value 16 16 ≠ 0 →
     exec (.evrBktCfgWrite u value) s = .next (s.keepStores
       ((((s.wr u (evrRate k) (bitsOf value 0 16)).wr u (evrTokAt k) s.now).wr u (evrBurst k) (bitsOf value 16 16)).wr
         u (evrTok k) (min (s.tokensNow u k) (bitsOf value 16 16 * 1000000000))))) ∧
  (∀ (u : Chip) (value : Nat) (s : State), let k := s.rd u evrBktSelIdx
     bitsOf value 16 16 = 0 →
     exec (.evrBktCfgWrite u value) s = .next (s.keepStores
       ((((s.wr u (evrRate k) (bitsOf value 0 16)).wr u (evrTokAt k) s.now).wr u (evrTok k) (s.tokensNow u k)).pageErr
         u .evr 0x0101 1))) ∧
  (∀ (u : Chip) (s : State), s.on u authStatClear = false →
     exec (.evrClear u) s = .next (s.keep (s.pageErr u .evr 0x0100 1))) ∧
  (∀ (d : Nat) (s : State), let u := Chip.wdie d; let l := s.ringHeld u; let q := s.rd u evrSeqNext
     s.on u authStatClear = true → s.rd u evrCtrlScope = 0 →
     exec (.evrClear u) s = .next (s.keep
       (((s.wr u evrTailIdx (s.rd u evrHeadIdx)).event u .evr 0x0F09 1
         (pay [(0, 0), ((l.head?.map (·.seq)).getD q, 32), ((l.getLast?.map (·.seq)).getD q, 64),
           (s.rd u authLastTokenId % 4294967296, 96)])).int u .evr 2))) ∧
  (∀ s : State, s.rd (.wdie 0) bbxFirstAt + max 1 (s.rd (.wdie 0) bbxCtrlFlushMs) * ms ≤ s.now →
     exec .bbxPageFlush s = .next (s.keepStores
       (if s.bbxPartial.isEmpty then s else { s with bbxPages := s.bbxPages ++ [s.bbxPartial], bbxPartial := [] }))) ∧
  (∀ s : State, exec (.bbxFlush 0) s = .next (s.keepStores
     (if s.bbxPartial.isEmpty then s else { s with bbxPages := s.bbxPages ++ [s.bbxPartial], bbxPartial := [] }))) ∧
  (∀ (d : Nat) (s : State), d ≠ 0 → exec (.bbxFlush d) s = .next s ∧ exec (.bbxCommitNow d) s = .next s) ∧
  (∀ (pg : List EvRec) (r : List (List EvRec)) (s : State), s.bbxPages = pg :: r → s.on (.wdie 0) bbxStatNorOk = true →
     s.on (.wdie 0) bbxStatLgBusy = false →
     exec .bbxPageProgrammed s = .next (s.keep (State.bbxAdvance
       { s with bbxPages := r,
                nor := memWriteList norDflt (pageBytes pg)
                         (bbxFirst + s.rd (.wdie 0) bbxWrPtrBlock * 65536 + s.rd (.wdie 0) bbxWrPtrPage * 256) s.nor }))) ∧
  (∀ s : State, s.bbxPages = [] → exec .bbxPageProgrammed s = .next s) ∧
  (∀ s : State, s.rd (.wdie 0) bbxOverSec ≠ 0 → exec .bbxOverrunSecond s = .next (s.keepStores
       (((s.wr (.wdie 0) bbxOverSec 0).event (.wdie 0) .bbx 0x0F0C 2 (s.rd (.wdie 0) bbxOverSec % 4294967296)).int (.wdie 0) .bbx 1))) ∧
  (∀ s : State, exec (.bbxCommitNow 0) s = .next (s.keepStores (s.lastGasp 3))) ∧
  (∀ s : State, s.on (.wdie 0) bbxStatLgBusy = true → bitAt (s.rd (.wdie 0) lgCause ||| s.rd (.wdie 0) lgSeen) 1 = 0 →
     bitAt (s.rd (.wdie 0) lgCause ||| s.rd (.wdie 0) lgSeen) 2 = 0 →
     exec .lastGaspDone s = .next (s.keep s.gaspCommit)) ∧
  (∀ s : State, s.on (.wdie 0) bbxStatLgBusy = true → bitAt (s.rd (.wdie 0) lgCause ||| s.rd (.wdie 0) lgSeen) 1 = 1 →
     exec .lastGaspDone s = .next (s.keep (s.gaspCommit.warmStart 5))) ∧
  (∀ s : State, s.on (.wdie 0) bbxStatLgBusy = true → bitAt (s.rd (.wdie 0) lgCause ||| s.rd (.wdie 0) lgSeen) 1 = 0 →
     bitAt (s.rd (.wdie 0) lgCause ||| s.rd (.wdie 0) lgSeen) 2 = 1 →
     exec .lastGaspDone s = .next (s.keep (s.gaspCommit.warmStart 4)))

/-- A KICK with EN set restarts the period. A WDOG_CTRL write to an unlocked page takes EN and a PERIOD_MS of 10 or
more, and restarts the period for a KICK, a set EN or a changed period while EN is 1. Half a period without a kick
sets WARNED; a full one sets EXPIRED, writes the event and resets an IKB's VIKB domain. An NVM command on die 0 while
BUSY is ignored; outside its region it ends INVALID, without a grant in a guarded region UNAUTH; a valid READ moves
NOR bytes to DRAM, a valid PROGRAM moves DRAM bytes to the NOR, a valid ERASE erases and counts its blocks, each with
BUSY set. Its end gives OK or VERIFY_FAIL, withdrawing a block named lost. -/
def Obligations.WatchdogAndNor : Prop :=
  (∀ (u : Chip) (s : State), s.on u rasWdogCtrlEn = true →
     exec (.wdogKick u) s = .next (s.keepStores (s.wr u wdogFrom s.now))) ∧
  (∀ (u : Chip) (s : State), s.on u rasWdogCtrlEn = false → exec (.wdogKick u) s = .next s) ∧
  (∀ (u : Chip) (r value : Nat) (s : State),
     let t : State := (s.wr u rasWdogCtrlEn (bitAt value 0)).wr u rasWdogCtrlPeriodMs (bitsOf value 16 16)
     s.locked u .ras = false → 10 ≤ bitsOf value 16 16 →
     exec (.wdogCtrlWrite u r value) s = .next (s.keepStores
       (if bitAt value 0 = 1 ∧ (bitAt value 1 = 1 ∨ s.on u rasWdogCtrlEn = false ∨ t.rd u rasWdogCtrlPeriodMs ≠ s.rd u rasWdogCtrlPeriodMs)
        then t.wr u wdogFrom s.now else t))) ∧
  (∀ (u : Chip) (s : State), s.on u rasWdogCtrlEn = true →
     s.rd u wdogFrom + s.rd u rasWdogCtrlPeriodMs * ms / 2 ≤ s.now →
     exec (.wdogWarn u) s = .next (s.keepStores ((s.wr u rasWdogStatWarned 1).int u .ras 3))) ∧
  (∀ (p : Nat) (s : State), s.on (.ikb p) rasWdogCtrlEn = true →
     s.rd (.ikb p) wdogFrom + s.rd (.ikb p) rasWdogCtrlPeriodMs * ms ≤ s.now →
     exec (.wdogExpire (.ikb p)) s = .next (s.keep
       (((s.wr (.ikb p) rasWdogStatExpired 1).event (.ikb p) .ras 0x0F0A 2 (s.rd (.ikb p) rasWdogCtrlPeriodMs) false false true).vikbReset
         p 5 true))) ∧
  (∀ s : State, s.on (.wdie 0) nvmCmdBusy = true →
     exec (.nvmRead 0) s = .next s ∧ exec (.nvmProgram 0) s = .next s ∧ exec (.nvmErase 0) s = .next s) ∧
  (∀ s : State, let a := s.rd (.wdie 0) nvmAddrAddr; let n := s.rd (.wdie 0) nvmLenBytes
     let t : State := ((s.wr (.wdie 0) nvmCmdBusy 1).wr (.wdie 0) nvmStatBusy 1).wr (.wdie 0) nvmCmdResult 0
     s.on (.wdie 0) nvmCmdBusy = false → nvmValid 0 a n = true →
     exec (.nvmRead 0) s = .next (s.keep (State.dramStore (t.norBytes (t.rd (.wdie 0) nvmLenBytes) (t.rd (.wdie 0) nvmAddrAddr))
       (t.rd (.wdie 0) nvmBufAddr % 68719476736) t))) ∧
  (∀ s : State, let a := s.rd (.wdie 0) nvmAddrAddr; let n := s.rd (.wdie 0) nvmLenBytes
     let t : State := ((s.wr (.wdie 0) nvmCmdBusy 1).wr (.wdie 0) nvmStatBusy 1).wr (.wdie 0) nvmCmdResult 0
     s.on (.wdie 0) nvmCmdBusy = false → nvmValid 1 a n = true → 0x2800000 ≤ a ∨ s.on (.wdie 0) authStatUpdate = true →
     exec (.nvmProgram 0) s = .next (s.keep
       { t with nor := memWriteList norDflt (t.dramBytes (t.rd (.wdie 0) nvmLenBytes) (t.rd (.wdie 0) nvmBufAddr % 68719476736))
                         (t.rd (.wdie 0) nvmAddrAddr) t.nor })) ∧
  (∀ s : State, let a := s.rd (.wdie 0) nvmAddrAddr; let n := s.rd (.wdie 0) nvmLenBytes
     let t : State := ((s.wr (.wdie 0) nvmCmdBusy 1).wr (.wdie 0) nvmStatBusy 1).wr (.wdie 0) nvmCmdResult 0
     let m := ceilDiv (t.rd (.wdie 0) nvmLenBytes) 65536; let b := t.rd (.wdie 0) nvmAddrAddr
     s.on (.wdie 0) nvmCmdBusy = false → nvmValid 2 a n = true → 0x2800000 ≤ a ∨ s.on (.wdie 0) authStatUpdate = true →
     exec (.nvmErase 0) s = .next (s.keep ((List.range m).foldl (fun (w : State) i => w.eraseCount (b / 65536 + i))
       { t with nor := dropRange b (b + m * 65536) t.nor }))) ∧
  (∀ s : State, let a := s.rd (.wdie 0) nvmAddrAddr; let n := s.rd (.wdie 0) nvmLenBytes
     s.on (.wdie 0) nvmCmdBusy = false → nvmValid 2 a n = true → a < 0x2800000 → s.on (.wdie 0) authStatUpdate = false →
     exec (.nvmErase 0) s = .next (s.keep ((s.pageErr (.wdie 0) .nvm 0x0101 1).nvmResult 4))) ∧
  (∀ (ok : Bool) (s : State), s.on (.wdie 0) nvmCmdBusy = true →
     exec (.nvmCmdDone ok none) s = .next (s.keepStores (s.nvmResult (if ok then 1 else 2)))) ∧
  (∀ (ok : Bool) (l r : Nat) (s : State), s.on (.wdie 0) nvmCmdBusy = true →
     exec (.nvmCmdDone ok (some (l, r))) s = .next (s.keepStores ((s.norWithdraw (l % 3328) (r % 4)).nvmResult (if ok then 1 else 2))))

/-- With CORE enabled: START of a HALTED core whose current image's hash is the verified one and whose interface
agrees runs the image; without a verified hash it is refused. HALT of a running core stops it with its cause, of
another it is refused. POWER_OFF takes a HALTED core to OFF, POWER_ON an OFF core to HALTED; in other states each is
refused. PROMOTE with a verified next image that every running core runs makes it current, else it is refused. An
access of MEM_DATA reads or writes the word at MEM_ADDR, which advances by 4. -/
def Obligations.CoreCommands : Prop :=
  (∀ (u : Chip) (c : Nat) (h body : List Nat) (s : State), s.enabled u .core = true → c < coreCount u → s.coreState u c = 1 →
     s.on u (coreCoreCtrlUseNext c) = false → s.imageAt u false = some (h, body) →
     look (hashKey u false) s.imgHash = some (sha384 (body.take ((compOf h).codeLen + (compOf h).dataLen))) →
     s.ifacesAgree u (compOf h) = true →
     exec (.coreStart u c) s = .next (s.keepStores (s.coreRun u c false (compOf h) body))) ∧
  (∀ (u : Chip) (c : Nat) (h body : List Nat) (s : State), s.enabled u .core = true → c < coreCount u → s.coreState u c = 1 →
     s.on u (coreCoreCtrlUseNext c) = false → s.imageAt u false = some (h, body) → look (hashKey u false) s.imgHash = none →
     exec (.coreStart u c) s = .next (s.keepStores (s.pageErr u .core 0x0100 1))) ∧
  (∀ (u : Chip) (r c : Nat) (s : State), s.enabled u .core = true → c < coreCount u → s.coreRuns u c = true → r < 2 →
     exec (.coreHalt u r c) s = .next (s.keepStores (s.coreStop u c 1))) ∧
  (∀ (u : Chip) (r c : Nat) (s : State), s.enabled u .core = true → coreCount u ≤ c ∨ s.coreRuns u c = false →
     exec (.coreHalt u r c) s = .next (s.keepStores (s.pageErr u .core 0x0101 1))) ∧
  (∀ (u : Chip) (c : Nat) (s : State), s.enabled u .core = true → c < coreCount u → s.coreState u c = 1 →
     exec (.corePowerOff u c) s = .next (s.keepStores (s.wr u (coreCoreStatState c) 0))) ∧
  (∀ (u : Chip) (c : Nat) (s : State), s.enabled u .core = true → coreCount u ≤ c ∨ s.coreState u c ≠ 1 →
     exec (.corePowerOff u c) s = .next (s.keepStores (s.pageErr u .core 0x0101 1))) ∧
  (∀ (u : Chip) (c : Nat) (s : State), s.enabled u .core = true → c < coreCount u → s.coreState u c = 0 →
     exec (.corePowerOn u c) s = .next (s.keepStores (s.wr u (coreCoreStatState c) 1))) ∧
  (∀ (u : Chip) (c : Nat) (s : State), s.enabled u .core = true → coreCount u ≤ c ∨ s.coreState u c ≠ 0 →
     exec (.corePowerOn u c) s = .next (s.keepStores (s.pageErr u .core 0x0101 1))) ∧
  (∀ (d x : Nat) (s : State), let u := Chip.wdie d
     s.enabled u .core = true → s.on u coreNextStatVerified = true →
     ((s.kin u).all fun v => (List.range 4).all fun c => !s.coreRuns v c || s.on v (coreOnNext c)) = true →
     look (hashKey u true) s.imgHash = some x →
     exec (.corePromote d) s = .next (s.keepStores
       (let t := ((s.wr u coreImgCurAddr (s.rd u coreImgNextAddr)).wr u coreCurInfoIface (s.rd u coreNextInfoIface)).wr u coreCurInfoCompatMin (s.rd u coreNextInfoCompatMin)
        { t with imgHash := put (hashKey u false) x t.imgHash }))) ∧
  (∀ (d : Nat) (s : State), s.enabled (.wdie d) .core = true → s.on (.wdie d) coreNextStatVerified = false →
     exec (.corePromote d) s = .next (s.keepStores (s.pageErr (.wdie d) .core 0x0101 1))) ∧
  (∀ (u : Chip) (r value : Nat) (s : State), exec (.coreMemAccess u r false value) s = .next (s.keepStores
     ((s.wr u coreMemAddrAddr ((s.rd u coreMemAddrAddr + 4) % 4294967296)).answer u r false false (s.memWord u (s.bankOf u))))) ∧
  (∀ (u : Chip) (r value : Nat) (s : State), ((s.bankOf u).any fun c => s.coreRuns u c) = false →
     exec (.coreMemAccess u r true value) s = .next (s.keepStores
       (((s.memPut u (s.bankOf u) (value % 4294967296)).memNext u).answer u r true false 0)))

/-- A message sent to a receiver that takes it, with room, stands last in its mailbox with the requester's pointer,
tag and identity, and sets the interrupt; in a full one it is dropped, counted and logged. POP removes the first.
VERIFY starts the engine or, while it is busy, is logged. Verification's end gives its result: a W-die's component
that passes sets VERIFIED and shows its versions. SUBMIT gives the result of the token's checks; an accepted one takes
effect on every part it addresses, with a new NONCE; another is told. REVOKE ends a part's grants. A grant whose end
has not come stays. -/
def Obligations.MailboxAuthCommands : Prop :=
  (∀ (u : Chip) (r m : Nat) (s : State), s.enabled u .mbox = true → m < mboxCount u → s.rxOf u m = .takes → (s.mbox u m).length < 8 →
     exec (.mboxSend u r m) s = .next (s.keepStores
       (((s.setMbox u m (s.mbox u m ++ [⟨(s.heldSend u r).1, (s.heldSend u r).2, senderId u r⟩])).int u .mbox m).answer u r true false 0))) ∧
  (∀ (u : Chip) (r m : Nat) (s : State), s.enabled u .mbox = true → m < mboxCount u → s.rxOf u m = .takes → 8 ≤ (s.mbox u m).length →
     exec (.mboxSend u r m) s = .next (s.keepStores (((s.inc u mboxDropsFull).pageErr u .mbox 0x0100 1).answer u r true false 0))) ∧
  (∀ (u : Chip) (r m : Nat) (s : State), s.enabled u .mbox = true → m < mboxCount u → s.rxOf u m = .off →
     exec (.mboxSend u r m) s = .next (s.keepStores (((s.inc u mboxDropsCoreOff).pageErr u .mbox 0x0101 1).answer u r true true 0))) ∧
  (∀ (u : Chip) (m : Nat) (s : State), s.enabled u .mbox = true →
     exec (.mboxPop u m) s = .next (s.keepStores (s.setMbox u m ((s.mbox u m).drop 1)))) ∧
  (∀ (u : Chip) (s : State), s.enabled u .auth = true → s.on u authStatBusy = false →
     exec (.authVerify u) s = .next (s.keepStores (s.wr u authStatBusy 1))) ∧
  (∀ (u : Chip) (s : State), s.enabled u .auth = true → s.on u authStatBusy = true →
     exec (.authVerify u) s = .next (s.keepStores (s.pageErr u .auth 0x0100 1)) ∧
     exec (.authSubmit u) s = .next (s.keepStores (s.pageErr u .auth 0x0100 1))) ∧
  (∀ (d : Nat) (s : State), let u := Chip.wdie d; let res := s.verifyResult u
     let k := compOf (((s.imageAt u true).map fun e => e.1).getD [])
     let t : State := (s.wr u authStatBusy 0).wr u authStatVerifyResult res
     s.enabled u .auth = true → s.on u authStatBusy = true →
     exec (.authVerifyDone u) s = .next (s.keepStores
       (State.int (if res = 1 then
           (((State.wr { t with imgHash := put (hashKey u true) k.hash t.imgHash } u coreNextStatVerified 1).wr u coreNextInfoIface k.iface).wr
             u coreNextInfoCompatMin k.compat)
         else t) u .auth 1))) ∧
  (∀ (p : Nat) (s : State), let u := Chip.ikb p; let t := s.token u; let res := s.tokenResult u t
     let v := s.wr u authStatTokenResult res
     s.enabled u .auth = true → s.on u authStatBusy = false →
     exec (.authSubmit u) s = .next (s.keepStores (if res ≠ 1 then (v.event u .auth 0x1008 1 (pay [(res, 0), (t.id, 64)])).int u .auth 0
       else (((((((v.accept1 u t).newNonce u).wr u authLastTokenId t.id).wr u (grantMask t.scope) t.mask)).event u .auth 0x1007 1
         (pay [(t.scope, 0), (t.page, 8), (t.mask, 16), (t.id, 64)])).int u .auth 0)))) ∧
  (∀ s : State, let u := Chip.wdie 0; let t := s.token u; let res := s.tokenResult u t
     let v := s.wr u authStatTokenResult res
     s.enabled u .auth = true → s.on u authStatBusy = false →
     exec (.authSubmit u) s = .next (s.keepStores (if res ≠ 1 then (v.event u .auth 0x1008 1 (pay [(res, 0), (t.id, 64)])).int u .auth 0
       else ((((((((s.addressed u t.mask).foldl (fun (a : State) w => a.accept1 w t) v).newNonce u).wr u authLastTokenId t.id).wr
         u (grantMask t.scope) t.mask)).event u .auth 0x1007 1
         (pay [(t.scope, 0), (t.page, 8), (t.mask, 16), (t.id, 64)])).int u .auth 0)))) ∧
  (∀ (p : Nat) (s : State), let u := Chip.ikb p
     s.enabled u .auth = true →
     exec (.authRevoke u) s = .next (s.keepStores (((s.grantOff u 1 2).grantOff u 2 2).grantOff u 3 2))) ∧
  (∀ (u : Chip) (s : State), s.on u authStatClear = true → s.rd u (grantEnd 1) ≤ s.rd u rasFaultSecSec + 1 →
     s.on u authStatUpdate = false → s.on u authStatPrism = false →
     (s.grantOff u 1 0).on u authStatUpdate = false → (s.grantOff u 1 0).on u authStatPrism = false →
     exec (.grantExpiry u) s = .next (s.keepStores (s.grantOff u 1 0))) ∧
  (∀ (u : Chip) (s : State), s.on u authStatClear = false → s.on u authStatUpdate = false → s.on u authStatPrism = false →
     exec (.grantExpiry u) s = .next s)

/-- A second's counts of a core are added, and more than BG_PCT of background cycles sets BG_OVER, interrupt and
event. A corrected SRAM error is counted, a parity error too; an uncorrectable word of a running core stops it and is
told; one of shared memory is a fatal error of the page. A completed patrol pass starts the next and raises its
interrupt. Recalibration clears its channel's request. Ten seconds after a failed load an IKB is loaded again. -/
def Obligations.BackgroundWork : Prop :=
  (∀ (u : Chip) (c cycles busy bg : Nat) (s : State),
     let t := (s.inc u (coreCoreBusyCycles c) busy).inc u (coreCoreBgCycles c) bg
     s.enabled u .core = true → t.rd u coreBgCfgBgPct * cycles < 100 * bg →
     exec (.bgWindow u c cycles busy bg) s = .next (s.keepStores
       (((t.wr u (coreCoreBgctlBgOver c) 1).int u .core (4 + c)).event u .core 0x100B 1 (pay [(c, 0), (100 * bg / cycles, 8)])))) ∧
  (∀ (u : Chip) (c cycles busy bg : Nat) (s : State),
     let t := (s.inc u (coreCoreBusyCycles c) busy).inc u (coreCoreBgCycles c) bg
     s.enabled u .core = true → 100 * bg ≤ t.rd u coreBgCfgBgPct * cycles →
     exec (.bgWindow u c cycles busy bg) s = .next (s.keepStores t)) ∧
  (∀ (p core : Nat) (data : Bool) (addr : Nat) (s : State),
     exec (.sramScrubError (.ikb p) 0 core data addr) s = .next (s.keepStores (s.inc (.ikb p) coreIkbScrubCorr)) ∧
     exec (.sramScrubError (.ikb p) 1 core data addr) s = .next (s.keepStores (s.inc (.ikb p) coreIkbScrubParity))) ∧
  (∀ (d core : Nat) (data : Bool) (addr : Nat) (s : State),
     exec (.sramScrubError (.wdie d) 0 core data addr) s = .next (s.keepStores (s.inc (.wdie d) scrubSramErrCorr)) ∧
     exec (.sramScrubError (.wdie d) 1 core data addr) s = .next (s.keepStores (s.inc (.wdie d) scrubSramErrParity)) ∧
     exec (.sramScrubError (.wdie d) 2 core data addr) s = .next (s.keepStores ((s.inc (.wdie d) scrubSramErrParity).batchParity d))) ∧
  (∀ (u : Chip) (core : Nat) (data : Bool) (addr : Nat) (s : State), s.coreRuns u core = true →
     exec (.sramScrubError u 3 core data addr) s = .next (s.keepStores
       ((s.coreStop u core 3).event u .core 0x100A 2 (pay [(core, 0), (data.toNat, 4), (addr, 32)])))) ∧
  (∀ (u : Chip) (core : Nat) (data : Bool) (addr : Nat) (s : State),
     exec (.sramScrubError u 4 core data addr) s = .next (s.keepStores (s.pageErr u .core 0x0102 3))) ∧
  (∀ (d : Nat) (s : State), let u := Chip.wdie d
     s.on u scrubCtrlPatrolEn = true → s.on u scrubProgressPaused = false → s.enabled u .scrub = true →
     s.now ≤ s.rd u patrolAt + s.rd u scrubPatrolPeriodH * 3600 * sec →
     exec (.patrolPass d true) s = .next (s.keepStores (((s.wr u patrolAt s.now).wr u scrubProgressPct 0).int u .scrub 0))) ∧
  (∀ (d channel : Nat) (s : State), s.enabled (.wdie d) .scrub = true →
     exec (.scrubRecal d channel) s = .next (s.keepStores
       (s.wr (.wdie d) scrubRecalChannel (clrBit (s.rd (.wdie d) scrubRecalChannel) channel)))) ∧
  (∀ (p channel : Nat) (s : State), s.enabled (.ikb p) .core = true →
     exec (.adcBgRecal p channel) s = .next (s.keepStores
       (s.wr (.ikb p) coreBgRecalAdc (clrBit (s.rd (.ikb p) coreBgRecalAdc) channel)))) ∧
  (∀ (p : Nat) (s : State), let x := s.rd (dieOfPort p) (loadFailed (linkOfPort p))
     x ≠ 0 → x + 10 * sec ≤ s.now + 1 →
     exec (.ikbLoadRetry p) s = .next (s.keepStores (s.loadBegin p)))

/-- On a page of the window that is not gated (whose domain the access wakes): SOFT_RESET resets the block, LOCK sets
LOCKED, FREEZE holds or releases its values, INT_FORCE sets raw bits, a write of INT_RAW clears them. A soft reset's
end clears RESET_BUSY. A gated page, or one that the window has not, is unchanged. ERR_CTRL.CLEAR empties the capture,
and FATAL_PENDING goes with the last fatal one. Unmasking a vector clears its mask bit; a message held for it is sent.
-/
def Obligations.PageControls : Prop :=
  (∀ (u : Chip) (b : Blk) (r : Nat) (s : State), (pagesOf u).contains b = true → s.gated u b = false →
     exec (.softReset u b r) s = .next (s.keepStores ((s.wakeFor u b).softReset u b r))) ∧
  (∀ (u : Chip) (b : Blk) (s : State), exec (.softResetDone u b) s = .next (s.keepStores (s.wr u (hdrBlkStatResetBusy b) 0))) ∧
  (∀ (u : Chip) (b : Blk) (s : State),
     let t : State := (((((s.wr u (hdrErrFirstCode b) 0).wr u (hdrErrFirstValid b) 0).wr u (hdrErrFirstInfoInfo b) 0).wr u (hdrErrNextCountCount b) 0).wr u (hdrErrCtrlSeverity b) 0).wr u (hdrErrCtrlNested b) 0
     exec (.errClear u b) s = .next (s.keepStores (if t.holdsFatal u.part then t else t.wr u.part rasStatFatalPending 0))) ∧
  (∀ (u : Chip) (b : Blk) (s : State), (pagesOf u).contains b = true → s.gated u b = false →
     exec (.lockSet u b) s = .next (s.keepStores ((s.wakeFor u b).wr u (hdrLockLocked b) 1))) ∧
  (∀ (u : Chip) (b : Blk) (value : Nat) (s : State), (pagesOf u).contains b = true → s.gated u b = false →
     exec (.freezeWrite u b value) s = .next (s.keepStores ((s.wakeFor u b).freezeWrite u b value)) ∧
     exec (.intForce u b value) s = .next (s.keepStores ((s.wakeFor u b).intForce u b value)) ∧
     exec (.intRawClear u b value) s = .next (s.keepStores ((s.wakeFor u b).intRawClear u b value))) ∧
  (∀ (u : Chip) (b : Blk) (r value : Nat) (s : State), (pagesOf u).contains b = false ∨ s.gated u b = true →
     exec (.softReset u b r) s = .next s ∧ exec (.lockSet u b) s = .next s ∧ exec (.freezeWrite u b value) s = .next s ∧
     exec (.intForce u b value) s = .next s ∧ exec (.intRawClear u b value) s = .next s) ∧
  (∀ (v : Nat) (s : State), exec (.msixUnmask (some v)) s = .next (s.keepStores
     (State.unmasked { s with msixTable := put (16 * (v % 256) + 12) 0 s.msixTable } (v % 256)))) ∧
  (∀ s : State, exec (.msixUnmask none) s = .next (s.keepStores
     ((List.range 256).foldl (fun (t : State) v => t.unmasked v) (s.wr (.wdie 0) msixEnable 1))))

/-- A read of a word of an ungated page answers what the page's register reads, in a gated page zero, with nothing
changed. The low word of a 64-bit register reads its low 32 bits and latches the high ones; a high-word read returns
the latched word, or, when the requester's previous read was not that low word, the live high word with LATCH_ORPHAN
logged. A page that the window has not answers an error, recorded. -/
def Obligations.RegisterReads : Prop :=
  (∀ (u : Chip) (b : Blk) (off r : Nat) (s : State), (pagesOf u).contains b = true → s.gated u b = false →
     exec (.rcRead u b off r) s = .next (s.keep
       (((s.wakeFor u b).readWord u b (off % 4096 / 4 * 4) r).2.answer u r false false ((s.wakeFor u b).readWord u b (off % 4096 / 4 * 4) r).1))) ∧
  (∀ (u : Chip) (b : Blk) (off r : Nat) (s : State), (pagesOf u).contains b = true → s.gated u b = true →
     exec (.rcRead u b off r) s = .next (s.keep (s.answer u r false false 0))) ∧
  (∀ (u : Chip) (b : Blk) (off r : Nat) (s : State), (pagesOf u).contains b = false →
     exec (.rcRead u b off r) s = .next (s.keep
       ((s.lost u (pageNo u b * 4096 + off % 4096 / 4 * 4) false).state.answer u r false true 0))) ∧
  (∀ (u : Chip) (b : Blk) (off r : Nat) (s : State), (pagesOf u).contains b = true → s.gated u b = false →
     exec (.lowWordRead u b off r) s = .next (s.keep
       (((s.wakeFor u b).readWord u b (off % 4096 / 8 * 8) r).2.answer u r false false ((s.wakeFor u b).readWord u b (off % 4096 / 8 * 8) r).1)) ∧
     exec (.highWordRead u b off r) s = .next (s.keep
       (((s.wakeFor u b).readWord u b (off % 4096 / 8 * 8 + 4) r).2.answer u r false false
         ((s.wakeFor u b).readWord u b (off % 4096 / 8 * 8 + 4) r).1))) ∧
  (∀ (u : Chip) (b : Blk) (off r : Nat) (g : Reg) (f : Fld) (s : State), regAt u b off = some g → g.wide = true → g.fields = [f] →
     f.lo = 0 → deadBody u b off = false → b ≠ .time → b ≠ .core → let x := s.readField u b r f
     (g.word = 0 → s.readWord u b off r = (x.1 % 4294967296, x.2.setLatch u r (some (f.key u, x.1 / 4294967296)))) ∧
     (∀ h : Nat, g.word ≠ 0 → x.2.latchOf u r (f.key u) = some h → s.readWord u b off r = (h, x.2.setLatch u r none)) ∧
     (g.word ≠ 0 → x.2.latchOf u r (f.key u) = none →
       s.readWord u b off r = (x.1 / 4294967296, (x.2.setLatch u r none).pageErr u b 0x0005 0 (accessInfo u r off false))))

/-- A write of a word of an ungated page acts by the page's register; in a gated page it does nothing. A body write
while RESET_BUSY is dropped and logged. A field refused keeps its value and is logged; a locked RWL field keeps its
value and is logged. The low word of a 64-bit RW register is held and changes nothing else; the high word after it
commits both, without it PARTIAL_64_WRITE is logged. -/
def Obligations.RegisterWrites : Prop :=
  (∀ (u : Chip) (b : Blk) (off r value : Nat) (secure : Bool) (s : State), (pagesOf u).contains b = true → s.gated u b = false →
     exec (.registerWrite u b off r value secure) s = .next (s.keep
       (((s.wakeFor u b).writeWord u b (off % 4096 / 4 * 4) r (value % 4294967296) secure).1.answer u r true
         ((s.wakeFor u b).writeWord u b (off % 4096 / 4 * 4) r (value % 4294967296) secure).2 0))) ∧
  (∀ (u : Chip) (b : Blk) (off r value : Nat) (secure : Bool) (s : State), (pagesOf u).contains b = true → s.gated u b = true →
     exec (.registerWrite u b off r value secure) s = .next (s.keep (s.answer u r true false 0))) ∧
  (∀ (u : Chip) (b : Blk) (off r value : Nat) (secure : Bool) (s : State), bodyAt ≤ off → s.on u (hdrBlkStatResetBusy b) = true →
     s.writeWord u b off r value secure = ((((s.dropLow u r).wr u (hdrBlkStatDroppedWrite b) 1).pageErr u b 0x0002 1
       (accessInfo u r off true)), false)) ∧
  (∀ (u : Chip) (b : Blk) (off r value : Nat) (s : State), (pagesOf u).contains b = true → s.gated u b = false →
     exec (.lowWordWrite u b off r value) s = .next (s.keep
       (((s.wakeFor u b).writeWord u b (off % 4096 / 8 * 8) r (value % 4294967296) false).1.answer u r true
         ((s.wakeFor u b).writeWord u b (off % 4096 / 8 * 8) r (value % 4294967296) false).2 0)) ∧
     exec (.highWordWrite u b off r value) s = .next (s.keep
       (((s.wakeFor u b).writeWord u b (off % 4096 / 8 * 8 + 4) r (value % 4294967296) false).1.answer u r true
         ((s.wakeFor u b).writeWord u b (off % 4096 / 8 * 8 + 4) r (value % 4294967296) false).2 0))) ∧
  (∀ (u : Chip) (b : Blk) (off r value : Nat) (secure : Bool) (g : Reg) (s : State), bodyAt ≤ off →
     s.on u (hdrBlkStatResetBusy b) = false → deadBody u b off = false → s.ignoredWrite u b off r value = none → b ≠ .time →
     regAt u b off = some g → g.pair = true → let key := (g.fields.map fun f => f.key u).headD 0
     (g.word = 0 → s.writeWord u b off r value secure =
       ({ s.dropLow u r with buffers := put (reqKey u r) (key, value) (s.dropLow u r).buffers }, false)) ∧
     (∀ lo : Nat, g.word ≠ 0 → look (reqKey u r) s.buffers = some (key, lo) → s.writeWord u b off r value secure =
       ((s.dropLow u r).commit u b (off - 4) r (lo + 4294967296 * value) g.fields, false)) ∧
     (g.word ≠ 0 → look (reqKey u r) s.buffers = none → s.writeWord u b off r value secure =
       ((s.dropLow u r).pageErr u b 0x0003 1 (accessInfo u r off true), false))) ∧
  (∀ (u : Chip) (b : Blk) (off r v : Nat) (f : Fld) (s : State), f.acc = .rwl → s.locked u b = true → s.regBad u b off v = false →
     s.fieldBad u b f (bitsOf v f.lo f.w) = false → b ≠ .ras →
     s.writeFields u b off r v [f] = (s.afterWrite s u b off v).lockedErr u b r off)

/-- A register-port request with right parity and a whole aligned word is answered with what the IKB's window answers;
with a bad address parity TOP logs it, and one that is not a whole word is lost, each answered with an error. A PCIe
access of 4 or 8 aligned bytes is answered with what BAR0 gives; another is an error. A proxied access while the link
is down fails at once, else it joins the port's accesses and the first 16 are sent. A PROXY_REQ that waits for no PLL
is served and answered. A PROXY_RSP that names a sent access completes it, another is counted late; PROXY_WAIT
restarts its access's time once; accesses unanswered for 20 us fail with the interrupt. A LOAD frame's bytes enter the
image buffer. -/
def Obligations.PortsAndProxies : Prop :=
  (∀ (p addr data be : Nat) (write secure : Bool) (s : State), be % 16 = 15 → addr % 262144 % 4 = 0 →
     let t := s.accessIkb p (addr % 262144) 0 write false data secure
     exec (.regPortRequest p addr write be data true true secure) s = .next (s.keep
       (t.state.respond (.ikb p) 0 t.err (if t.err then 0 else t.data)))) ∧
  (∀ (p addr be data : Nat) (write dataOk secure : Bool) (s : State),
     exec (.regPortRequest p addr write be data false dataOk secure) s = .next (s.keep
       ((s.pageErr (.ikb p) .top 0x0004 2 (accessInfo (.ikb p) 0 (addr % 262144 % 4096) write)).respond (.ikb p) 0 true 0))) ∧
  (∀ (p addr be data : Nat) (write secure : Bool) (s : State), be % 16 ≠ 15 ∨ addr % 262144 % 4 ≠ 0 →
     exec (.regPortRequest p addr write be data true true secure) s = .next (s.keep
       ((((s.inc (.ikb p) topIAddrErrCountCount).wr (.ikb p) topIAddrErrLastAddr (addr % 262144)).wr (.ikb p) topIAddrErrLastWrite
         write.toNat).respond (.ikb p) 0 true 0))) ∧
  (∀ (addr len data : Nat) (write : Bool) (t : Answer) (s : State), len = 4 ∨ len = 8 → addr % 0x4000000 % len = 0 →
     s.accessBar0 (addr % 0x4000000) write (len == 8) data = some t →
     exec (.pcieBar0Access write addr len data) s = .next (s.keep
       (t.state.answer (.wdie 0) 0 write t.err (if t.err then 0 else t.data)))) ∧
  (∀ (addr len data : Nat) (write : Bool) (s : State), len ≠ 4 → len ≠ 8 → addr % 0x4000000 < 0x1000000 →
     exec (.pcieBar0Access write addr len data) s = .next (s.keep
       ((s.lost .pkg (addr % 0x4000000 % 4194304) write).state.answer (.wdie 0) 0 write true 0))) ∧
  (∀ (p r addr value : Nat) (write wide : Bool) (s : State), s.on (dieOfPort p) (ltlStatUp (linkOfPort p)) = true →
     exec (.proxyAccess p r write wide addr value) s = .next (s.keepStores ((s.setProxies p (s.proxiesOf p ++
       [⟨r, freeTag (s.proxiesOf p), write, wide, addr % 262144, value, 0, false⟩])).proxyPump p))) ∧
  (∀ (p r addr value : Nat) (write wide : Bool) (s : State), s.on (dieOfPort p) (ltlStatUp (linkOfPort p)) = false →
     exec (.proxyAccess p r write wide addr value) s = .next (s.keepStores
       (s.proxyFailed p ⟨r, freeTag (s.proxiesOf p), write, wide, addr % 262144, value, 0, false⟩))) ∧
  (∀ (p tag addr data : Nat) (write wide : Bool) (s : State), s.on (endChip p true) (ltlStatUp (endBlk p true)) = true →
     (s.received p true 0x40 12).pllWait p (addr % 262144) = false →
     let a := (s.received p true 0x40 12).accessIkb p (addr % 262144) 1 write wide data false
     exec (.ltlProxyReq p tag write wide addr data) s = .next (s.keep
       (a.state.sendUp p 0x41 [tag % 256, a.err.toNat, if write then 0 else a.data]))) ∧
  (∀ (p tag data : Nat) (err : Bool) (q : ProxyReq) (s : State), s.on (endChip p false) (ltlStatUp (endBlk p false)) = true →
     ((s.received p false 0x41 10).proxiesOf p).find? (fun q => q.tag == tag % 256 && q.sentAt != 0) = some q →
     let t := s.received p false 0x41 10
     exec (.ltlProxyRsp p tag err data) s = .next (s.keepStores
       (((t.setProxies p ((t.proxiesOf p).erase q)).answer (dieOfPort p) q.r q.write err
         (if q.write || err then 0 else if q.wide then data % 2 ^ 64 else data % 2 ^ 32)).proxyPump p))) ∧
  (∀ (p tag data : Nat) (err : Bool) (s : State), s.on (endChip p false) (ltlStatUp (endBlk p false)) = true →
     ((s.received p false 0x41 10).proxiesOf p).find? (fun q => q.tag == tag % 256 && q.sentAt != 0) = none →
     exec (.ltlProxyRsp p tag err data) s = .next (s.keepStores
       ((s.received p false 0x41 10).inc (dieOfPort p) (ltlProxyLateRsp (linkOfPort p))))) ∧
  (∀ (p tag : Nat) (s : State), s.on (endChip p false) (ltlStatUp (endBlk p false)) = true →
     let t := s.received p false 0x42 1
     exec (.ltlProxyWait p tag) s = .next (s.keepStores (t.setProxies p ((t.proxiesOf p).map fun q =>
       if q.tag = tag % 256 && q.sentAt ≠ 0 && !q.waited then { q with sentAt := t.now + 1, waited := true } else q)))) ∧
  (∀ (p : Nat) (s : State),
     let late := fun (q : ProxyReq) => q.sentAt != 0 && decide (q.sentAt + 20 * us ≤ s.now + 1)
     (s.proxiesOf p).any late = true →
     exec (.proxyTimeout p) s = .next (s.keepStores
       ((State.int (((s.proxiesOf p).filter late).foldl (fun (t : State) q => t.proxyFailed p q)
         (s.setProxies p ((s.proxiesOf p).filter fun q => !late q))) (dieOfPort p) (linkOfPort p) 4).proxyPump p))) ∧
  (∀ (p off : Nat) (bytes : List Nat) (s : State), s.on (endChip p true) (ltlStatUp (endBlk p true)) = true →
     s.on (endChip p true) (verBad (endBlk p true)) = false →
     let t := (s.received p true 0x78 (4 + bytes.length)).bufWrite p (off / 64 * 64) (bytes.take 8192)
     t.rd (dieOfPort p) (loadStep (linkOfPort p)) ≠ 1 →
     exec (.ltlLoad p off bytes) s = .next (s.keepStores t))

/-- With the field side supplied: BUS_LOW is entered with its record, its frame and its capture; once the FET is on
its return ends it, tells the frame and BUS_RESTORED. An over-voltage records BUS_OV and opens the FET; a breaker,
over-current or over-temperature fault opens it with BUS_LOW. Insertion closes an open FET with the retries anew; a
retry 5 s after a fault closes it, at most thrice; HS_OFF's opening comes 10 ms after, its return ON_AFTER_S later.
The frozen capture is written to the next slot. Suppressed codes are told once per second. The image's watchdog gives
the failsafe duty for 1 s. A reset of the field side begins it anew with BOOT raised and FIELD_RESET. The fall of the
host supply clears what a cold start clears, its links idle. -/
def Obligations.BusAndHotSwap : Prop :=
  (∀ (code : Nat) (s : State), s.field.running = true → s.field.busLow = false →
     exec (.busLow code) s = .next (s.keep
       ((State.fieldEvent { s with field := { s.field with busLow := true, lowAt := s.now + 1, ch0 := code % 65536, capturing := true } }
         0x1103 2 (pay [(code % 65536, 0), (s.field.hsFault.toNat, 16)]) false).alarmFrame 0x90))) ∧
  (∀ (code : Nat) (s : State), s.field.running = true → s.field.busLow = true → s.field.hsOn = true →
     exec (.busRestored code) s = .next (s.keep
       ((State.alarmFrame { s with field := { s.field with busLow := false, lowAt := 0, ch0 := code % 65536 } } 0x10).fieldEvent 0x1104 1
         ((s.now + 1 - s.field.lowAt) / ms % 4294967296)))) ∧
  (∀ (code : Nat) (s : State), s.field.running = true →
     exec (.busOv code) s = .next (s.keep
       ((State.fieldEvent { s with field := { s.field with busOv := true } } 0x1105 2 (code % 65536)).fetFault 3 code))) ∧
  (∀ (cause code : Nat) (s : State), s.field.running = true →
     exec (.hsFault cause code) s = .next (s.keep (State.busLowAt (State.fieldEvent { s with field := { s.field with
         hsOn := false, hsPg := false, hsFault := true, faults := 2 ^ (cause % 3), openAt := s.now + 1, ch0 := code % 65536 } }
       0x1106 2 (pay [(2 ^ (cause % 3), 0), (s.field.retries, 8)])) code))) ∧
  (∀ s : State, s.field.running = true → s.field.hsOn = false →
     exec .hsInsertion s = .next (s.keepStores { s with field := { s.field.closed with retries := 0 } })) ∧
  (∀ s : State, s.field.running = true → s.field.openAt ≠ 0 → s.field.retries < 3 → s.field.openAt + 5 * sec ≤ s.now + 1 →
     exec .hsRetry s = .next (s.keepStores { s with field := { s.field.closed with retries := s.field.retries + 1 } })) ∧
  (∀ s : State, s.field.running = true → s.field.offAt ≠ 0 → s.field.offAt + 10 * ms ≤ s.now + 1 →
     exec .hsOffOpen s = .next (s.keepStores
       { s with field := { s.field with hsOn := false, hsPg := false, offAt := 0, offOpenAt := s.now + 1 } })) ∧
  (∀ s : State, s.field.running = true → s.field.offOpenAt ≠ 0 → s.field.onAfter ≠ 0 →
     s.field.offOpenAt + s.field.onAfter * sec ≤ s.now + 1 →
     exec .hsOnAfter s = .next (s.keepStores { s with field := s.field.closed })) ∧
  (∀ (pairs : List (Nat × Nat)) (s : State), s.field.running = true → s.field.capturing = true →
     exec (.busCaptureFreeze pairs) s = .next (s.keep
       { s with mram := memWriteList mramDflt ((pairs.take 1024).map fun e => bytesLE 2 e.1 ++ bytesLE 2 e.2).flatten
                          (0x1000 + 4096 * s.field.capSlot) s.mram,
                field := { s.field with capturing := false, capSlot := (s.field.capSlot + 1) % 4 } })) ∧
  (∀ s : State, s.field.running = true → s.field.suppAt + sec ≤ s.now →
     exec .fieldSuppressed s = .next (s.keep (s.field.supp.foldl
       (fun (t : State) e => t.fieldEvent 0x1112 0 (pay [(e.1, 0), (e.2 % 4294967296, 16)]))
       { s with field := { s.field with supp := [], suppAt := s.now } }))) ∧
  (∀ s : State, s.field.running = true → s.field.version ≠ 0 →
     exec .fieldWatchdogExpiry s = .next (s.keepStores { s with field := { s.field with failUntil := s.now + sec } })) ∧
  (∀ s : State, exec (.fieldSideReset false) s = .next (s.keep (State.fieldEvent { s with field :=
       { hostUp := s.field.hostUp, fseq := s.field.fseq, boot := (s.field.boot + 1) % 65536, head := s.field.head,
         count := s.field.count, capSlot := s.field.capSlot, hsOn := false, hsPg := false, startAt := s.now, chatAt := s.now,
         suppAt := s.now } } 0x1113 1 (pay [(0, 0), ((s.field.boot + 1) % 65536, 16)])))) ∧
  (∀ s : State, exec .hostSupplyFall s = .next (s.keep
     (let t := (List.range (8 * s.dies)).foldl (fun (t : State) p => t.linkIdle p) s
      { t.coldClear with field := { t.field with hostUp := false } })))

/-- A debounce sample judges each enabled input in turn. An input active for STUCK_S is stuck and told; once per
second inputs that chatter are told. A coolant reading is judged by its limits, a fan's by its speed. At die 0, an
ALARM or HEARTBEAT frame gives alarm and bus state; a SENSE frame of group 0 gives codes and validity; an EVENT
frame's record is written with PART 3; a CFG_ECHO confirms; MRAM_DATA goes to CMD_BUF; CMD_DONE ends the command of
its OP. -/
def Obligations.FieldSensing : Prop :=
  (∀ (levels : Nat) (s : State), s.field.running = true →
     exec (.alarmSample levels) s = .next (s.keep ((List.range 16).foldl (fun (t : State) k =>
       if t.field.enabled k then t.alarmSample k (bitAt levels k == 1) else t) s))) ∧
  (∀ (k : Nat) (s : State), s.field.running = true → k < 16 → s.field.enabled k = true → s.field.stuckS k ≠ 0 →
     (s.alarmOf k).stuck = false → (s.alarmOf k).activeAt ≠ 0 → (s.alarmOf k).activeAt + s.field.stuckS k * sec ≤ s.now + 1 →
     exec (.alarmStuck k) s = .next (s.keep ((s.setAlarm k { s.alarmOf k with stuck := true }).fieldEvent 0x110A 2 k))) ∧
  (∀ s : State, s.field.running = true → s.field.chatAt + sec ≤ s.now →
     exec .alarmChatter s = .next (s.keep ((List.range 16).foldl (fun (t : State) k =>
         let a := t.alarmOf k
         let t1 := if a.chatterSec = 0 then t else t.setAlarm k { a with chatterSec := 0 }
         if t.field.enabled k && decide (t.field.chatterLim k ≤ a.chatterSec) then
           t1.fieldEvent 0x110B 1 (pay [(k, 0), (min 65535 a.chatterSec, 16)]) else t1)
         { s with field := { s.field with chatAt := s.now } }))) ∧
  (∀ (k : Nat) (t : Int) (s : State), s.field.running = true → k < 8 →
     exec (.rtdSample k t) s = .next (s.keep (s.rtdSample k t))) ∧
  (∀ (k rpm : Nat) (s : State), s.field.running = true → k < 8 →
     exec (.fanTach k rpm) s = .next (s.keep (s.fanTach k rpm))) ∧
  (∀ (f : BarFrame) (s : State), s.barAlive false = true → f.bad = false → (s.barEnd false).up = true →
     exec (.barrierHeartbeat false f) s = .next (s.keep ((s.barTaken false 0x02 f).barAlarms f.payload)) ∧
     exec (.barrierAlarm f) s = .next (s.keep ((s.barTaken false 0x10 f).barAlarms f.payload))) ∧
  (∀ (f : BarFrame) (s : State), s.barAlive true = true → f.bad = false → (s.barEnd true).up = true →
     exec (.barrierHeartbeat true f) s = .next (s.keep (s.barTaken true 0x02 f))) ∧
  (∀ (f : BarFrame) (s : State), s.barAlive false = true → f.bad = false → (s.barEnd false).up = true →
     f.seq % 65536 = (s.barEnd false).rx →
     exec (.barrierSense f) s = .next (s.keepStores ((s.barTaken false 0x11 f).senseIn f.payload)) ∧
     exec (.barrierEvent f) s = .next (s.keepStores ((s.barTaken false 0x12 f).fieldRecord f.payload)) ∧
     exec (.barrierCfgEcho f) s = .next (s.keepStores ((s.barTaken false 0x13 f).cfgEcho f.payload)) ∧
     exec (.barrierMramData f) s = .next (s.keep ((s.barTaken false 0x14 f).mramData f.payload)) ∧
     exec (.barrierCmdDone f) s = .next (s.keepStores ((s.barTaken false 0x15 f).cmdDone f.payload))) ∧
  (∀ (pl : List Nat) (s : State), nth pl 0 = 0 → nth pl 1 = 1 →
     (s.senseIn pl).rd (.wdie 0) (barSenseCode 0) = num2 pl 2 % 2 ^ (barSenseCode 0).w ∧
     (s.senseIn pl).rd (.wdie 0) (barSenseValid 0) = 1) ∧
  (∀ (pl : List Nat) (s : State), s.on (.wdie 0) barCmdBusy = true → s.rd (.wdie 0) cmdOp = nth pl 0 →
     s.cmdDone pl = (((s.wr (.wdie 0) barCmdBusy 0).wr (.wdie 0) barCmdResult (nth pl 1 % 8)).int (.wdie 0) .barrier 4))

/-- A HELLO at the field side of a link not just opened brings it up with SEQ anew; the timer sends HELLO each 10 ms
while down. Unacknowledged frames are sent again 200 us after ACK last advanced. Silence of 10 ms, or a sixteenth
send, takes the link down. Each side sends its frames at its times. At the field side a CFG_WRITE of an F word is
applied and echoed, TIME sets the clock, FW_LOAD stores 16 bytes of the image; commands have their effect and are
answered. At die 0 GO sends its command, MRAM_READ outside the MRAM ends with its result, MRAM_CLEAR needs a grant,
HS_OFF needs Midnight. A write of an F word is sent, FPENDING until echoed. A command without a frame for 100 ms ends
with TIMEOUT. -/
def Obligations.BarrierLink : Prop :=
  (∀ (f : BarFrame) (s : State), s.barAlive true = true → f.bad = false → (s.barEnd true).up = false →
     exec (.barrierHello true f) s = .next (s.keepStores (s.barUp true))) ∧
  (∀ (a : Bool) (s : State), s.barAlive a = true → (s.barEnd a).up = false → (s.barEnd a).helloAt = 0 ∨ (s.barEnd a).helloAt + 10 * ms ≤ s.now + 1 →
     exec (.barrierHelloTimer a) s = .next (s.keepStores (s.barHello a))) ∧
  (∀ s : State, s.barAlive true = true → (s.barEnd true).unacked ≠ [] → (s.barEnd true).ackAt + 200 * us ≤ s.now →
     exec (.barrierResendTimer true) s = .next (s.keepStores
       (((s.barEnd true).unacked.map fun (t : BarTx) => { t with sends := t.sends + 1 }).foldl
         (fun (t : State) x => t.barEmit true x.type true x.seq x.payload)
         (s.setBar true { s.barEnd true with unacked := (s.barEnd true).unacked.map fun (t : BarTx) => { t with sends := t.sends + 1 },
                                             ackAt := s.now })))) ∧
  (∀ s : State, s.barAlive true = true → (s.barEnd true).up = true → (s.barEnd true).lastRx + 10 * ms ≤ s.now →
     exec (.barrierSilence true) s = .next (s.keepStores
       (s.setBar true { s.barEnd true with up := false, unacked := [], waiting := [], helloAt := 0 }))) ∧
  (∀ (g : Nat) (vals : List Nat) (s : State),
     exec (.barrierPeriodicSend (.heartbeat false)) s = .next (s.keepStores (s.barSend false 0x02 [])) ∧
     exec (.barrierPeriodicSend (.sense g vals)) s = .next (s.keepStores (s.barSend true 0x11 (s.senseBody g vals))) ∧
     exec (.barrierPeriodicSend .time) s = .next (s.keepStores (s.barSend false 0x22
       (leBytes 6 (s.ltcOf (.wdie 0)).sec ++ leBytes 4 (s.ltcOf (.wdie 0)).ns ++ [s.rd (.wdie 0) timeStatValid])))) ∧
  (∀ (f : BarFrame) (s : State), s.barAlive true = true → f.bad = false → (s.barEnd true).up = true →
     f.seq % 65536 = (s.barEnd true).rx → fOffsets.contains (num2 f.payload 0) = true →
     exec (.barrierCfgWriteFrame f) s = .next (s.keep ((s.barTaken true 0x20 f).cfgApply (num2 f.payload 0) (num4 f.payload 2)))) ∧
  (∀ (f : BarFrame) (s : State), s.barAlive true = true → f.bad = false → (s.barEnd true).up = true →
     f.seq % 65536 = (s.barEnd true).rx → let t := s.barTaken true 0x22 f
     exec (.barrierTime f) s = .next (s.keepStores { t with field := { t.field with
       time := (leVal (f.payload.take 6) * 1000000000 + num4 f.payload 6) % 2 ^ 64,
       timeValid := bitAt (nth f.payload 10) 0 == 1, timeAt := t.now } })) ∧
  (∀ (f : BarFrame) (s : State), s.barAlive true = true → f.bad = false → (s.barEnd true).up = true →
     f.seq % 65536 = (s.barEnd true).rx → num4 f.payload 0 % 16 = 0 → num4 f.payload 0 < 82432 → let t := s.barTaken true 0x23 f
     exec (.barrierFwLoad f) s = .next (s.keepStores { t with field := { t.field with
       image := put (num4 f.payload 0) ((f.payload.drop 4).take 16) t.field.image } })) ∧
  (∀ (f : BarFrame) (s : State), s.barAlive true = true → f.bad = false → (s.barEnd true).up = true →
     f.seq % 65536 = (s.barEnd true).rx → let t := s.barTaken true 0x21 f; let pl := f.payload
     exec (.barrierRearm (some f)) s = .next (s.keep (t.rearm (num4 pl 2))) ∧
     exec (.barrierMramRead (some f)) s = .next (s.keepStores ((State.mramRead (num4 pl 6 / 16) (num4 pl 2) t).cmdReply 2 1)) ∧
     exec (.barrierMramClear (some f)) s = .next (s.keep (t.mramClear (num4 pl 2 + 4294967296 * num4 pl 6))) ∧
     exec (.barrierHsOff (some f)) s = .next (s.keep (t.hsOff (num4 pl 2))) ∧
     exec (.barrierFwStart (some f)) s = .next (s.keep t.fieldStart)) ∧
  (∀ (token : Nat) (s : State), s.mramClear token = ((State.fieldEvent
       { s with mram := [], field := { s.field with head := 0, count := 0, capSlot := 0 } } 0x1114 1 token).cmdReply 3 1)) ∧
  (∀ (onAfter : Nat) (s : State), s.hsOff onAfter = ((State.cmdReply { s with
       field := { s.field with offAt := s.now + 1, onAfter := onAfter } } 4 1).fieldEvent 0x1107 1 onAfter)) ∧
  (∀ s : State, let u := Chip.wdie 0
     let id := s.rd u authLastTokenId
     let c := s.rd u barCmdArgArg
     let d := s.rd u barCmdArg2Arg2
     exec (.barrierRearm none) s = .next (s.keep (s.barGo 1 c d none)) ∧
     exec (.barrierMramRead none) s = .next (s.keepStores (s.barGo 2 c d (if mramReadOk c d then none else some 5))) ∧
     exec (.barrierMramClear none) s = .next (s.keep
       (s.barGo 3 (id % 4294967296) (id / 4294967296) (if s.on u authStatClear then none else some 4))) ∧
     exec (.barrierHsOff none) s = .next (s.keep (s.barGo 4 c d (if s.rd .pkg pkgmCurMode = 3 then none else some 2))) ∧
     exec (.barrierFwStart none) s = .next (s.keep (s.barGo 5 c d none))) ∧
  (∀ (off value : Nat) (s : State), fOffsets.contains off = true →
     exec (.barrierFWrite off value) s = .next (s.keepStores (((s.fWrite off value).wr (.wdie 0) barLinkFpending 1).fSend off))) ∧
  (∀ s : State, s.on (.wdie 0) barCmdBusy = true → s.rd (.wdie 0) cmdAt + 100 * ms ≤ s.now →
     exec .barrierCmdTimeout s = .next (s.keepStores
       (((s.wr (.wdie 0) barCmdBusy 0).wr (.wdie 0) barCmdResult 3).int (.wdie 0) .barrier 4)))

/-- START_CTRL with its key begins a warm start (over PCIe cause 1, from a core 7) or a cold one; without it
START_KEY_INVALID is logged. FLR, PERST#, and 5 ms after FATAL_SAFE with no commit, begin warm starts of causes 2, 3
and 5; the host supply's rise a cold one. A warm start with its conditions met is KIND 4 from the state the warm clear
leaves; without WARM_OK it is carried out cold, with the reason. A ready warm start with good training values whose
image is found takes it on every die and reaches DONE. RUN_S after DONE clears WARM_RUN. A step overrun fails the
start; the PLL lock is tried again at most three times. TORUS.COORD unlocked takes place and tray and sets JOINED. -/
def Obligations.PackageStarts : Prop :=
  (∀ s : State, exec (.startWarm 0 0x5354) s = .next (s.keep (s.warmStart 1))) ∧
  (∀ (r : Nat) (s : State), r ≠ 0 → exec (.startWarm r 0x5354) s = .next (s.keep (s.warmStart 7))) ∧
  (∀ s : State, exec (.startCold 0x5354) s = .next (s.keep (s.beginAs 2 1 0 none))) ∧
  (∀ (r key : Nat) (s : State), key ≠ 0x5354 →
     exec (.startWarm r key) s = .next (s.keep (s.pageErr .pkg .pkg 0x0100 1)) ∧
     exec (.startCold key) s = .next (s.keep (s.pageErr .pkg .pkg 0x0100 1))) ∧
  (∀ s : State, exec .pcieFlr s = .next (s.keep (s.warmStart 2)) ∧ exec .pciePerst s = .next (s.keep (s.warmStart 3)) ∧
     exec .hostPowerUp s = .next (s.keep (State.beginAs { s with field := { s.field with hostUp := true } } 1 0 0 none))) ∧
  (∀ (d : Nat) (s : State), s.on (.wdie d) fatalAt = true → s.rd (.wdie d) fatalAt + 5 * ms ≤ s.now + 1 →
     s.on (.wdie 0) bbxStatLgBusy = false →
     exec (.packageFatalTimeout d) s = .next (s.keep (s.warmStart 5))) ∧
  (∀ (cause : Nat) (s : State), s.on .pkg pkgStartStatWarmOk = false → s.warmStart cause = s.beginAs 3 cause 0 (some 0)) ∧
  (∀ (cause : Nat) (s : State), s.forcedReason cause = none → s.warmStart cause = s.beginAs 4 cause (s.warmRun cause) none) ∧
  (∀ (nor : Bool) (chans l : List Nat) (copy : Bool) (s t : State), let m := (s.rd .pkg modeBefore + 3) % 4
     s.startReady = true → s.rd .pkg pkgStartStatKind = 4 →
     ((List.range s.dies).foldl (State.dramUp true) (s.norFound nor)).bootSource nor = (some (l, copy), t) →
     exec (.packageStartDone nor true chans) s = .next (s.keep
       (State.fieldLoad (((List.range s.dies).foldl (fun (t : State) d => t.otherImage l m d) (t.takeImage 0 l copy m)).startDone)))) ∧
  (∀ (nor : Bool) (chans : List Nat) (s : State), s.startReady = true → s.rd .pkg pkgStartStatKind = 4 →
     exec (.packageStartDone nor false chans) s = .next (s.keep (s.beginAs 3 (s.rd .pkg pkgStartStatCause) 0 (some 2)).fieldLoad)) ∧
  (∀ s : State, s.on .pkg pkgStartStatDone = true →
     s.rd .pkg startDoneAt + max 1 (s.rd .pkg pkgWarmRunCfgRunS) * sec ≤ s.now + 1 →
     exec .warmRunExpiry s = .next (s.keepStores (s.wr .pkg pkgStartStatWarmRun 0))) ∧
  (∀ (d : Nat) (s : State), s.on .pkg pkgStartStatDone = false → s.on (.wdie d) clkWSrcStatXtalReady = false →
     s.rd .pkg startAt + 50 * ms ≤ s.now →
     exec (.startStepTimeout d 2) s = .next (s.keepStores (s.startFailed 2 d 0))) ∧
  (∀ (d : Nat) (s : State), s.on .pkg pkgStartStatDone = false → s.on (.wdie d) clkWSrcStatXtalReady = true →
     s.on (.wdie d) clkWSrcStatPllLock = false → s.rd .pkg (pllTries d) < 3 →
     exec (.startStepTimeout d 3) s = .next (s.keepStores (s.wr .pkg (pllTries d) (s.rd .pkg (pllTries d) + 1)))) ∧
  (∀ (d r xyz tray : Nat) (s : State), s.locked (.wdie d) .torus = false →
     exec (.torusCoordWrite d r xyz tray) s = .next (s.keepStores
       (((s.wr (.wdie d) torusCoordXyz xyz).wr (.wdie d) torusCoordTray tray).wr .pkg pkgStartStatJoined 1)))

/-- IKB_PORST_N resets the whole IKB: every field but the NONCE then holds its reset value. IKB_RST_N resets the VIKB
domain with LAST 1, its event ring kept. VIKB's fall idles the link and turns VIKB off, marked lost without the entry.
VIKB's return after a loss resets the domain with LAST 3 and writes VIKB_LOST; after the entry with LAST 2, withdraws
OFF_OK and, with a retained set, restores the baseline. -/
def Obligations.IkbResets : Prop :=
  (∀ (p : Nat) (s : State), exec (.ikbPorst p) s = .next (s.keepStores (s.porst p))) ∧
  (∀ (p : Nat) (f : Fld) (s : State), f.code < 4294967296 → f.key (.ikb p) ≠ authNonceNonce.key (.ikb p) →
     (s.porst p).rd (.ikb p) f = f.reset (s.porst p).size (.ikb p)) ∧
  (∀ (p : Nat) (s : State), exec (.ikbRst p) s = .next (s.keepStores (s.vikbReset p 1 true))) ∧
  (∀ (p : Nat) (s : State), s.on (.ikb p) aonPwrStatOffOk = false →
     exec (.vikbPgFall p) s = .next (s.keepStores (((s.wr (.ikb p) aonPwrStatVikbLost 1).linkIdle p).wr (.ikb p) vikbOff 1))) ∧
  (∀ (p : Nat) (s : State), s.on (.ikb p) aonPwrStatOffOk = true →
     exec (.vikbPgFall p) s = .next (s.keepStores ((s.linkIdle p).wr (.ikb p) vikbOff 1))) ∧
  (∀ (p : Nat) (s : State), s.on (.ikb p) vikbOff = true → s.on (.ikb p) aonPwrStatOffOk = false →
     exec (.vikbReturn p) s = .next (s.keepStores (((s.vikbReset p 3 false).wr (.ikb p) vikbOff 0).event (.ikb p) .aon 0x0402 2))) ∧
  (∀ (p : Nat) (s : State), let t : State := ((((s.vikbReset p 2 false).wr (.ikb p) vikbOff 0).wr (.ikb p) aonPwrStatOffOk 0).emit (.pin (Chip.ikb p).code "IKB_VIKB_OFF_OK" 0))
     s.on (.ikb p) vikbOff = true → s.on (.ikb p) aonPwrStatOffOk = true → s.on (.ikb p) retainedSet = true →
     exec (.vikbReturn p) s = .next (s.keepStores
       (((List.range 64).foldl (fun (t : State) c => t.wr (.ikb p) (counter c) (t.rd (.ikb p) (retained c))) t).wr (.ikb p) aonPwrStatRetained 1)))

/-- For every command c and state, a step with c at the front of the queue is exec of c on the state with the queue's
rest. With no command waiting a step is the passing of 20 ns (the model's choice, log entry 3: the spec's table has no
row for a tick), which answers a next state whose time is 20 ns later and whose queue and package size are as before.
-/
def Obligations.StepRunsFront : Prop :=
  (∀ (c : Instr) (rest : List Instr) (s : State), step { s with pending := c :: rest } = exec c { s with pending := rest }) ∧
  (∀ (s : State), s.pending = [] → step s = .next s.tick) ∧
  (∀ (s : State), s.tick.now = s.now + 20 ∧ s.tick.pending = s.pending ∧ s.tick.size = s.size)

/-- The command table gives no row any bits, so no word decodes to a command, whatever its length, and placing a word
for the next step changes nothing. -/
def Obligations.NoWord : Prop :=
  (∀ (nbits w : Nat), decodeTableWord nbits w = none) ∧
  (∀ (s : State) (nbits w : Nat), s.withFetchWord nbits w = s)

/-- At reset every field of every page holds the reset value of its table entry. On the IKB, BLK_CTRL.ENABLE is then 1
on the pages TOP, CLK, AON, TIME, LAUNCH, CNTCFG, EVR, CORE, LINK and AUTH and 0 on every other page; the addend of
both parts is the nominal one; counter pair k of bank 0 selects the event lines 2k and 2k + 1; every byte of package
DRAM reads zero (the contents after a cold start); no command waits, and no context, instance, frame, notice or record
is held. -/
def Obligations.ResetValues : Prop :=
  (∀ (u : Chip) (f : Fld), State.reset.rd u f = f.reset .wfk8 u) ∧
  (∀ (p : Nat) (b : Blk), b ∈ ikbBlks → State.reset.enabled (.ikb p) b =
       ([Blk.top, .clk, .aon, .time, .launch, .cntcfg, .evr, .core, .link, .auth].contains b)) ∧
  (∀ (p d : Nat), State.reset.addend (.ikb p) = 0x400000000 ∧ State.reset.addend (.wdie d) = 0x1400000000) ∧
  (∀ (p k : Nat), k < 32 → State.reset.rd (.ikb p) (cntBaseSelSelLo k) = 2 * k ∧ State.reset.rd (.ikb p) (cntBaseSelSelHi k) = 2 * k + 1) ∧
  (∀ (a : Nat), memRead dramDflt State.reset.dram a = 0) ∧
  (State.reset.pending = [] ∧ State.reset.ctxs = [] ∧ State.reset.insts = [] ∧ State.reset.egress = [] ∧
     State.reset.txq = [] ∧ State.reset.notices = [] ∧ State.reset.evRing = [] ∧ State.reset.out = [])

/-- After reset the memories are in canonical form and every waiting command (there is none) is well formed. -/
def Obligations.ResetKeepsInv : Prop :=
  Safety.Inv State.reset

/-- When a command answers a next state, the commands that wait, the package size and the time are as before: commands
come only from outside, the size of a module is fixed, and time passes only in a step with an empty queue. -/
def Obligations.KeepsQueue : Prop :=
  ∀ (c : Instr) (s t : State), exec c s = .next t → t.pending = s.pending ∧ t.size = s.size ∧ t.now = s.now

/-- A command that Safety.mayStore does not name leaves every byte of package DRAM, of the NOR and of the field side's
MRAM as it was. Safety.mayStore names the 72 commands that may store: starts, accesses to registers and BAR2, NVM and
black-box programming, Codec, Lens and Merge work that writes DRAM, table swaps, and the field side's records. -/
def Obligations.StoresKept : Prop :=
  ∀ (c : Instr) (s t : State), Safety.mayStore c = false → exec c s = .next t → ∀ a : Nat,
      memRead dramDflt t.dram a = memRead dramDflt s.dram a ∧ memRead norDflt t.nor a = memRead norDflt s.nor a ∧
      memRead mramDflt t.mram a = memRead mramDflt s.mram a

/-- On every state every command of the table answers a next state: no command ends in a fault or in a refusal,
whatever its operands. Errors of the hardware are states of it: an error capture, an event record, an error response.
-/
def Obligations.NeverStops : Prop :=
  ∀ (c : Instr) (s : State), ∃ t, exec c s = .next t

/-- After a list of bytes is written from address a, byte i of the list reads at a + i and every other address reads
as before. Writing and erasing keep the canonical form. Two memories in canonical form that read the same at every
address are the same list, so equal states are equal data. -/
def Obligations.MemoryLaws : Prop :=
  (∀ (dflt : BitVec 8) (bs : List (BitVec 8)) (a x : Nat) (m : List Host.Cell), memRead dflt (memWriteList dflt bs a m) x =
       (if a ≤ x then (bs[x - a]?).getD (memRead dflt m x) else memRead dflt m x)) ∧
  (∀ (dflt : BitVec 8) (bs : List (BitVec 8)) (a lo hi : Nat) (m : List Host.Cell), memWf dflt m = true →
       memWf dflt (dropRange lo hi (memWriteList dflt bs a m)) = true ∧
       ∀ x : Nat, memRead dflt (dropRange lo hi m) x = (if lo ≤ x ∧ x < hi then dflt else memRead dflt m x)) ∧
  (∀ (dflt : BitVec 8) (m n : List Host.Cell), memWf dflt m = true → memWf dflt n = true →
       (∀ a : Nat, memRead dflt m a = memRead dflt n a) → m = n)

/-- For K from 1 to 64 and contributions of distinct ranks, the TOPK partial of the contributions holds min(K,
INCLUDED) entries, all of them contributions, sorted by value descending when DIR is 0 and ascending when DIR is 1,
equal values by rank ascending; no contribution left out comes before one that is kept. Two partials merge into the
partial of their contributions together. -/
def Obligations.TopK : Prop :=
  (∀ (k dir : Nat) (l : List (Nat × Nat)), 1 ≤ k → k ≤ 64 → dir ≤ 1 → (l.map (·.2)).Nodup →
       ∃ t, l.foldl (fun p e => joinPart 8 1 k dir p (onePart 8 1 e.1 e.2 false)) (emptyPart 8) = .top t ∧
         t.length = min k l.length ∧ (∀ x ∈ t, x ∈ l) ∧
         t.Pairwise (fun x y => (if dir = 0 then y.1 < x.1 else x.1 < y.1) ∨ (x.1 = y.1 ∧ x.2 < y.2)) ∧
         ∀ x ∈ t, ∀ y ∈ l, y ∉ t → (if dir = 0 then y.1 < x.1 else x.1 < y.1) ∨ (x.1 = y.1 ∧ x.2 < y.2)) ∧
  (∀ (k dir : Nat) (l1 l2 : List (Nat × Nat)), 1 ≤ k → k ≤ 64 → dir ≤ 1 → ((l1 ++ l2).map (·.2)).Nodup →
       joinPart 8 1 k dir (l1.foldl (fun p e => joinPart 8 1 k dir p (onePart 8 1 e.1 e.2 false)) (emptyPart 8))
         (l2.foldl (fun p e => joinPart 8 1 k dir p (onePart 8 1 e.1 e.2 false)) (emptyPart 8)) =
       (l1 ++ l2).foldl (fun p e => joinPart 8 1 k dir p (onePart 8 1 e.1 e.2 false)) (emptyPart 8))

/-- A CROSS feature of two features that are not CROSS gives min(code_A × MULT + code_B, 0xFFFE), and 0xFFFF when
either code is 0xFFFF. A load refuses a CROSS descriptor that names a CROSS feature. A CROSS feature has no y, and its
edges and scaling change nothing. -/
def Obligations.CrossFeatures : Prop :=
  (∀ (r : FeatRow) (fs : List LFeat) (off i : Nat) (f g h : LFeat), fs[i]? = some f → f.op = 4 →
       fs[f.featA]? = some g → g.op ≠ 4 → fs[f.featB]? = some h → h.op ≠ 4 →
       (featGroup r fs off).ys[i]? = some none ∧
       (featGroup r fs off).codes[i]? = some
         (if nth (featGroup r fs off).codes f.featA = 0xFFFF ∨ nth (featGroup r fs off).codes f.featB = 0xFFFF then 0xFFFF
          else min (nth (featGroup r fs off).codes f.featA * f.mult + nth (featGroup r fs off).codes f.featB) 0xFFFE)) ∧
  (∀ (n : Nat) (all : List LFeat) (v : Nat) (f : LFeat), f.op = 4 → featOk n all v f = true →
       (∃ g, all[f.featA]? = some g ∧ g.op ≠ 4) ∧ (∃ g, all[f.featB]? = some g ∧ g.op ≠ 4)) ∧
  (∀ (r : FeatRow) (fs : List LFeat) (off i a b : Nat) (edges : List Nat) (f : LFeat), fs[i]? = some f → f.op = 4 →
       featGroup r (fs.set i { f with a := a, b := b, edges := edges }) off = featGroup r fs off)

/-- No access to a page of its part whose clock is gated changes any state, and none is answered with an error. A page
contributes to a line or vector exactly while its clock is enabled and its INT_PEND is not zero: an IKB line is high
exactly when such a page is routed to it, and a vector's level is high exactly when such a page of the package or of a
W-die, or a forwarded IKB line, is mapped to it. Enabling and disabling the clock of a page changes no other field. -/
def Obligations.GatedPages : Prop :=
  (∀ (s : State) (u : Chip) (b : Blk) (off r v : Nat) (write wide secure : Bool), (pagesOf u).contains b = true →
       s.clocked u b = false → (s.accessPage u b off r write wide v secure).state = s ∧
       (s.accessPage u b off r write wide v secure).err = false ∧ (s.accessPage u b off r write wide v secure).data = 0) ∧
  (∀ (s : State) (p n : Nat), s.irqLine p n = true ↔ ∃ b ∈ ikbBlks, s.clocked (.ikb p) b = true ∧
       s.intPend (.ikb p) b ≠ 0 ∧
       (if b.code < 16 then s.rd (.ikb p) (topIIrqRoute0Line b.code)
        else s.rd (.ikb p) (topIIrqRoute1Line (b.code - 16))) = n) ∧
  (∀ (s : State) (v : Nat), s.vecLevel v = true ↔
       (∃ b ∈ pkgBlks, s.intPend .pkg b ≠ 0 ∧ s.vecOf .pkg b = v) ∨
       ∃ d, d < s.dies ∧ ((∃ b ∈ wdieBlks, s.clocked (.wdie d) b = true ∧ s.intPend (.wdie d) b ≠ 0 ∧ s.vecOf (.wdie d) b = v) ∨
         ∃ n l, n < 8 ∧ l < 4 ∧ s.bit (.wdie d) (fwdLines (.ltl n)) l = true ∧ s.rd (.wdie d) (ltlIrqVecVec (.ltl n) l) = v)) ∧
  (∀ (s : State) (u : Chip) (f g : Fld) (v : Nat), f.key u ≠ g.key u → (s.wr u g v).rd u f = s.rd u f)

/-- For each of the nine operations of Merge, whatever the operand format, K and DIR: contributions of distinct ranks
that join one by one in two different orders make the same partial, and two partials merge into the partial of their
contributions together. The result of an instance therefore depends only on the set of contributions that it includes.
-/
def Obligations.OrderFree : Prop :=
  (∀ (op fmt k dir : Nat) (l1 l2 : List (Nat × Nat × Bool)), 1 ≤ op → op ≤ 9 → 1 ≤ k → k ≤ 64 →
       (l1.map (·.2.1)).Nodup → l1.Perm l2 →
       l1.foldl (fun p e => joinPart op fmt k dir p (onePart op fmt e.1 e.2.1 e.2.2)) (emptyPart op) =
       l2.foldl (fun p e => joinPart op fmt k dir p (onePart op fmt e.1 e.2.1 e.2.2)) (emptyPart op)) ∧
  (∀ (op fmt k dir : Nat) (l1 l2 : List (Nat × Nat × Bool)), 1 ≤ op → op ≤ 9 → 1 ≤ k → k ≤ 64 →
       ((l1 ++ l2).map (·.2.1)).Nodup →
       joinPart op fmt k dir
         (l1.foldl (fun p e => joinPart op fmt k dir p (onePart op fmt e.1 e.2.1 e.2.2)) (emptyPart op))
         (l2.foldl (fun p e => joinPart op fmt k dir p (onePart op fmt e.1 e.2.1 e.2.2)) (emptyPart op)) =
       (l1 ++ l2).foldl (fun p e => joinPart op fmt k dir p (onePart op fmt e.1 e.2.1 e.2.2)) (emptyPart op))

/-- From every state whose memories are in canonical form and whose waiting commands are all well formed, a step,
whatever command it takes or the passing of 20 ns, answers only such states. -/
def Obligations.StepKeepsInv : Prop :=
  ∀ (s t : State), Safety.Inv s → step s = .next t → Safety.Inv t

/-- From every state whose memories are in canonical form and whose waiting commands are well formed, a run of any
number of steps never stops, and ends in such a state. -/
def Obligations.RunsAreSafe : Prop :=
  ∀ (n : Nat) (s : State), Safety.Inv s → Safety.Safe n s
end

