-- ==== Sys2Proof/Laws/Exec.lean ====
section
/-! SUPPORT. `exec` of each command is the command's meaning; what a step does. -/

namespace Sys2Proof.Laws

open Sys2Proof.Machine

theorem step_front (s : State) (c : Instr) (rest : List Instr) (h : s.pending = c :: rest) :
    step s = exec c { s with pending := rest } := by simp only [step, h]

theorem step_idle (s : State) (h : s.pending = []) : step s = .next s.tick := by simp only [step, h]

@[simp] theorem exec_pkgrouteAdd (s : State) : exec .pkgrouteAdd s = execPkgrouteAdd s := rfl
@[simp] theorem exec_pkgrouteRemove (s : State) : exec .pkgrouteRemove s = execPkgrouteRemove s := rfl
@[simp] theorem exec_pkgrouteLookup (s : State) : exec .pkgrouteLookup s = execPkgrouteLookup s := rfl
@[simp] theorem exec_pkgrouteDiscardStaged (s : State) : exec .pkgrouteDiscardStaged s = execPkgrouteDiscardStaged s := rfl
@[simp] theorem exec_pkgrouteRewrite (s : State) : exec .pkgrouteRewrite s = execPkgrouteRewrite s := rfl
@[simp] theorem exec_tableSwapRoute (s : State) : exec .tableSwapRoute s = execTableSwapRoute s := rfl
@[simp] theorem exec_tableSwapPorts (d : Nat) (s : State) : exec (.tableSwapPorts d) s = execTableSwapPorts d s := rfl
@[simp] theorem exec_tableSwapCtxSeed (d : Nat) (s : State) : exec (.tableSwapCtxSeed d) s = execTableSwapCtxSeed d s := rfl
@[simp] theorem exec_tableSwapDramSeed (d : Nat) (beyond : Bool) (s : State) : exec (.tableSwapDramSeed d beyond) s = execTableSwapDramSeed d beyond s := rfl
@[simp] theorem exec_tableSwapCodec (d instant : Nat) (s : State) : exec (.tableSwapCodec d instant) s = execTableSwapCodec d instant s := rfl
@[simp] theorem exec_fabricFrameIngress (d : Nat) (request flat : Bool) (job key q : Nat) (frame : FabricFrame) (s : State) : exec (.fabricFrameIngress d request flat job key q frame) s = execFabricFrameIngress d request flat job key q frame s := rfl
@[simp] theorem exec_fabricFrameArrival (P inq : Nat) (frame : FabricFrame) (fcs : Bool) (s : State) : exec (.fabricFrameArrival P inq frame fcs) s = execFabricFrameArrival P inq frame fcs s := rfl
@[simp] theorem exec_fabricFrameReroute (P q : Nat) (s : State) : exec (.fabricFrameReroute P q) s = execFabricFrameReroute P q s := rfl
@[simp] theorem exec_spineFrameReceive (P source : Nat) (frame : FabricFrame) (s : State) : exec (.spineFrameReceive P source frame) s = execSpineFrameReceive P source frame s := rfl
@[simp] theorem exec_reorderWindowClose (source flow : Nat) (s : State) : exec (.reorderWindowClose source flow) s = execReorderWindowClose source flow s := rfl
@[simp] theorem exec_spineFlowClose (source flow : Nat) (s : State) : exec (.spineFlowClose source flow) s = execSpineFlowClose source flow s := rfl
@[simp] theorem exec_flowIdFree (d id : Nat) (s : State) : exec (.flowIdFree d id) s = execFlowIdFree d id s := rfl
@[simp] theorem exec_noticeRepeat (seq : Nat) (s : State) : exec (.noticeRepeat seq) s = execNoticeRepeat seq s := rfl
@[simp] theorem exec_noticeAck (job seq : Nat) (s : State) : exec (.noticeAck job seq) s = execNoticeAck job seq s := rfl
@[simp] theorem exec_mirrorFrame (P switch : Nat) (samples : List MirrorSample) (malformed : Bool) (s : State) : exec (.mirrorFrame P switch samples malformed) s = execMirrorFrame P switch samples malformed s := rfl
@[simp] theorem exec_mirrorSampleRelease (s : State) : exec .mirrorSampleRelease s = execMirrorSampleRelease s := rfl
@[simp] theorem exec_softReset (u : Chip) (b : Blk) (r : Nat) (s : State) : exec (.softReset u b r) s = execSoftReset u b r s := rfl
@[simp] theorem exec_softResetDone (u : Chip) (b : Blk) (s : State) : exec (.softResetDone u b) s = execSoftResetDone u b s := rfl
@[simp] theorem exec_errClear (u : Chip) (b : Blk) (s : State) : exec (.errClear u b) s = execErrClear u b s := rfl
@[simp] theorem exec_lockSet (u : Chip) (b : Blk) (s : State) : exec (.lockSet u b) s = execLockSet u b s := rfl
@[simp] theorem exec_freezeWrite (u : Chip) (b : Blk) (value : Nat) (s : State) : exec (.freezeWrite u b value) s = execFreezeWrite u b value s := rfl
@[simp] theorem exec_rcRead (u : Chip) (b : Blk) (off r : Nat) (s : State) : exec (.rcRead u b off r) s = execRcRead u b off r s := rfl
@[simp] theorem exec_intForce (u : Chip) (b : Blk) (value : Nat) (s : State) : exec (.intForce u b value) s = execIntForce u b value s := rfl
@[simp] theorem exec_intRawClear (u : Chip) (b : Blk) (value : Nat) (s : State) : exec (.intRawClear u b value) s = execIntRawClear u b value s := rfl
@[simp] theorem exec_msixUnmask (vector : Option Nat) (s : State) : exec (.msixUnmask vector) s = execMsixUnmask vector s := rfl
@[simp] theorem exec_lowWordRead (u : Chip) (b : Blk) (off r : Nat) (s : State) : exec (.lowWordRead u b off r) s = execLowWordRead u b off r s := rfl
@[simp] theorem exec_highWordRead (u : Chip) (b : Blk) (off r : Nat) (s : State) : exec (.highWordRead u b off r) s = execHighWordRead u b off r s := rfl
@[simp] theorem exec_lowWordWrite (u : Chip) (b : Blk) (off r value : Nat) (s : State) : exec (.lowWordWrite u b off r value) s = execLowWordWrite u b off r value s := rfl
@[simp] theorem exec_highWordWrite (u : Chip) (b : Blk) (off r value : Nat) (s : State) : exec (.highWordWrite u b off r value) s = execHighWordWrite u b off r value s := rfl
@[simp] theorem exec_regPortRequest (p addr : Nat) (write : Bool) (be data : Nat) (addrOk dataOk secure : Bool) (s : State) : exec (.regPortRequest p addr write be data addrOk dataOk secure) s = execRegPortRequest p addr write be data addrOk dataOk secure s := rfl
@[simp] theorem exec_pcieBar0Access (write : Bool) (addr len data : Nat) (s : State) : exec (.pcieBar0Access write addr len data) s = execPcieBar0Access write addr len data s := rfl
@[simp] theorem exec_proxyAccess (p r : Nat) (write wide : Bool) (addr value : Nat) (s : State) : exec (.proxyAccess p r write wide addr value) s = execProxyAccess p r write wide addr value s := rfl
@[simp] theorem exec_registerWrite (u : Chip) (b : Blk) (off r value : Nat) (secure : Bool) (s : State) : exec (.registerWrite u b off r value secure) s = execRegisterWrite u b off r value secure s := rfl
@[simp] theorem exec_ikbPorst (p : Nat) (s : State) : exec (.ikbPorst p) s = execIkbPorst p s := rfl
@[simp] theorem exec_ikbRst (p : Nat) (s : State) : exec (.ikbRst p) s = execIkbRst p s := rfl
@[simp] theorem exec_vikbPgFall (p : Nat) (s : State) : exec (.vikbPgFall p) s = execVikbPgFall p s := rfl
@[simp] theorem exec_vikbReturn (p : Nat) (s : State) : exec (.vikbReturn p) s = execVikbReturn p s := rfl
@[simp] theorem exec_evtOccurrence (p input : Nat) (s : State) : exec (.evtOccurrence p input) s = execEvtOccurrence p input s := rfl
@[simp] theorem exec_tapBeat (p n : Nat) (b : Beat) (s : State) : exec (.tapBeat p n b) s = execTapBeat p n b s := rfl
@[simp] theorem exec_tileTimeout (p n tag : Nat) (s : State) : exec (.tileTimeout p n tag) s = execTileTimeout p n tag s := rfl
@[simp] theorem exec_tileCheckDone (p n tag : Nat) (s : State) : exec (.tileCheckDone p n tag) s = execTileCheckDone p n tag s := rfl
@[simp] theorem exec_redundancyNoPair (p n tag : Nat) (s : State) : exec (.redundancyNoPair p n tag) s = execRedundancyNoPair p n tag s := rfl
@[simp] theorem exec_traceRetire (p n : Nat) (r : Retire) (s : State) : exec (.traceRetire p n r) s = execTraceRetire p n r s := rfl
@[simp] theorem exec_trcSleepRise (p n : Nat) (s : State) : exec (.trcSleepRise p n) s = execTrcSleepRise p n s := rfl
@[simp] theorem exec_trcSleepFall (p n : Nat) (s : State) : exec (.trcSleepFall p n) s = execTrcSleepFall p n s := rfl
@[simp] theorem exec_xrxDigest (p port dir digest gap : Nat) (parity : Bool) (s : State) : exec (.xrxDigest p port dir digest gap parity) s = execXrxDigest p port dir digest gap parity s := rfl
@[simp] theorem exec_senseConversion (p r vcode icode : Nat) (s : State) : exec (.senseConversion p r vcode icode) s = execSenseConversion p r vcode icode s := rfl
@[simp] theorem exec_govHardRelease (p : Nat) (s : State) : exec (.govHardRelease p) s = execGovHardRelease p s := rfl
@[simp] theorem exec_thermSample (p site code : Nat) (parity : Bool) (s : State) : exec (.thermSample p site code parity) s = execThermSample p site code parity s := rfl
@[simp] theorem exec_thermSiteStale (p site : Nat) (s : State) : exec (.thermSiteStale p site) s = execThermSiteStale p site s := rfl
@[simp] theorem exec_govAckRise (p : Nat) (s : State) : exec (.govAckRise p) s = execGovAckRise p s := rfl
@[simp] theorem exec_govAckFall (p : Nat) (s : State) : exec (.govAckFall p) s = execGovAckFall p s := rfl
@[simp] theorem exec_govAckTimeout (p : Nat) (s : State) : exec (.govAckTimeout p) s = execGovAckTimeout p s := rfl
@[simp] theorem exec_govAckAbort (p : Nat) (s : State) : exec (.govAckAbort p) s = execGovAckAbort p s := rfl
@[simp] theorem exec_avsAckRise (p slaveAck : Nat) (err : Bool) (rdata : Nat) (s : State) : exec (.avsAckRise p slaveAck err rdata) s = execAvsAckRise p slaveAck err rdata s := rfl
@[simp] theorem exec_avsTimeout (p : Nat) (s : State) : exec (.avsTimeout p) s = execAvsTimeout p s := rfl
@[simp] theorem exec_railPgRise (p rails : Nat) (s : State) : exec (.railPgRise p rails) s = execRailPgRise p rails s := rfl
@[simp] theorem exec_railPgFall (p r : Nat) (s : State) : exec (.railPgFall p r) s = execRailPgFall p r s := rfl
@[simp] theorem exec_markerStepBegin (p : Nat) (m : Marker) (s : State) : exec (.markerStepBegin p m) s = execMarkerStepBegin p m s := rfl
@[simp] theorem exec_markerStepEnd (p : Nat) (m : Marker) (s : State) : exec (.markerStepEnd p m) s = execMarkerStepEnd p m s := rfl
@[simp] theorem exec_markerPhase (p : Nat) (m : Marker) (s : State) : exec (.markerPhase p m) s = execMarkerPhase p m s := rfl
@[simp] theorem exec_markerCkptBegin (p : Nat) (m : Marker) (s : State) : exec (.markerCkptBegin p m) s = execMarkerCkptBegin p m s := rfl
@[simp] theorem exec_markerCkptEnd (p : Nat) (m : Marker) (s : State) : exec (.markerCkptEnd p m) s = execMarkerCkptEnd p m s := rfl
@[simp] theorem exec_poisonIndication (p kind unit gen : Nat) (parity full : Bool) (s : State) : exec (.poisonIndication p kind unit gen parity full) s = execPoisonIndication p kind unit gen parity full s := rfl
@[simp] theorem exec_refclkWindow (p count : Nat) (s : State) : exec (.refclkWindow p count) s = execRefclkWindow p count s := rfl
@[simp] theorem exec_nwRecalibrate (p trim : Nat) (s : State) : exec (.nwRecalibrate p trim) s = execNwRecalibrate p trim s := rfl
@[simp] theorem exec_xtalQualified (d : Nat) (s : State) : exec (.xtalQualified d) s = execXtalQualified d s := rfl
@[simp] theorem exec_pllLock (u : Chip) (s : State) : exec (.pllLock u) s = execPllLock u s := rfl
@[simp] theorem exec_sourceLoss (u : Chip) (row : Nat) (s : State) : exec (.sourceLoss u row) s = execSourceLoss u row s := rfl
@[simp] theorem exec_sourceRecovery (u : Chip) (s : State) : exec (.sourceRecovery u) s = execSourceRecovery u s := rfl
@[simp] theorem exec_clkDomSrcWrite (u : Chip) (value : Nat) (s : State) : exec (.clkDomSrcWrite u value) s = execClkDomSrcWrite u value s := rfl
@[simp] theorem exec_clkSwitchDone (u : Chip) (s : State) : exec (.clkSwitchDone u) s = execClkSwitchDone u s := rfl
@[simp] theorem exec_clkBlkEnWrite (u : Chip) (k value : Nat) (s : State) : exec (.clkBlkEnWrite u k value) s = execClkBlkEnWrite u k value s := rfl
@[simp] theorem exec_lensDivWrite (d value : Nat) (s : State) : exec (.lensDivWrite d value) s = execLensDivWrite d value s := rfl
@[simp] theorem exec_domainIdleStop (u : Chip) (dom : Nat) (s : State) : exec (.domainIdleStop u dom) s = execDomainIdleStop u dom s := rfl
@[simp] theorem exec_domainWake (u : Chip) (dom cause : Nat) (s : State) : exec (.domainWake u dom cause) s = execDomainWake u dom cause s := rfl
@[simp] theorem exec_pllIdleOff (u : Chip) (s : State) : exec (.pllIdleOff u) s = execPllIdleOff u s := rfl
@[simp] theorem exec_vikbOffReq (p : Nat) (s : State) : exec (.vikbOffReq p) s = execVikbOffReq p s := rfl
@[simp] theorem exec_powerDownEntryDone (p : Nat) (s : State) : exec (.powerDownEntryDone p) s = execPowerDownEntryDone p s := rfl
@[simp] theorem exec_modeArm (s : State) : exec .modeArm s = execModeArm s := rfl
@[simp] theorem exec_modeCancel (s : State) : exec .modeCancel s = execModeCancel s := rfl
@[simp] theorem exec_modeLaunch (s : State) : exec .modeLaunch s = execModeLaunch s := rfl
@[simp] theorem exec_modeTransitionDone (s : State) : exec .modeTransitionDone s = execModeTransitionDone s := rfl
@[simp] theorem exec_midnightBufferFlush (d : Nat) (s : State) : exec (.midnightBufferFlush d) s = execMidnightBufferFlush d s := rfl
@[simp] theorem exec_healthBufferFlush (d : Nat) (s : State) : exec (.healthBufferFlush d) s = execHealthBufferFlush d s := rfl
@[simp] theorem exec_thermConversion (d : Nat) (sites : List (Option Nat)) (s : State) : exec (.thermConversion d sites) s = execThermConversion d sites s := rfl
@[simp] theorem exec_dramSupplyFall (d : Nat) (s : State) : exec (.dramSupplyFall d) s = execDramSupplyFall d s := rfl
@[simp] theorem exec_selfRefreshBreak (d : Nat) (s : State) : exec (.selfRefreshBreak d) s = execSelfRefreshBreak d s := rfl
@[simp] theorem exec_addendCommit (u : Chip) (r hi : Nat) (s : State) : exec (.addendCommit u r hi) s = execAddendCommit u r hi s := rfl
@[simp] theorem exec_timeNowCapture (u : Chip) (r : Nat) (s : State) : exec (.timeNowCapture u r) s = execTimeNowCapture u r s := rfl
@[simp] theorem exec_timeStepWrite (u : Chip) (step : Nat) (s : State) : exec (.timeStepWrite u step) s = execTimeStepWrite u step s := rfl
@[simp] theorem exec_offsetInWrite (d sample : Nat) (s : State) : exec (.offsetInWrite d sample) s = execOffsetInWrite d sample s := rfl
@[simp] theorem exec_parentTimeout (u : Chip) (s : State) : exec (.parentTimeout u) s = execParentTimeout u s := rfl
@[simp] theorem exec_timeReacquire (u : Chip) (s : State) : exec (.timeReacquire u) s = execTimeReacquire u s := rfl
@[simp] theorem exec_tsyncSend (d : Nat) (s : State) : exec (.tsyncSend d) s = execTsyncSend d s := rfl
@[simp] theorem exec_tsyncReceive (p : Nat) (f : Tsync) (s : State) : exec (.tsyncReceive p f) s = execTsyncReceive p f s := rfl
@[simp] theorem exec_echoReceive (p seq : Nat) (valid lock : Bool) (t3 : Nat) (s : State) : exec (.echoReceive p seq valid lock t3) s = execEchoReceive p seq valid lock t3 s := rfl
@[simp] theorem exec_ptpMessageReceive (port : Nat) (m : PtpMessage) (s : State) : exec (.ptpMessageReceive port m) s = execPtpMessageReceive port m s := rfl
@[simp] theorem exec_announceTimeout (d : Nat) (s : State) : exec (.announceTimeout d) s = execAnnounceTimeout d s := rfl
@[simp] theorem exec_merSetWrite (d ticks : Nat) (s : State) : exec (.merSetWrite d ticks) s = execMerSetWrite d ticks s := rfl
@[simp] theorem exec_meridianFrame (port tick frac delay : Nat) (s : State) : exec (.meridianFrame port tick frac delay) s = execMeridianFrame port tick frac delay s := rfl
@[simp] theorem exec_launchArm (u : Chip) (r slot : Nat) (s : State) : exec (.launchArm u r slot) s = execLaunchArm u r slot s := rfl
@[simp] theorem exec_launchDisarm (u : Chip) (slot : Nat) (s : State) : exec (.launchDisarm u slot) s = execLaunchDisarm u slot s := rfl
@[simp] theorem exec_launchFire (u : Chip) (slot : Nat) (s : State) : exec (.launchFire u slot) s = execLaunchFire u slot s := rfl
@[simp] theorem exec_launchMark (u : Chip) (markId : Nat) (late : Bool) (s : State) : exec (.launchMark u markId late) s = execLaunchMark u markId late s := rfl
@[simp] theorem exec_launchPulse (p line : Nat) (s : State) : exec (.launchPulse p line) s = execLaunchPulse p line s := rfl
@[simp] theorem exec_pulseEnd (p line : Nat) (s : State) : exec (.pulseEnd p line) s = execPulseEnd p line s := rfl
@[simp] theorem exec_launchGovStep (p entry : Nat) (s : State) : exec (.launchGovStep p entry) s = execLaunchGovStep p entry s := rfl
@[simp] theorem exec_launchAbftCheck (p desc : Nat) (s : State) : exec (.launchAbftCheck p desc) s = execLaunchAbftCheck p desc s := rfl
@[simp] theorem exec_launchPrism (u : Chip) (arg : Nat) (s : State) : exec (.launchPrism u arg) s = execLaunchPrism u arg s := rfl
@[simp] theorem exec_launchMode (p mode : Nat) (s : State) : exec (.launchMode p mode) s = execLaunchMode p mode s := rfl
@[simp] theorem exec_launchModelSwap (d m base instant : Nat) (s : State) : exec (.launchModelSwap d m base instant) s = execLaunchModelSwap d m base instant s := rfl
@[simp] theorem exec_launchNotify (u : Chip) (slot : Nat) (s : State) : exec (.launchNotify u slot) s = execLaunchNotify u slot s := rfl
@[simp] theorem exec_bankClear (p b : Nat) (s : State) : exec (.bankClear p b) s = execBankClear p b s := rfl
@[simp] theorem exec_snapGenerator (p : Nat) (s : State) : exec (.snapGenerator p) s = execSnapGenerator p s := rfl
@[simp] theorem exec_snapReadoutDone (p : Nat) (s : State) : exec (.snapReadoutDone p) s = execSnapReadoutDone p s := rfl
@[simp] theorem exec_keyframeNow (p : Nat) (s : State) : exec (.keyframeNow p) s = execKeyframeNow p s := rfl
@[simp] theorem exec_traceRecordClose (p n : Nat) (s : State) : exec (.traceRecordClose p n) s = execTraceRecordClose p n s := rfl
@[simp] theorem exec_branchMapTimeout (p n : Nat) (s : State) : exec (.branchMapTimeout p n) s = execBranchMapTimeout p n s := rfl
@[simp] theorem exec_traceSyncNow (p : Nat) (s : State) : exec (.traceSyncNow p) s = execTraceSyncNow p s := rfl
@[simp] theorem exec_traceAuthWrite (p value : Nat) (secure : Bool) (s : State) : exec (.traceAuthWrite p value secure) s = execTraceAuthWrite p value secure s := rfl
@[simp] theorem exec_traceSampleWindow (p n : Nat) (s : State) : exec (.traceSampleWindow p n) s = execTraceSampleWindow p n s := rfl
@[simp] theorem exec_watchReportForm (p : Nat) (s : State) : exec (.watchReportForm p) s = execWatchReportForm p s := rfl
@[simp] theorem exec_abftModeWrite (p value : Nat) (s : State) : exec (.abftModeWrite p value) s = execAbftModeWrite p value s := rfl
@[simp] theorem exec_poisonClearAll (p : Nat) (s : State) : exec (.poisonClearAll p) s = execPoisonClearAll p s := rfl
@[simp] theorem exec_ifcPendingWrite (p value : Nat) (s : State) : exec (.ifcPendingWrite p value) s = execIfcPendingWrite p value s := rfl
@[simp] theorem exec_ifcExpectWrite (p k digest : Nat) (s : State) : exec (.ifcExpectWrite p k digest) s = execIfcExpectWrite p k digest s := rfl
@[simp] theorem exec_ifcDeadline (p : Nat) (s : State) : exec (.ifcDeadline p) s = execIfcDeadline p s := rfl
@[simp] theorem exec_ifcWaitExpiry (p : Nat) (s : State) : exec (.ifcWaitExpiry p) s = execIfcWaitExpiry p s := rfl
@[simp] theorem exec_ifcTimeout (p : Nat) (s : State) : exec (.ifcTimeout p) s = execIfcTimeout p s := rfl
@[simp] theorem exec_govEpoch (p : Nat) (s : State) : exec (.govEpoch p) s = execGovEpoch p s := rfl
@[simp] theorem exec_breakPersist (p : Nat) (s : State) : exec (.breakPersist p) s = execBreakPersist p s := rfl
@[simp] theorem exec_breakClose (p : Nat) (s : State) : exec (.breakClose p) s = execBreakClose p s := rfl
@[simp] theorem exec_raiseHoldExpiry (p : Nat) (s : State) : exec (.raiseHoldExpiry p) s = execRaiseHoldExpiry p s := rfl
@[simp] theorem exec_govPersistAtRoot (job index : Nat) (s : State) : exec (.govPersistAtRoot job index) s = execGovPersistAtRoot job index s := rfl
@[simp] theorem exec_optabWrite (p r e w value : Nat) (s : State) : exec (.optabWrite p r e w value) s = execOptabWrite p r e w value s := rfl
@[simp] theorem exec_adcOffsetCal (p r : Nat) (voltage current : Int) (s : State) : exec (.adcOffsetCal p r voltage current) s = execAdcOffsetCal p r voltage current s := rfl
@[simp] theorem exec_ltlHello (p : Nat) (toIkb : Bool) (lanes : Nat) (known : Bool) (s : State) : exec (.ltlHello p toIkb lanes known) s = execLtlHello p toIkb lanes known s := rfl
@[simp] theorem exec_ltlCredit (p : Nat) (toIkb : Bool) (totals : List Nat) (s : State) : exec (.ltlCredit p toIkb totals) s = execLtlCredit p toIkb totals s := rfl
@[simp] theorem exec_creditSend (p : Nat) (fromIkb : Bool) (s : State) : exec (.creditSend p fromIkb) s = execCreditSend p fromIkb s := rfl
@[simp] theorem exec_ltlStatus (p last irq : Nat) (s : State) : exec (.ltlStatus p last irq) s = execLtlStatus p last irq s := rfl
@[simp] theorem exec_statusSend (p : Nat) (s : State) : exec (.statusSend p) s = execStatusSend p s := rfl
@[simp] theorem exec_ltlAck (p cls fseq : Nat) (s : State) : exec (.ltlAck p cls fseq) s = execLtlAck p cls fseq s := rfl
@[simp] theorem exec_ltlResend (p seq : Nat) (s : State) : exec (.ltlResend p seq) s = execLtlResend p seq s := rfl
@[simp] theorem exec_ltlRingLost (p oldest : Nat) (s : State) : exec (.ltlRingLost p oldest) s = execLtlRingLost p oldest s := rfl
@[simp] theorem exec_resendRepeat (p : Nat) (s : State) : exec (.resendRepeat p) s = execResendRepeat p s := rfl
@[simp] theorem exec_ltlLevelCmd (p level : Nat) (s : State) : exec (.ltlLevelCmd p level) s = execLtlLevelCmd p level s := rfl
@[simp] theorem exec_ltlKeyframeReq (p : Nat) (s : State) : exec (.ltlKeyframeReq p) s = execLtlKeyframeReq p s := rfl
@[simp] theorem exec_ltlMode (p mode : Nat) (s : State) : exec (.ltlMode p mode) s = execLtlMode p mode s := rfl
@[simp] theorem exec_ltlIrqState (p levels : Nat) (s : State) : exec (.ltlIrqState p levels) s = execLtlIrqState p levels s := rfl
@[simp] theorem exec_ltlWidth (p : Nat) (toIkb : Bool) (lanes codeword : Nat) (s : State) : exec (.ltlWidth p toIkb lanes codeword) s = execLtlWidth p toIkb lanes codeword s := rfl
@[simp] theorem exec_widthChangePoint (p lat : Nat) (s : State) : exec (.widthChangePoint p lat) s = execWidthChangePoint p lat s := rfl
@[simp] theorem exec_ltlGoodbye (p reason : Nat) (s : State) : exec (.ltlGoodbye p reason) s = execLtlGoodbye p reason s := rfl
@[simp] theorem exec_ltlGovReport (p fseq : Nat) (body : List Nat) (s : State) : exec (.ltlGovReport p fseq body) s = execLtlGovReport p fseq body s := rfl
@[simp] theorem exec_govReportRepeat (p : Nat) (s : State) : exec (.govReportRepeat p) s = execGovReportRepeat p s := rfl
@[simp] theorem exec_ltlJobIdx (p idx : Nat) (apply : Bool) (s : State) : exec (.ltlJobIdx p idx apply) s = execLtlJobIdx p idx apply s := rfl
@[simp] theorem exec_ltlEvents (p : Nat) (recs : List EvRec) (bad : List Nat) (s : State) : exec (.ltlEvents p recs bad) s = execLtlEvents p recs bad s := rfl
@[simp] theorem exec_ltlHealth (p : Nat) (body : List Nat) (s : State) : exec (.ltlHealth p body) s = execLtlHealth p body s := rfl
@[simp] theorem exec_ltlProxyReq (p tag : Nat) (write wide : Bool) (addr data : Nat) (s : State) : exec (.ltlProxyReq p tag write wide addr data) s = execLtlProxyReq p tag write wide addr data s := rfl
@[simp] theorem exec_ltlProxyRsp (p tag : Nat) (err : Bool) (data : Nat) (s : State) : exec (.ltlProxyRsp p tag err data) s = execLtlProxyRsp p tag err data s := rfl
@[simp] theorem exec_ltlProxyWait (p tag : Nat) (s : State) : exec (.ltlProxyWait p tag) s = execLtlProxyWait p tag s := rfl
@[simp] theorem exec_proxyTimeout (p : Nat) (s : State) : exec (.proxyTimeout p) s = execProxyTimeout p s := rfl
@[simp] theorem exec_ltlWatchReport (p : Nat) (body : List Nat) (s : State) : exec (.ltlWatchReport p body) s = execLtlWatchReport p body s := rfl
@[simp] theorem exec_ltlTagRecords (p : Nat) (body : List Nat) (s : State) : exec (.ltlTagRecords p body) s = execLtlTagRecords p body s := rfl
@[simp] theorem exec_ltlSnapshot (p : Nat) (body : List Nat) (s : State) : exec (.ltlSnapshot p body) s = execLtlSnapshot p body s := rfl
@[simp] theorem exec_ltlTraceRecord (p : Nat) (body : List Nat) (s : State) : exec (.ltlTraceRecord p body) s = execLtlTraceRecord p body s := rfl
@[simp] theorem exec_ltlLoad (p off : Nat) (bytes : List Nat) (s : State) : exec (.ltlLoad p off bytes) s = execLtlLoad p off bytes s := rfl
@[simp] theorem exec_linkDown (p : Nat) (atIkb : Bool) (s : State) : exec (.linkDown p atIkb) s = execLinkDown p atIkb s := rfl
@[simp] theorem exec_trainingStateDone (p lanes lat : Nat) (s : State) : exec (.trainingStateDone p lanes lat) s = execTrainingStateDone p lanes lat s := rfl
@[simp] theorem exec_trainingTimeout (p : Nat) (s : State) : exec (.trainingTimeout p) s = execTrainingTimeout p s := rfl
@[simp] theorem exec_linkUp (p : Nat) (s : State) : exec (.linkUp p) s = execLinkUp p s := rfl
@[simp] theorem exec_laneFail (p lane lat : Nat) (s : State) : exec (.laneFail p lane lat) s = execLaneFail p lane lat s := rfl
@[simp] theorem exec_lowPowerIdleEntry (p : Nat) (s : State) : exec (.lowPowerIdleEntry p) s = execLowPowerIdleEntry p s := rfl
@[simp] theorem exec_linkRefresh (p : Nat) (s : State) : exec (.linkRefresh p) s = execLinkRefresh p s := rfl
@[simp] theorem exec_linkShedEval (p : Nat) (s : State) : exec (.linkShedEval p) s = execLinkShedEval p s := rfl
@[simp] theorem exec_ltlRetrain (p : Nat) (atIkb : Bool) (s : State) : exec (.ltlRetrain p atIkb) s = execLtlRetrain p atIkb s := rfl
@[simp] theorem exec_forceOneLaneWrite (p : Nat) (atIkb : Bool) (value : Nat) (s : State) : exec (.forceOneLaneWrite p atIkb value) s = execForceOneLaneWrite p atIkb value s := rfl
@[simp] theorem exec_prismRuleArm (u : Chip) (rule : Nat) (s : State) : exec (.prismRuleArm u rule) s = execPrismRuleArm u rule s := rfl
@[simp] theorem exec_prismRuleDisarm (u : Chip) (rule : Nat) (s : State) : exec (.prismRuleDisarm u rule) s = execPrismRuleDisarm u rule s := rfl
@[simp] theorem exec_prismHalt (u : Chip) (s : State) : exec (.prismHalt u) s = execPrismHalt u s := rfl
@[simp] theorem exec_prismReorderRelease (u : Chip) (s : State) : exec (.prismReorderRelease u) s = execPrismReorderRelease u s := rfl
@[simp] theorem exec_prismWindowEnd (u : Chip) (rule : Nat) (s : State) : exec (.prismWindowEnd u rule) s = execPrismWindowEnd u rule s := rfl
@[simp] theorem exec_d2dLinkDown (d k : Nat) (s : State) : exec (.d2dLinkDown d k) s = execD2dLinkDown d k s := rfl
@[simp] theorem exec_d2dRetrainDone (d k : Nat) (s : State) : exec (.d2dRetrainDone d k) s = execD2dRetrainDone d k s := rfl
@[simp] theorem exec_electionClose (straps : List Nat) (failed : Nat) (s : State) : exec (.electionClose straps failed) s = execElectionClose straps failed s := rfl
@[simp] theorem exec_diePathLoss (d : Nat) (s : State) : exec (.diePathLoss d) s = execDiePathLoss d s := rfl
@[simp] theorem exec_dramReadError (d addr cls : Nat) (unc check link : Bool) (owner kind : Nat) (s : State) : exec (.dramReadError d addr cls unc check link owner kind) s = execDramReadError d addr cls unc check link owner kind s := rfl
@[simp] theorem exec_dramBwCapWrite (d k value : Nat) (s : State) : exec (.dramBwCapWrite d k value) s = execDramBwCapWrite d k value s := rfl
@[simp] theorem exec_elsOutputLoss (P : Nat) (s : State) : exec (.elsOutputLoss P) s = execElsOutputLoss P s := rfl
@[simp] theorem exec_elsSwapPrep (d value : Nat) (s : State) : exec (.elsSwapPrep d value) s = execElsSwapPrep d value s := rfl
@[simp] theorem exec_ringLockLoss (d lane : Nat) (s : State) : exec (.ringLockLoss d lane) s = execRingLockLoss d lane s := rfl
@[simp] theorem exec_optSweepStart (d lanes : Nat) (s : State) : exec (.optSweepStart d lanes) s = execOptSweepStart d lanes s := rfl
@[simp] theorem exec_optSweepDone (d lane heater : Nat) (s : State) : exec (.optSweepDone d lane heater) s = execOptSweepDone d lane heater s := rfl
@[simp] theorem exec_optLaneFail (P lane : Nat) (s : State) : exec (.optLaneFail P lane) s = execOptLaneFail P lane s := rfl
@[simp] theorem exec_portRoleStage (P value : Nat) (s : State) : exec (.portRoleStage P value) s = execPortRoleStage P value s := rfl
@[simp] theorem exec_peerIdSend (P : Nat) (s : State) : exec (.peerIdSend P) s = execPeerIdSend P s := rfl
@[simp] theorem exec_peerIdReceive (P tray coord size : Nat) (s : State) : exec (.peerIdReceive P tray coord size) s = execPeerIdReceive P tray coord size s := rfl
@[simp] theorem exec_peerIdTimeout (P : Nat) (s : State) : exec (.peerIdTimeout P) s = execPeerIdTimeout P s := rfl
@[simp] theorem exec_bar2BaseWrite (value : Nat) (s : State) : exec (.bar2BaseWrite value) s = execBar2BaseWrite value s := rfl
@[simp] theorem exec_bar2Access (write : Bool) (addr len : Nat) (data : Nat) (poisoned : Bool) (s : State) : exec (.bar2Access write addr len data poisoned) s = execBar2Access write addr len data poisoned s := rfl
@[simp] theorem exec_pcieFlr (s : State) : exec .pcieFlr s = execPcieFlr s := rfl
@[simp] theorem exec_ctxRead (d : Nat) (s : State) : exec (.ctxRead d) s = execCtxRead d s := rfl
@[simp] theorem exec_ctxWrite (d : Nat) (s : State) : exec (.ctxWrite d) s = execCtxWrite d s := rfl
@[simp] theorem exec_ctxPin (d : Nat) (s : State) : exec (.ctxPin d) s = execCtxPin d s := rfl
@[simp] theorem exec_ctxUnpin (d : Nat) (s : State) : exec (.ctxUnpin d) s = execCtxUnpin d s := rfl
@[simp] theorem exec_ctxReopenCmd (d : Nat) (s : State) : exec (.ctxReopenCmd d) s = execCtxReopenCmd d s := rfl
@[simp] theorem exec_ctxClose (d : Nat) (s : State) : exec (.ctxClose d) s = execCtxClose d s := rfl
@[simp] theorem exec_ctxLookup (d : Nat) (s : State) : exec (.ctxLookup d) s = execCtxLookup d s := rfl
@[simp] theorem exec_ctxReopenTimer (d slot : Nat) (s : State) : exec (.ctxReopenTimer d slot) s = execCtxReopenTimer d slot s := rfl
@[simp] theorem exec_ctxDrainDone (d slot : Nat) (s : State) : exec (.ctxDrainDone d slot) s = execCtxDrainDone d slot s := rfl
@[simp] theorem exec_ctxMigrationDone (d slot : Nat) (s : State) : exec (.ctxMigrationDone d slot) s = execCtxMigrationDone d slot s := rfl
@[simp] theorem exec_dramSeedSweepDone (d : Nat) (s : State) : exec (.dramSeedSweepDone d) s = execDramSeedSweepDone d s := rfl
@[simp] theorem exec_imbalanceCheck (moved : List Nat) (s : State) : exec (.imbalanceCheck moved) s = execImbalanceCheck moved s := rfl
@[simp] theorem exec_ctxFrameAccept (d slot pre bytes : Nat) (port : Option Nat) (body : List Nat) (s : State) : exec (.ctxFrameAccept d slot pre bytes port body) s = execCtxFrameAccept d slot pre bytes port body s := rfl
@[simp] theorem exec_policeWrite (d off value : Nat) (s : State) : exec (.policeWrite d off value) s = execPoliceWrite d off value s := rfl
@[simp] theorem exec_levelUpCheck (d : Nat) (s : State) : exec (.levelUpCheck d) s = execLevelUpCheck d s := rfl
@[simp] theorem exec_levelDownCheck (d : Nat) (s : State) : exec (.levelDownCheck d) s = execLevelDownCheck d s := rfl
@[simp] theorem exec_egressEnqueue (P q : Nat) (frame : FabricFrame) (s : State) : exec (.egressEnqueue P q frame) s = execEgressEnqueue P q frame s := rfl
@[simp] theorem exec_egressTransmit (P : Nat) (s : State) : exec (.egressTransmit P) s = execEgressTransmit P s := rfl
@[simp] theorem exec_opticalCreditSend (P : Nat) (s : State) : exec (.opticalCreditSend P) s = execOpticalCreditSend P s := rfl
@[simp] theorem exec_opticalCreditReceive (P : Nat) (totals : List Nat) (s : State) : exec (.opticalCreditReceive P totals) s = execOpticalCreditReceive P totals s := rfl
@[simp] theorem exec_transitWaitTimeout (P : Nat) (s : State) : exec (.transitWaitTimeout P) s = execTransitWaitTimeout P s := rfl
@[simp] theorem exec_resultDeadlineDiscard (P : Nat) (s : State) : exec (.resultDeadlineDiscard P) s = execResultDeadlineDiscard P s := rfl
@[simp] theorem exec_codecRowTake (d : Nat) (s : State) : exec (.codecRowTake d) s = execCodecRowTake d s := rfl
@[simp] theorem exec_codecBlockTimeout (d slot : Nat) (s : State) : exec (.codecBlockTimeout d slot) s = execCodecBlockTimeout d slot s := rfl
@[simp] theorem exec_codecBlockDone (d slot : Nat) (s : State) : exec (.codecBlockDone d slot) s = execCodecBlockDone d slot s := rfl
@[simp] theorem exec_codecRingTailWrite (d value : Nat) (s : State) : exec (.codecRingTailWrite d value) s = execCodecRingTailWrite d value s := rfl
@[simp] theorem exec_codecEncode (d : Nat) (s : State) : exec (.codecEncode d) s = execCodecEncode d s := rfl
@[simp] theorem exec_codecDecode (d : Nat) (s : State) : exec (.codecDecode d) s = execCodecDecode d s := rfl
@[simp] theorem exec_codecSave (d : Nat) (s : State) : exec (.codecSave d) s = execCodecSave d s := rfl
@[simp] theorem exec_codecRestore (d : Nat) (s : State) : exec (.codecRestore d) s = execCodecRestore d s := rfl
@[simp] theorem exec_codecTableWrite (d k word value : Nat) (s : State) : exec (.codecTableWrite d k word value) s = execCodecTableWrite d k word value s := rfl
@[simp] theorem exec_codecConfigWrite (d off value : Nat) (s : State) : exec (.codecConfigWrite d off value) s = execCodecConfigWrite d off value s := rfl
@[simp] theorem exec_mergeContribution (p source tag sub value flags : Nat) (s : State) : exec (.mergeContribution p source tag sub value flags) s = execMergeContribution p source tag sub value flags s := rfl
@[simp] theorem exec_mergePartialReceive (d : Nat) (frame : FabricFrame) (s : State) : exec (.mergePartialReceive d frame) s = execMergePartialReceive d frame s := rfl
@[simp] theorem exec_mergeForwardInstant (d slot : Nat) (s : State) : exec (.mergeForwardInstant d slot) s = execMergeForwardInstant d slot s := rfl
@[simp] theorem exec_mergeRootFinalise (d slot : Nat) (s : State) : exec (.mergeRootFinalise d slot) s = execMergeRootFinalise d slot s := rfl
@[simp] theorem exec_mergeResultDown (d : Nat) (frame : FabricFrame) (s : State) : exec (.mergeResultDown d frame) s = execMergeResultDown d frame s := rfl
@[simp] theorem exec_mergeLingerEnd (d slot : Nat) (s : State) : exec (.mergeLingerEnd d slot) s = execMergeLingerEnd d slot s := rfl
@[simp] theorem exec_jsStart (job : Nat) (s : State) : exec (.jsStart job) s = execJsStart job s := rfl
@[simp] theorem exec_jsEnd (job : Nat) (s : State) : exec (.jsEnd job) s = execJsEnd job s := rfl
@[simp] theorem exec_bcastStartReceive (sender bid : Nat) (cfg : List Nat) (s : State) : exec (.bcastStartReceive sender bid cfg) s = execBcastStartReceive sender bid cfg s := rfl
@[simp] theorem exec_bcastCommitReceive (sender bid instant : Nat) (s : State) : exec (.bcastCommitReceive sender bid instant) s = execBcastCommitReceive sender bid instant s := rfl
@[simp] theorem exec_bcastAbortReceive (sender bid : Nat) (s : State) : exec (.bcastAbortReceive sender bid) s = execBcastAbortReceive sender bid s := rfl
@[simp] theorem exec_bcastEndReceive (sender bid instant : Nat) (s : State) : exec (.bcastEndReceive sender bid instant) s = execBcastEndReceive sender bid instant s := rfl
@[simp] theorem exec_bcastAckReceive (sender bid kind : Nat) (s : State) : exec (.bcastAckReceive sender bid kind) s = execBcastAckReceive sender bid kind s := rfl
@[simp] theorem exec_bcastHopTimeout (bid kind child : Nat) (s : State) : exec (.bcastHopTimeout bid kind child) s = execBcastHopTimeout bid kind child s := rfl
@[simp] theorem exec_jsReportReceive (sender bid kind status dieIndex acks : Nat) (s : State) : exec (.jsReportReceive sender bid kind status dieIndex acks) s = execJsReportReceive sender bid kind status dieIndex acks s := rfl
@[simp] theorem exec_jsDeadline (job : Nat) (s : State) : exec (.jsDeadline job) s = execJsDeadline job s := rfl
@[simp] theorem exec_jsCommitCheck (job : Nat) (s : State) : exec (.jsCommitCheck job) s = execJsCommitCheck job s := rfl
@[simp] theorem exec_jsStagedExpiry (bid : Nat) (s : State) : exec (.jsStagedExpiry bid) s = execJsStagedExpiry bid s := rfl
@[simp] theorem exec_jsEndRepeat (job : Nat) (s : State) : exec (.jsEndRepeat job) s = execJsEndRepeat job s := rfl
@[simp] theorem exec_featBindingWrite (d k off value : Nat) (s : State) : exec (.featBindingWrite d k off value) s = execFeatBindingWrite d k off value s := rfl
@[simp] theorem exec_lensLoad (d : Nat) (s : State) : exec (.lensLoad d) s = execLensLoad d s := rfl
@[simp] theorem exec_lensLoadDone (d : Nat) (s : State) : exec (.lensLoadDone d) s = execLensLoadDone d s := rfl
@[simp] theorem exec_lensBatchTimeout (d m : Nat) (s : State) : exec (.lensBatchTimeout d m) s = execLensBatchTimeout d m s := rfl
@[simp] theorem exec_lensBatchScored (d : Nat) (s : State) : exec (.lensBatchScored d) s = execLensBatchScored d s := rfl
@[simp] theorem exec_lensLingerEnd (d m : Nat) (s : State) : exec (.lensLingerEnd d m) s = execLensLingerEnd d m s := rfl
@[simp] theorem exec_lensExportFlush (d : Nat) (s : State) : exec (.lensExportFlush d) s = execLensExportFlush d s := rfl
@[simp] theorem exec_driftRead (d : Nat) (s : State) : exec (.driftRead d) s = execDriftRead d s := rfl
@[simp] theorem exec_driftWrite (d : Nat) (s : State) : exec (.driftWrite d) s = execDriftWrite d s := rfl
@[simp] theorem exec_driftReset (d : Nat) (s : State) : exec (.driftReset d) s = execDriftReset d s := rfl
@[simp] theorem exec_pageError (u : Chip) (b : Blk) (code sev info : Nat) (s : State) : exec (.pageError u b code sev info) s = execPageError u b code sev info s := rfl
@[simp] theorem exec_fatalWarmStart (p : Nat) (s : State) : exec (.fatalWarmStart p) s = execFatalWarmStart p s := rfl
@[simp] theorem exec_channelFault (u : Chip) (k cause : Nat) (unrec : Bool) (s : State) : exec (.channelFault u k cause unrec) s = execChannelFault u k cause unrec s := rfl
@[simp] theorem exec_channelRetry (u : Chip) (k : Nat) (ok : Bool) (s : State) : exec (.channelRetry u k ok) s = execChannelRetry u k ok s := rfl
@[simp] theorem exec_channelFailedRetry (u : Chip) (k : Nat) (ok : Bool) (s : State) : exec (.channelFailedRetry u k ok) s = execChannelFailedRetry u k ok s := rfl
@[simp] theorem exec_rasRetire (u : Chip) (k : Nat) (s : State) : exec (.rasRetire u k) s = execRasRetire u k s := rfl
@[simp] theorem exec_rasCondDone (u : Chip) (k : Nat) (s : State) : exec (.rasCondDone u k) s = execRasCondDone u k s := rfl
@[simp] theorem exec_rasClear (u : Chip) (k : Nat) (s : State) : exec (.rasClear u k) s = execRasClear u k s := rfl
@[simp] theorem exec_rasPreload (u : Chip) (k : Nat) (s : State) : exec (.rasPreload u k) s = execRasPreload u k s := rfl
@[simp] theorem exec_evrSummary (u : Chip) (s : State) : exec (.evrSummary u) s = execEvrSummary u s := rfl
@[simp] theorem exec_evrClear (u : Chip) (s : State) : exec (.evrClear u) s = execEvrClear u s := rfl
@[simp] theorem exec_evrBktCfgWrite (u : Chip) (value : Nat) (s : State) : exec (.evrBktCfgWrite u value) s = execEvrBktCfgWrite u value s := rfl
@[simp] theorem exec_bbxPageFlush (s : State) : exec .bbxPageFlush s = execBbxPageFlush s := rfl
@[simp] theorem exec_bbxFlush (d : Nat) (s : State) : exec (.bbxFlush d) s = execBbxFlush d s := rfl
@[simp] theorem exec_bbxPageProgrammed (s : State) : exec .bbxPageProgrammed s = execBbxPageProgrammed s := rfl
@[simp] theorem exec_bbxOverrunSecond (s : State) : exec .bbxOverrunSecond s = execBbxOverrunSecond s := rfl
@[simp] theorem exec_bbxCommitNow (d : Nat) (s : State) : exec (.bbxCommitNow d) s = execBbxCommitNow d s := rfl
@[simp] theorem exec_lastGaspDone (s : State) : exec .lastGaspDone s = execLastGaspDone s := rfl
@[simp] theorem exec_wdogKick (u : Chip) (s : State) : exec (.wdogKick u) s = execWdogKick u s := rfl
@[simp] theorem exec_wdogCtrlWrite (u : Chip) (r value : Nat) (s : State) : exec (.wdogCtrlWrite u r value) s = execWdogCtrlWrite u r value s := rfl
@[simp] theorem exec_wdogWarn (u : Chip) (s : State) : exec (.wdogWarn u) s = execWdogWarn u s := rfl
@[simp] theorem exec_wdogExpire (u : Chip) (s : State) : exec (.wdogExpire u) s = execWdogExpire u s := rfl
@[simp] theorem exec_nvmRead (d : Nat) (s : State) : exec (.nvmRead d) s = execNvmRead d s := rfl
@[simp] theorem exec_nvmProgram (d : Nat) (s : State) : exec (.nvmProgram d) s = execNvmProgram d s := rfl
@[simp] theorem exec_nvmErase (d : Nat) (s : State) : exec (.nvmErase d) s = execNvmErase d s := rfl
@[simp] theorem exec_nvmCmdDone (ok : Bool) (lost : Option (Nat × Nat)) (s : State) : exec (.nvmCmdDone ok lost) s = execNvmCmdDone ok lost s := rfl
@[simp] theorem exec_coreStart (u : Chip) (c : Nat) (s : State) : exec (.coreStart u c) s = execCoreStart u c s := rfl
@[simp] theorem exec_coreHalt (u : Chip) (r c : Nat) (s : State) : exec (.coreHalt u r c) s = execCoreHalt u r c s := rfl
@[simp] theorem exec_corePowerOff (u : Chip) (c : Nat) (s : State) : exec (.corePowerOff u c) s = execCorePowerOff u c s := rfl
@[simp] theorem exec_corePowerOn (u : Chip) (c : Nat) (s : State) : exec (.corePowerOn u c) s = execCorePowerOn u c s := rfl
@[simp] theorem exec_corePromote (d : Nat) (s : State) : exec (.corePromote d) s = execCorePromote d s := rfl
@[simp] theorem exec_coreMemAccess (u : Chip) (r : Nat) (write : Bool) (value : Nat) (s : State) : exec (.coreMemAccess u r write value) s = execCoreMemAccess u r write value s := rfl
@[simp] theorem exec_mboxSend (u : Chip) (r m : Nat) (s : State) : exec (.mboxSend u r m) s = execMboxSend u r m s := rfl
@[simp] theorem exec_mboxPop (u : Chip) (m : Nat) (s : State) : exec (.mboxPop u m) s = execMboxPop u m s := rfl
@[simp] theorem exec_authVerify (u : Chip) (s : State) : exec (.authVerify u) s = execAuthVerify u s := rfl
@[simp] theorem exec_authVerifyDone (u : Chip) (s : State) : exec (.authVerifyDone u) s = execAuthVerifyDone u s := rfl
@[simp] theorem exec_authSubmit (u : Chip) (s : State) : exec (.authSubmit u) s = execAuthSubmit u s := rfl
@[simp] theorem exec_authRevoke (u : Chip) (s : State) : exec (.authRevoke u) s = execAuthRevoke u s := rfl
@[simp] theorem exec_grantExpiry (u : Chip) (s : State) : exec (.grantExpiry u) s = execGrantExpiry u s := rfl
@[simp] theorem exec_bgWindow (u : Chip) (c cycles busy bg : Nat) (s : State) : exec (.bgWindow u c cycles busy bg) s = execBgWindow u c cycles busy bg s := rfl
@[simp] theorem exec_sramScrubError (u : Chip) (kind core : Nat) (data : Bool) (addr : Nat) (s : State) : exec (.sramScrubError u kind core data addr) s = execSramScrubError u kind core data addr s := rfl
@[simp] theorem exec_patrolPass (d : Nat) (done : Bool) (s : State) : exec (.patrolPass d done) s = execPatrolPass d done s := rfl
@[simp] theorem exec_scrubRecal (d channel : Nat) (s : State) : exec (.scrubRecal d channel) s = execScrubRecal d channel s := rfl
@[simp] theorem exec_adcBgRecal (p channel : Nat) (s : State) : exec (.adcBgRecal p channel) s = execAdcBgRecal p channel s := rfl
@[simp] theorem exec_busLow (code : Nat) (s : State) : exec (.busLow code) s = execBusLow code s := rfl
@[simp] theorem exec_busRestored (code : Nat) (s : State) : exec (.busRestored code) s = execBusRestored code s := rfl
@[simp] theorem exec_busOv (code : Nat) (s : State) : exec (.busOv code) s = execBusOv code s := rfl
@[simp] theorem exec_hsFault (cause code : Nat) (s : State) : exec (.hsFault cause code) s = execHsFault cause code s := rfl
@[simp] theorem exec_hsInsertion (s : State) : exec .hsInsertion s = execHsInsertion s := rfl
@[simp] theorem exec_hsRetry (s : State) : exec .hsRetry s = execHsRetry s := rfl
@[simp] theorem exec_hsOffOpen (s : State) : exec .hsOffOpen s = execHsOffOpen s := rfl
@[simp] theorem exec_hsOnAfter (s : State) : exec .hsOnAfter s = execHsOnAfter s := rfl
@[simp] theorem exec_busCaptureFreeze (pairs : List (Nat × Nat)) (s : State) : exec (.busCaptureFreeze pairs) s = execBusCaptureFreeze pairs s := rfl
@[simp] theorem exec_alarmSample (levels : Nat) (s : State) : exec (.alarmSample levels) s = execAlarmSample levels s := rfl
@[simp] theorem exec_alarmStuck (k : Nat) (s : State) : exec (.alarmStuck k) s = execAlarmStuck k s := rfl
@[simp] theorem exec_alarmChatter (s : State) : exec .alarmChatter s = execAlarmChatter s := rfl
@[simp] theorem exec_fieldSuppressed (s : State) : exec .fieldSuppressed s = execFieldSuppressed s := rfl
@[simp] theorem exec_rtdSample (k : Nat) (t : Int) (s : State) : exec (.rtdSample k t) s = execRtdSample k t s := rfl
@[simp] theorem exec_fanTach (k rpm : Nat) (s : State) : exec (.fanTach k rpm) s = execFanTach k rpm s := rfl
@[simp] theorem exec_fieldWatchdogExpiry (s : State) : exec .fieldWatchdogExpiry s = execFieldWatchdogExpiry s := rfl
@[simp] theorem exec_barrierHello (toField : Bool) (f : BarFrame) (s : State) : exec (.barrierHello toField f) s = execBarrierHello toField f s := rfl
@[simp] theorem exec_barrierHeartbeat (toField : Bool) (f : BarFrame) (s : State) : exec (.barrierHeartbeat toField f) s = execBarrierHeartbeat toField f s := rfl
@[simp] theorem exec_barrierAlarm (f : BarFrame) (s : State) : exec (.barrierAlarm f) s = execBarrierAlarm f s := rfl
@[simp] theorem exec_barrierSense (f : BarFrame) (s : State) : exec (.barrierSense f) s = execBarrierSense f s := rfl
@[simp] theorem exec_barrierEvent (f : BarFrame) (s : State) : exec (.barrierEvent f) s = execBarrierEvent f s := rfl
@[simp] theorem exec_barrierCfgEcho (f : BarFrame) (s : State) : exec (.barrierCfgEcho f) s = execBarrierCfgEcho f s := rfl
@[simp] theorem exec_barrierMramData (f : BarFrame) (s : State) : exec (.barrierMramData f) s = execBarrierMramData f s := rfl
@[simp] theorem exec_barrierCmdDone (f : BarFrame) (s : State) : exec (.barrierCmdDone f) s = execBarrierCmdDone f s := rfl
@[simp] theorem exec_barrierCfgWriteFrame (f : BarFrame) (s : State) : exec (.barrierCfgWriteFrame f) s = execBarrierCfgWriteFrame f s := rfl
@[simp] theorem exec_barrierTime (f : BarFrame) (s : State) : exec (.barrierTime f) s = execBarrierTime f s := rfl
@[simp] theorem exec_barrierFwLoad (f : BarFrame) (s : State) : exec (.barrierFwLoad f) s = execBarrierFwLoad f s := rfl
@[simp] theorem exec_barrierResendTimer (atField : Bool) (s : State) : exec (.barrierResendTimer atField) s = execBarrierResendTimer atField s := rfl
@[simp] theorem exec_barrierSilence (atField : Bool) (s : State) : exec (.barrierSilence atField) s = execBarrierSilence atField s := rfl
@[simp] theorem exec_barrierHelloTimer (atField : Bool) (s : State) : exec (.barrierHelloTimer atField) s = execBarrierHelloTimer atField s := rfl
@[simp] theorem exec_barrierPeriodicSend (x : BarPeriodic) (s : State) : exec (.barrierPeriodicSend x) s = execBarrierPeriodicSend x s := rfl
@[simp] theorem exec_barrierFWrite (off value : Nat) (s : State) : exec (.barrierFWrite off value) s = execBarrierFWrite off value s := rfl
@[simp] theorem exec_barrierRearm (f : Option BarFrame) (s : State) : exec (.barrierRearm f) s = execBarrierRearm f s := rfl
@[simp] theorem exec_barrierMramRead (f : Option BarFrame) (s : State) : exec (.barrierMramRead f) s = execBarrierMramRead f s := rfl
@[simp] theorem exec_barrierMramClear (f : Option BarFrame) (s : State) : exec (.barrierMramClear f) s = execBarrierMramClear f s := rfl
@[simp] theorem exec_barrierHsOff (f : Option BarFrame) (s : State) : exec (.barrierHsOff f) s = execBarrierHsOff f s := rfl
@[simp] theorem exec_barrierFwStart (f : Option BarFrame) (s : State) : exec (.barrierFwStart f) s = execBarrierFwStart f s := rfl
@[simp] theorem exec_barrierCmdTimeout (s : State) : exec .barrierCmdTimeout s = execBarrierCmdTimeout s := rfl
@[simp] theorem exec_startWarm (r key : Nat) (s : State) : exec (.startWarm r key) s = execStartWarm r key s := rfl
@[simp] theorem exec_startCold (key : Nat) (s : State) : exec (.startCold key) s = execStartCold key s := rfl
@[simp] theorem exec_hostPowerUp (s : State) : exec .hostPowerUp s = execHostPowerUp s := rfl
@[simp] theorem exec_pciePerst (s : State) : exec .pciePerst s = execPciePerst s := rfl
@[simp] theorem exec_packageStartDone (nor training : Bool) (chans : List Nat) (s : State) : exec (.packageStartDone nor training chans) s = execPackageStartDone nor training chans s := rfl
@[simp] theorem exec_warmRunExpiry (s : State) : exec .warmRunExpiry s = execWarmRunExpiry s := rfl
@[simp] theorem exec_torusCoordWrite (d r xyz tray : Nat) (s : State) : exec (.torusCoordWrite d r xyz tray) s = execTorusCoordWrite d r xyz tray s := rfl
@[simp] theorem exec_avsAckFall (p : Nat) (s : State) : exec (.avsAckFall p) s = execAvsAckFall p s := rfl
@[simp] theorem exec_uncorrectableCodeword (p : Nat) (toIkb crc : Bool) (frames : Nat) (s : State) : exec (.uncorrectableCodeword p toIkb crc frames) s = execUncorrectableCodeword p toIkb crc frames s := rfl
@[simp] theorem exec_opticalLinkDown (P : Nat) (s : State) : exec (.opticalLinkDown P) s = execOpticalLinkDown P s := rfl
@[simp] theorem exec_opticalLinkUp (P lanes : Nat) (s : State) : exec (.opticalLinkUp P lanes) s = execOpticalLinkUp P lanes s := rfl
@[simp] theorem exec_elsOutputRestored (P : Nat) (s : State) : exec (.elsOutputRestored P) s = execElsOutputRestored P s := rfl
@[simp] theorem exec_hostSupplyFall (s : State) : exec .hostSupplyFall s = execHostSupplyFall s := rfl
@[simp] theorem exec_fieldSideReset (watchdog : Bool) (s : State) : exec (.fieldSideReset watchdog) s = execFieldSideReset watchdog s := rfl
@[simp] theorem exec_ikbLoadRetry (p : Nat) (s : State) : exec (.ikbLoadRetry p) s = execIkbLoadRetry p s := rfl
@[simp] theorem exec_startStepTimeout (d step : Nat) (s : State) : exec (.startStepTimeout d step) s = execStartStepTimeout d step s := rfl
@[simp] theorem exec_packageFatalTimeout (d : Nat) (s : State) : exec (.packageFatalTimeout d) s = execPackageFatalTimeout d s := rfl

end Sys2Proof.Laws
end

