-- ==== Sys2Proof/Laws/State.lean ====
section
/-! SUPPORT. What each elementary update of the state leaves in each of its fields: one lemma per field and update. -/

namespace Sys2Proof.Laws

open Sys2Proof.Machine

@[simp] theorem wr_pending (s : State) (u : Chip) (f : Fld) (v : Nat) : (s.wr u f v).pending = s.pending := rfl
@[simp] theorem wr_size (s : State) (u : Chip) (f : Fld) (v : Nat) : (s.wr u f v).size = s.size := rfl
@[simp] theorem wr_held (s : State) (u : Chip) (f : Fld) (v : Nat) : (s.wr u f v).held = s.held := rfl
@[simp] theorem wr_heldRead (s : State) (u : Chip) (f : Fld) (v : Nat) : (s.wr u f v).heldRead = s.heldRead := rfl
@[simp] theorem wr_now (s : State) (u : Chip) (f : Fld) (v : Nat) : (s.wr u f v).now = s.now := rfl
@[simp] theorem wr_freeCtr (s : State) (u : Chip) (f : Fld) (v : Nat) : (s.wr u f v).freeCtr = s.freeCtr := rfl
@[simp] theorem wr_out (s : State) (u : Chip) (f : Fld) (v : Nat) : (s.wr u f v).out = s.out := rfl
@[simp] theorem wr_latches (s : State) (u : Chip) (f : Fld) (v : Nat) : (s.wr u f v).latches = s.latches := rfl
@[simp] theorem wr_buffers (s : State) (u : Chip) (f : Fld) (v : Nat) : (s.wr u f v).buffers = s.buffers := rfl
@[simp] theorem wr_msixTable (s : State) (u : Chip) (f : Fld) (v : Nat) : (s.wr u f v).msixTable = s.msixTable := rfl
@[simp] theorem wr_pba (s : State) (u : Chip) (f : Fld) (v : Nat) : (s.wr u f v).pba = s.pba := rfl
@[simp] theorem wr_evRing (s : State) (u : Chip) (f : Fld) (v : Nat) : (s.wr u f v).evRing = s.evRing := rfl
@[simp] theorem wr_staging (s : State) (u : Chip) (f : Fld) (v : Nat) : (s.wr u f v).staging = s.staging := rfl
@[simp] theorem wr_bbxPartial (s : State) (u : Chip) (f : Fld) (v : Nat) : (s.wr u f v).bbxPartial = s.bbxPartial := rfl
@[simp] theorem wr_bbxPages (s : State) (u : Chip) (f : Fld) (v : Nat) : (s.wr u f v).bbxPages = s.bbxPages := rfl
@[simp] theorem wr_gasps (s : State) (u : Chip) (f : Fld) (v : Nat) : (s.wr u f v).gasps = s.gasps := rfl
@[simp] theorem wr_norSpare (s : State) (u : Chip) (f : Fld) (v : Nat) : (s.wr u f v).norSpare = s.norSpare := rfl
@[simp] theorem wr_norWithdrawn (s : State) (u : Chip) (f : Fld) (v : Nat) : (s.wr u f v).norWithdrawn = s.norWithdrawn := rfl
@[simp] theorem wr_norErases (s : State) (u : Chip) (f : Fld) (v : Nat) : (s.wr u f v).norErases = s.norErases := rfl
@[simp] theorem wr_norMap (s : State) (u : Chip) (f : Fld) (v : Nat) : (s.wr u f v).norMap = s.norMap := rfl
@[simp] theorem wr_bbxShrunk (s : State) (u : Chip) (f : Fld) (v : Nat) : (s.wr u f v).bbxShrunk = s.bbxShrunk := rfl
@[simp] theorem wr_notices (s : State) (u : Chip) (f : Fld) (v : Nat) : (s.wr u f v).notices = s.notices := rfl
@[simp] theorem wr_windows (s : State) (u : Chip) (f : Fld) (v : Nat) : (s.wr u f v).windows = s.windows := rfl
@[simp] theorem wr_episodes (s : State) (u : Chip) (f : Fld) (v : Nat) : (s.wr u f v).episodes = s.episodes := rfl
@[simp] theorem wr_dram (s : State) (u : Chip) (f : Fld) (v : Nat) : (s.wr u f v).dram = s.dram := rfl
@[simp] theorem wr_poisoned (s : State) (u : Chip) (f : Fld) (v : Nat) : (s.wr u f v).poisoned = s.poisoned := rfl
@[simp] theorem wr_nor (s : State) (u : Chip) (f : Fld) (v : Nat) : (s.wr u f v).nor = s.nor := rfl
@[simp] theorem wr_mram (s : State) (u : Chip) (f : Fld) (v : Nat) : (s.wr u f v).mram = s.mram := rfl
@[simp] theorem wr_ltc (s : State) (u : Chip) (f : Fld) (v : Nat) : (s.wr u f v).ltc = s.ltc := rfl
@[simp] theorem wr_servo (s : State) (u : Chip) (f : Fld) (v : Nat) : (s.wr u f v).servo = s.servo := rfl
@[simp] theorem wr_meridian (s : State) (u : Chip) (f : Fld) (v : Nat) : (s.wr u f v).meridian = s.meridian := rfl
@[simp] theorem wr_exchanges (s : State) (u : Chip) (f : Fld) (v : Nat) : (s.wr u f v).exchanges = s.exchanges := rfl
@[simp] theorem wr_tagQueue (s : State) (u : Chip) (f : Fld) (v : Nat) : (s.wr u f v).tagQueue = s.tagQueue := rfl
@[simp] theorem wr_snap (s : State) (u : Chip) (f : Fld) (v : Nat) : (s.wr u f v).snap = s.snap := rfl
@[simp] theorem wr_streams (s : State) (u : Chip) (f : Fld) (v : Nat) : (s.wr u f v).streams = s.streams := rfl
@[simp] theorem wr_tiles (s : State) (u : Chip) (f : Fld) (v : Nat) : (s.wr u f v).tiles = s.tiles := rfl
@[simp] theorem wr_mmGens (s : State) (u : Chip) (f : Fld) (v : Nat) : (s.wr u f v).mmGens = s.mmGens := rfl
@[simp] theorem wr_watch (s : State) (u : Chip) (f : Fld) (v : Nat) : (s.wr u f v).watch = s.watch := rfl
@[simp] theorem wr_rails (s : State) (u : Chip) (f : Fld) (v : Nat) : (s.wr u f v).rails = s.rails := rfl
@[simp] theorem wr_change (s : State) (u : Chip) (f : Fld) (v : Nat) : (s.wr u f v).change = s.change := rfl
@[simp] theorem wr_reports (s : State) (u : Chip) (f : Fld) (v : Nat) : (s.wr u f v).reports = s.reports := rfl
@[simp] theorem wr_epochs (s : State) (u : Chip) (f : Fld) (v : Nat) : (s.wr u f v).epochs = s.epochs := rfl
@[simp] theorem wr_txq (s : State) (u : Chip) (f : Fld) (v : Nat) : (s.wr u f v).txq = s.txq := rfl
@[simp] theorem wr_prismHeld (s : State) (u : Chip) (f : Fld) (v : Nat) : (s.wr u f v).prismHeld = s.prismHeld := rfl
@[simp] theorem wr_proxies (s : State) (u : Chip) (f : Fld) (v : Nat) : (s.wr u f v).proxies = s.proxies := rfl
@[simp] theorem wr_gaps (s : State) (u : Chip) (f : Fld) (v : Nat) : (s.wr u f v).gaps = s.gaps := rfl
@[simp] theorem wr_noticeGens (s : State) (u : Chip) (f : Fld) (v : Nat) : (s.wr u f v).noticeGens = s.noticeGens := rfl
@[simp] theorem wr_egress (s : State) (u : Chip) (f : Fld) (v : Nat) : (s.wr u f v).egress = s.egress := rfl
@[simp] theorem wr_txFlows (s : State) (u : Chip) (f : Fld) (v : Nat) : (s.wr u f v).txFlows = s.txFlows := rfl
@[simp] theorem wr_flowFree (s : State) (u : Chip) (f : Fld) (v : Nat) : (s.wr u f v).flowFree = s.flowFree := rfl
@[simp] theorem wr_xlat (s : State) (u : Chip) (f : Fld) (v : Nat) : (s.wr u f v).xlat = s.xlat := rfl
@[simp] theorem wr_flatStage (s : State) (u : Chip) (f : Fld) (v : Nat) : (s.wr u f v).flatStage = s.flatStage := rfl
@[simp] theorem wr_jobStage (s : State) (u : Chip) (f : Fld) (v : Nat) : (s.wr u f v).jobStage = s.jobStage := rfl
@[simp] theorem wr_natDel (s : State) (u : Chip) (f : Fld) (v : Nat) : (s.wr u f v).natDel = s.natDel := rfl
@[simp] theorem wr_jobs (s : State) (u : Chip) (f : Fld) (v : Nat) : (s.wr u f v).jobs = s.jobs := rfl
@[simp] theorem wr_insts (s : State) (u : Chip) (f : Fld) (v : Nat) : (s.wr u f v).insts = s.insts := rfl
@[simp] theorem wr_bcasts (s : State) (u : Chip) (f : Fld) (v : Nat) : (s.wr u f v).bcasts = s.bcasts := rfl
@[simp] theorem wr_jsRuns (s : State) (u : Chip) (f : Fld) (v : Nat) : (s.wr u f v).jsRuns = s.jsRuns := rfl
@[simp] theorem wr_stepHist (s : State) (u : Chip) (f : Fld) (v : Nat) : (s.wr u f v).stepHist = s.stepHist := rfl
@[simp] theorem wr_govSeen (s : State) (u : Chip) (f : Fld) (v : Nat) : (s.wr u f v).govSeen = s.govSeen := rfl
@[simp] theorem wr_rxFlows (s : State) (u : Chip) (f : Fld) (v : Nat) : (s.wr u f v).rxFlows = s.rxFlows := rfl
@[simp] theorem wr_ctxs (s : State) (u : Chip) (f : Fld) (v : Nat) : (s.wr u f v).ctxs = s.ctxs := rfl
@[simp] theorem wr_ingest (s : State) (u : Chip) (f : Fld) (v : Nat) : (s.wr u f v).ingest = s.ingest := rfl
@[simp] theorem wr_ingestWait (s : State) (u : Chip) (f : Fld) (v : Nat) : (s.wr u f v).ingestWait = s.ingestWait := rfl
@[simp] theorem wr_healthBuf (s : State) (u : Chip) (f : Fld) (v : Nat) : (s.wr u f v).healthBuf = s.healthBuf := rfl
@[simp] theorem wr_lensSlots (s : State) (u : Chip) (f : Fld) (v : Nat) : (s.wr u f v).lensSlots = s.lensSlots := rfl
@[simp] theorem wr_lensOpen (s : State) (u : Chip) (f : Fld) (v : Nat) : (s.wr u f v).lensOpen = s.lensOpen := rfl
@[simp] theorem wr_lensClosed (s : State) (u : Chip) (f : Fld) (v : Nat) : (s.wr u f v).lensClosed = s.lensClosed := rfl
@[simp] theorem wr_lensHolds (s : State) (u : Chip) (f : Fld) (v : Nat) : (s.wr u f v).lensHolds = s.lensHolds := rfl
@[simp] theorem wr_lensExport (s : State) (u : Chip) (f : Fld) (v : Nat) : (s.wr u f v).lensExport = s.lensExport := rfl
@[simp] theorem wr_metrics (s : State) (u : Chip) (f : Fld) (v : Nat) : (s.wr u f v).metrics = s.metrics := rfl
@[simp] theorem wr_mboxes (s : State) (u : Chip) (f : Fld) (v : Nat) : (s.wr u f v).mboxes = s.mboxes := rfl
@[simp] theorem wr_mboxSend (s : State) (u : Chip) (f : Fld) (v : Nat) : (s.wr u f v).mboxSend = s.mboxSend := rfl
@[simp] theorem wr_imem (s : State) (u : Chip) (f : Fld) (v : Nat) : (s.wr u f v).imem = s.imem := rfl
@[simp] theorem wr_dmem (s : State) (u : Chip) (f : Fld) (v : Nat) : (s.wr u f v).dmem = s.dmem := rfl
@[simp] theorem wr_imgBuf (s : State) (u : Chip) (f : Fld) (v : Nat) : (s.wr u f v).imgBuf = s.imgBuf := rfl
@[simp] theorem wr_imgHash (s : State) (u : Chip) (f : Fld) (v : Nat) : (s.wr u f v).imgHash = s.imgHash := rfl
@[simp] theorem wr_corrected (s : State) (u : Chip) (f : Fld) (v : Nat) : (s.wr u f v).corrected = s.corrected := rfl
@[simp] theorem wr_mirrorWin (s : State) (u : Chip) (f : Fld) (v : Nat) : (s.wr u f v).mirrorWin = s.mirrorWin := rfl
@[simp] theorem wr_recent (s : State) (u : Chip) (f : Fld) (v : Nat) : (s.wr u f v).recent = s.recent := rfl
@[simp] theorem wr_field (s : State) (u : Chip) (f : Fld) (v : Nat) : (s.wr u f v).field = s.field := rfl
@[simp] theorem wr_barHost (s : State) (u : Chip) (f : Fld) (v : Nat) : (s.wr u f v).barHost = s.barHost := rfl
@[simp] theorem wr_barEcho (s : State) (u : Chip) (f : Fld) (v : Nat) : (s.wr u f v).barEcho = s.barEcho := rfl

@[simp] theorem emit_pending (s : State) (o : Out) : (s.emit o).pending = s.pending := rfl
@[simp] theorem emit_size (s : State) (o : Out) : (s.emit o).size = s.size := rfl
@[simp] theorem emit_regs (s : State) (o : Out) : (s.emit o).regs = s.regs := rfl
@[simp] theorem emit_held (s : State) (o : Out) : (s.emit o).held = s.held := rfl
@[simp] theorem emit_heldRead (s : State) (o : Out) : (s.emit o).heldRead = s.heldRead := rfl
@[simp] theorem emit_now (s : State) (o : Out) : (s.emit o).now = s.now := rfl
@[simp] theorem emit_freeCtr (s : State) (o : Out) : (s.emit o).freeCtr = s.freeCtr := rfl
@[simp] theorem emit_latches (s : State) (o : Out) : (s.emit o).latches = s.latches := rfl
@[simp] theorem emit_buffers (s : State) (o : Out) : (s.emit o).buffers = s.buffers := rfl
@[simp] theorem emit_msixTable (s : State) (o : Out) : (s.emit o).msixTable = s.msixTable := rfl
@[simp] theorem emit_pba (s : State) (o : Out) : (s.emit o).pba = s.pba := rfl
@[simp] theorem emit_evRing (s : State) (o : Out) : (s.emit o).evRing = s.evRing := rfl
@[simp] theorem emit_staging (s : State) (o : Out) : (s.emit o).staging = s.staging := rfl
@[simp] theorem emit_bbxPartial (s : State) (o : Out) : (s.emit o).bbxPartial = s.bbxPartial := rfl
@[simp] theorem emit_bbxPages (s : State) (o : Out) : (s.emit o).bbxPages = s.bbxPages := rfl
@[simp] theorem emit_gasps (s : State) (o : Out) : (s.emit o).gasps = s.gasps := rfl
@[simp] theorem emit_norSpare (s : State) (o : Out) : (s.emit o).norSpare = s.norSpare := rfl
@[simp] theorem emit_norWithdrawn (s : State) (o : Out) : (s.emit o).norWithdrawn = s.norWithdrawn := rfl
@[simp] theorem emit_norErases (s : State) (o : Out) : (s.emit o).norErases = s.norErases := rfl
@[simp] theorem emit_norMap (s : State) (o : Out) : (s.emit o).norMap = s.norMap := rfl
@[simp] theorem emit_bbxShrunk (s : State) (o : Out) : (s.emit o).bbxShrunk = s.bbxShrunk := rfl
@[simp] theorem emit_notices (s : State) (o : Out) : (s.emit o).notices = s.notices := rfl
@[simp] theorem emit_windows (s : State) (o : Out) : (s.emit o).windows = s.windows := rfl
@[simp] theorem emit_episodes (s : State) (o : Out) : (s.emit o).episodes = s.episodes := rfl
@[simp] theorem emit_dram (s : State) (o : Out) : (s.emit o).dram = s.dram := rfl
@[simp] theorem emit_poisoned (s : State) (o : Out) : (s.emit o).poisoned = s.poisoned := rfl
@[simp] theorem emit_nor (s : State) (o : Out) : (s.emit o).nor = s.nor := rfl
@[simp] theorem emit_mram (s : State) (o : Out) : (s.emit o).mram = s.mram := rfl
@[simp] theorem emit_ltc (s : State) (o : Out) : (s.emit o).ltc = s.ltc := rfl
@[simp] theorem emit_servo (s : State) (o : Out) : (s.emit o).servo = s.servo := rfl
@[simp] theorem emit_meridian (s : State) (o : Out) : (s.emit o).meridian = s.meridian := rfl
@[simp] theorem emit_exchanges (s : State) (o : Out) : (s.emit o).exchanges = s.exchanges := rfl
@[simp] theorem emit_tagQueue (s : State) (o : Out) : (s.emit o).tagQueue = s.tagQueue := rfl
@[simp] theorem emit_snap (s : State) (o : Out) : (s.emit o).snap = s.snap := rfl
@[simp] theorem emit_streams (s : State) (o : Out) : (s.emit o).streams = s.streams := rfl
@[simp] theorem emit_tiles (s : State) (o : Out) : (s.emit o).tiles = s.tiles := rfl
@[simp] theorem emit_mmGens (s : State) (o : Out) : (s.emit o).mmGens = s.mmGens := rfl
@[simp] theorem emit_watch (s : State) (o : Out) : (s.emit o).watch = s.watch := rfl
@[simp] theorem emit_rails (s : State) (o : Out) : (s.emit o).rails = s.rails := rfl
@[simp] theorem emit_change (s : State) (o : Out) : (s.emit o).change = s.change := rfl
@[simp] theorem emit_reports (s : State) (o : Out) : (s.emit o).reports = s.reports := rfl
@[simp] theorem emit_epochs (s : State) (o : Out) : (s.emit o).epochs = s.epochs := rfl
@[simp] theorem emit_txq (s : State) (o : Out) : (s.emit o).txq = s.txq := rfl
@[simp] theorem emit_prismHeld (s : State) (o : Out) : (s.emit o).prismHeld = s.prismHeld := rfl
@[simp] theorem emit_proxies (s : State) (o : Out) : (s.emit o).proxies = s.proxies := rfl
@[simp] theorem emit_gaps (s : State) (o : Out) : (s.emit o).gaps = s.gaps := rfl
@[simp] theorem emit_noticeGens (s : State) (o : Out) : (s.emit o).noticeGens = s.noticeGens := rfl
@[simp] theorem emit_egress (s : State) (o : Out) : (s.emit o).egress = s.egress := rfl
@[simp] theorem emit_txFlows (s : State) (o : Out) : (s.emit o).txFlows = s.txFlows := rfl
@[simp] theorem emit_flowFree (s : State) (o : Out) : (s.emit o).flowFree = s.flowFree := rfl
@[simp] theorem emit_xlat (s : State) (o : Out) : (s.emit o).xlat = s.xlat := rfl
@[simp] theorem emit_flatStage (s : State) (o : Out) : (s.emit o).flatStage = s.flatStage := rfl
@[simp] theorem emit_jobStage (s : State) (o : Out) : (s.emit o).jobStage = s.jobStage := rfl
@[simp] theorem emit_natDel (s : State) (o : Out) : (s.emit o).natDel = s.natDel := rfl
@[simp] theorem emit_jobs (s : State) (o : Out) : (s.emit o).jobs = s.jobs := rfl
@[simp] theorem emit_insts (s : State) (o : Out) : (s.emit o).insts = s.insts := rfl
@[simp] theorem emit_bcasts (s : State) (o : Out) : (s.emit o).bcasts = s.bcasts := rfl
@[simp] theorem emit_jsRuns (s : State) (o : Out) : (s.emit o).jsRuns = s.jsRuns := rfl
@[simp] theorem emit_stepHist (s : State) (o : Out) : (s.emit o).stepHist = s.stepHist := rfl
@[simp] theorem emit_govSeen (s : State) (o : Out) : (s.emit o).govSeen = s.govSeen := rfl
@[simp] theorem emit_rxFlows (s : State) (o : Out) : (s.emit o).rxFlows = s.rxFlows := rfl
@[simp] theorem emit_ctxs (s : State) (o : Out) : (s.emit o).ctxs = s.ctxs := rfl
@[simp] theorem emit_ingest (s : State) (o : Out) : (s.emit o).ingest = s.ingest := rfl
@[simp] theorem emit_ingestWait (s : State) (o : Out) : (s.emit o).ingestWait = s.ingestWait := rfl
@[simp] theorem emit_healthBuf (s : State) (o : Out) : (s.emit o).healthBuf = s.healthBuf := rfl
@[simp] theorem emit_lensSlots (s : State) (o : Out) : (s.emit o).lensSlots = s.lensSlots := rfl
@[simp] theorem emit_lensOpen (s : State) (o : Out) : (s.emit o).lensOpen = s.lensOpen := rfl
@[simp] theorem emit_lensClosed (s : State) (o : Out) : (s.emit o).lensClosed = s.lensClosed := rfl
@[simp] theorem emit_lensHolds (s : State) (o : Out) : (s.emit o).lensHolds = s.lensHolds := rfl
@[simp] theorem emit_lensExport (s : State) (o : Out) : (s.emit o).lensExport = s.lensExport := rfl
@[simp] theorem emit_metrics (s : State) (o : Out) : (s.emit o).metrics = s.metrics := rfl
@[simp] theorem emit_mboxes (s : State) (o : Out) : (s.emit o).mboxes = s.mboxes := rfl
@[simp] theorem emit_mboxSend (s : State) (o : Out) : (s.emit o).mboxSend = s.mboxSend := rfl
@[simp] theorem emit_imem (s : State) (o : Out) : (s.emit o).imem = s.imem := rfl
@[simp] theorem emit_dmem (s : State) (o : Out) : (s.emit o).dmem = s.dmem := rfl
@[simp] theorem emit_imgBuf (s : State) (o : Out) : (s.emit o).imgBuf = s.imgBuf := rfl
@[simp] theorem emit_imgHash (s : State) (o : Out) : (s.emit o).imgHash = s.imgHash := rfl
@[simp] theorem emit_corrected (s : State) (o : Out) : (s.emit o).corrected = s.corrected := rfl
@[simp] theorem emit_mirrorWin (s : State) (o : Out) : (s.emit o).mirrorWin = s.mirrorWin := rfl
@[simp] theorem emit_recent (s : State) (o : Out) : (s.emit o).recent = s.recent := rfl
@[simp] theorem emit_field (s : State) (o : Out) : (s.emit o).field = s.field := rfl
@[simp] theorem emit_barHost (s : State) (o : Out) : (s.emit o).barHost = s.barHost := rfl
@[simp] theorem emit_barEcho (s : State) (o : Out) : (s.emit o).barEcho = s.barEcho := rfl

@[simp] theorem free_pending (s : State) (w : Nat) : ((s.free w).2).pending = s.pending := rfl
@[simp] theorem free_size (s : State) (w : Nat) : ((s.free w).2).size = s.size := rfl
@[simp] theorem free_regs (s : State) (w : Nat) : ((s.free w).2).regs = s.regs := rfl
@[simp] theorem free_held (s : State) (w : Nat) : ((s.free w).2).held = s.held := rfl
@[simp] theorem free_heldRead (s : State) (w : Nat) : ((s.free w).2).heldRead = s.heldRead := rfl
@[simp] theorem free_now (s : State) (w : Nat) : ((s.free w).2).now = s.now := rfl
@[simp] theorem free_out (s : State) (w : Nat) : ((s.free w).2).out = s.out := rfl
@[simp] theorem free_latches (s : State) (w : Nat) : ((s.free w).2).latches = s.latches := rfl
@[simp] theorem free_buffers (s : State) (w : Nat) : ((s.free w).2).buffers = s.buffers := rfl
@[simp] theorem free_msixTable (s : State) (w : Nat) : ((s.free w).2).msixTable = s.msixTable := rfl
@[simp] theorem free_pba (s : State) (w : Nat) : ((s.free w).2).pba = s.pba := rfl
@[simp] theorem free_evRing (s : State) (w : Nat) : ((s.free w).2).evRing = s.evRing := rfl
@[simp] theorem free_staging (s : State) (w : Nat) : ((s.free w).2).staging = s.staging := rfl
@[simp] theorem free_bbxPartial (s : State) (w : Nat) : ((s.free w).2).bbxPartial = s.bbxPartial := rfl
@[simp] theorem free_bbxPages (s : State) (w : Nat) : ((s.free w).2).bbxPages = s.bbxPages := rfl
@[simp] theorem free_gasps (s : State) (w : Nat) : ((s.free w).2).gasps = s.gasps := rfl
@[simp] theorem free_norSpare (s : State) (w : Nat) : ((s.free w).2).norSpare = s.norSpare := rfl
@[simp] theorem free_norWithdrawn (s : State) (w : Nat) : ((s.free w).2).norWithdrawn = s.norWithdrawn := rfl
@[simp] theorem free_norErases (s : State) (w : Nat) : ((s.free w).2).norErases = s.norErases := rfl
@[simp] theorem free_norMap (s : State) (w : Nat) : ((s.free w).2).norMap = s.norMap := rfl
@[simp] theorem free_bbxShrunk (s : State) (w : Nat) : ((s.free w).2).bbxShrunk = s.bbxShrunk := rfl
@[simp] theorem free_notices (s : State) (w : Nat) : ((s.free w).2).notices = s.notices := rfl
@[simp] theorem free_windows (s : State) (w : Nat) : ((s.free w).2).windows = s.windows := rfl
@[simp] theorem free_episodes (s : State) (w : Nat) : ((s.free w).2).episodes = s.episodes := rfl
@[simp] theorem free_dram (s : State) (w : Nat) : ((s.free w).2).dram = s.dram := rfl
@[simp] theorem free_poisoned (s : State) (w : Nat) : ((s.free w).2).poisoned = s.poisoned := rfl
@[simp] theorem free_nor (s : State) (w : Nat) : ((s.free w).2).nor = s.nor := rfl
@[simp] theorem free_mram (s : State) (w : Nat) : ((s.free w).2).mram = s.mram := rfl
@[simp] theorem free_ltc (s : State) (w : Nat) : ((s.free w).2).ltc = s.ltc := rfl
@[simp] theorem free_servo (s : State) (w : Nat) : ((s.free w).2).servo = s.servo := rfl
@[simp] theorem free_meridian (s : State) (w : Nat) : ((s.free w).2).meridian = s.meridian := rfl
@[simp] theorem free_exchanges (s : State) (w : Nat) : ((s.free w).2).exchanges = s.exchanges := rfl
@[simp] theorem free_tagQueue (s : State) (w : Nat) : ((s.free w).2).tagQueue = s.tagQueue := rfl
@[simp] theorem free_snap (s : State) (w : Nat) : ((s.free w).2).snap = s.snap := rfl
@[simp] theorem free_streams (s : State) (w : Nat) : ((s.free w).2).streams = s.streams := rfl
@[simp] theorem free_tiles (s : State) (w : Nat) : ((s.free w).2).tiles = s.tiles := rfl
@[simp] theorem free_mmGens (s : State) (w : Nat) : ((s.free w).2).mmGens = s.mmGens := rfl
@[simp] theorem free_watch (s : State) (w : Nat) : ((s.free w).2).watch = s.watch := rfl
@[simp] theorem free_rails (s : State) (w : Nat) : ((s.free w).2).rails = s.rails := rfl
@[simp] theorem free_change (s : State) (w : Nat) : ((s.free w).2).change = s.change := rfl
@[simp] theorem free_reports (s : State) (w : Nat) : ((s.free w).2).reports = s.reports := rfl
@[simp] theorem free_epochs (s : State) (w : Nat) : ((s.free w).2).epochs = s.epochs := rfl
@[simp] theorem free_txq (s : State) (w : Nat) : ((s.free w).2).txq = s.txq := rfl
@[simp] theorem free_prismHeld (s : State) (w : Nat) : ((s.free w).2).prismHeld = s.prismHeld := rfl
@[simp] theorem free_proxies (s : State) (w : Nat) : ((s.free w).2).proxies = s.proxies := rfl
@[simp] theorem free_gaps (s : State) (w : Nat) : ((s.free w).2).gaps = s.gaps := rfl
@[simp] theorem free_noticeGens (s : State) (w : Nat) : ((s.free w).2).noticeGens = s.noticeGens := rfl
@[simp] theorem free_egress (s : State) (w : Nat) : ((s.free w).2).egress = s.egress := rfl
@[simp] theorem free_txFlows (s : State) (w : Nat) : ((s.free w).2).txFlows = s.txFlows := rfl
@[simp] theorem free_flowFree (s : State) (w : Nat) : ((s.free w).2).flowFree = s.flowFree := rfl
@[simp] theorem free_xlat (s : State) (w : Nat) : ((s.free w).2).xlat = s.xlat := rfl
@[simp] theorem free_flatStage (s : State) (w : Nat) : ((s.free w).2).flatStage = s.flatStage := rfl
@[simp] theorem free_jobStage (s : State) (w : Nat) : ((s.free w).2).jobStage = s.jobStage := rfl
@[simp] theorem free_natDel (s : State) (w : Nat) : ((s.free w).2).natDel = s.natDel := rfl
@[simp] theorem free_jobs (s : State) (w : Nat) : ((s.free w).2).jobs = s.jobs := rfl
@[simp] theorem free_insts (s : State) (w : Nat) : ((s.free w).2).insts = s.insts := rfl
@[simp] theorem free_bcasts (s : State) (w : Nat) : ((s.free w).2).bcasts = s.bcasts := rfl
@[simp] theorem free_jsRuns (s : State) (w : Nat) : ((s.free w).2).jsRuns = s.jsRuns := rfl
@[simp] theorem free_stepHist (s : State) (w : Nat) : ((s.free w).2).stepHist = s.stepHist := rfl
@[simp] theorem free_govSeen (s : State) (w : Nat) : ((s.free w).2).govSeen = s.govSeen := rfl
@[simp] theorem free_rxFlows (s : State) (w : Nat) : ((s.free w).2).rxFlows = s.rxFlows := rfl
@[simp] theorem free_ctxs (s : State) (w : Nat) : ((s.free w).2).ctxs = s.ctxs := rfl
@[simp] theorem free_ingest (s : State) (w : Nat) : ((s.free w).2).ingest = s.ingest := rfl
@[simp] theorem free_ingestWait (s : State) (w : Nat) : ((s.free w).2).ingestWait = s.ingestWait := rfl
@[simp] theorem free_healthBuf (s : State) (w : Nat) : ((s.free w).2).healthBuf = s.healthBuf := rfl
@[simp] theorem free_lensSlots (s : State) (w : Nat) : ((s.free w).2).lensSlots = s.lensSlots := rfl
@[simp] theorem free_lensOpen (s : State) (w : Nat) : ((s.free w).2).lensOpen = s.lensOpen := rfl
@[simp] theorem free_lensClosed (s : State) (w : Nat) : ((s.free w).2).lensClosed = s.lensClosed := rfl
@[simp] theorem free_lensHolds (s : State) (w : Nat) : ((s.free w).2).lensHolds = s.lensHolds := rfl
@[simp] theorem free_lensExport (s : State) (w : Nat) : ((s.free w).2).lensExport = s.lensExport := rfl
@[simp] theorem free_metrics (s : State) (w : Nat) : ((s.free w).2).metrics = s.metrics := rfl
@[simp] theorem free_mboxes (s : State) (w : Nat) : ((s.free w).2).mboxes = s.mboxes := rfl
@[simp] theorem free_mboxSend (s : State) (w : Nat) : ((s.free w).2).mboxSend = s.mboxSend := rfl
@[simp] theorem free_imem (s : State) (w : Nat) : ((s.free w).2).imem = s.imem := rfl
@[simp] theorem free_dmem (s : State) (w : Nat) : ((s.free w).2).dmem = s.dmem := rfl
@[simp] theorem free_imgBuf (s : State) (w : Nat) : ((s.free w).2).imgBuf = s.imgBuf := rfl
@[simp] theorem free_imgHash (s : State) (w : Nat) : ((s.free w).2).imgHash = s.imgHash := rfl
@[simp] theorem free_corrected (s : State) (w : Nat) : ((s.free w).2).corrected = s.corrected := rfl
@[simp] theorem free_mirrorWin (s : State) (w : Nat) : ((s.free w).2).mirrorWin = s.mirrorWin := rfl
@[simp] theorem free_recent (s : State) (w : Nat) : ((s.free w).2).recent = s.recent := rfl
@[simp] theorem free_field (s : State) (w : Nat) : ((s.free w).2).field = s.field := rfl
@[simp] theorem free_barHost (s : State) (w : Nat) : ((s.free w).2).barHost = s.barHost := rfl
@[simp] theorem free_barEcho (s : State) (w : Nat) : ((s.free w).2).barEcho = s.barEcho := rfl

@[simp] theorem respond_pending (s : State) (u : Chip) (r : Nat) (err : Bool) (data : Nat) : (s.respond u r err data).pending = s.pending := rfl
@[simp] theorem respond_size (s : State) (u : Chip) (r : Nat) (err : Bool) (data : Nat) : (s.respond u r err data).size = s.size := rfl
@[simp] theorem respond_regs (s : State) (u : Chip) (r : Nat) (err : Bool) (data : Nat) : (s.respond u r err data).regs = s.regs := rfl
@[simp] theorem respond_held (s : State) (u : Chip) (r : Nat) (err : Bool) (data : Nat) : (s.respond u r err data).held = s.held := rfl
@[simp] theorem respond_heldRead (s : State) (u : Chip) (r : Nat) (err : Bool) (data : Nat) : (s.respond u r err data).heldRead = s.heldRead := rfl
@[simp] theorem respond_now (s : State) (u : Chip) (r : Nat) (err : Bool) (data : Nat) : (s.respond u r err data).now = s.now := rfl
@[simp] theorem respond_freeCtr (s : State) (u : Chip) (r : Nat) (err : Bool) (data : Nat) : (s.respond u r err data).freeCtr = s.freeCtr := rfl
@[simp] theorem respond_latches (s : State) (u : Chip) (r : Nat) (err : Bool) (data : Nat) : (s.respond u r err data).latches = s.latches := rfl
@[simp] theorem respond_buffers (s : State) (u : Chip) (r : Nat) (err : Bool) (data : Nat) : (s.respond u r err data).buffers = s.buffers := rfl
@[simp] theorem respond_msixTable (s : State) (u : Chip) (r : Nat) (err : Bool) (data : Nat) : (s.respond u r err data).msixTable = s.msixTable := rfl
@[simp] theorem respond_pba (s : State) (u : Chip) (r : Nat) (err : Bool) (data : Nat) : (s.respond u r err data).pba = s.pba := rfl
@[simp] theorem respond_evRing (s : State) (u : Chip) (r : Nat) (err : Bool) (data : Nat) : (s.respond u r err data).evRing = s.evRing := rfl
@[simp] theorem respond_staging (s : State) (u : Chip) (r : Nat) (err : Bool) (data : Nat) : (s.respond u r err data).staging = s.staging := rfl
@[simp] theorem respond_bbxPartial (s : State) (u : Chip) (r : Nat) (err : Bool) (data : Nat) : (s.respond u r err data).bbxPartial = s.bbxPartial := rfl
@[simp] theorem respond_bbxPages (s : State) (u : Chip) (r : Nat) (err : Bool) (data : Nat) : (s.respond u r err data).bbxPages = s.bbxPages := rfl
@[simp] theorem respond_gasps (s : State) (u : Chip) (r : Nat) (err : Bool) (data : Nat) : (s.respond u r err data).gasps = s.gasps := rfl
@[simp] theorem respond_norSpare (s : State) (u : Chip) (r : Nat) (err : Bool) (data : Nat) : (s.respond u r err data).norSpare = s.norSpare := rfl
@[simp] theorem respond_norWithdrawn (s : State) (u : Chip) (r : Nat) (err : Bool) (data : Nat) : (s.respond u r err data).norWithdrawn = s.norWithdrawn := rfl
@[simp] theorem respond_norErases (s : State) (u : Chip) (r : Nat) (err : Bool) (data : Nat) : (s.respond u r err data).norErases = s.norErases := rfl
@[simp] theorem respond_norMap (s : State) (u : Chip) (r : Nat) (err : Bool) (data : Nat) : (s.respond u r err data).norMap = s.norMap := rfl
@[simp] theorem respond_bbxShrunk (s : State) (u : Chip) (r : Nat) (err : Bool) (data : Nat) : (s.respond u r err data).bbxShrunk = s.bbxShrunk := rfl
@[simp] theorem respond_notices (s : State) (u : Chip) (r : Nat) (err : Bool) (data : Nat) : (s.respond u r err data).notices = s.notices := rfl
@[simp] theorem respond_windows (s : State) (u : Chip) (r : Nat) (err : Bool) (data : Nat) : (s.respond u r err data).windows = s.windows := rfl
@[simp] theorem respond_episodes (s : State) (u : Chip) (r : Nat) (err : Bool) (data : Nat) : (s.respond u r err data).episodes = s.episodes := rfl
@[simp] theorem respond_dram (s : State) (u : Chip) (r : Nat) (err : Bool) (data : Nat) : (s.respond u r err data).dram = s.dram := rfl
@[simp] theorem respond_poisoned (s : State) (u : Chip) (r : Nat) (err : Bool) (data : Nat) : (s.respond u r err data).poisoned = s.poisoned := rfl
@[simp] theorem respond_nor (s : State) (u : Chip) (r : Nat) (err : Bool) (data : Nat) : (s.respond u r err data).nor = s.nor := rfl
@[simp] theorem respond_mram (s : State) (u : Chip) (r : Nat) (err : Bool) (data : Nat) : (s.respond u r err data).mram = s.mram := rfl
@[simp] theorem respond_ltc (s : State) (u : Chip) (r : Nat) (err : Bool) (data : Nat) : (s.respond u r err data).ltc = s.ltc := rfl
@[simp] theorem respond_servo (s : State) (u : Chip) (r : Nat) (err : Bool) (data : Nat) : (s.respond u r err data).servo = s.servo := rfl
@[simp] theorem respond_meridian (s : State) (u : Chip) (r : Nat) (err : Bool) (data : Nat) : (s.respond u r err data).meridian = s.meridian := rfl
@[simp] theorem respond_exchanges (s : State) (u : Chip) (r : Nat) (err : Bool) (data : Nat) : (s.respond u r err data).exchanges = s.exchanges := rfl
@[simp] theorem respond_tagQueue (s : State) (u : Chip) (r : Nat) (err : Bool) (data : Nat) : (s.respond u r err data).tagQueue = s.tagQueue := rfl
@[simp] theorem respond_snap (s : State) (u : Chip) (r : Nat) (err : Bool) (data : Nat) : (s.respond u r err data).snap = s.snap := rfl
@[simp] theorem respond_streams (s : State) (u : Chip) (r : Nat) (err : Bool) (data : Nat) : (s.respond u r err data).streams = s.streams := rfl
@[simp] theorem respond_tiles (s : State) (u : Chip) (r : Nat) (err : Bool) (data : Nat) : (s.respond u r err data).tiles = s.tiles := rfl
@[simp] theorem respond_mmGens (s : State) (u : Chip) (r : Nat) (err : Bool) (data : Nat) : (s.respond u r err data).mmGens = s.mmGens := rfl
@[simp] theorem respond_watch (s : State) (u : Chip) (r : Nat) (err : Bool) (data : Nat) : (s.respond u r err data).watch = s.watch := rfl
@[simp] theorem respond_rails (s : State) (u : Chip) (r : Nat) (err : Bool) (data : Nat) : (s.respond u r err data).rails = s.rails := rfl
@[simp] theorem respond_change (s : State) (u : Chip) (r : Nat) (err : Bool) (data : Nat) : (s.respond u r err data).change = s.change := rfl
@[simp] theorem respond_reports (s : State) (u : Chip) (r : Nat) (err : Bool) (data : Nat) : (s.respond u r err data).reports = s.reports := rfl
@[simp] theorem respond_epochs (s : State) (u : Chip) (r : Nat) (err : Bool) (data : Nat) : (s.respond u r err data).epochs = s.epochs := rfl
@[simp] theorem respond_txq (s : State) (u : Chip) (r : Nat) (err : Bool) (data : Nat) : (s.respond u r err data).txq = s.txq := rfl
@[simp] theorem respond_prismHeld (s : State) (u : Chip) (r : Nat) (err : Bool) (data : Nat) : (s.respond u r err data).prismHeld = s.prismHeld := rfl
@[simp] theorem respond_proxies (s : State) (u : Chip) (r : Nat) (err : Bool) (data : Nat) : (s.respond u r err data).proxies = s.proxies := rfl
@[simp] theorem respond_gaps (s : State) (u : Chip) (r : Nat) (err : Bool) (data : Nat) : (s.respond u r err data).gaps = s.gaps := rfl
@[simp] theorem respond_noticeGens (s : State) (u : Chip) (r : Nat) (err : Bool) (data : Nat) : (s.respond u r err data).noticeGens = s.noticeGens := rfl
@[simp] theorem respond_egress (s : State) (u : Chip) (r : Nat) (err : Bool) (data : Nat) : (s.respond u r err data).egress = s.egress := rfl
@[simp] theorem respond_txFlows (s : State) (u : Chip) (r : Nat) (err : Bool) (data : Nat) : (s.respond u r err data).txFlows = s.txFlows := rfl
@[simp] theorem respond_flowFree (s : State) (u : Chip) (r : Nat) (err : Bool) (data : Nat) : (s.respond u r err data).flowFree = s.flowFree := rfl
@[simp] theorem respond_xlat (s : State) (u : Chip) (r : Nat) (err : Bool) (data : Nat) : (s.respond u r err data).xlat = s.xlat := rfl
@[simp] theorem respond_flatStage (s : State) (u : Chip) (r : Nat) (err : Bool) (data : Nat) : (s.respond u r err data).flatStage = s.flatStage := rfl
@[simp] theorem respond_jobStage (s : State) (u : Chip) (r : Nat) (err : Bool) (data : Nat) : (s.respond u r err data).jobStage = s.jobStage := rfl
@[simp] theorem respond_natDel (s : State) (u : Chip) (r : Nat) (err : Bool) (data : Nat) : (s.respond u r err data).natDel = s.natDel := rfl
@[simp] theorem respond_jobs (s : State) (u : Chip) (r : Nat) (err : Bool) (data : Nat) : (s.respond u r err data).jobs = s.jobs := rfl
@[simp] theorem respond_insts (s : State) (u : Chip) (r : Nat) (err : Bool) (data : Nat) : (s.respond u r err data).insts = s.insts := rfl
@[simp] theorem respond_bcasts (s : State) (u : Chip) (r : Nat) (err : Bool) (data : Nat) : (s.respond u r err data).bcasts = s.bcasts := rfl
@[simp] theorem respond_jsRuns (s : State) (u : Chip) (r : Nat) (err : Bool) (data : Nat) : (s.respond u r err data).jsRuns = s.jsRuns := rfl
@[simp] theorem respond_stepHist (s : State) (u : Chip) (r : Nat) (err : Bool) (data : Nat) : (s.respond u r err data).stepHist = s.stepHist := rfl
@[simp] theorem respond_govSeen (s : State) (u : Chip) (r : Nat) (err : Bool) (data : Nat) : (s.respond u r err data).govSeen = s.govSeen := rfl
@[simp] theorem respond_rxFlows (s : State) (u : Chip) (r : Nat) (err : Bool) (data : Nat) : (s.respond u r err data).rxFlows = s.rxFlows := rfl
@[simp] theorem respond_ctxs (s : State) (u : Chip) (r : Nat) (err : Bool) (data : Nat) : (s.respond u r err data).ctxs = s.ctxs := rfl
@[simp] theorem respond_ingest (s : State) (u : Chip) (r : Nat) (err : Bool) (data : Nat) : (s.respond u r err data).ingest = s.ingest := rfl
@[simp] theorem respond_ingestWait (s : State) (u : Chip) (r : Nat) (err : Bool) (data : Nat) : (s.respond u r err data).ingestWait = s.ingestWait := rfl
@[simp] theorem respond_healthBuf (s : State) (u : Chip) (r : Nat) (err : Bool) (data : Nat) : (s.respond u r err data).healthBuf = s.healthBuf := rfl
@[simp] theorem respond_lensSlots (s : State) (u : Chip) (r : Nat) (err : Bool) (data : Nat) : (s.respond u r err data).lensSlots = s.lensSlots := rfl
@[simp] theorem respond_lensOpen (s : State) (u : Chip) (r : Nat) (err : Bool) (data : Nat) : (s.respond u r err data).lensOpen = s.lensOpen := rfl
@[simp] theorem respond_lensClosed (s : State) (u : Chip) (r : Nat) (err : Bool) (data : Nat) : (s.respond u r err data).lensClosed = s.lensClosed := rfl
@[simp] theorem respond_lensHolds (s : State) (u : Chip) (r : Nat) (err : Bool) (data : Nat) : (s.respond u r err data).lensHolds = s.lensHolds := rfl
@[simp] theorem respond_lensExport (s : State) (u : Chip) (r : Nat) (err : Bool) (data : Nat) : (s.respond u r err data).lensExport = s.lensExport := rfl
@[simp] theorem respond_metrics (s : State) (u : Chip) (r : Nat) (err : Bool) (data : Nat) : (s.respond u r err data).metrics = s.metrics := rfl
@[simp] theorem respond_mboxes (s : State) (u : Chip) (r : Nat) (err : Bool) (data : Nat) : (s.respond u r err data).mboxes = s.mboxes := rfl
@[simp] theorem respond_mboxSend (s : State) (u : Chip) (r : Nat) (err : Bool) (data : Nat) : (s.respond u r err data).mboxSend = s.mboxSend := rfl
@[simp] theorem respond_imem (s : State) (u : Chip) (r : Nat) (err : Bool) (data : Nat) : (s.respond u r err data).imem = s.imem := rfl
@[simp] theorem respond_dmem (s : State) (u : Chip) (r : Nat) (err : Bool) (data : Nat) : (s.respond u r err data).dmem = s.dmem := rfl
@[simp] theorem respond_imgBuf (s : State) (u : Chip) (r : Nat) (err : Bool) (data : Nat) : (s.respond u r err data).imgBuf = s.imgBuf := rfl
@[simp] theorem respond_imgHash (s : State) (u : Chip) (r : Nat) (err : Bool) (data : Nat) : (s.respond u r err data).imgHash = s.imgHash := rfl
@[simp] theorem respond_corrected (s : State) (u : Chip) (r : Nat) (err : Bool) (data : Nat) : (s.respond u r err data).corrected = s.corrected := rfl
@[simp] theorem respond_mirrorWin (s : State) (u : Chip) (r : Nat) (err : Bool) (data : Nat) : (s.respond u r err data).mirrorWin = s.mirrorWin := rfl
@[simp] theorem respond_recent (s : State) (u : Chip) (r : Nat) (err : Bool) (data : Nat) : (s.respond u r err data).recent = s.recent := rfl
@[simp] theorem respond_field (s : State) (u : Chip) (r : Nat) (err : Bool) (data : Nat) : (s.respond u r err data).field = s.field := rfl
@[simp] theorem respond_barHost (s : State) (u : Chip) (r : Nat) (err : Bool) (data : Nat) : (s.respond u r err data).barHost = s.barHost := rfl
@[simp] theorem respond_barEcho (s : State) (u : Chip) (r : Nat) (err : Bool) (data : Nat) : (s.respond u r err data).barEcho = s.barEcho := rfl

@[simp] theorem setTx_pending (s : State) (u : Chip) (b : Blk) (l : List TxFrame) : (s.setTx u b l).pending = s.pending := rfl
@[simp] theorem setTx_size (s : State) (u : Chip) (b : Blk) (l : List TxFrame) : (s.setTx u b l).size = s.size := rfl
@[simp] theorem setTx_regs (s : State) (u : Chip) (b : Blk) (l : List TxFrame) : (s.setTx u b l).regs = s.regs := rfl
@[simp] theorem setTx_held (s : State) (u : Chip) (b : Blk) (l : List TxFrame) : (s.setTx u b l).held = s.held := rfl
@[simp] theorem setTx_heldRead (s : State) (u : Chip) (b : Blk) (l : List TxFrame) : (s.setTx u b l).heldRead = s.heldRead := rfl
@[simp] theorem setTx_now (s : State) (u : Chip) (b : Blk) (l : List TxFrame) : (s.setTx u b l).now = s.now := rfl
@[simp] theorem setTx_freeCtr (s : State) (u : Chip) (b : Blk) (l : List TxFrame) : (s.setTx u b l).freeCtr = s.freeCtr := rfl
@[simp] theorem setTx_out (s : State) (u : Chip) (b : Blk) (l : List TxFrame) : (s.setTx u b l).out = s.out := rfl
@[simp] theorem setTx_latches (s : State) (u : Chip) (b : Blk) (l : List TxFrame) : (s.setTx u b l).latches = s.latches := rfl
@[simp] theorem setTx_buffers (s : State) (u : Chip) (b : Blk) (l : List TxFrame) : (s.setTx u b l).buffers = s.buffers := rfl
@[simp] theorem setTx_msixTable (s : State) (u : Chip) (b : Blk) (l : List TxFrame) : (s.setTx u b l).msixTable = s.msixTable := rfl
@[simp] theorem setTx_pba (s : State) (u : Chip) (b : Blk) (l : List TxFrame) : (s.setTx u b l).pba = s.pba := rfl
@[simp] theorem setTx_evRing (s : State) (u : Chip) (b : Blk) (l : List TxFrame) : (s.setTx u b l).evRing = s.evRing := rfl
@[simp] theorem setTx_staging (s : State) (u : Chip) (b : Blk) (l : List TxFrame) : (s.setTx u b l).staging = s.staging := rfl
@[simp] theorem setTx_bbxPartial (s : State) (u : Chip) (b : Blk) (l : List TxFrame) : (s.setTx u b l).bbxPartial = s.bbxPartial := rfl
@[simp] theorem setTx_bbxPages (s : State) (u : Chip) (b : Blk) (l : List TxFrame) : (s.setTx u b l).bbxPages = s.bbxPages := rfl
@[simp] theorem setTx_gasps (s : State) (u : Chip) (b : Blk) (l : List TxFrame) : (s.setTx u b l).gasps = s.gasps := rfl
@[simp] theorem setTx_norSpare (s : State) (u : Chip) (b : Blk) (l : List TxFrame) : (s.setTx u b l).norSpare = s.norSpare := rfl
@[simp] theorem setTx_norWithdrawn (s : State) (u : Chip) (b : Blk) (l : List TxFrame) : (s.setTx u b l).norWithdrawn = s.norWithdrawn := rfl
@[simp] theorem setTx_norErases (s : State) (u : Chip) (b : Blk) (l : List TxFrame) : (s.setTx u b l).norErases = s.norErases := rfl
@[simp] theorem setTx_norMap (s : State) (u : Chip) (b : Blk) (l : List TxFrame) : (s.setTx u b l).norMap = s.norMap := rfl
@[simp] theorem setTx_bbxShrunk (s : State) (u : Chip) (b : Blk) (l : List TxFrame) : (s.setTx u b l).bbxShrunk = s.bbxShrunk := rfl
@[simp] theorem setTx_notices (s : State) (u : Chip) (b : Blk) (l : List TxFrame) : (s.setTx u b l).notices = s.notices := rfl
@[simp] theorem setTx_windows (s : State) (u : Chip) (b : Blk) (l : List TxFrame) : (s.setTx u b l).windows = s.windows := rfl
@[simp] theorem setTx_episodes (s : State) (u : Chip) (b : Blk) (l : List TxFrame) : (s.setTx u b l).episodes = s.episodes := rfl
@[simp] theorem setTx_dram (s : State) (u : Chip) (b : Blk) (l : List TxFrame) : (s.setTx u b l).dram = s.dram := rfl
@[simp] theorem setTx_poisoned (s : State) (u : Chip) (b : Blk) (l : List TxFrame) : (s.setTx u b l).poisoned = s.poisoned := rfl
@[simp] theorem setTx_nor (s : State) (u : Chip) (b : Blk) (l : List TxFrame) : (s.setTx u b l).nor = s.nor := rfl
@[simp] theorem setTx_mram (s : State) (u : Chip) (b : Blk) (l : List TxFrame) : (s.setTx u b l).mram = s.mram := rfl
@[simp] theorem setTx_ltc (s : State) (u : Chip) (b : Blk) (l : List TxFrame) : (s.setTx u b l).ltc = s.ltc := rfl
@[simp] theorem setTx_servo (s : State) (u : Chip) (b : Blk) (l : List TxFrame) : (s.setTx u b l).servo = s.servo := rfl
@[simp] theorem setTx_meridian (s : State) (u : Chip) (b : Blk) (l : List TxFrame) : (s.setTx u b l).meridian = s.meridian := rfl
@[simp] theorem setTx_exchanges (s : State) (u : Chip) (b : Blk) (l : List TxFrame) : (s.setTx u b l).exchanges = s.exchanges := rfl
@[simp] theorem setTx_tagQueue (s : State) (u : Chip) (b : Blk) (l : List TxFrame) : (s.setTx u b l).tagQueue = s.tagQueue := rfl
@[simp] theorem setTx_snap (s : State) (u : Chip) (b : Blk) (l : List TxFrame) : (s.setTx u b l).snap = s.snap := rfl
@[simp] theorem setTx_streams (s : State) (u : Chip) (b : Blk) (l : List TxFrame) : (s.setTx u b l).streams = s.streams := rfl
@[simp] theorem setTx_tiles (s : State) (u : Chip) (b : Blk) (l : List TxFrame) : (s.setTx u b l).tiles = s.tiles := rfl
@[simp] theorem setTx_mmGens (s : State) (u : Chip) (b : Blk) (l : List TxFrame) : (s.setTx u b l).mmGens = s.mmGens := rfl
@[simp] theorem setTx_watch (s : State) (u : Chip) (b : Blk) (l : List TxFrame) : (s.setTx u b l).watch = s.watch := rfl
@[simp] theorem setTx_rails (s : State) (u : Chip) (b : Blk) (l : List TxFrame) : (s.setTx u b l).rails = s.rails := rfl
@[simp] theorem setTx_change (s : State) (u : Chip) (b : Blk) (l : List TxFrame) : (s.setTx u b l).change = s.change := rfl
@[simp] theorem setTx_reports (s : State) (u : Chip) (b : Blk) (l : List TxFrame) : (s.setTx u b l).reports = s.reports := rfl
@[simp] theorem setTx_epochs (s : State) (u : Chip) (b : Blk) (l : List TxFrame) : (s.setTx u b l).epochs = s.epochs := rfl
@[simp] theorem setTx_prismHeld (s : State) (u : Chip) (b : Blk) (l : List TxFrame) : (s.setTx u b l).prismHeld = s.prismHeld := rfl
@[simp] theorem setTx_proxies (s : State) (u : Chip) (b : Blk) (l : List TxFrame) : (s.setTx u b l).proxies = s.proxies := rfl
@[simp] theorem setTx_gaps (s : State) (u : Chip) (b : Blk) (l : List TxFrame) : (s.setTx u b l).gaps = s.gaps := rfl
@[simp] theorem setTx_noticeGens (s : State) (u : Chip) (b : Blk) (l : List TxFrame) : (s.setTx u b l).noticeGens = s.noticeGens := rfl
@[simp] theorem setTx_egress (s : State) (u : Chip) (b : Blk) (l : List TxFrame) : (s.setTx u b l).egress = s.egress := rfl
@[simp] theorem setTx_txFlows (s : State) (u : Chip) (b : Blk) (l : List TxFrame) : (s.setTx u b l).txFlows = s.txFlows := rfl
@[simp] theorem setTx_flowFree (s : State) (u : Chip) (b : Blk) (l : List TxFrame) : (s.setTx u b l).flowFree = s.flowFree := rfl
@[simp] theorem setTx_xlat (s : State) (u : Chip) (b : Blk) (l : List TxFrame) : (s.setTx u b l).xlat = s.xlat := rfl
@[simp] theorem setTx_flatStage (s : State) (u : Chip) (b : Blk) (l : List TxFrame) : (s.setTx u b l).flatStage = s.flatStage := rfl
@[simp] theorem setTx_jobStage (s : State) (u : Chip) (b : Blk) (l : List TxFrame) : (s.setTx u b l).jobStage = s.jobStage := rfl
@[simp] theorem setTx_natDel (s : State) (u : Chip) (b : Blk) (l : List TxFrame) : (s.setTx u b l).natDel = s.natDel := rfl
@[simp] theorem setTx_jobs (s : State) (u : Chip) (b : Blk) (l : List TxFrame) : (s.setTx u b l).jobs = s.jobs := rfl
@[simp] theorem setTx_insts (s : State) (u : Chip) (b : Blk) (l : List TxFrame) : (s.setTx u b l).insts = s.insts := rfl
@[simp] theorem setTx_bcasts (s : State) (u : Chip) (b : Blk) (l : List TxFrame) : (s.setTx u b l).bcasts = s.bcasts := rfl
@[simp] theorem setTx_jsRuns (s : State) (u : Chip) (b : Blk) (l : List TxFrame) : (s.setTx u b l).jsRuns = s.jsRuns := rfl
@[simp] theorem setTx_stepHist (s : State) (u : Chip) (b : Blk) (l : List TxFrame) : (s.setTx u b l).stepHist = s.stepHist := rfl
@[simp] theorem setTx_govSeen (s : State) (u : Chip) (b : Blk) (l : List TxFrame) : (s.setTx u b l).govSeen = s.govSeen := rfl
@[simp] theorem setTx_rxFlows (s : State) (u : Chip) (b : Blk) (l : List TxFrame) : (s.setTx u b l).rxFlows = s.rxFlows := rfl
@[simp] theorem setTx_ctxs (s : State) (u : Chip) (b : Blk) (l : List TxFrame) : (s.setTx u b l).ctxs = s.ctxs := rfl
@[simp] theorem setTx_ingest (s : State) (u : Chip) (b : Blk) (l : List TxFrame) : (s.setTx u b l).ingest = s.ingest := rfl
@[simp] theorem setTx_ingestWait (s : State) (u : Chip) (b : Blk) (l : List TxFrame) : (s.setTx u b l).ingestWait = s.ingestWait := rfl
@[simp] theorem setTx_healthBuf (s : State) (u : Chip) (b : Blk) (l : List TxFrame) : (s.setTx u b l).healthBuf = s.healthBuf := rfl
@[simp] theorem setTx_lensSlots (s : State) (u : Chip) (b : Blk) (l : List TxFrame) : (s.setTx u b l).lensSlots = s.lensSlots := rfl
@[simp] theorem setTx_lensOpen (s : State) (u : Chip) (b : Blk) (l : List TxFrame) : (s.setTx u b l).lensOpen = s.lensOpen := rfl
@[simp] theorem setTx_lensClosed (s : State) (u : Chip) (b : Blk) (l : List TxFrame) : (s.setTx u b l).lensClosed = s.lensClosed := rfl
@[simp] theorem setTx_lensHolds (s : State) (u : Chip) (b : Blk) (l : List TxFrame) : (s.setTx u b l).lensHolds = s.lensHolds := rfl
@[simp] theorem setTx_lensExport (s : State) (u : Chip) (b : Blk) (l : List TxFrame) : (s.setTx u b l).lensExport = s.lensExport := rfl
@[simp] theorem setTx_metrics (s : State) (u : Chip) (b : Blk) (l : List TxFrame) : (s.setTx u b l).metrics = s.metrics := rfl
@[simp] theorem setTx_mboxes (s : State) (u : Chip) (b : Blk) (l : List TxFrame) : (s.setTx u b l).mboxes = s.mboxes := rfl
@[simp] theorem setTx_mboxSend (s : State) (u : Chip) (b : Blk) (l : List TxFrame) : (s.setTx u b l).mboxSend = s.mboxSend := rfl
@[simp] theorem setTx_imem (s : State) (u : Chip) (b : Blk) (l : List TxFrame) : (s.setTx u b l).imem = s.imem := rfl
@[simp] theorem setTx_dmem (s : State) (u : Chip) (b : Blk) (l : List TxFrame) : (s.setTx u b l).dmem = s.dmem := rfl
@[simp] theorem setTx_imgBuf (s : State) (u : Chip) (b : Blk) (l : List TxFrame) : (s.setTx u b l).imgBuf = s.imgBuf := rfl
@[simp] theorem setTx_imgHash (s : State) (u : Chip) (b : Blk) (l : List TxFrame) : (s.setTx u b l).imgHash = s.imgHash := rfl
@[simp] theorem setTx_corrected (s : State) (u : Chip) (b : Blk) (l : List TxFrame) : (s.setTx u b l).corrected = s.corrected := rfl
@[simp] theorem setTx_mirrorWin (s : State) (u : Chip) (b : Blk) (l : List TxFrame) : (s.setTx u b l).mirrorWin = s.mirrorWin := rfl
@[simp] theorem setTx_recent (s : State) (u : Chip) (b : Blk) (l : List TxFrame) : (s.setTx u b l).recent = s.recent := rfl
@[simp] theorem setTx_field (s : State) (u : Chip) (b : Blk) (l : List TxFrame) : (s.setTx u b l).field = s.field := rfl
@[simp] theorem setTx_barHost (s : State) (u : Chip) (b : Blk) (l : List TxFrame) : (s.setTx u b l).barHost = s.barHost := rfl
@[simp] theorem setTx_barEcho (s : State) (u : Chip) (b : Blk) (l : List TxFrame) : (s.setTx u b l).barEcho = s.barEcho := rfl

@[simp] theorem setHeld_pending (s : State) (u : Chip) (l : List HeldFrame) : (s.setHeld u l).pending = s.pending := rfl
@[simp] theorem setHeld_size (s : State) (u : Chip) (l : List HeldFrame) : (s.setHeld u l).size = s.size := rfl
@[simp] theorem setHeld_regs (s : State) (u : Chip) (l : List HeldFrame) : (s.setHeld u l).regs = s.regs := rfl
@[simp] theorem setHeld_held (s : State) (u : Chip) (l : List HeldFrame) : (s.setHeld u l).held = s.held := rfl
@[simp] theorem setHeld_heldRead (s : State) (u : Chip) (l : List HeldFrame) : (s.setHeld u l).heldRead = s.heldRead := rfl
@[simp] theorem setHeld_now (s : State) (u : Chip) (l : List HeldFrame) : (s.setHeld u l).now = s.now := rfl
@[simp] theorem setHeld_freeCtr (s : State) (u : Chip) (l : List HeldFrame) : (s.setHeld u l).freeCtr = s.freeCtr := rfl
@[simp] theorem setHeld_out (s : State) (u : Chip) (l : List HeldFrame) : (s.setHeld u l).out = s.out := rfl
@[simp] theorem setHeld_latches (s : State) (u : Chip) (l : List HeldFrame) : (s.setHeld u l).latches = s.latches := rfl
@[simp] theorem setHeld_buffers (s : State) (u : Chip) (l : List HeldFrame) : (s.setHeld u l).buffers = s.buffers := rfl
@[simp] theorem setHeld_msixTable (s : State) (u : Chip) (l : List HeldFrame) : (s.setHeld u l).msixTable = s.msixTable := rfl
@[simp] theorem setHeld_pba (s : State) (u : Chip) (l : List HeldFrame) : (s.setHeld u l).pba = s.pba := rfl
@[simp] theorem setHeld_evRing (s : State) (u : Chip) (l : List HeldFrame) : (s.setHeld u l).evRing = s.evRing := rfl
@[simp] theorem setHeld_staging (s : State) (u : Chip) (l : List HeldFrame) : (s.setHeld u l).staging = s.staging := rfl
@[simp] theorem setHeld_bbxPartial (s : State) (u : Chip) (l : List HeldFrame) : (s.setHeld u l).bbxPartial = s.bbxPartial := rfl
@[simp] theorem setHeld_bbxPages (s : State) (u : Chip) (l : List HeldFrame) : (s.setHeld u l).bbxPages = s.bbxPages := rfl
@[simp] theorem setHeld_gasps (s : State) (u : Chip) (l : List HeldFrame) : (s.setHeld u l).gasps = s.gasps := rfl
@[simp] theorem setHeld_norSpare (s : State) (u : Chip) (l : List HeldFrame) : (s.setHeld u l).norSpare = s.norSpare := rfl
@[simp] theorem setHeld_norWithdrawn (s : State) (u : Chip) (l : List HeldFrame) : (s.setHeld u l).norWithdrawn = s.norWithdrawn := rfl
@[simp] theorem setHeld_norErases (s : State) (u : Chip) (l : List HeldFrame) : (s.setHeld u l).norErases = s.norErases := rfl
@[simp] theorem setHeld_norMap (s : State) (u : Chip) (l : List HeldFrame) : (s.setHeld u l).norMap = s.norMap := rfl
@[simp] theorem setHeld_bbxShrunk (s : State) (u : Chip) (l : List HeldFrame) : (s.setHeld u l).bbxShrunk = s.bbxShrunk := rfl
@[simp] theorem setHeld_notices (s : State) (u : Chip) (l : List HeldFrame) : (s.setHeld u l).notices = s.notices := rfl
@[simp] theorem setHeld_windows (s : State) (u : Chip) (l : List HeldFrame) : (s.setHeld u l).windows = s.windows := rfl
@[simp] theorem setHeld_episodes (s : State) (u : Chip) (l : List HeldFrame) : (s.setHeld u l).episodes = s.episodes := rfl
@[simp] theorem setHeld_dram (s : State) (u : Chip) (l : List HeldFrame) : (s.setHeld u l).dram = s.dram := rfl
@[simp] theorem setHeld_poisoned (s : State) (u : Chip) (l : List HeldFrame) : (s.setHeld u l).poisoned = s.poisoned := rfl
@[simp] theorem setHeld_nor (s : State) (u : Chip) (l : List HeldFrame) : (s.setHeld u l).nor = s.nor := rfl
@[simp] theorem setHeld_mram (s : State) (u : Chip) (l : List HeldFrame) : (s.setHeld u l).mram = s.mram := rfl
@[simp] theorem setHeld_ltc (s : State) (u : Chip) (l : List HeldFrame) : (s.setHeld u l).ltc = s.ltc := rfl
@[simp] theorem setHeld_servo (s : State) (u : Chip) (l : List HeldFrame) : (s.setHeld u l).servo = s.servo := rfl
@[simp] theorem setHeld_meridian (s : State) (u : Chip) (l : List HeldFrame) : (s.setHeld u l).meridian = s.meridian := rfl
@[simp] theorem setHeld_exchanges (s : State) (u : Chip) (l : List HeldFrame) : (s.setHeld u l).exchanges = s.exchanges := rfl
@[simp] theorem setHeld_tagQueue (s : State) (u : Chip) (l : List HeldFrame) : (s.setHeld u l).tagQueue = s.tagQueue := rfl
@[simp] theorem setHeld_snap (s : State) (u : Chip) (l : List HeldFrame) : (s.setHeld u l).snap = s.snap := rfl
@[simp] theorem setHeld_streams (s : State) (u : Chip) (l : List HeldFrame) : (s.setHeld u l).streams = s.streams := rfl
@[simp] theorem setHeld_tiles (s : State) (u : Chip) (l : List HeldFrame) : (s.setHeld u l).tiles = s.tiles := rfl
@[simp] theorem setHeld_mmGens (s : State) (u : Chip) (l : List HeldFrame) : (s.setHeld u l).mmGens = s.mmGens := rfl
@[simp] theorem setHeld_watch (s : State) (u : Chip) (l : List HeldFrame) : (s.setHeld u l).watch = s.watch := rfl
@[simp] theorem setHeld_rails (s : State) (u : Chip) (l : List HeldFrame) : (s.setHeld u l).rails = s.rails := rfl
@[simp] theorem setHeld_change (s : State) (u : Chip) (l : List HeldFrame) : (s.setHeld u l).change = s.change := rfl
@[simp] theorem setHeld_reports (s : State) (u : Chip) (l : List HeldFrame) : (s.setHeld u l).reports = s.reports := rfl
@[simp] theorem setHeld_epochs (s : State) (u : Chip) (l : List HeldFrame) : (s.setHeld u l).epochs = s.epochs := rfl
@[simp] theorem setHeld_txq (s : State) (u : Chip) (l : List HeldFrame) : (s.setHeld u l).txq = s.txq := rfl
@[simp] theorem setHeld_proxies (s : State) (u : Chip) (l : List HeldFrame) : (s.setHeld u l).proxies = s.proxies := rfl
@[simp] theorem setHeld_gaps (s : State) (u : Chip) (l : List HeldFrame) : (s.setHeld u l).gaps = s.gaps := rfl
@[simp] theorem setHeld_noticeGens (s : State) (u : Chip) (l : List HeldFrame) : (s.setHeld u l).noticeGens = s.noticeGens := rfl
@[simp] theorem setHeld_egress (s : State) (u : Chip) (l : List HeldFrame) : (s.setHeld u l).egress = s.egress := rfl
@[simp] theorem setHeld_txFlows (s : State) (u : Chip) (l : List HeldFrame) : (s.setHeld u l).txFlows = s.txFlows := rfl
@[simp] theorem setHeld_flowFree (s : State) (u : Chip) (l : List HeldFrame) : (s.setHeld u l).flowFree = s.flowFree := rfl
@[simp] theorem setHeld_xlat (s : State) (u : Chip) (l : List HeldFrame) : (s.setHeld u l).xlat = s.xlat := rfl
@[simp] theorem setHeld_flatStage (s : State) (u : Chip) (l : List HeldFrame) : (s.setHeld u l).flatStage = s.flatStage := rfl
@[simp] theorem setHeld_jobStage (s : State) (u : Chip) (l : List HeldFrame) : (s.setHeld u l).jobStage = s.jobStage := rfl
@[simp] theorem setHeld_natDel (s : State) (u : Chip) (l : List HeldFrame) : (s.setHeld u l).natDel = s.natDel := rfl
@[simp] theorem setHeld_jobs (s : State) (u : Chip) (l : List HeldFrame) : (s.setHeld u l).jobs = s.jobs := rfl
@[simp] theorem setHeld_insts (s : State) (u : Chip) (l : List HeldFrame) : (s.setHeld u l).insts = s.insts := rfl
@[simp] theorem setHeld_bcasts (s : State) (u : Chip) (l : List HeldFrame) : (s.setHeld u l).bcasts = s.bcasts := rfl
@[simp] theorem setHeld_jsRuns (s : State) (u : Chip) (l : List HeldFrame) : (s.setHeld u l).jsRuns = s.jsRuns := rfl
@[simp] theorem setHeld_stepHist (s : State) (u : Chip) (l : List HeldFrame) : (s.setHeld u l).stepHist = s.stepHist := rfl
@[simp] theorem setHeld_govSeen (s : State) (u : Chip) (l : List HeldFrame) : (s.setHeld u l).govSeen = s.govSeen := rfl
@[simp] theorem setHeld_rxFlows (s : State) (u : Chip) (l : List HeldFrame) : (s.setHeld u l).rxFlows = s.rxFlows := rfl
@[simp] theorem setHeld_ctxs (s : State) (u : Chip) (l : List HeldFrame) : (s.setHeld u l).ctxs = s.ctxs := rfl
@[simp] theorem setHeld_ingest (s : State) (u : Chip) (l : List HeldFrame) : (s.setHeld u l).ingest = s.ingest := rfl
@[simp] theorem setHeld_ingestWait (s : State) (u : Chip) (l : List HeldFrame) : (s.setHeld u l).ingestWait = s.ingestWait := rfl
@[simp] theorem setHeld_healthBuf (s : State) (u : Chip) (l : List HeldFrame) : (s.setHeld u l).healthBuf = s.healthBuf := rfl
@[simp] theorem setHeld_lensSlots (s : State) (u : Chip) (l : List HeldFrame) : (s.setHeld u l).lensSlots = s.lensSlots := rfl
@[simp] theorem setHeld_lensOpen (s : State) (u : Chip) (l : List HeldFrame) : (s.setHeld u l).lensOpen = s.lensOpen := rfl
@[simp] theorem setHeld_lensClosed (s : State) (u : Chip) (l : List HeldFrame) : (s.setHeld u l).lensClosed = s.lensClosed := rfl
@[simp] theorem setHeld_lensHolds (s : State) (u : Chip) (l : List HeldFrame) : (s.setHeld u l).lensHolds = s.lensHolds := rfl
@[simp] theorem setHeld_lensExport (s : State) (u : Chip) (l : List HeldFrame) : (s.setHeld u l).lensExport = s.lensExport := rfl
@[simp] theorem setHeld_metrics (s : State) (u : Chip) (l : List HeldFrame) : (s.setHeld u l).metrics = s.metrics := rfl
@[simp] theorem setHeld_mboxes (s : State) (u : Chip) (l : List HeldFrame) : (s.setHeld u l).mboxes = s.mboxes := rfl
@[simp] theorem setHeld_mboxSend (s : State) (u : Chip) (l : List HeldFrame) : (s.setHeld u l).mboxSend = s.mboxSend := rfl
@[simp] theorem setHeld_imem (s : State) (u : Chip) (l : List HeldFrame) : (s.setHeld u l).imem = s.imem := rfl
@[simp] theorem setHeld_dmem (s : State) (u : Chip) (l : List HeldFrame) : (s.setHeld u l).dmem = s.dmem := rfl
@[simp] theorem setHeld_imgBuf (s : State) (u : Chip) (l : List HeldFrame) : (s.setHeld u l).imgBuf = s.imgBuf := rfl
@[simp] theorem setHeld_imgHash (s : State) (u : Chip) (l : List HeldFrame) : (s.setHeld u l).imgHash = s.imgHash := rfl
@[simp] theorem setHeld_corrected (s : State) (u : Chip) (l : List HeldFrame) : (s.setHeld u l).corrected = s.corrected := rfl
@[simp] theorem setHeld_mirrorWin (s : State) (u : Chip) (l : List HeldFrame) : (s.setHeld u l).mirrorWin = s.mirrorWin := rfl
@[simp] theorem setHeld_recent (s : State) (u : Chip) (l : List HeldFrame) : (s.setHeld u l).recent = s.recent := rfl
@[simp] theorem setHeld_field (s : State) (u : Chip) (l : List HeldFrame) : (s.setHeld u l).field = s.field := rfl
@[simp] theorem setHeld_barHost (s : State) (u : Chip) (l : List HeldFrame) : (s.setHeld u l).barHost = s.barHost := rfl
@[simp] theorem setHeld_barEcho (s : State) (u : Chip) (l : List HeldFrame) : (s.setHeld u l).barEcho = s.barEcho := rfl

@[simp] theorem setLtc_pending (s : State) (u : Chip) (l : Ltc) : (s.setLtc u l).pending = s.pending := rfl
@[simp] theorem setLtc_size (s : State) (u : Chip) (l : Ltc) : (s.setLtc u l).size = s.size := rfl
@[simp] theorem setLtc_regs (s : State) (u : Chip) (l : Ltc) : (s.setLtc u l).regs = s.regs := rfl
@[simp] theorem setLtc_held (s : State) (u : Chip) (l : Ltc) : (s.setLtc u l).held = s.held := rfl
@[simp] theorem setLtc_heldRead (s : State) (u : Chip) (l : Ltc) : (s.setLtc u l).heldRead = s.heldRead := rfl
@[simp] theorem setLtc_now (s : State) (u : Chip) (l : Ltc) : (s.setLtc u l).now = s.now := rfl
@[simp] theorem setLtc_freeCtr (s : State) (u : Chip) (l : Ltc) : (s.setLtc u l).freeCtr = s.freeCtr := rfl
@[simp] theorem setLtc_out (s : State) (u : Chip) (l : Ltc) : (s.setLtc u l).out = s.out := rfl
@[simp] theorem setLtc_latches (s : State) (u : Chip) (l : Ltc) : (s.setLtc u l).latches = s.latches := rfl
@[simp] theorem setLtc_buffers (s : State) (u : Chip) (l : Ltc) : (s.setLtc u l).buffers = s.buffers := rfl
@[simp] theorem setLtc_msixTable (s : State) (u : Chip) (l : Ltc) : (s.setLtc u l).msixTable = s.msixTable := rfl
@[simp] theorem setLtc_pba (s : State) (u : Chip) (l : Ltc) : (s.setLtc u l).pba = s.pba := rfl
@[simp] theorem setLtc_evRing (s : State) (u : Chip) (l : Ltc) : (s.setLtc u l).evRing = s.evRing := rfl
@[simp] theorem setLtc_staging (s : State) (u : Chip) (l : Ltc) : (s.setLtc u l).staging = s.staging := rfl
@[simp] theorem setLtc_bbxPartial (s : State) (u : Chip) (l : Ltc) : (s.setLtc u l).bbxPartial = s.bbxPartial := rfl
@[simp] theorem setLtc_bbxPages (s : State) (u : Chip) (l : Ltc) : (s.setLtc u l).bbxPages = s.bbxPages := rfl
@[simp] theorem setLtc_gasps (s : State) (u : Chip) (l : Ltc) : (s.setLtc u l).gasps = s.gasps := rfl
@[simp] theorem setLtc_norSpare (s : State) (u : Chip) (l : Ltc) : (s.setLtc u l).norSpare = s.norSpare := rfl
@[simp] theorem setLtc_norWithdrawn (s : State) (u : Chip) (l : Ltc) : (s.setLtc u l).norWithdrawn = s.norWithdrawn := rfl
@[simp] theorem setLtc_norErases (s : State) (u : Chip) (l : Ltc) : (s.setLtc u l).norErases = s.norErases := rfl
@[simp] theorem setLtc_norMap (s : State) (u : Chip) (l : Ltc) : (s.setLtc u l).norMap = s.norMap := rfl
@[simp] theorem setLtc_bbxShrunk (s : State) (u : Chip) (l : Ltc) : (s.setLtc u l).bbxShrunk = s.bbxShrunk := rfl
@[simp] theorem setLtc_notices (s : State) (u : Chip) (l : Ltc) : (s.setLtc u l).notices = s.notices := rfl
@[simp] theorem setLtc_windows (s : State) (u : Chip) (l : Ltc) : (s.setLtc u l).windows = s.windows := rfl
@[simp] theorem setLtc_episodes (s : State) (u : Chip) (l : Ltc) : (s.setLtc u l).episodes = s.episodes := rfl
@[simp] theorem setLtc_dram (s : State) (u : Chip) (l : Ltc) : (s.setLtc u l).dram = s.dram := rfl
@[simp] theorem setLtc_poisoned (s : State) (u : Chip) (l : Ltc) : (s.setLtc u l).poisoned = s.poisoned := rfl
@[simp] theorem setLtc_nor (s : State) (u : Chip) (l : Ltc) : (s.setLtc u l).nor = s.nor := rfl
@[simp] theorem setLtc_mram (s : State) (u : Chip) (l : Ltc) : (s.setLtc u l).mram = s.mram := rfl
@[simp] theorem setLtc_servo (s : State) (u : Chip) (l : Ltc) : (s.setLtc u l).servo = s.servo := rfl
@[simp] theorem setLtc_meridian (s : State) (u : Chip) (l : Ltc) : (s.setLtc u l).meridian = s.meridian := rfl
@[simp] theorem setLtc_exchanges (s : State) (u : Chip) (l : Ltc) : (s.setLtc u l).exchanges = s.exchanges := rfl
@[simp] theorem setLtc_tagQueue (s : State) (u : Chip) (l : Ltc) : (s.setLtc u l).tagQueue = s.tagQueue := rfl
@[simp] theorem setLtc_snap (s : State) (u : Chip) (l : Ltc) : (s.setLtc u l).snap = s.snap := rfl
@[simp] theorem setLtc_streams (s : State) (u : Chip) (l : Ltc) : (s.setLtc u l).streams = s.streams := rfl
@[simp] theorem setLtc_tiles (s : State) (u : Chip) (l : Ltc) : (s.setLtc u l).tiles = s.tiles := rfl
@[simp] theorem setLtc_mmGens (s : State) (u : Chip) (l : Ltc) : (s.setLtc u l).mmGens = s.mmGens := rfl
@[simp] theorem setLtc_watch (s : State) (u : Chip) (l : Ltc) : (s.setLtc u l).watch = s.watch := rfl
@[simp] theorem setLtc_rails (s : State) (u : Chip) (l : Ltc) : (s.setLtc u l).rails = s.rails := rfl
@[simp] theorem setLtc_change (s : State) (u : Chip) (l : Ltc) : (s.setLtc u l).change = s.change := rfl
@[simp] theorem setLtc_reports (s : State) (u : Chip) (l : Ltc) : (s.setLtc u l).reports = s.reports := rfl
@[simp] theorem setLtc_epochs (s : State) (u : Chip) (l : Ltc) : (s.setLtc u l).epochs = s.epochs := rfl
@[simp] theorem setLtc_txq (s : State) (u : Chip) (l : Ltc) : (s.setLtc u l).txq = s.txq := rfl
@[simp] theorem setLtc_prismHeld (s : State) (u : Chip) (l : Ltc) : (s.setLtc u l).prismHeld = s.prismHeld := rfl
@[simp] theorem setLtc_proxies (s : State) (u : Chip) (l : Ltc) : (s.setLtc u l).proxies = s.proxies := rfl
@[simp] theorem setLtc_gaps (s : State) (u : Chip) (l : Ltc) : (s.setLtc u l).gaps = s.gaps := rfl
@[simp] theorem setLtc_noticeGens (s : State) (u : Chip) (l : Ltc) : (s.setLtc u l).noticeGens = s.noticeGens := rfl
@[simp] theorem setLtc_egress (s : State) (u : Chip) (l : Ltc) : (s.setLtc u l).egress = s.egress := rfl
@[simp] theorem setLtc_txFlows (s : State) (u : Chip) (l : Ltc) : (s.setLtc u l).txFlows = s.txFlows := rfl
@[simp] theorem setLtc_flowFree (s : State) (u : Chip) (l : Ltc) : (s.setLtc u l).flowFree = s.flowFree := rfl
@[simp] theorem setLtc_xlat (s : State) (u : Chip) (l : Ltc) : (s.setLtc u l).xlat = s.xlat := rfl
@[simp] theorem setLtc_flatStage (s : State) (u : Chip) (l : Ltc) : (s.setLtc u l).flatStage = s.flatStage := rfl
@[simp] theorem setLtc_jobStage (s : State) (u : Chip) (l : Ltc) : (s.setLtc u l).jobStage = s.jobStage := rfl
@[simp] theorem setLtc_natDel (s : State) (u : Chip) (l : Ltc) : (s.setLtc u l).natDel = s.natDel := rfl
@[simp] theorem setLtc_jobs (s : State) (u : Chip) (l : Ltc) : (s.setLtc u l).jobs = s.jobs := rfl
@[simp] theorem setLtc_insts (s : State) (u : Chip) (l : Ltc) : (s.setLtc u l).insts = s.insts := rfl
@[simp] theorem setLtc_bcasts (s : State) (u : Chip) (l : Ltc) : (s.setLtc u l).bcasts = s.bcasts := rfl
@[simp] theorem setLtc_jsRuns (s : State) (u : Chip) (l : Ltc) : (s.setLtc u l).jsRuns = s.jsRuns := rfl
@[simp] theorem setLtc_stepHist (s : State) (u : Chip) (l : Ltc) : (s.setLtc u l).stepHist = s.stepHist := rfl
@[simp] theorem setLtc_govSeen (s : State) (u : Chip) (l : Ltc) : (s.setLtc u l).govSeen = s.govSeen := rfl
@[simp] theorem setLtc_rxFlows (s : State) (u : Chip) (l : Ltc) : (s.setLtc u l).rxFlows = s.rxFlows := rfl
@[simp] theorem setLtc_ctxs (s : State) (u : Chip) (l : Ltc) : (s.setLtc u l).ctxs = s.ctxs := rfl
@[simp] theorem setLtc_ingest (s : State) (u : Chip) (l : Ltc) : (s.setLtc u l).ingest = s.ingest := rfl
@[simp] theorem setLtc_ingestWait (s : State) (u : Chip) (l : Ltc) : (s.setLtc u l).ingestWait = s.ingestWait := rfl
@[simp] theorem setLtc_healthBuf (s : State) (u : Chip) (l : Ltc) : (s.setLtc u l).healthBuf = s.healthBuf := rfl
@[simp] theorem setLtc_lensSlots (s : State) (u : Chip) (l : Ltc) : (s.setLtc u l).lensSlots = s.lensSlots := rfl
@[simp] theorem setLtc_lensOpen (s : State) (u : Chip) (l : Ltc) : (s.setLtc u l).lensOpen = s.lensOpen := rfl
@[simp] theorem setLtc_lensClosed (s : State) (u : Chip) (l : Ltc) : (s.setLtc u l).lensClosed = s.lensClosed := rfl
@[simp] theorem setLtc_lensHolds (s : State) (u : Chip) (l : Ltc) : (s.setLtc u l).lensHolds = s.lensHolds := rfl
@[simp] theorem setLtc_lensExport (s : State) (u : Chip) (l : Ltc) : (s.setLtc u l).lensExport = s.lensExport := rfl
@[simp] theorem setLtc_metrics (s : State) (u : Chip) (l : Ltc) : (s.setLtc u l).metrics = s.metrics := rfl
@[simp] theorem setLtc_mboxes (s : State) (u : Chip) (l : Ltc) : (s.setLtc u l).mboxes = s.mboxes := rfl
@[simp] theorem setLtc_mboxSend (s : State) (u : Chip) (l : Ltc) : (s.setLtc u l).mboxSend = s.mboxSend := rfl
@[simp] theorem setLtc_imem (s : State) (u : Chip) (l : Ltc) : (s.setLtc u l).imem = s.imem := rfl
@[simp] theorem setLtc_dmem (s : State) (u : Chip) (l : Ltc) : (s.setLtc u l).dmem = s.dmem := rfl
@[simp] theorem setLtc_imgBuf (s : State) (u : Chip) (l : Ltc) : (s.setLtc u l).imgBuf = s.imgBuf := rfl
@[simp] theorem setLtc_imgHash (s : State) (u : Chip) (l : Ltc) : (s.setLtc u l).imgHash = s.imgHash := rfl
@[simp] theorem setLtc_corrected (s : State) (u : Chip) (l : Ltc) : (s.setLtc u l).corrected = s.corrected := rfl
@[simp] theorem setLtc_mirrorWin (s : State) (u : Chip) (l : Ltc) : (s.setLtc u l).mirrorWin = s.mirrorWin := rfl
@[simp] theorem setLtc_recent (s : State) (u : Chip) (l : Ltc) : (s.setLtc u l).recent = s.recent := rfl
@[simp] theorem setLtc_field (s : State) (u : Chip) (l : Ltc) : (s.setLtc u l).field = s.field := rfl
@[simp] theorem setLtc_barHost (s : State) (u : Chip) (l : Ltc) : (s.setLtc u l).barHost = s.barHost := rfl
@[simp] theorem setLtc_barEcho (s : State) (u : Chip) (l : Ltc) : (s.setLtc u l).barEcho = s.barEcho := rfl

@[simp] theorem setQueue_pending (s : State) (P q : Nat) (l : List EgFrame) : (s.setQueue P q l).pending = s.pending := rfl
@[simp] theorem setQueue_size (s : State) (P q : Nat) (l : List EgFrame) : (s.setQueue P q l).size = s.size := rfl
@[simp] theorem setQueue_regs (s : State) (P q : Nat) (l : List EgFrame) : (s.setQueue P q l).regs = s.regs := rfl
@[simp] theorem setQueue_held (s : State) (P q : Nat) (l : List EgFrame) : (s.setQueue P q l).held = s.held := rfl
@[simp] theorem setQueue_heldRead (s : State) (P q : Nat) (l : List EgFrame) : (s.setQueue P q l).heldRead = s.heldRead := rfl
@[simp] theorem setQueue_now (s : State) (P q : Nat) (l : List EgFrame) : (s.setQueue P q l).now = s.now := rfl
@[simp] theorem setQueue_freeCtr (s : State) (P q : Nat) (l : List EgFrame) : (s.setQueue P q l).freeCtr = s.freeCtr := rfl
@[simp] theorem setQueue_out (s : State) (P q : Nat) (l : List EgFrame) : (s.setQueue P q l).out = s.out := rfl
@[simp] theorem setQueue_latches (s : State) (P q : Nat) (l : List EgFrame) : (s.setQueue P q l).latches = s.latches := rfl
@[simp] theorem setQueue_buffers (s : State) (P q : Nat) (l : List EgFrame) : (s.setQueue P q l).buffers = s.buffers := rfl
@[simp] theorem setQueue_msixTable (s : State) (P q : Nat) (l : List EgFrame) : (s.setQueue P q l).msixTable = s.msixTable := rfl
@[simp] theorem setQueue_pba (s : State) (P q : Nat) (l : List EgFrame) : (s.setQueue P q l).pba = s.pba := rfl
@[simp] theorem setQueue_evRing (s : State) (P q : Nat) (l : List EgFrame) : (s.setQueue P q l).evRing = s.evRing := rfl
@[simp] theorem setQueue_staging (s : State) (P q : Nat) (l : List EgFrame) : (s.setQueue P q l).staging = s.staging := rfl
@[simp] theorem setQueue_bbxPartial (s : State) (P q : Nat) (l : List EgFrame) : (s.setQueue P q l).bbxPartial = s.bbxPartial := rfl
@[simp] theorem setQueue_bbxPages (s : State) (P q : Nat) (l : List EgFrame) : (s.setQueue P q l).bbxPages = s.bbxPages := rfl
@[simp] theorem setQueue_gasps (s : State) (P q : Nat) (l : List EgFrame) : (s.setQueue P q l).gasps = s.gasps := rfl
@[simp] theorem setQueue_norSpare (s : State) (P q : Nat) (l : List EgFrame) : (s.setQueue P q l).norSpare = s.norSpare := rfl
@[simp] theorem setQueue_norWithdrawn (s : State) (P q : Nat) (l : List EgFrame) : (s.setQueue P q l).norWithdrawn = s.norWithdrawn := rfl
@[simp] theorem setQueue_norErases (s : State) (P q : Nat) (l : List EgFrame) : (s.setQueue P q l).norErases = s.norErases := rfl
@[simp] theorem setQueue_norMap (s : State) (P q : Nat) (l : List EgFrame) : (s.setQueue P q l).norMap = s.norMap := rfl
@[simp] theorem setQueue_bbxShrunk (s : State) (P q : Nat) (l : List EgFrame) : (s.setQueue P q l).bbxShrunk = s.bbxShrunk := rfl
@[simp] theorem setQueue_notices (s : State) (P q : Nat) (l : List EgFrame) : (s.setQueue P q l).notices = s.notices := rfl
@[simp] theorem setQueue_windows (s : State) (P q : Nat) (l : List EgFrame) : (s.setQueue P q l).windows = s.windows := rfl
@[simp] theorem setQueue_episodes (s : State) (P q : Nat) (l : List EgFrame) : (s.setQueue P q l).episodes = s.episodes := rfl
@[simp] theorem setQueue_dram (s : State) (P q : Nat) (l : List EgFrame) : (s.setQueue P q l).dram = s.dram := rfl
@[simp] theorem setQueue_poisoned (s : State) (P q : Nat) (l : List EgFrame) : (s.setQueue P q l).poisoned = s.poisoned := rfl
@[simp] theorem setQueue_nor (s : State) (P q : Nat) (l : List EgFrame) : (s.setQueue P q l).nor = s.nor := rfl
@[simp] theorem setQueue_mram (s : State) (P q : Nat) (l : List EgFrame) : (s.setQueue P q l).mram = s.mram := rfl
@[simp] theorem setQueue_ltc (s : State) (P q : Nat) (l : List EgFrame) : (s.setQueue P q l).ltc = s.ltc := rfl
@[simp] theorem setQueue_servo (s : State) (P q : Nat) (l : List EgFrame) : (s.setQueue P q l).servo = s.servo := rfl
@[simp] theorem setQueue_meridian (s : State) (P q : Nat) (l : List EgFrame) : (s.setQueue P q l).meridian = s.meridian := rfl
@[simp] theorem setQueue_exchanges (s : State) (P q : Nat) (l : List EgFrame) : (s.setQueue P q l).exchanges = s.exchanges := rfl
@[simp] theorem setQueue_tagQueue (s : State) (P q : Nat) (l : List EgFrame) : (s.setQueue P q l).tagQueue = s.tagQueue := rfl
@[simp] theorem setQueue_snap (s : State) (P q : Nat) (l : List EgFrame) : (s.setQueue P q l).snap = s.snap := rfl
@[simp] theorem setQueue_streams (s : State) (P q : Nat) (l : List EgFrame) : (s.setQueue P q l).streams = s.streams := rfl
@[simp] theorem setQueue_tiles (s : State) (P q : Nat) (l : List EgFrame) : (s.setQueue P q l).tiles = s.tiles := rfl
@[simp] theorem setQueue_mmGens (s : State) (P q : Nat) (l : List EgFrame) : (s.setQueue P q l).mmGens = s.mmGens := rfl
@[simp] theorem setQueue_watch (s : State) (P q : Nat) (l : List EgFrame) : (s.setQueue P q l).watch = s.watch := rfl
@[simp] theorem setQueue_rails (s : State) (P q : Nat) (l : List EgFrame) : (s.setQueue P q l).rails = s.rails := rfl
@[simp] theorem setQueue_change (s : State) (P q : Nat) (l : List EgFrame) : (s.setQueue P q l).change = s.change := rfl
@[simp] theorem setQueue_reports (s : State) (P q : Nat) (l : List EgFrame) : (s.setQueue P q l).reports = s.reports := rfl
@[simp] theorem setQueue_epochs (s : State) (P q : Nat) (l : List EgFrame) : (s.setQueue P q l).epochs = s.epochs := rfl
@[simp] theorem setQueue_txq (s : State) (P q : Nat) (l : List EgFrame) : (s.setQueue P q l).txq = s.txq := rfl
@[simp] theorem setQueue_prismHeld (s : State) (P q : Nat) (l : List EgFrame) : (s.setQueue P q l).prismHeld = s.prismHeld := rfl
@[simp] theorem setQueue_proxies (s : State) (P q : Nat) (l : List EgFrame) : (s.setQueue P q l).proxies = s.proxies := rfl
@[simp] theorem setQueue_gaps (s : State) (P q : Nat) (l : List EgFrame) : (s.setQueue P q l).gaps = s.gaps := rfl
@[simp] theorem setQueue_noticeGens (s : State) (P q : Nat) (l : List EgFrame) : (s.setQueue P q l).noticeGens = s.noticeGens := rfl
@[simp] theorem setQueue_txFlows (s : State) (P q : Nat) (l : List EgFrame) : (s.setQueue P q l).txFlows = s.txFlows := rfl
@[simp] theorem setQueue_flowFree (s : State) (P q : Nat) (l : List EgFrame) : (s.setQueue P q l).flowFree = s.flowFree := rfl
@[simp] theorem setQueue_xlat (s : State) (P q : Nat) (l : List EgFrame) : (s.setQueue P q l).xlat = s.xlat := rfl
@[simp] theorem setQueue_flatStage (s : State) (P q : Nat) (l : List EgFrame) : (s.setQueue P q l).flatStage = s.flatStage := rfl
@[simp] theorem setQueue_jobStage (s : State) (P q : Nat) (l : List EgFrame) : (s.setQueue P q l).jobStage = s.jobStage := rfl
@[simp] theorem setQueue_natDel (s : State) (P q : Nat) (l : List EgFrame) : (s.setQueue P q l).natDel = s.natDel := rfl
@[simp] theorem setQueue_jobs (s : State) (P q : Nat) (l : List EgFrame) : (s.setQueue P q l).jobs = s.jobs := rfl
@[simp] theorem setQueue_insts (s : State) (P q : Nat) (l : List EgFrame) : (s.setQueue P q l).insts = s.insts := rfl
@[simp] theorem setQueue_bcasts (s : State) (P q : Nat) (l : List EgFrame) : (s.setQueue P q l).bcasts = s.bcasts := rfl
@[simp] theorem setQueue_jsRuns (s : State) (P q : Nat) (l : List EgFrame) : (s.setQueue P q l).jsRuns = s.jsRuns := rfl
@[simp] theorem setQueue_stepHist (s : State) (P q : Nat) (l : List EgFrame) : (s.setQueue P q l).stepHist = s.stepHist := rfl
@[simp] theorem setQueue_govSeen (s : State) (P q : Nat) (l : List EgFrame) : (s.setQueue P q l).govSeen = s.govSeen := rfl
@[simp] theorem setQueue_rxFlows (s : State) (P q : Nat) (l : List EgFrame) : (s.setQueue P q l).rxFlows = s.rxFlows := rfl
@[simp] theorem setQueue_ctxs (s : State) (P q : Nat) (l : List EgFrame) : (s.setQueue P q l).ctxs = s.ctxs := rfl
@[simp] theorem setQueue_ingest (s : State) (P q : Nat) (l : List EgFrame) : (s.setQueue P q l).ingest = s.ingest := rfl
@[simp] theorem setQueue_ingestWait (s : State) (P q : Nat) (l : List EgFrame) : (s.setQueue P q l).ingestWait = s.ingestWait := rfl
@[simp] theorem setQueue_healthBuf (s : State) (P q : Nat) (l : List EgFrame) : (s.setQueue P q l).healthBuf = s.healthBuf := rfl
@[simp] theorem setQueue_lensSlots (s : State) (P q : Nat) (l : List EgFrame) : (s.setQueue P q l).lensSlots = s.lensSlots := rfl
@[simp] theorem setQueue_lensOpen (s : State) (P q : Nat) (l : List EgFrame) : (s.setQueue P q l).lensOpen = s.lensOpen := rfl
@[simp] theorem setQueue_lensClosed (s : State) (P q : Nat) (l : List EgFrame) : (s.setQueue P q l).lensClosed = s.lensClosed := rfl
@[simp] theorem setQueue_lensHolds (s : State) (P q : Nat) (l : List EgFrame) : (s.setQueue P q l).lensHolds = s.lensHolds := rfl
@[simp] theorem setQueue_lensExport (s : State) (P q : Nat) (l : List EgFrame) : (s.setQueue P q l).lensExport = s.lensExport := rfl
@[simp] theorem setQueue_metrics (s : State) (P q : Nat) (l : List EgFrame) : (s.setQueue P q l).metrics = s.metrics := rfl
@[simp] theorem setQueue_mboxes (s : State) (P q : Nat) (l : List EgFrame) : (s.setQueue P q l).mboxes = s.mboxes := rfl
@[simp] theorem setQueue_mboxSend (s : State) (P q : Nat) (l : List EgFrame) : (s.setQueue P q l).mboxSend = s.mboxSend := rfl
@[simp] theorem setQueue_imem (s : State) (P q : Nat) (l : List EgFrame) : (s.setQueue P q l).imem = s.imem := rfl
@[simp] theorem setQueue_dmem (s : State) (P q : Nat) (l : List EgFrame) : (s.setQueue P q l).dmem = s.dmem := rfl
@[simp] theorem setQueue_imgBuf (s : State) (P q : Nat) (l : List EgFrame) : (s.setQueue P q l).imgBuf = s.imgBuf := rfl
@[simp] theorem setQueue_imgHash (s : State) (P q : Nat) (l : List EgFrame) : (s.setQueue P q l).imgHash = s.imgHash := rfl
@[simp] theorem setQueue_corrected (s : State) (P q : Nat) (l : List EgFrame) : (s.setQueue P q l).corrected = s.corrected := rfl
@[simp] theorem setQueue_mirrorWin (s : State) (P q : Nat) (l : List EgFrame) : (s.setQueue P q l).mirrorWin = s.mirrorWin := rfl
@[simp] theorem setQueue_recent (s : State) (P q : Nat) (l : List EgFrame) : (s.setQueue P q l).recent = s.recent := rfl
@[simp] theorem setQueue_field (s : State) (P q : Nat) (l : List EgFrame) : (s.setQueue P q l).field = s.field := rfl
@[simp] theorem setQueue_barHost (s : State) (P q : Nat) (l : List EgFrame) : (s.setQueue P q l).barHost = s.barHost := rfl
@[simp] theorem setQueue_barEcho (s : State) (P q : Nat) (l : List EgFrame) : (s.setQueue P q l).barEcho = s.barEcho := rfl

@[simp] theorem setFlows_pending (s : State) (d : Nat) (l : List TxFlow) : (s.setFlows d l).pending = s.pending := rfl
@[simp] theorem setFlows_size (s : State) (d : Nat) (l : List TxFlow) : (s.setFlows d l).size = s.size := rfl
@[simp] theorem setFlows_regs (s : State) (d : Nat) (l : List TxFlow) : (s.setFlows d l).regs = s.regs := rfl
@[simp] theorem setFlows_held (s : State) (d : Nat) (l : List TxFlow) : (s.setFlows d l).held = s.held := rfl
@[simp] theorem setFlows_heldRead (s : State) (d : Nat) (l : List TxFlow) : (s.setFlows d l).heldRead = s.heldRead := rfl
@[simp] theorem setFlows_now (s : State) (d : Nat) (l : List TxFlow) : (s.setFlows d l).now = s.now := rfl
@[simp] theorem setFlows_freeCtr (s : State) (d : Nat) (l : List TxFlow) : (s.setFlows d l).freeCtr = s.freeCtr := rfl
@[simp] theorem setFlows_out (s : State) (d : Nat) (l : List TxFlow) : (s.setFlows d l).out = s.out := rfl
@[simp] theorem setFlows_latches (s : State) (d : Nat) (l : List TxFlow) : (s.setFlows d l).latches = s.latches := rfl
@[simp] theorem setFlows_buffers (s : State) (d : Nat) (l : List TxFlow) : (s.setFlows d l).buffers = s.buffers := rfl
@[simp] theorem setFlows_msixTable (s : State) (d : Nat) (l : List TxFlow) : (s.setFlows d l).msixTable = s.msixTable := rfl
@[simp] theorem setFlows_pba (s : State) (d : Nat) (l : List TxFlow) : (s.setFlows d l).pba = s.pba := rfl
@[simp] theorem setFlows_evRing (s : State) (d : Nat) (l : List TxFlow) : (s.setFlows d l).evRing = s.evRing := rfl
@[simp] theorem setFlows_staging (s : State) (d : Nat) (l : List TxFlow) : (s.setFlows d l).staging = s.staging := rfl
@[simp] theorem setFlows_bbxPartial (s : State) (d : Nat) (l : List TxFlow) : (s.setFlows d l).bbxPartial = s.bbxPartial := rfl
@[simp] theorem setFlows_bbxPages (s : State) (d : Nat) (l : List TxFlow) : (s.setFlows d l).bbxPages = s.bbxPages := rfl
@[simp] theorem setFlows_gasps (s : State) (d : Nat) (l : List TxFlow) : (s.setFlows d l).gasps = s.gasps := rfl
@[simp] theorem setFlows_norSpare (s : State) (d : Nat) (l : List TxFlow) : (s.setFlows d l).norSpare = s.norSpare := rfl
@[simp] theorem setFlows_norWithdrawn (s : State) (d : Nat) (l : List TxFlow) : (s.setFlows d l).norWithdrawn = s.norWithdrawn := rfl
@[simp] theorem setFlows_norErases (s : State) (d : Nat) (l : List TxFlow) : (s.setFlows d l).norErases = s.norErases := rfl
@[simp] theorem setFlows_norMap (s : State) (d : Nat) (l : List TxFlow) : (s.setFlows d l).norMap = s.norMap := rfl
@[simp] theorem setFlows_bbxShrunk (s : State) (d : Nat) (l : List TxFlow) : (s.setFlows d l).bbxShrunk = s.bbxShrunk := rfl
@[simp] theorem setFlows_notices (s : State) (d : Nat) (l : List TxFlow) : (s.setFlows d l).notices = s.notices := rfl
@[simp] theorem setFlows_windows (s : State) (d : Nat) (l : List TxFlow) : (s.setFlows d l).windows = s.windows := rfl
@[simp] theorem setFlows_episodes (s : State) (d : Nat) (l : List TxFlow) : (s.setFlows d l).episodes = s.episodes := rfl
@[simp] theorem setFlows_dram (s : State) (d : Nat) (l : List TxFlow) : (s.setFlows d l).dram = s.dram := rfl
@[simp] theorem setFlows_poisoned (s : State) (d : Nat) (l : List TxFlow) : (s.setFlows d l).poisoned = s.poisoned := rfl
@[simp] theorem setFlows_nor (s : State) (d : Nat) (l : List TxFlow) : (s.setFlows d l).nor = s.nor := rfl
@[simp] theorem setFlows_mram (s : State) (d : Nat) (l : List TxFlow) : (s.setFlows d l).mram = s.mram := rfl
@[simp] theorem setFlows_ltc (s : State) (d : Nat) (l : List TxFlow) : (s.setFlows d l).ltc = s.ltc := rfl
@[simp] theorem setFlows_servo (s : State) (d : Nat) (l : List TxFlow) : (s.setFlows d l).servo = s.servo := rfl
@[simp] theorem setFlows_meridian (s : State) (d : Nat) (l : List TxFlow) : (s.setFlows d l).meridian = s.meridian := rfl
@[simp] theorem setFlows_exchanges (s : State) (d : Nat) (l : List TxFlow) : (s.setFlows d l).exchanges = s.exchanges := rfl
@[simp] theorem setFlows_tagQueue (s : State) (d : Nat) (l : List TxFlow) : (s.setFlows d l).tagQueue = s.tagQueue := rfl
@[simp] theorem setFlows_snap (s : State) (d : Nat) (l : List TxFlow) : (s.setFlows d l).snap = s.snap := rfl
@[simp] theorem setFlows_streams (s : State) (d : Nat) (l : List TxFlow) : (s.setFlows d l).streams = s.streams := rfl
@[simp] theorem setFlows_tiles (s : State) (d : Nat) (l : List TxFlow) : (s.setFlows d l).tiles = s.tiles := rfl
@[simp] theorem setFlows_mmGens (s : State) (d : Nat) (l : List TxFlow) : (s.setFlows d l).mmGens = s.mmGens := rfl
@[simp] theorem setFlows_watch (s : State) (d : Nat) (l : List TxFlow) : (s.setFlows d l).watch = s.watch := rfl
@[simp] theorem setFlows_rails (s : State) (d : Nat) (l : List TxFlow) : (s.setFlows d l).rails = s.rails := rfl
@[simp] theorem setFlows_change (s : State) (d : Nat) (l : List TxFlow) : (s.setFlows d l).change = s.change := rfl
@[simp] theorem setFlows_reports (s : State) (d : Nat) (l : List TxFlow) : (s.setFlows d l).reports = s.reports := rfl
@[simp] theorem setFlows_epochs (s : State) (d : Nat) (l : List TxFlow) : (s.setFlows d l).epochs = s.epochs := rfl
@[simp] theorem setFlows_txq (s : State) (d : Nat) (l : List TxFlow) : (s.setFlows d l).txq = s.txq := rfl
@[simp] theorem setFlows_prismHeld (s : State) (d : Nat) (l : List TxFlow) : (s.setFlows d l).prismHeld = s.prismHeld := rfl
@[simp] theorem setFlows_proxies (s : State) (d : Nat) (l : List TxFlow) : (s.setFlows d l).proxies = s.proxies := rfl
@[simp] theorem setFlows_gaps (s : State) (d : Nat) (l : List TxFlow) : (s.setFlows d l).gaps = s.gaps := rfl
@[simp] theorem setFlows_noticeGens (s : State) (d : Nat) (l : List TxFlow) : (s.setFlows d l).noticeGens = s.noticeGens := rfl
@[simp] theorem setFlows_egress (s : State) (d : Nat) (l : List TxFlow) : (s.setFlows d l).egress = s.egress := rfl
@[simp] theorem setFlows_flowFree (s : State) (d : Nat) (l : List TxFlow) : (s.setFlows d l).flowFree = s.flowFree := rfl
@[simp] theorem setFlows_xlat (s : State) (d : Nat) (l : List TxFlow) : (s.setFlows d l).xlat = s.xlat := rfl
@[simp] theorem setFlows_flatStage (s : State) (d : Nat) (l : List TxFlow) : (s.setFlows d l).flatStage = s.flatStage := rfl
@[simp] theorem setFlows_jobStage (s : State) (d : Nat) (l : List TxFlow) : (s.setFlows d l).jobStage = s.jobStage := rfl
@[simp] theorem setFlows_natDel (s : State) (d : Nat) (l : List TxFlow) : (s.setFlows d l).natDel = s.natDel := rfl
@[simp] theorem setFlows_jobs (s : State) (d : Nat) (l : List TxFlow) : (s.setFlows d l).jobs = s.jobs := rfl
@[simp] theorem setFlows_insts (s : State) (d : Nat) (l : List TxFlow) : (s.setFlows d l).insts = s.insts := rfl
@[simp] theorem setFlows_bcasts (s : State) (d : Nat) (l : List TxFlow) : (s.setFlows d l).bcasts = s.bcasts := rfl
@[simp] theorem setFlows_jsRuns (s : State) (d : Nat) (l : List TxFlow) : (s.setFlows d l).jsRuns = s.jsRuns := rfl
@[simp] theorem setFlows_stepHist (s : State) (d : Nat) (l : List TxFlow) : (s.setFlows d l).stepHist = s.stepHist := rfl
@[simp] theorem setFlows_govSeen (s : State) (d : Nat) (l : List TxFlow) : (s.setFlows d l).govSeen = s.govSeen := rfl
@[simp] theorem setFlows_rxFlows (s : State) (d : Nat) (l : List TxFlow) : (s.setFlows d l).rxFlows = s.rxFlows := rfl
@[simp] theorem setFlows_ctxs (s : State) (d : Nat) (l : List TxFlow) : (s.setFlows d l).ctxs = s.ctxs := rfl
@[simp] theorem setFlows_ingest (s : State) (d : Nat) (l : List TxFlow) : (s.setFlows d l).ingest = s.ingest := rfl
@[simp] theorem setFlows_ingestWait (s : State) (d : Nat) (l : List TxFlow) : (s.setFlows d l).ingestWait = s.ingestWait := rfl
@[simp] theorem setFlows_healthBuf (s : State) (d : Nat) (l : List TxFlow) : (s.setFlows d l).healthBuf = s.healthBuf := rfl
@[simp] theorem setFlows_lensSlots (s : State) (d : Nat) (l : List TxFlow) : (s.setFlows d l).lensSlots = s.lensSlots := rfl
@[simp] theorem setFlows_lensOpen (s : State) (d : Nat) (l : List TxFlow) : (s.setFlows d l).lensOpen = s.lensOpen := rfl
@[simp] theorem setFlows_lensClosed (s : State) (d : Nat) (l : List TxFlow) : (s.setFlows d l).lensClosed = s.lensClosed := rfl
@[simp] theorem setFlows_lensHolds (s : State) (d : Nat) (l : List TxFlow) : (s.setFlows d l).lensHolds = s.lensHolds := rfl
@[simp] theorem setFlows_lensExport (s : State) (d : Nat) (l : List TxFlow) : (s.setFlows d l).lensExport = s.lensExport := rfl
@[simp] theorem setFlows_metrics (s : State) (d : Nat) (l : List TxFlow) : (s.setFlows d l).metrics = s.metrics := rfl
@[simp] theorem setFlows_mboxes (s : State) (d : Nat) (l : List TxFlow) : (s.setFlows d l).mboxes = s.mboxes := rfl
@[simp] theorem setFlows_mboxSend (s : State) (d : Nat) (l : List TxFlow) : (s.setFlows d l).mboxSend = s.mboxSend := rfl
@[simp] theorem setFlows_imem (s : State) (d : Nat) (l : List TxFlow) : (s.setFlows d l).imem = s.imem := rfl
@[simp] theorem setFlows_dmem (s : State) (d : Nat) (l : List TxFlow) : (s.setFlows d l).dmem = s.dmem := rfl
@[simp] theorem setFlows_imgBuf (s : State) (d : Nat) (l : List TxFlow) : (s.setFlows d l).imgBuf = s.imgBuf := rfl
@[simp] theorem setFlows_imgHash (s : State) (d : Nat) (l : List TxFlow) : (s.setFlows d l).imgHash = s.imgHash := rfl
@[simp] theorem setFlows_corrected (s : State) (d : Nat) (l : List TxFlow) : (s.setFlows d l).corrected = s.corrected := rfl
@[simp] theorem setFlows_mirrorWin (s : State) (d : Nat) (l : List TxFlow) : (s.setFlows d l).mirrorWin = s.mirrorWin := rfl
@[simp] theorem setFlows_recent (s : State) (d : Nat) (l : List TxFlow) : (s.setFlows d l).recent = s.recent := rfl
@[simp] theorem setFlows_field (s : State) (d : Nat) (l : List TxFlow) : (s.setFlows d l).field = s.field := rfl
@[simp] theorem setFlows_barHost (s : State) (d : Nat) (l : List TxFlow) : (s.setFlows d l).barHost = s.barHost := rfl
@[simp] theorem setFlows_barEcho (s : State) (d : Nat) (l : List TxFlow) : (s.setFlows d l).barEcho = s.barEcho := rfl

@[simp] theorem setFlowFree_pending (s : State) (d : Nat) (l : List Nat) : (s.setFlowFree d l).pending = s.pending := rfl
@[simp] theorem setFlowFree_size (s : State) (d : Nat) (l : List Nat) : (s.setFlowFree d l).size = s.size := rfl
@[simp] theorem setFlowFree_regs (s : State) (d : Nat) (l : List Nat) : (s.setFlowFree d l).regs = s.regs := rfl
@[simp] theorem setFlowFree_held (s : State) (d : Nat) (l : List Nat) : (s.setFlowFree d l).held = s.held := rfl
@[simp] theorem setFlowFree_heldRead (s : State) (d : Nat) (l : List Nat) : (s.setFlowFree d l).heldRead = s.heldRead := rfl
@[simp] theorem setFlowFree_now (s : State) (d : Nat) (l : List Nat) : (s.setFlowFree d l).now = s.now := rfl
@[simp] theorem setFlowFree_freeCtr (s : State) (d : Nat) (l : List Nat) : (s.setFlowFree d l).freeCtr = s.freeCtr := rfl
@[simp] theorem setFlowFree_out (s : State) (d : Nat) (l : List Nat) : (s.setFlowFree d l).out = s.out := rfl
@[simp] theorem setFlowFree_latches (s : State) (d : Nat) (l : List Nat) : (s.setFlowFree d l).latches = s.latches := rfl
@[simp] theorem setFlowFree_buffers (s : State) (d : Nat) (l : List Nat) : (s.setFlowFree d l).buffers = s.buffers := rfl
@[simp] theorem setFlowFree_msixTable (s : State) (d : Nat) (l : List Nat) : (s.setFlowFree d l).msixTable = s.msixTable := rfl
@[simp] theorem setFlowFree_pba (s : State) (d : Nat) (l : List Nat) : (s.setFlowFree d l).pba = s.pba := rfl
@[simp] theorem setFlowFree_evRing (s : State) (d : Nat) (l : List Nat) : (s.setFlowFree d l).evRing = s.evRing := rfl
@[simp] theorem setFlowFree_staging (s : State) (d : Nat) (l : List Nat) : (s.setFlowFree d l).staging = s.staging := rfl
@[simp] theorem setFlowFree_bbxPartial (s : State) (d : Nat) (l : List Nat) : (s.setFlowFree d l).bbxPartial = s.bbxPartial := rfl
@[simp] theorem setFlowFree_bbxPages (s : State) (d : Nat) (l : List Nat) : (s.setFlowFree d l).bbxPages = s.bbxPages := rfl
@[simp] theorem setFlowFree_gasps (s : State) (d : Nat) (l : List Nat) : (s.setFlowFree d l).gasps = s.gasps := rfl
@[simp] theorem setFlowFree_norSpare (s : State) (d : Nat) (l : List Nat) : (s.setFlowFree d l).norSpare = s.norSpare := rfl
@[simp] theorem setFlowFree_norWithdrawn (s : State) (d : Nat) (l : List Nat) : (s.setFlowFree d l).norWithdrawn = s.norWithdrawn := rfl
@[simp] theorem setFlowFree_norErases (s : State) (d : Nat) (l : List Nat) : (s.setFlowFree d l).norErases = s.norErases := rfl
@[simp] theorem setFlowFree_norMap (s : State) (d : Nat) (l : List Nat) : (s.setFlowFree d l).norMap = s.norMap := rfl
@[simp] theorem setFlowFree_bbxShrunk (s : State) (d : Nat) (l : List Nat) : (s.setFlowFree d l).bbxShrunk = s.bbxShrunk := rfl
@[simp] theorem setFlowFree_notices (s : State) (d : Nat) (l : List Nat) : (s.setFlowFree d l).notices = s.notices := rfl
@[simp] theorem setFlowFree_windows (s : State) (d : Nat) (l : List Nat) : (s.setFlowFree d l).windows = s.windows := rfl
@[simp] theorem setFlowFree_episodes (s : State) (d : Nat) (l : List Nat) : (s.setFlowFree d l).episodes = s.episodes := rfl
@[simp] theorem setFlowFree_dram (s : State) (d : Nat) (l : List Nat) : (s.setFlowFree d l).dram = s.dram := rfl
@[simp] theorem setFlowFree_poisoned (s : State) (d : Nat) (l : List Nat) : (s.setFlowFree d l).poisoned = s.poisoned := rfl
@[simp] theorem setFlowFree_nor (s : State) (d : Nat) (l : List Nat) : (s.setFlowFree d l).nor = s.nor := rfl
@[simp] theorem setFlowFree_mram (s : State) (d : Nat) (l : List Nat) : (s.setFlowFree d l).mram = s.mram := rfl
@[simp] theorem setFlowFree_ltc (s : State) (d : Nat) (l : List Nat) : (s.setFlowFree d l).ltc = s.ltc := rfl
@[simp] theorem setFlowFree_servo (s : State) (d : Nat) (l : List Nat) : (s.setFlowFree d l).servo = s.servo := rfl
@[simp] theorem setFlowFree_meridian (s : State) (d : Nat) (l : List Nat) : (s.setFlowFree d l).meridian = s.meridian := rfl
@[simp] theorem setFlowFree_exchanges (s : State) (d : Nat) (l : List Nat) : (s.setFlowFree d l).exchanges = s.exchanges := rfl
@[simp] theorem setFlowFree_tagQueue (s : State) (d : Nat) (l : List Nat) : (s.setFlowFree d l).tagQueue = s.tagQueue := rfl
@[simp] theorem setFlowFree_snap (s : State) (d : Nat) (l : List Nat) : (s.setFlowFree d l).snap = s.snap := rfl
@[simp] theorem setFlowFree_streams (s : State) (d : Nat) (l : List Nat) : (s.setFlowFree d l).streams = s.streams := rfl
@[simp] theorem setFlowFree_tiles (s : State) (d : Nat) (l : List Nat) : (s.setFlowFree d l).tiles = s.tiles := rfl
@[simp] theorem setFlowFree_mmGens (s : State) (d : Nat) (l : List Nat) : (s.setFlowFree d l).mmGens = s.mmGens := rfl
@[simp] theorem setFlowFree_watch (s : State) (d : Nat) (l : List Nat) : (s.setFlowFree d l).watch = s.watch := rfl
@[simp] theorem setFlowFree_rails (s : State) (d : Nat) (l : List Nat) : (s.setFlowFree d l).rails = s.rails := rfl
@[simp] theorem setFlowFree_change (s : State) (d : Nat) (l : List Nat) : (s.setFlowFree d l).change = s.change := rfl
@[simp] theorem setFlowFree_reports (s : State) (d : Nat) (l : List Nat) : (s.setFlowFree d l).reports = s.reports := rfl
@[simp] theorem setFlowFree_epochs (s : State) (d : Nat) (l : List Nat) : (s.setFlowFree d l).epochs = s.epochs := rfl
@[simp] theorem setFlowFree_txq (s : State) (d : Nat) (l : List Nat) : (s.setFlowFree d l).txq = s.txq := rfl
@[simp] theorem setFlowFree_prismHeld (s : State) (d : Nat) (l : List Nat) : (s.setFlowFree d l).prismHeld = s.prismHeld := rfl
@[simp] theorem setFlowFree_proxies (s : State) (d : Nat) (l : List Nat) : (s.setFlowFree d l).proxies = s.proxies := rfl
@[simp] theorem setFlowFree_gaps (s : State) (d : Nat) (l : List Nat) : (s.setFlowFree d l).gaps = s.gaps := rfl
@[simp] theorem setFlowFree_noticeGens (s : State) (d : Nat) (l : List Nat) : (s.setFlowFree d l).noticeGens = s.noticeGens := rfl
@[simp] theorem setFlowFree_egress (s : State) (d : Nat) (l : List Nat) : (s.setFlowFree d l).egress = s.egress := rfl
@[simp] theorem setFlowFree_txFlows (s : State) (d : Nat) (l : List Nat) : (s.setFlowFree d l).txFlows = s.txFlows := rfl
@[simp] theorem setFlowFree_xlat (s : State) (d : Nat) (l : List Nat) : (s.setFlowFree d l).xlat = s.xlat := rfl
@[simp] theorem setFlowFree_flatStage (s : State) (d : Nat) (l : List Nat) : (s.setFlowFree d l).flatStage = s.flatStage := rfl
@[simp] theorem setFlowFree_jobStage (s : State) (d : Nat) (l : List Nat) : (s.setFlowFree d l).jobStage = s.jobStage := rfl
@[simp] theorem setFlowFree_natDel (s : State) (d : Nat) (l : List Nat) : (s.setFlowFree d l).natDel = s.natDel := rfl
@[simp] theorem setFlowFree_jobs (s : State) (d : Nat) (l : List Nat) : (s.setFlowFree d l).jobs = s.jobs := rfl
@[simp] theorem setFlowFree_insts (s : State) (d : Nat) (l : List Nat) : (s.setFlowFree d l).insts = s.insts := rfl
@[simp] theorem setFlowFree_bcasts (s : State) (d : Nat) (l : List Nat) : (s.setFlowFree d l).bcasts = s.bcasts := rfl
@[simp] theorem setFlowFree_jsRuns (s : State) (d : Nat) (l : List Nat) : (s.setFlowFree d l).jsRuns = s.jsRuns := rfl
@[simp] theorem setFlowFree_stepHist (s : State) (d : Nat) (l : List Nat) : (s.setFlowFree d l).stepHist = s.stepHist := rfl
@[simp] theorem setFlowFree_govSeen (s : State) (d : Nat) (l : List Nat) : (s.setFlowFree d l).govSeen = s.govSeen := rfl
@[simp] theorem setFlowFree_rxFlows (s : State) (d : Nat) (l : List Nat) : (s.setFlowFree d l).rxFlows = s.rxFlows := rfl
@[simp] theorem setFlowFree_ctxs (s : State) (d : Nat) (l : List Nat) : (s.setFlowFree d l).ctxs = s.ctxs := rfl
@[simp] theorem setFlowFree_ingest (s : State) (d : Nat) (l : List Nat) : (s.setFlowFree d l).ingest = s.ingest := rfl
@[simp] theorem setFlowFree_ingestWait (s : State) (d : Nat) (l : List Nat) : (s.setFlowFree d l).ingestWait = s.ingestWait := rfl
@[simp] theorem setFlowFree_healthBuf (s : State) (d : Nat) (l : List Nat) : (s.setFlowFree d l).healthBuf = s.healthBuf := rfl
@[simp] theorem setFlowFree_lensSlots (s : State) (d : Nat) (l : List Nat) : (s.setFlowFree d l).lensSlots = s.lensSlots := rfl
@[simp] theorem setFlowFree_lensOpen (s : State) (d : Nat) (l : List Nat) : (s.setFlowFree d l).lensOpen = s.lensOpen := rfl
@[simp] theorem setFlowFree_lensClosed (s : State) (d : Nat) (l : List Nat) : (s.setFlowFree d l).lensClosed = s.lensClosed := rfl
@[simp] theorem setFlowFree_lensHolds (s : State) (d : Nat) (l : List Nat) : (s.setFlowFree d l).lensHolds = s.lensHolds := rfl
@[simp] theorem setFlowFree_lensExport (s : State) (d : Nat) (l : List Nat) : (s.setFlowFree d l).lensExport = s.lensExport := rfl
@[simp] theorem setFlowFree_metrics (s : State) (d : Nat) (l : List Nat) : (s.setFlowFree d l).metrics = s.metrics := rfl
@[simp] theorem setFlowFree_mboxes (s : State) (d : Nat) (l : List Nat) : (s.setFlowFree d l).mboxes = s.mboxes := rfl
@[simp] theorem setFlowFree_mboxSend (s : State) (d : Nat) (l : List Nat) : (s.setFlowFree d l).mboxSend = s.mboxSend := rfl
@[simp] theorem setFlowFree_imem (s : State) (d : Nat) (l : List Nat) : (s.setFlowFree d l).imem = s.imem := rfl
@[simp] theorem setFlowFree_dmem (s : State) (d : Nat) (l : List Nat) : (s.setFlowFree d l).dmem = s.dmem := rfl
@[simp] theorem setFlowFree_imgBuf (s : State) (d : Nat) (l : List Nat) : (s.setFlowFree d l).imgBuf = s.imgBuf := rfl
@[simp] theorem setFlowFree_imgHash (s : State) (d : Nat) (l : List Nat) : (s.setFlowFree d l).imgHash = s.imgHash := rfl
@[simp] theorem setFlowFree_corrected (s : State) (d : Nat) (l : List Nat) : (s.setFlowFree d l).corrected = s.corrected := rfl
@[simp] theorem setFlowFree_mirrorWin (s : State) (d : Nat) (l : List Nat) : (s.setFlowFree d l).mirrorWin = s.mirrorWin := rfl
@[simp] theorem setFlowFree_recent (s : State) (d : Nat) (l : List Nat) : (s.setFlowFree d l).recent = s.recent := rfl
@[simp] theorem setFlowFree_field (s : State) (d : Nat) (l : List Nat) : (s.setFlowFree d l).field = s.field := rfl
@[simp] theorem setFlowFree_barHost (s : State) (d : Nat) (l : List Nat) : (s.setFlowFree d l).barHost = s.barHost := rfl
@[simp] theorem setFlowFree_barEcho (s : State) (d : Nat) (l : List Nat) : (s.setFlowFree d l).barEcho = s.barEcho := rfl

@[simp] theorem setWindow_pending (s : State) (u : Chip) (k : Nat) (w : Window) : (s.setWindow u k w).pending = s.pending := rfl
@[simp] theorem setWindow_size (s : State) (u : Chip) (k : Nat) (w : Window) : (s.setWindow u k w).size = s.size := rfl
@[simp] theorem setWindow_regs (s : State) (u : Chip) (k : Nat) (w : Window) : (s.setWindow u k w).regs = s.regs := rfl
@[simp] theorem setWindow_held (s : State) (u : Chip) (k : Nat) (w : Window) : (s.setWindow u k w).held = s.held := rfl
@[simp] theorem setWindow_heldRead (s : State) (u : Chip) (k : Nat) (w : Window) : (s.setWindow u k w).heldRead = s.heldRead := rfl
@[simp] theorem setWindow_now (s : State) (u : Chip) (k : Nat) (w : Window) : (s.setWindow u k w).now = s.now := rfl
@[simp] theorem setWindow_freeCtr (s : State) (u : Chip) (k : Nat) (w : Window) : (s.setWindow u k w).freeCtr = s.freeCtr := rfl
@[simp] theorem setWindow_out (s : State) (u : Chip) (k : Nat) (w : Window) : (s.setWindow u k w).out = s.out := rfl
@[simp] theorem setWindow_latches (s : State) (u : Chip) (k : Nat) (w : Window) : (s.setWindow u k w).latches = s.latches := rfl
@[simp] theorem setWindow_buffers (s : State) (u : Chip) (k : Nat) (w : Window) : (s.setWindow u k w).buffers = s.buffers := rfl
@[simp] theorem setWindow_msixTable (s : State) (u : Chip) (k : Nat) (w : Window) : (s.setWindow u k w).msixTable = s.msixTable := rfl
@[simp] theorem setWindow_pba (s : State) (u : Chip) (k : Nat) (w : Window) : (s.setWindow u k w).pba = s.pba := rfl
@[simp] theorem setWindow_evRing (s : State) (u : Chip) (k : Nat) (w : Window) : (s.setWindow u k w).evRing = s.evRing := rfl
@[simp] theorem setWindow_staging (s : State) (u : Chip) (k : Nat) (w : Window) : (s.setWindow u k w).staging = s.staging := rfl
@[simp] theorem setWindow_bbxPartial (s : State) (u : Chip) (k : Nat) (w : Window) : (s.setWindow u k w).bbxPartial = s.bbxPartial := rfl
@[simp] theorem setWindow_bbxPages (s : State) (u : Chip) (k : Nat) (w : Window) : (s.setWindow u k w).bbxPages = s.bbxPages := rfl
@[simp] theorem setWindow_gasps (s : State) (u : Chip) (k : Nat) (w : Window) : (s.setWindow u k w).gasps = s.gasps := rfl
@[simp] theorem setWindow_norSpare (s : State) (u : Chip) (k : Nat) (w : Window) : (s.setWindow u k w).norSpare = s.norSpare := rfl
@[simp] theorem setWindow_norWithdrawn (s : State) (u : Chip) (k : Nat) (w : Window) : (s.setWindow u k w).norWithdrawn = s.norWithdrawn := rfl
@[simp] theorem setWindow_norErases (s : State) (u : Chip) (k : Nat) (w : Window) : (s.setWindow u k w).norErases = s.norErases := rfl
@[simp] theorem setWindow_norMap (s : State) (u : Chip) (k : Nat) (w : Window) : (s.setWindow u k w).norMap = s.norMap := rfl
@[simp] theorem setWindow_bbxShrunk (s : State) (u : Chip) (k : Nat) (w : Window) : (s.setWindow u k w).bbxShrunk = s.bbxShrunk := rfl
@[simp] theorem setWindow_notices (s : State) (u : Chip) (k : Nat) (w : Window) : (s.setWindow u k w).notices = s.notices := rfl
@[simp] theorem setWindow_episodes (s : State) (u : Chip) (k : Nat) (w : Window) : (s.setWindow u k w).episodes = s.episodes := rfl
@[simp] theorem setWindow_dram (s : State) (u : Chip) (k : Nat) (w : Window) : (s.setWindow u k w).dram = s.dram := rfl
@[simp] theorem setWindow_poisoned (s : State) (u : Chip) (k : Nat) (w : Window) : (s.setWindow u k w).poisoned = s.poisoned := rfl
@[simp] theorem setWindow_nor (s : State) (u : Chip) (k : Nat) (w : Window) : (s.setWindow u k w).nor = s.nor := rfl
@[simp] theorem setWindow_mram (s : State) (u : Chip) (k : Nat) (w : Window) : (s.setWindow u k w).mram = s.mram := rfl
@[simp] theorem setWindow_ltc (s : State) (u : Chip) (k : Nat) (w : Window) : (s.setWindow u k w).ltc = s.ltc := rfl
@[simp] theorem setWindow_servo (s : State) (u : Chip) (k : Nat) (w : Window) : (s.setWindow u k w).servo = s.servo := rfl
@[simp] theorem setWindow_meridian (s : State) (u : Chip) (k : Nat) (w : Window) : (s.setWindow u k w).meridian = s.meridian := rfl
@[simp] theorem setWindow_exchanges (s : State) (u : Chip) (k : Nat) (w : Window) : (s.setWindow u k w).exchanges = s.exchanges := rfl
@[simp] theorem setWindow_tagQueue (s : State) (u : Chip) (k : Nat) (w : Window) : (s.setWindow u k w).tagQueue = s.tagQueue := rfl
@[simp] theorem setWindow_snap (s : State) (u : Chip) (k : Nat) (w : Window) : (s.setWindow u k w).snap = s.snap := rfl
@[simp] theorem setWindow_streams (s : State) (u : Chip) (k : Nat) (w : Window) : (s.setWindow u k w).streams = s.streams := rfl
@[simp] theorem setWindow_tiles (s : State) (u : Chip) (k : Nat) (w : Window) : (s.setWindow u k w).tiles = s.tiles := rfl
@[simp] theorem setWindow_mmGens (s : State) (u : Chip) (k : Nat) (w : Window) : (s.setWindow u k w).mmGens = s.mmGens := rfl
@[simp] theorem setWindow_watch (s : State) (u : Chip) (k : Nat) (w : Window) : (s.setWindow u k w).watch = s.watch := rfl
@[simp] theorem setWindow_rails (s : State) (u : Chip) (k : Nat) (w : Window) : (s.setWindow u k w).rails = s.rails := rfl
@[simp] theorem setWindow_change (s : State) (u : Chip) (k : Nat) (w : Window) : (s.setWindow u k w).change = s.change := rfl
@[simp] theorem setWindow_reports (s : State) (u : Chip) (k : Nat) (w : Window) : (s.setWindow u k w).reports = s.reports := rfl
@[simp] theorem setWindow_epochs (s : State) (u : Chip) (k : Nat) (w : Window) : (s.setWindow u k w).epochs = s.epochs := rfl
@[simp] theorem setWindow_txq (s : State) (u : Chip) (k : Nat) (w : Window) : (s.setWindow u k w).txq = s.txq := rfl
@[simp] theorem setWindow_prismHeld (s : State) (u : Chip) (k : Nat) (w : Window) : (s.setWindow u k w).prismHeld = s.prismHeld := rfl
@[simp] theorem setWindow_proxies (s : State) (u : Chip) (k : Nat) (w : Window) : (s.setWindow u k w).proxies = s.proxies := rfl
@[simp] theorem setWindow_gaps (s : State) (u : Chip) (k : Nat) (w : Window) : (s.setWindow u k w).gaps = s.gaps := rfl
@[simp] theorem setWindow_noticeGens (s : State) (u : Chip) (k : Nat) (w : Window) : (s.setWindow u k w).noticeGens = s.noticeGens := rfl
@[simp] theorem setWindow_egress (s : State) (u : Chip) (k : Nat) (w : Window) : (s.setWindow u k w).egress = s.egress := rfl
@[simp] theorem setWindow_txFlows (s : State) (u : Chip) (k : Nat) (w : Window) : (s.setWindow u k w).txFlows = s.txFlows := rfl
@[simp] theorem setWindow_flowFree (s : State) (u : Chip) (k : Nat) (w : Window) : (s.setWindow u k w).flowFree = s.flowFree := rfl
@[simp] theorem setWindow_xlat (s : State) (u : Chip) (k : Nat) (w : Window) : (s.setWindow u k w).xlat = s.xlat := rfl
@[simp] theorem setWindow_flatStage (s : State) (u : Chip) (k : Nat) (w : Window) : (s.setWindow u k w).flatStage = s.flatStage := rfl
@[simp] theorem setWindow_jobStage (s : State) (u : Chip) (k : Nat) (w : Window) : (s.setWindow u k w).jobStage = s.jobStage := rfl
@[simp] theorem setWindow_natDel (s : State) (u : Chip) (k : Nat) (w : Window) : (s.setWindow u k w).natDel = s.natDel := rfl
@[simp] theorem setWindow_jobs (s : State) (u : Chip) (k : Nat) (w : Window) : (s.setWindow u k w).jobs = s.jobs := rfl
@[simp] theorem setWindow_insts (s : State) (u : Chip) (k : Nat) (w : Window) : (s.setWindow u k w).insts = s.insts := rfl
@[simp] theorem setWindow_bcasts (s : State) (u : Chip) (k : Nat) (w : Window) : (s.setWindow u k w).bcasts = s.bcasts := rfl
@[simp] theorem setWindow_jsRuns (s : State) (u : Chip) (k : Nat) (w : Window) : (s.setWindow u k w).jsRuns = s.jsRuns := rfl
@[simp] theorem setWindow_stepHist (s : State) (u : Chip) (k : Nat) (w : Window) : (s.setWindow u k w).stepHist = s.stepHist := rfl
@[simp] theorem setWindow_govSeen (s : State) (u : Chip) (k : Nat) (w : Window) : (s.setWindow u k w).govSeen = s.govSeen := rfl
@[simp] theorem setWindow_rxFlows (s : State) (u : Chip) (k : Nat) (w : Window) : (s.setWindow u k w).rxFlows = s.rxFlows := rfl
@[simp] theorem setWindow_ctxs (s : State) (u : Chip) (k : Nat) (w : Window) : (s.setWindow u k w).ctxs = s.ctxs := rfl
@[simp] theorem setWindow_ingest (s : State) (u : Chip) (k : Nat) (w : Window) : (s.setWindow u k w).ingest = s.ingest := rfl
@[simp] theorem setWindow_ingestWait (s : State) (u : Chip) (k : Nat) (w : Window) : (s.setWindow u k w).ingestWait = s.ingestWait := rfl
@[simp] theorem setWindow_healthBuf (s : State) (u : Chip) (k : Nat) (w : Window) : (s.setWindow u k w).healthBuf = s.healthBuf := rfl
@[simp] theorem setWindow_lensSlots (s : State) (u : Chip) (k : Nat) (w : Window) : (s.setWindow u k w).lensSlots = s.lensSlots := rfl
@[simp] theorem setWindow_lensOpen (s : State) (u : Chip) (k : Nat) (w : Window) : (s.setWindow u k w).lensOpen = s.lensOpen := rfl
@[simp] theorem setWindow_lensClosed (s : State) (u : Chip) (k : Nat) (w : Window) : (s.setWindow u k w).lensClosed = s.lensClosed := rfl
@[simp] theorem setWindow_lensHolds (s : State) (u : Chip) (k : Nat) (w : Window) : (s.setWindow u k w).lensHolds = s.lensHolds := rfl
@[simp] theorem setWindow_lensExport (s : State) (u : Chip) (k : Nat) (w : Window) : (s.setWindow u k w).lensExport = s.lensExport := rfl
@[simp] theorem setWindow_metrics (s : State) (u : Chip) (k : Nat) (w : Window) : (s.setWindow u k w).metrics = s.metrics := rfl
@[simp] theorem setWindow_mboxes (s : State) (u : Chip) (k : Nat) (w : Window) : (s.setWindow u k w).mboxes = s.mboxes := rfl
@[simp] theorem setWindow_mboxSend (s : State) (u : Chip) (k : Nat) (w : Window) : (s.setWindow u k w).mboxSend = s.mboxSend := rfl
@[simp] theorem setWindow_imem (s : State) (u : Chip) (k : Nat) (w : Window) : (s.setWindow u k w).imem = s.imem := rfl
@[simp] theorem setWindow_dmem (s : State) (u : Chip) (k : Nat) (w : Window) : (s.setWindow u k w).dmem = s.dmem := rfl
@[simp] theorem setWindow_imgBuf (s : State) (u : Chip) (k : Nat) (w : Window) : (s.setWindow u k w).imgBuf = s.imgBuf := rfl
@[simp] theorem setWindow_imgHash (s : State) (u : Chip) (k : Nat) (w : Window) : (s.setWindow u k w).imgHash = s.imgHash := rfl
@[simp] theorem setWindow_corrected (s : State) (u : Chip) (k : Nat) (w : Window) : (s.setWindow u k w).corrected = s.corrected := rfl
@[simp] theorem setWindow_mirrorWin (s : State) (u : Chip) (k : Nat) (w : Window) : (s.setWindow u k w).mirrorWin = s.mirrorWin := rfl
@[simp] theorem setWindow_recent (s : State) (u : Chip) (k : Nat) (w : Window) : (s.setWindow u k w).recent = s.recent := rfl
@[simp] theorem setWindow_field (s : State) (u : Chip) (k : Nat) (w : Window) : (s.setWindow u k w).field = s.field := rfl
@[simp] theorem setWindow_barHost (s : State) (u : Chip) (k : Nat) (w : Window) : (s.setWindow u k w).barHost = s.barHost := rfl
@[simp] theorem setWindow_barEcho (s : State) (u : Chip) (k : Nat) (w : Window) : (s.setWindow u k w).barEcho = s.barEcho := rfl

@[simp] theorem setEpisode_pending (s : State) (u : Chip) (k : Nat) (e : Option Episode) : (s.setEpisode u k e).pending = s.pending := rfl
@[simp] theorem setEpisode_size (s : State) (u : Chip) (k : Nat) (e : Option Episode) : (s.setEpisode u k e).size = s.size := rfl
@[simp] theorem setEpisode_regs (s : State) (u : Chip) (k : Nat) (e : Option Episode) : (s.setEpisode u k e).regs = s.regs := rfl
@[simp] theorem setEpisode_held (s : State) (u : Chip) (k : Nat) (e : Option Episode) : (s.setEpisode u k e).held = s.held := rfl
@[simp] theorem setEpisode_heldRead (s : State) (u : Chip) (k : Nat) (e : Option Episode) : (s.setEpisode u k e).heldRead = s.heldRead := rfl
@[simp] theorem setEpisode_now (s : State) (u : Chip) (k : Nat) (e : Option Episode) : (s.setEpisode u k e).now = s.now := rfl
@[simp] theorem setEpisode_freeCtr (s : State) (u : Chip) (k : Nat) (e : Option Episode) : (s.setEpisode u k e).freeCtr = s.freeCtr := rfl
@[simp] theorem setEpisode_out (s : State) (u : Chip) (k : Nat) (e : Option Episode) : (s.setEpisode u k e).out = s.out := rfl
@[simp] theorem setEpisode_latches (s : State) (u : Chip) (k : Nat) (e : Option Episode) : (s.setEpisode u k e).latches = s.latches := rfl
@[simp] theorem setEpisode_buffers (s : State) (u : Chip) (k : Nat) (e : Option Episode) : (s.setEpisode u k e).buffers = s.buffers := rfl
@[simp] theorem setEpisode_msixTable (s : State) (u : Chip) (k : Nat) (e : Option Episode) : (s.setEpisode u k e).msixTable = s.msixTable := rfl
@[simp] theorem setEpisode_pba (s : State) (u : Chip) (k : Nat) (e : Option Episode) : (s.setEpisode u k e).pba = s.pba := rfl
@[simp] theorem setEpisode_evRing (s : State) (u : Chip) (k : Nat) (e : Option Episode) : (s.setEpisode u k e).evRing = s.evRing := rfl
@[simp] theorem setEpisode_staging (s : State) (u : Chip) (k : Nat) (e : Option Episode) : (s.setEpisode u k e).staging = s.staging := rfl
@[simp] theorem setEpisode_bbxPartial (s : State) (u : Chip) (k : Nat) (e : Option Episode) : (s.setEpisode u k e).bbxPartial = s.bbxPartial := rfl
@[simp] theorem setEpisode_bbxPages (s : State) (u : Chip) (k : Nat) (e : Option Episode) : (s.setEpisode u k e).bbxPages = s.bbxPages := rfl
@[simp] theorem setEpisode_gasps (s : State) (u : Chip) (k : Nat) (e : Option Episode) : (s.setEpisode u k e).gasps = s.gasps := rfl
@[simp] theorem setEpisode_norSpare (s : State) (u : Chip) (k : Nat) (e : Option Episode) : (s.setEpisode u k e).norSpare = s.norSpare := rfl
@[simp] theorem setEpisode_norWithdrawn (s : State) (u : Chip) (k : Nat) (e : Option Episode) : (s.setEpisode u k e).norWithdrawn = s.norWithdrawn := rfl
@[simp] theorem setEpisode_norErases (s : State) (u : Chip) (k : Nat) (e : Option Episode) : (s.setEpisode u k e).norErases = s.norErases := rfl
@[simp] theorem setEpisode_norMap (s : State) (u : Chip) (k : Nat) (e : Option Episode) : (s.setEpisode u k e).norMap = s.norMap := rfl
@[simp] theorem setEpisode_bbxShrunk (s : State) (u : Chip) (k : Nat) (e : Option Episode) : (s.setEpisode u k e).bbxShrunk = s.bbxShrunk := rfl
@[simp] theorem setEpisode_notices (s : State) (u : Chip) (k : Nat) (e : Option Episode) : (s.setEpisode u k e).notices = s.notices := rfl
@[simp] theorem setEpisode_windows (s : State) (u : Chip) (k : Nat) (e : Option Episode) : (s.setEpisode u k e).windows = s.windows := rfl
@[simp] theorem setEpisode_dram (s : State) (u : Chip) (k : Nat) (e : Option Episode) : (s.setEpisode u k e).dram = s.dram := rfl
@[simp] theorem setEpisode_poisoned (s : State) (u : Chip) (k : Nat) (e : Option Episode) : (s.setEpisode u k e).poisoned = s.poisoned := rfl
@[simp] theorem setEpisode_nor (s : State) (u : Chip) (k : Nat) (e : Option Episode) : (s.setEpisode u k e).nor = s.nor := rfl
@[simp] theorem setEpisode_mram (s : State) (u : Chip) (k : Nat) (e : Option Episode) : (s.setEpisode u k e).mram = s.mram := rfl
@[simp] theorem setEpisode_ltc (s : State) (u : Chip) (k : Nat) (e : Option Episode) : (s.setEpisode u k e).ltc = s.ltc := rfl
@[simp] theorem setEpisode_servo (s : State) (u : Chip) (k : Nat) (e : Option Episode) : (s.setEpisode u k e).servo = s.servo := rfl
@[simp] theorem setEpisode_meridian (s : State) (u : Chip) (k : Nat) (e : Option Episode) : (s.setEpisode u k e).meridian = s.meridian := rfl
@[simp] theorem setEpisode_exchanges (s : State) (u : Chip) (k : Nat) (e : Option Episode) : (s.setEpisode u k e).exchanges = s.exchanges := rfl
@[simp] theorem setEpisode_tagQueue (s : State) (u : Chip) (k : Nat) (e : Option Episode) : (s.setEpisode u k e).tagQueue = s.tagQueue := rfl
@[simp] theorem setEpisode_snap (s : State) (u : Chip) (k : Nat) (e : Option Episode) : (s.setEpisode u k e).snap = s.snap := rfl
@[simp] theorem setEpisode_streams (s : State) (u : Chip) (k : Nat) (e : Option Episode) : (s.setEpisode u k e).streams = s.streams := rfl
@[simp] theorem setEpisode_tiles (s : State) (u : Chip) (k : Nat) (e : Option Episode) : (s.setEpisode u k e).tiles = s.tiles := rfl
@[simp] theorem setEpisode_mmGens (s : State) (u : Chip) (k : Nat) (e : Option Episode) : (s.setEpisode u k e).mmGens = s.mmGens := rfl
@[simp] theorem setEpisode_watch (s : State) (u : Chip) (k : Nat) (e : Option Episode) : (s.setEpisode u k e).watch = s.watch := rfl
@[simp] theorem setEpisode_rails (s : State) (u : Chip) (k : Nat) (e : Option Episode) : (s.setEpisode u k e).rails = s.rails := rfl
@[simp] theorem setEpisode_change (s : State) (u : Chip) (k : Nat) (e : Option Episode) : (s.setEpisode u k e).change = s.change := rfl
@[simp] theorem setEpisode_reports (s : State) (u : Chip) (k : Nat) (e : Option Episode) : (s.setEpisode u k e).reports = s.reports := rfl
@[simp] theorem setEpisode_epochs (s : State) (u : Chip) (k : Nat) (e : Option Episode) : (s.setEpisode u k e).epochs = s.epochs := rfl
@[simp] theorem setEpisode_txq (s : State) (u : Chip) (k : Nat) (e : Option Episode) : (s.setEpisode u k e).txq = s.txq := rfl
@[simp] theorem setEpisode_prismHeld (s : State) (u : Chip) (k : Nat) (e : Option Episode) : (s.setEpisode u k e).prismHeld = s.prismHeld := rfl
@[simp] theorem setEpisode_proxies (s : State) (u : Chip) (k : Nat) (e : Option Episode) : (s.setEpisode u k e).proxies = s.proxies := rfl
@[simp] theorem setEpisode_gaps (s : State) (u : Chip) (k : Nat) (e : Option Episode) : (s.setEpisode u k e).gaps = s.gaps := rfl
@[simp] theorem setEpisode_noticeGens (s : State) (u : Chip) (k : Nat) (e : Option Episode) : (s.setEpisode u k e).noticeGens = s.noticeGens := rfl
@[simp] theorem setEpisode_egress (s : State) (u : Chip) (k : Nat) (e : Option Episode) : (s.setEpisode u k e).egress = s.egress := rfl
@[simp] theorem setEpisode_txFlows (s : State) (u : Chip) (k : Nat) (e : Option Episode) : (s.setEpisode u k e).txFlows = s.txFlows := rfl
@[simp] theorem setEpisode_flowFree (s : State) (u : Chip) (k : Nat) (e : Option Episode) : (s.setEpisode u k e).flowFree = s.flowFree := rfl
@[simp] theorem setEpisode_xlat (s : State) (u : Chip) (k : Nat) (e : Option Episode) : (s.setEpisode u k e).xlat = s.xlat := rfl
@[simp] theorem setEpisode_flatStage (s : State) (u : Chip) (k : Nat) (e : Option Episode) : (s.setEpisode u k e).flatStage = s.flatStage := rfl
@[simp] theorem setEpisode_jobStage (s : State) (u : Chip) (k : Nat) (e : Option Episode) : (s.setEpisode u k e).jobStage = s.jobStage := rfl
@[simp] theorem setEpisode_natDel (s : State) (u : Chip) (k : Nat) (e : Option Episode) : (s.setEpisode u k e).natDel = s.natDel := rfl
@[simp] theorem setEpisode_jobs (s : State) (u : Chip) (k : Nat) (e : Option Episode) : (s.setEpisode u k e).jobs = s.jobs := rfl
@[simp] theorem setEpisode_insts (s : State) (u : Chip) (k : Nat) (e : Option Episode) : (s.setEpisode u k e).insts = s.insts := rfl
@[simp] theorem setEpisode_bcasts (s : State) (u : Chip) (k : Nat) (e : Option Episode) : (s.setEpisode u k e).bcasts = s.bcasts := rfl
@[simp] theorem setEpisode_jsRuns (s : State) (u : Chip) (k : Nat) (e : Option Episode) : (s.setEpisode u k e).jsRuns = s.jsRuns := rfl
@[simp] theorem setEpisode_stepHist (s : State) (u : Chip) (k : Nat) (e : Option Episode) : (s.setEpisode u k e).stepHist = s.stepHist := rfl
@[simp] theorem setEpisode_govSeen (s : State) (u : Chip) (k : Nat) (e : Option Episode) : (s.setEpisode u k e).govSeen = s.govSeen := rfl
@[simp] theorem setEpisode_rxFlows (s : State) (u : Chip) (k : Nat) (e : Option Episode) : (s.setEpisode u k e).rxFlows = s.rxFlows := rfl
@[simp] theorem setEpisode_ctxs (s : State) (u : Chip) (k : Nat) (e : Option Episode) : (s.setEpisode u k e).ctxs = s.ctxs := rfl
@[simp] theorem setEpisode_ingest (s : State) (u : Chip) (k : Nat) (e : Option Episode) : (s.setEpisode u k e).ingest = s.ingest := rfl
@[simp] theorem setEpisode_ingestWait (s : State) (u : Chip) (k : Nat) (e : Option Episode) : (s.setEpisode u k e).ingestWait = s.ingestWait := rfl
@[simp] theorem setEpisode_healthBuf (s : State) (u : Chip) (k : Nat) (e : Option Episode) : (s.setEpisode u k e).healthBuf = s.healthBuf := rfl
@[simp] theorem setEpisode_lensSlots (s : State) (u : Chip) (k : Nat) (e : Option Episode) : (s.setEpisode u k e).lensSlots = s.lensSlots := rfl
@[simp] theorem setEpisode_lensOpen (s : State) (u : Chip) (k : Nat) (e : Option Episode) : (s.setEpisode u k e).lensOpen = s.lensOpen := rfl
@[simp] theorem setEpisode_lensClosed (s : State) (u : Chip) (k : Nat) (e : Option Episode) : (s.setEpisode u k e).lensClosed = s.lensClosed := rfl
@[simp] theorem setEpisode_lensHolds (s : State) (u : Chip) (k : Nat) (e : Option Episode) : (s.setEpisode u k e).lensHolds = s.lensHolds := rfl
@[simp] theorem setEpisode_lensExport (s : State) (u : Chip) (k : Nat) (e : Option Episode) : (s.setEpisode u k e).lensExport = s.lensExport := rfl
@[simp] theorem setEpisode_metrics (s : State) (u : Chip) (k : Nat) (e : Option Episode) : (s.setEpisode u k e).metrics = s.metrics := rfl
@[simp] theorem setEpisode_mboxes (s : State) (u : Chip) (k : Nat) (e : Option Episode) : (s.setEpisode u k e).mboxes = s.mboxes := rfl
@[simp] theorem setEpisode_mboxSend (s : State) (u : Chip) (k : Nat) (e : Option Episode) : (s.setEpisode u k e).mboxSend = s.mboxSend := rfl
@[simp] theorem setEpisode_imem (s : State) (u : Chip) (k : Nat) (e : Option Episode) : (s.setEpisode u k e).imem = s.imem := rfl
@[simp] theorem setEpisode_dmem (s : State) (u : Chip) (k : Nat) (e : Option Episode) : (s.setEpisode u k e).dmem = s.dmem := rfl
@[simp] theorem setEpisode_imgBuf (s : State) (u : Chip) (k : Nat) (e : Option Episode) : (s.setEpisode u k e).imgBuf = s.imgBuf := rfl
@[simp] theorem setEpisode_imgHash (s : State) (u : Chip) (k : Nat) (e : Option Episode) : (s.setEpisode u k e).imgHash = s.imgHash := rfl
@[simp] theorem setEpisode_corrected (s : State) (u : Chip) (k : Nat) (e : Option Episode) : (s.setEpisode u k e).corrected = s.corrected := rfl
@[simp] theorem setEpisode_mirrorWin (s : State) (u : Chip) (k : Nat) (e : Option Episode) : (s.setEpisode u k e).mirrorWin = s.mirrorWin := rfl
@[simp] theorem setEpisode_recent (s : State) (u : Chip) (k : Nat) (e : Option Episode) : (s.setEpisode u k e).recent = s.recent := rfl
@[simp] theorem setEpisode_field (s : State) (u : Chip) (k : Nat) (e : Option Episode) : (s.setEpisode u k e).field = s.field := rfl
@[simp] theorem setEpisode_barHost (s : State) (u : Chip) (k : Nat) (e : Option Episode) : (s.setEpisode u k e).barHost = s.barHost := rfl
@[simp] theorem setEpisode_barEcho (s : State) (u : Chip) (k : Nat) (e : Option Episode) : (s.setEpisode u k e).barEcho = s.barEcho := rfl

@[simp] theorem setStaged_pending (s : State) (u : Chip) (l : List EvRec) : (s.setStaged u l).pending = s.pending := rfl
@[simp] theorem setStaged_size (s : State) (u : Chip) (l : List EvRec) : (s.setStaged u l).size = s.size := rfl
@[simp] theorem setStaged_regs (s : State) (u : Chip) (l : List EvRec) : (s.setStaged u l).regs = s.regs := rfl
@[simp] theorem setStaged_held (s : State) (u : Chip) (l : List EvRec) : (s.setStaged u l).held = s.held := rfl
@[simp] theorem setStaged_heldRead (s : State) (u : Chip) (l : List EvRec) : (s.setStaged u l).heldRead = s.heldRead := rfl
@[simp] theorem setStaged_now (s : State) (u : Chip) (l : List EvRec) : (s.setStaged u l).now = s.now := rfl
@[simp] theorem setStaged_freeCtr (s : State) (u : Chip) (l : List EvRec) : (s.setStaged u l).freeCtr = s.freeCtr := rfl
@[simp] theorem setStaged_out (s : State) (u : Chip) (l : List EvRec) : (s.setStaged u l).out = s.out := rfl
@[simp] theorem setStaged_latches (s : State) (u : Chip) (l : List EvRec) : (s.setStaged u l).latches = s.latches := rfl
@[simp] theorem setStaged_buffers (s : State) (u : Chip) (l : List EvRec) : (s.setStaged u l).buffers = s.buffers := rfl
@[simp] theorem setStaged_msixTable (s : State) (u : Chip) (l : List EvRec) : (s.setStaged u l).msixTable = s.msixTable := rfl
@[simp] theorem setStaged_pba (s : State) (u : Chip) (l : List EvRec) : (s.setStaged u l).pba = s.pba := rfl
@[simp] theorem setStaged_evRing (s : State) (u : Chip) (l : List EvRec) : (s.setStaged u l).evRing = s.evRing := rfl
@[simp] theorem setStaged_bbxPartial (s : State) (u : Chip) (l : List EvRec) : (s.setStaged u l).bbxPartial = s.bbxPartial := rfl
@[simp] theorem setStaged_bbxPages (s : State) (u : Chip) (l : List EvRec) : (s.setStaged u l).bbxPages = s.bbxPages := rfl
@[simp] theorem setStaged_gasps (s : State) (u : Chip) (l : List EvRec) : (s.setStaged u l).gasps = s.gasps := rfl
@[simp] theorem setStaged_norSpare (s : State) (u : Chip) (l : List EvRec) : (s.setStaged u l).norSpare = s.norSpare := rfl
@[simp] theorem setStaged_norWithdrawn (s : State) (u : Chip) (l : List EvRec) : (s.setStaged u l).norWithdrawn = s.norWithdrawn := rfl
@[simp] theorem setStaged_norErases (s : State) (u : Chip) (l : List EvRec) : (s.setStaged u l).norErases = s.norErases := rfl
@[simp] theorem setStaged_norMap (s : State) (u : Chip) (l : List EvRec) : (s.setStaged u l).norMap = s.norMap := rfl
@[simp] theorem setStaged_bbxShrunk (s : State) (u : Chip) (l : List EvRec) : (s.setStaged u l).bbxShrunk = s.bbxShrunk := rfl
@[simp] theorem setStaged_notices (s : State) (u : Chip) (l : List EvRec) : (s.setStaged u l).notices = s.notices := rfl
@[simp] theorem setStaged_windows (s : State) (u : Chip) (l : List EvRec) : (s.setStaged u l).windows = s.windows := rfl
@[simp] theorem setStaged_episodes (s : State) (u : Chip) (l : List EvRec) : (s.setStaged u l).episodes = s.episodes := rfl
@[simp] theorem setStaged_dram (s : State) (u : Chip) (l : List EvRec) : (s.setStaged u l).dram = s.dram := rfl
@[simp] theorem setStaged_poisoned (s : State) (u : Chip) (l : List EvRec) : (s.setStaged u l).poisoned = s.poisoned := rfl
@[simp] theorem setStaged_nor (s : State) (u : Chip) (l : List EvRec) : (s.setStaged u l).nor = s.nor := rfl
@[simp] theorem setStaged_mram (s : State) (u : Chip) (l : List EvRec) : (s.setStaged u l).mram = s.mram := rfl
@[simp] theorem setStaged_ltc (s : State) (u : Chip) (l : List EvRec) : (s.setStaged u l).ltc = s.ltc := rfl
@[simp] theorem setStaged_servo (s : State) (u : Chip) (l : List EvRec) : (s.setStaged u l).servo = s.servo := rfl
@[simp] theorem setStaged_meridian (s : State) (u : Chip) (l : List EvRec) : (s.setStaged u l).meridian = s.meridian := rfl
@[simp] theorem setStaged_exchanges (s : State) (u : Chip) (l : List EvRec) : (s.setStaged u l).exchanges = s.exchanges := rfl
@[simp] theorem setStaged_tagQueue (s : State) (u : Chip) (l : List EvRec) : (s.setStaged u l).tagQueue = s.tagQueue := rfl
@[simp] theorem setStaged_snap (s : State) (u : Chip) (l : List EvRec) : (s.setStaged u l).snap = s.snap := rfl
@[simp] theorem setStaged_streams (s : State) (u : Chip) (l : List EvRec) : (s.setStaged u l).streams = s.streams := rfl
@[simp] theorem setStaged_tiles (s : State) (u : Chip) (l : List EvRec) : (s.setStaged u l).tiles = s.tiles := rfl
@[simp] theorem setStaged_mmGens (s : State) (u : Chip) (l : List EvRec) : (s.setStaged u l).mmGens = s.mmGens := rfl
@[simp] theorem setStaged_watch (s : State) (u : Chip) (l : List EvRec) : (s.setStaged u l).watch = s.watch := rfl
@[simp] theorem setStaged_rails (s : State) (u : Chip) (l : List EvRec) : (s.setStaged u l).rails = s.rails := rfl
@[simp] theorem setStaged_change (s : State) (u : Chip) (l : List EvRec) : (s.setStaged u l).change = s.change := rfl
@[simp] theorem setStaged_reports (s : State) (u : Chip) (l : List EvRec) : (s.setStaged u l).reports = s.reports := rfl
@[simp] theorem setStaged_epochs (s : State) (u : Chip) (l : List EvRec) : (s.setStaged u l).epochs = s.epochs := rfl
@[simp] theorem setStaged_txq (s : State) (u : Chip) (l : List EvRec) : (s.setStaged u l).txq = s.txq := rfl
@[simp] theorem setStaged_prismHeld (s : State) (u : Chip) (l : List EvRec) : (s.setStaged u l).prismHeld = s.prismHeld := rfl
@[simp] theorem setStaged_proxies (s : State) (u : Chip) (l : List EvRec) : (s.setStaged u l).proxies = s.proxies := rfl
@[simp] theorem setStaged_gaps (s : State) (u : Chip) (l : List EvRec) : (s.setStaged u l).gaps = s.gaps := rfl
@[simp] theorem setStaged_noticeGens (s : State) (u : Chip) (l : List EvRec) : (s.setStaged u l).noticeGens = s.noticeGens := rfl
@[simp] theorem setStaged_egress (s : State) (u : Chip) (l : List EvRec) : (s.setStaged u l).egress = s.egress := rfl
@[simp] theorem setStaged_txFlows (s : State) (u : Chip) (l : List EvRec) : (s.setStaged u l).txFlows = s.txFlows := rfl
@[simp] theorem setStaged_flowFree (s : State) (u : Chip) (l : List EvRec) : (s.setStaged u l).flowFree = s.flowFree := rfl
@[simp] theorem setStaged_xlat (s : State) (u : Chip) (l : List EvRec) : (s.setStaged u l).xlat = s.xlat := rfl
@[simp] theorem setStaged_flatStage (s : State) (u : Chip) (l : List EvRec) : (s.setStaged u l).flatStage = s.flatStage := rfl
@[simp] theorem setStaged_jobStage (s : State) (u : Chip) (l : List EvRec) : (s.setStaged u l).jobStage = s.jobStage := rfl
@[simp] theorem setStaged_natDel (s : State) (u : Chip) (l : List EvRec) : (s.setStaged u l).natDel = s.natDel := rfl
@[simp] theorem setStaged_jobs (s : State) (u : Chip) (l : List EvRec) : (s.setStaged u l).jobs = s.jobs := rfl
@[simp] theorem setStaged_insts (s : State) (u : Chip) (l : List EvRec) : (s.setStaged u l).insts = s.insts := rfl
@[simp] theorem setStaged_bcasts (s : State) (u : Chip) (l : List EvRec) : (s.setStaged u l).bcasts = s.bcasts := rfl
@[simp] theorem setStaged_jsRuns (s : State) (u : Chip) (l : List EvRec) : (s.setStaged u l).jsRuns = s.jsRuns := rfl
@[simp] theorem setStaged_stepHist (s : State) (u : Chip) (l : List EvRec) : (s.setStaged u l).stepHist = s.stepHist := rfl
@[simp] theorem setStaged_govSeen (s : State) (u : Chip) (l : List EvRec) : (s.setStaged u l).govSeen = s.govSeen := rfl
@[simp] theorem setStaged_rxFlows (s : State) (u : Chip) (l : List EvRec) : (s.setStaged u l).rxFlows = s.rxFlows := rfl
@[simp] theorem setStaged_ctxs (s : State) (u : Chip) (l : List EvRec) : (s.setStaged u l).ctxs = s.ctxs := rfl
@[simp] theorem setStaged_ingest (s : State) (u : Chip) (l : List EvRec) : (s.setStaged u l).ingest = s.ingest := rfl
@[simp] theorem setStaged_ingestWait (s : State) (u : Chip) (l : List EvRec) : (s.setStaged u l).ingestWait = s.ingestWait := rfl
@[simp] theorem setStaged_healthBuf (s : State) (u : Chip) (l : List EvRec) : (s.setStaged u l).healthBuf = s.healthBuf := rfl
@[simp] theorem setStaged_lensSlots (s : State) (u : Chip) (l : List EvRec) : (s.setStaged u l).lensSlots = s.lensSlots := rfl
@[simp] theorem setStaged_lensOpen (s : State) (u : Chip) (l : List EvRec) : (s.setStaged u l).lensOpen = s.lensOpen := rfl
@[simp] theorem setStaged_lensClosed (s : State) (u : Chip) (l : List EvRec) : (s.setStaged u l).lensClosed = s.lensClosed := rfl
@[simp] theorem setStaged_lensHolds (s : State) (u : Chip) (l : List EvRec) : (s.setStaged u l).lensHolds = s.lensHolds := rfl
@[simp] theorem setStaged_lensExport (s : State) (u : Chip) (l : List EvRec) : (s.setStaged u l).lensExport = s.lensExport := rfl
@[simp] theorem setStaged_metrics (s : State) (u : Chip) (l : List EvRec) : (s.setStaged u l).metrics = s.metrics := rfl
@[simp] theorem setStaged_mboxes (s : State) (u : Chip) (l : List EvRec) : (s.setStaged u l).mboxes = s.mboxes := rfl
@[simp] theorem setStaged_mboxSend (s : State) (u : Chip) (l : List EvRec) : (s.setStaged u l).mboxSend = s.mboxSend := rfl
@[simp] theorem setStaged_imem (s : State) (u : Chip) (l : List EvRec) : (s.setStaged u l).imem = s.imem := rfl
@[simp] theorem setStaged_dmem (s : State) (u : Chip) (l : List EvRec) : (s.setStaged u l).dmem = s.dmem := rfl
@[simp] theorem setStaged_imgBuf (s : State) (u : Chip) (l : List EvRec) : (s.setStaged u l).imgBuf = s.imgBuf := rfl
@[simp] theorem setStaged_imgHash (s : State) (u : Chip) (l : List EvRec) : (s.setStaged u l).imgHash = s.imgHash := rfl
@[simp] theorem setStaged_corrected (s : State) (u : Chip) (l : List EvRec) : (s.setStaged u l).corrected = s.corrected := rfl
@[simp] theorem setStaged_mirrorWin (s : State) (u : Chip) (l : List EvRec) : (s.setStaged u l).mirrorWin = s.mirrorWin := rfl
@[simp] theorem setStaged_recent (s : State) (u : Chip) (l : List EvRec) : (s.setStaged u l).recent = s.recent := rfl
@[simp] theorem setStaged_field (s : State) (u : Chip) (l : List EvRec) : (s.setStaged u l).field = s.field := rfl
@[simp] theorem setStaged_barHost (s : State) (u : Chip) (l : List EvRec) : (s.setStaged u l).barHost = s.barHost := rfl
@[simp] theorem setStaged_barEcho (s : State) (u : Chip) (l : List EvRec) : (s.setStaged u l).barEcho = s.barEcho := rfl

@[simp] theorem dropLow_pending (s : State) (u : Chip) (r : Nat) : (s.dropLow u r).pending = s.pending := rfl
@[simp] theorem dropLow_size (s : State) (u : Chip) (r : Nat) : (s.dropLow u r).size = s.size := rfl
@[simp] theorem dropLow_regs (s : State) (u : Chip) (r : Nat) : (s.dropLow u r).regs = s.regs := rfl
@[simp] theorem dropLow_held (s : State) (u : Chip) (r : Nat) : (s.dropLow u r).held = s.held := rfl
@[simp] theorem dropLow_heldRead (s : State) (u : Chip) (r : Nat) : (s.dropLow u r).heldRead = s.heldRead := rfl
@[simp] theorem dropLow_now (s : State) (u : Chip) (r : Nat) : (s.dropLow u r).now = s.now := rfl
@[simp] theorem dropLow_freeCtr (s : State) (u : Chip) (r : Nat) : (s.dropLow u r).freeCtr = s.freeCtr := rfl
@[simp] theorem dropLow_out (s : State) (u : Chip) (r : Nat) : (s.dropLow u r).out = s.out := rfl
@[simp] theorem dropLow_latches (s : State) (u : Chip) (r : Nat) : (s.dropLow u r).latches = s.latches := rfl
@[simp] theorem dropLow_msixTable (s : State) (u : Chip) (r : Nat) : (s.dropLow u r).msixTable = s.msixTable := rfl
@[simp] theorem dropLow_pba (s : State) (u : Chip) (r : Nat) : (s.dropLow u r).pba = s.pba := rfl
@[simp] theorem dropLow_evRing (s : State) (u : Chip) (r : Nat) : (s.dropLow u r).evRing = s.evRing := rfl
@[simp] theorem dropLow_staging (s : State) (u : Chip) (r : Nat) : (s.dropLow u r).staging = s.staging := rfl
@[simp] theorem dropLow_bbxPartial (s : State) (u : Chip) (r : Nat) : (s.dropLow u r).bbxPartial = s.bbxPartial := rfl
@[simp] theorem dropLow_bbxPages (s : State) (u : Chip) (r : Nat) : (s.dropLow u r).bbxPages = s.bbxPages := rfl
@[simp] theorem dropLow_gasps (s : State) (u : Chip) (r : Nat) : (s.dropLow u r).gasps = s.gasps := rfl
@[simp] theorem dropLow_norSpare (s : State) (u : Chip) (r : Nat) : (s.dropLow u r).norSpare = s.norSpare := rfl
@[simp] theorem dropLow_norWithdrawn (s : State) (u : Chip) (r : Nat) : (s.dropLow u r).norWithdrawn = s.norWithdrawn := rfl
@[simp] theorem dropLow_norErases (s : State) (u : Chip) (r : Nat) : (s.dropLow u r).norErases = s.norErases := rfl
@[simp] theorem dropLow_norMap (s : State) (u : Chip) (r : Nat) : (s.dropLow u r).norMap = s.norMap := rfl
@[simp] theorem dropLow_bbxShrunk (s : State) (u : Chip) (r : Nat) : (s.dropLow u r).bbxShrunk = s.bbxShrunk := rfl
@[simp] theorem dropLow_notices (s : State) (u : Chip) (r : Nat) : (s.dropLow u r).notices = s.notices := rfl
@[simp] theorem dropLow_windows (s : State) (u : Chip) (r : Nat) : (s.dropLow u r).windows = s.windows := rfl
@[simp] theorem dropLow_episodes (s : State) (u : Chip) (r : Nat) : (s.dropLow u r).episodes = s.episodes := rfl
@[simp] theorem dropLow_dram (s : State) (u : Chip) (r : Nat) : (s.dropLow u r).dram = s.dram := rfl
@[simp] theorem dropLow_poisoned (s : State) (u : Chip) (r : Nat) : (s.dropLow u r).poisoned = s.poisoned := rfl
@[simp] theorem dropLow_nor (s : State) (u : Chip) (r : Nat) : (s.dropLow u r).nor = s.nor := rfl
@[simp] theorem dropLow_mram (s : State) (u : Chip) (r : Nat) : (s.dropLow u r).mram = s.mram := rfl
@[simp] theorem dropLow_ltc (s : State) (u : Chip) (r : Nat) : (s.dropLow u r).ltc = s.ltc := rfl
@[simp] theorem dropLow_servo (s : State) (u : Chip) (r : Nat) : (s.dropLow u r).servo = s.servo := rfl
@[simp] theorem dropLow_meridian (s : State) (u : Chip) (r : Nat) : (s.dropLow u r).meridian = s.meridian := rfl
@[simp] theorem dropLow_exchanges (s : State) (u : Chip) (r : Nat) : (s.dropLow u r).exchanges = s.exchanges := rfl
@[simp] theorem dropLow_tagQueue (s : State) (u : Chip) (r : Nat) : (s.dropLow u r).tagQueue = s.tagQueue := rfl
@[simp] theorem dropLow_snap (s : State) (u : Chip) (r : Nat) : (s.dropLow u r).snap = s.snap := rfl
@[simp] theorem dropLow_streams (s : State) (u : Chip) (r : Nat) : (s.dropLow u r).streams = s.streams := rfl
@[simp] theorem dropLow_tiles (s : State) (u : Chip) (r : Nat) : (s.dropLow u r).tiles = s.tiles := rfl
@[simp] theorem dropLow_mmGens (s : State) (u : Chip) (r : Nat) : (s.dropLow u r).mmGens = s.mmGens := rfl
@[simp] theorem dropLow_watch (s : State) (u : Chip) (r : Nat) : (s.dropLow u r).watch = s.watch := rfl
@[simp] theorem dropLow_rails (s : State) (u : Chip) (r : Nat) : (s.dropLow u r).rails = s.rails := rfl
@[simp] theorem dropLow_change (s : State) (u : Chip) (r : Nat) : (s.dropLow u r).change = s.change := rfl
@[simp] theorem dropLow_reports (s : State) (u : Chip) (r : Nat) : (s.dropLow u r).reports = s.reports := rfl
@[simp] theorem dropLow_epochs (s : State) (u : Chip) (r : Nat) : (s.dropLow u r).epochs = s.epochs := rfl
@[simp] theorem dropLow_txq (s : State) (u : Chip) (r : Nat) : (s.dropLow u r).txq = s.txq := rfl
@[simp] theorem dropLow_prismHeld (s : State) (u : Chip) (r : Nat) : (s.dropLow u r).prismHeld = s.prismHeld := rfl
@[simp] theorem dropLow_proxies (s : State) (u : Chip) (r : Nat) : (s.dropLow u r).proxies = s.proxies := rfl
@[simp] theorem dropLow_gaps (s : State) (u : Chip) (r : Nat) : (s.dropLow u r).gaps = s.gaps := rfl
@[simp] theorem dropLow_noticeGens (s : State) (u : Chip) (r : Nat) : (s.dropLow u r).noticeGens = s.noticeGens := rfl
@[simp] theorem dropLow_egress (s : State) (u : Chip) (r : Nat) : (s.dropLow u r).egress = s.egress := rfl
@[simp] theorem dropLow_txFlows (s : State) (u : Chip) (r : Nat) : (s.dropLow u r).txFlows = s.txFlows := rfl
@[simp] theorem dropLow_flowFree (s : State) (u : Chip) (r : Nat) : (s.dropLow u r).flowFree = s.flowFree := rfl
@[simp] theorem dropLow_xlat (s : State) (u : Chip) (r : Nat) : (s.dropLow u r).xlat = s.xlat := rfl
@[simp] theorem dropLow_flatStage (s : State) (u : Chip) (r : Nat) : (s.dropLow u r).flatStage = s.flatStage := rfl
@[simp] theorem dropLow_jobStage (s : State) (u : Chip) (r : Nat) : (s.dropLow u r).jobStage = s.jobStage := rfl
@[simp] theorem dropLow_natDel (s : State) (u : Chip) (r : Nat) : (s.dropLow u r).natDel = s.natDel := rfl
@[simp] theorem dropLow_jobs (s : State) (u : Chip) (r : Nat) : (s.dropLow u r).jobs = s.jobs := rfl
@[simp] theorem dropLow_insts (s : State) (u : Chip) (r : Nat) : (s.dropLow u r).insts = s.insts := rfl
@[simp] theorem dropLow_bcasts (s : State) (u : Chip) (r : Nat) : (s.dropLow u r).bcasts = s.bcasts := rfl
@[simp] theorem dropLow_jsRuns (s : State) (u : Chip) (r : Nat) : (s.dropLow u r).jsRuns = s.jsRuns := rfl
@[simp] theorem dropLow_stepHist (s : State) (u : Chip) (r : Nat) : (s.dropLow u r).stepHist = s.stepHist := rfl
@[simp] theorem dropLow_govSeen (s : State) (u : Chip) (r : Nat) : (s.dropLow u r).govSeen = s.govSeen := rfl
@[simp] theorem dropLow_rxFlows (s : State) (u : Chip) (r : Nat) : (s.dropLow u r).rxFlows = s.rxFlows := rfl
@[simp] theorem dropLow_ctxs (s : State) (u : Chip) (r : Nat) : (s.dropLow u r).ctxs = s.ctxs := rfl
@[simp] theorem dropLow_ingest (s : State) (u : Chip) (r : Nat) : (s.dropLow u r).ingest = s.ingest := rfl
@[simp] theorem dropLow_ingestWait (s : State) (u : Chip) (r : Nat) : (s.dropLow u r).ingestWait = s.ingestWait := rfl
@[simp] theorem dropLow_healthBuf (s : State) (u : Chip) (r : Nat) : (s.dropLow u r).healthBuf = s.healthBuf := rfl
@[simp] theorem dropLow_lensSlots (s : State) (u : Chip) (r : Nat) : (s.dropLow u r).lensSlots = s.lensSlots := rfl
@[simp] theorem dropLow_lensOpen (s : State) (u : Chip) (r : Nat) : (s.dropLow u r).lensOpen = s.lensOpen := rfl
@[simp] theorem dropLow_lensClosed (s : State) (u : Chip) (r : Nat) : (s.dropLow u r).lensClosed = s.lensClosed := rfl
@[simp] theorem dropLow_lensHolds (s : State) (u : Chip) (r : Nat) : (s.dropLow u r).lensHolds = s.lensHolds := rfl
@[simp] theorem dropLow_lensExport (s : State) (u : Chip) (r : Nat) : (s.dropLow u r).lensExport = s.lensExport := rfl
@[simp] theorem dropLow_metrics (s : State) (u : Chip) (r : Nat) : (s.dropLow u r).metrics = s.metrics := rfl
@[simp] theorem dropLow_mboxes (s : State) (u : Chip) (r : Nat) : (s.dropLow u r).mboxes = s.mboxes := rfl
@[simp] theorem dropLow_mboxSend (s : State) (u : Chip) (r : Nat) : (s.dropLow u r).mboxSend = s.mboxSend := rfl
@[simp] theorem dropLow_imem (s : State) (u : Chip) (r : Nat) : (s.dropLow u r).imem = s.imem := rfl
@[simp] theorem dropLow_dmem (s : State) (u : Chip) (r : Nat) : (s.dropLow u r).dmem = s.dmem := rfl
@[simp] theorem dropLow_imgBuf (s : State) (u : Chip) (r : Nat) : (s.dropLow u r).imgBuf = s.imgBuf := rfl
@[simp] theorem dropLow_imgHash (s : State) (u : Chip) (r : Nat) : (s.dropLow u r).imgHash = s.imgHash := rfl
@[simp] theorem dropLow_corrected (s : State) (u : Chip) (r : Nat) : (s.dropLow u r).corrected = s.corrected := rfl
@[simp] theorem dropLow_mirrorWin (s : State) (u : Chip) (r : Nat) : (s.dropLow u r).mirrorWin = s.mirrorWin := rfl
@[simp] theorem dropLow_recent (s : State) (u : Chip) (r : Nat) : (s.dropLow u r).recent = s.recent := rfl
@[simp] theorem dropLow_field (s : State) (u : Chip) (r : Nat) : (s.dropLow u r).field = s.field := rfl
@[simp] theorem dropLow_barHost (s : State) (u : Chip) (r : Nat) : (s.dropLow u r).barHost = s.barHost := rfl
@[simp] theorem dropLow_barEcho (s : State) (u : Chip) (r : Nat) : (s.dropLow u r).barEcho = s.barEcho := rfl

@[simp] theorem clearPage_pending (s : State) (u : Chip) (b : Blk) (lo hi : Nat) : (s.clearPage u b lo hi).pending = s.pending := rfl
@[simp] theorem clearPage_size (s : State) (u : Chip) (b : Blk) (lo hi : Nat) : (s.clearPage u b lo hi).size = s.size := rfl
@[simp] theorem clearPage_held (s : State) (u : Chip) (b : Blk) (lo hi : Nat) : (s.clearPage u b lo hi).held = s.held := rfl
@[simp] theorem clearPage_heldRead (s : State) (u : Chip) (b : Blk) (lo hi : Nat) : (s.clearPage u b lo hi).heldRead = s.heldRead := rfl
@[simp] theorem clearPage_now (s : State) (u : Chip) (b : Blk) (lo hi : Nat) : (s.clearPage u b lo hi).now = s.now := rfl
@[simp] theorem clearPage_freeCtr (s : State) (u : Chip) (b : Blk) (lo hi : Nat) : (s.clearPage u b lo hi).freeCtr = s.freeCtr := rfl
@[simp] theorem clearPage_out (s : State) (u : Chip) (b : Blk) (lo hi : Nat) : (s.clearPage u b lo hi).out = s.out := rfl
@[simp] theorem clearPage_latches (s : State) (u : Chip) (b : Blk) (lo hi : Nat) : (s.clearPage u b lo hi).latches = s.latches := rfl
@[simp] theorem clearPage_buffers (s : State) (u : Chip) (b : Blk) (lo hi : Nat) : (s.clearPage u b lo hi).buffers = s.buffers := rfl
@[simp] theorem clearPage_msixTable (s : State) (u : Chip) (b : Blk) (lo hi : Nat) : (s.clearPage u b lo hi).msixTable = s.msixTable := rfl
@[simp] theorem clearPage_pba (s : State) (u : Chip) (b : Blk) (lo hi : Nat) : (s.clearPage u b lo hi).pba = s.pba := rfl
@[simp] theorem clearPage_evRing (s : State) (u : Chip) (b : Blk) (lo hi : Nat) : (s.clearPage u b lo hi).evRing = s.evRing := rfl
@[simp] theorem clearPage_staging (s : State) (u : Chip) (b : Blk) (lo hi : Nat) : (s.clearPage u b lo hi).staging = s.staging := rfl
@[simp] theorem clearPage_bbxPartial (s : State) (u : Chip) (b : Blk) (lo hi : Nat) : (s.clearPage u b lo hi).bbxPartial = s.bbxPartial := rfl
@[simp] theorem clearPage_bbxPages (s : State) (u : Chip) (b : Blk) (lo hi : Nat) : (s.clearPage u b lo hi).bbxPages = s.bbxPages := rfl
@[simp] theorem clearPage_gasps (s : State) (u : Chip) (b : Blk) (lo hi : Nat) : (s.clearPage u b lo hi).gasps = s.gasps := rfl
@[simp] theorem clearPage_norSpare (s : State) (u : Chip) (b : Blk) (lo hi : Nat) : (s.clearPage u b lo hi).norSpare = s.norSpare := rfl
@[simp] theorem clearPage_norWithdrawn (s : State) (u : Chip) (b : Blk) (lo hi : Nat) : (s.clearPage u b lo hi).norWithdrawn = s.norWithdrawn := rfl
@[simp] theorem clearPage_norErases (s : State) (u : Chip) (b : Blk) (lo hi : Nat) : (s.clearPage u b lo hi).norErases = s.norErases := rfl
@[simp] theorem clearPage_norMap (s : State) (u : Chip) (b : Blk) (lo hi : Nat) : (s.clearPage u b lo hi).norMap = s.norMap := rfl
@[simp] theorem clearPage_bbxShrunk (s : State) (u : Chip) (b : Blk) (lo hi : Nat) : (s.clearPage u b lo hi).bbxShrunk = s.bbxShrunk := rfl
@[simp] theorem clearPage_notices (s : State) (u : Chip) (b : Blk) (lo hi : Nat) : (s.clearPage u b lo hi).notices = s.notices := rfl
@[simp] theorem clearPage_windows (s : State) (u : Chip) (b : Blk) (lo hi : Nat) : (s.clearPage u b lo hi).windows = s.windows := rfl
@[simp] theorem clearPage_episodes (s : State) (u : Chip) (b : Blk) (lo hi : Nat) : (s.clearPage u b lo hi).episodes = s.episodes := rfl
@[simp] theorem clearPage_dram (s : State) (u : Chip) (b : Blk) (lo hi : Nat) : (s.clearPage u b lo hi).dram = s.dram := rfl
@[simp] theorem clearPage_poisoned (s : State) (u : Chip) (b : Blk) (lo hi : Nat) : (s.clearPage u b lo hi).poisoned = s.poisoned := rfl
@[simp] theorem clearPage_nor (s : State) (u : Chip) (b : Blk) (lo hi : Nat) : (s.clearPage u b lo hi).nor = s.nor := rfl
@[simp] theorem clearPage_mram (s : State) (u : Chip) (b : Blk) (lo hi : Nat) : (s.clearPage u b lo hi).mram = s.mram := rfl
@[simp] theorem clearPage_ltc (s : State) (u : Chip) (b : Blk) (lo hi : Nat) : (s.clearPage u b lo hi).ltc = s.ltc := rfl
@[simp] theorem clearPage_servo (s : State) (u : Chip) (b : Blk) (lo hi : Nat) : (s.clearPage u b lo hi).servo = s.servo := rfl
@[simp] theorem clearPage_meridian (s : State) (u : Chip) (b : Blk) (lo hi : Nat) : (s.clearPage u b lo hi).meridian = s.meridian := rfl
@[simp] theorem clearPage_exchanges (s : State) (u : Chip) (b : Blk) (lo hi : Nat) : (s.clearPage u b lo hi).exchanges = s.exchanges := rfl
@[simp] theorem clearPage_tagQueue (s : State) (u : Chip) (b : Blk) (lo hi : Nat) : (s.clearPage u b lo hi).tagQueue = s.tagQueue := rfl
@[simp] theorem clearPage_snap (s : State) (u : Chip) (b : Blk) (lo hi : Nat) : (s.clearPage u b lo hi).snap = s.snap := rfl
@[simp] theorem clearPage_streams (s : State) (u : Chip) (b : Blk) (lo hi : Nat) : (s.clearPage u b lo hi).streams = s.streams := rfl
@[simp] theorem clearPage_tiles (s : State) (u : Chip) (b : Blk) (lo hi : Nat) : (s.clearPage u b lo hi).tiles = s.tiles := rfl
@[simp] theorem clearPage_mmGens (s : State) (u : Chip) (b : Blk) (lo hi : Nat) : (s.clearPage u b lo hi).mmGens = s.mmGens := rfl
@[simp] theorem clearPage_watch (s : State) (u : Chip) (b : Blk) (lo hi : Nat) : (s.clearPage u b lo hi).watch = s.watch := rfl
@[simp] theorem clearPage_rails (s : State) (u : Chip) (b : Blk) (lo hi : Nat) : (s.clearPage u b lo hi).rails = s.rails := rfl
@[simp] theorem clearPage_change (s : State) (u : Chip) (b : Blk) (lo hi : Nat) : (s.clearPage u b lo hi).change = s.change := rfl
@[simp] theorem clearPage_reports (s : State) (u : Chip) (b : Blk) (lo hi : Nat) : (s.clearPage u b lo hi).reports = s.reports := rfl
@[simp] theorem clearPage_epochs (s : State) (u : Chip) (b : Blk) (lo hi : Nat) : (s.clearPage u b lo hi).epochs = s.epochs := rfl
@[simp] theorem clearPage_txq (s : State) (u : Chip) (b : Blk) (lo hi : Nat) : (s.clearPage u b lo hi).txq = s.txq := rfl
@[simp] theorem clearPage_prismHeld (s : State) (u : Chip) (b : Blk) (lo hi : Nat) : (s.clearPage u b lo hi).prismHeld = s.prismHeld := rfl
@[simp] theorem clearPage_proxies (s : State) (u : Chip) (b : Blk) (lo hi : Nat) : (s.clearPage u b lo hi).proxies = s.proxies := rfl
@[simp] theorem clearPage_gaps (s : State) (u : Chip) (b : Blk) (lo hi : Nat) : (s.clearPage u b lo hi).gaps = s.gaps := rfl
@[simp] theorem clearPage_noticeGens (s : State) (u : Chip) (b : Blk) (lo hi : Nat) : (s.clearPage u b lo hi).noticeGens = s.noticeGens := rfl
@[simp] theorem clearPage_egress (s : State) (u : Chip) (b : Blk) (lo hi : Nat) : (s.clearPage u b lo hi).egress = s.egress := rfl
@[simp] theorem clearPage_txFlows (s : State) (u : Chip) (b : Blk) (lo hi : Nat) : (s.clearPage u b lo hi).txFlows = s.txFlows := rfl
@[simp] theorem clearPage_flowFree (s : State) (u : Chip) (b : Blk) (lo hi : Nat) : (s.clearPage u b lo hi).flowFree = s.flowFree := rfl
@[simp] theorem clearPage_xlat (s : State) (u : Chip) (b : Blk) (lo hi : Nat) : (s.clearPage u b lo hi).xlat = s.xlat := rfl
@[simp] theorem clearPage_flatStage (s : State) (u : Chip) (b : Blk) (lo hi : Nat) : (s.clearPage u b lo hi).flatStage = s.flatStage := rfl
@[simp] theorem clearPage_jobStage (s : State) (u : Chip) (b : Blk) (lo hi : Nat) : (s.clearPage u b lo hi).jobStage = s.jobStage := rfl
@[simp] theorem clearPage_natDel (s : State) (u : Chip) (b : Blk) (lo hi : Nat) : (s.clearPage u b lo hi).natDel = s.natDel := rfl
@[simp] theorem clearPage_jobs (s : State) (u : Chip) (b : Blk) (lo hi : Nat) : (s.clearPage u b lo hi).jobs = s.jobs := rfl
@[simp] theorem clearPage_insts (s : State) (u : Chip) (b : Blk) (lo hi : Nat) : (s.clearPage u b lo hi).insts = s.insts := rfl
@[simp] theorem clearPage_bcasts (s : State) (u : Chip) (b : Blk) (lo hi : Nat) : (s.clearPage u b lo hi).bcasts = s.bcasts := rfl
@[simp] theorem clearPage_jsRuns (s : State) (u : Chip) (b : Blk) (lo hi : Nat) : (s.clearPage u b lo hi).jsRuns = s.jsRuns := rfl
@[simp] theorem clearPage_stepHist (s : State) (u : Chip) (b : Blk) (lo hi : Nat) : (s.clearPage u b lo hi).stepHist = s.stepHist := rfl
@[simp] theorem clearPage_govSeen (s : State) (u : Chip) (b : Blk) (lo hi : Nat) : (s.clearPage u b lo hi).govSeen = s.govSeen := rfl
@[simp] theorem clearPage_rxFlows (s : State) (u : Chip) (b : Blk) (lo hi : Nat) : (s.clearPage u b lo hi).rxFlows = s.rxFlows := rfl
@[simp] theorem clearPage_ctxs (s : State) (u : Chip) (b : Blk) (lo hi : Nat) : (s.clearPage u b lo hi).ctxs = s.ctxs := rfl
@[simp] theorem clearPage_ingest (s : State) (u : Chip) (b : Blk) (lo hi : Nat) : (s.clearPage u b lo hi).ingest = s.ingest := rfl
@[simp] theorem clearPage_ingestWait (s : State) (u : Chip) (b : Blk) (lo hi : Nat) : (s.clearPage u b lo hi).ingestWait = s.ingestWait := rfl
@[simp] theorem clearPage_healthBuf (s : State) (u : Chip) (b : Blk) (lo hi : Nat) : (s.clearPage u b lo hi).healthBuf = s.healthBuf := rfl
@[simp] theorem clearPage_lensSlots (s : State) (u : Chip) (b : Blk) (lo hi : Nat) : (s.clearPage u b lo hi).lensSlots = s.lensSlots := rfl
@[simp] theorem clearPage_lensOpen (s : State) (u : Chip) (b : Blk) (lo hi : Nat) : (s.clearPage u b lo hi).lensOpen = s.lensOpen := rfl
@[simp] theorem clearPage_lensClosed (s : State) (u : Chip) (b : Blk) (lo hi : Nat) : (s.clearPage u b lo hi).lensClosed = s.lensClosed := rfl
@[simp] theorem clearPage_lensHolds (s : State) (u : Chip) (b : Blk) (lo hi : Nat) : (s.clearPage u b lo hi).lensHolds = s.lensHolds := rfl
@[simp] theorem clearPage_lensExport (s : State) (u : Chip) (b : Blk) (lo hi : Nat) : (s.clearPage u b lo hi).lensExport = s.lensExport := rfl
@[simp] theorem clearPage_metrics (s : State) (u : Chip) (b : Blk) (lo hi : Nat) : (s.clearPage u b lo hi).metrics = s.metrics := rfl
@[simp] theorem clearPage_mboxes (s : State) (u : Chip) (b : Blk) (lo hi : Nat) : (s.clearPage u b lo hi).mboxes = s.mboxes := rfl
@[simp] theorem clearPage_mboxSend (s : State) (u : Chip) (b : Blk) (lo hi : Nat) : (s.clearPage u b lo hi).mboxSend = s.mboxSend := rfl
@[simp] theorem clearPage_imem (s : State) (u : Chip) (b : Blk) (lo hi : Nat) : (s.clearPage u b lo hi).imem = s.imem := rfl
@[simp] theorem clearPage_dmem (s : State) (u : Chip) (b : Blk) (lo hi : Nat) : (s.clearPage u b lo hi).dmem = s.dmem := rfl
@[simp] theorem clearPage_imgBuf (s : State) (u : Chip) (b : Blk) (lo hi : Nat) : (s.clearPage u b lo hi).imgBuf = s.imgBuf := rfl
@[simp] theorem clearPage_imgHash (s : State) (u : Chip) (b : Blk) (lo hi : Nat) : (s.clearPage u b lo hi).imgHash = s.imgHash := rfl
@[simp] theorem clearPage_corrected (s : State) (u : Chip) (b : Blk) (lo hi : Nat) : (s.clearPage u b lo hi).corrected = s.corrected := rfl
@[simp] theorem clearPage_mirrorWin (s : State) (u : Chip) (b : Blk) (lo hi : Nat) : (s.clearPage u b lo hi).mirrorWin = s.mirrorWin := rfl
@[simp] theorem clearPage_recent (s : State) (u : Chip) (b : Blk) (lo hi : Nat) : (s.clearPage u b lo hi).recent = s.recent := rfl
@[simp] theorem clearPage_field (s : State) (u : Chip) (b : Blk) (lo hi : Nat) : (s.clearPage u b lo hi).field = s.field := rfl
@[simp] theorem clearPage_barHost (s : State) (u : Chip) (b : Blk) (lo hi : Nat) : (s.clearPage u b lo hi).barHost = s.barHost := rfl
@[simp] theorem clearPage_barEcho (s : State) (u : Chip) (b : Blk) (lo hi : Nat) : (s.clearPage u b lo hi).barEcho = s.barEcho := rfl

@[simp] theorem keep_pending (s t : State) : (s.keep t).pending = s.pending := rfl
@[simp] theorem keep_size (s t : State) : (s.keep t).size = s.size := rfl
@[simp] theorem keep_regs (s t : State) : (s.keep t).regs = t.regs := rfl
@[simp] theorem keep_held (s t : State) : (s.keep t).held = t.held := rfl
@[simp] theorem keep_heldRead (s t : State) : (s.keep t).heldRead = t.heldRead := rfl
@[simp] theorem keep_now (s t : State) : (s.keep t).now = s.now := rfl
@[simp] theorem keep_freeCtr (s t : State) : (s.keep t).freeCtr = t.freeCtr := rfl
@[simp] theorem keep_out (s t : State) : (s.keep t).out = t.out := rfl
@[simp] theorem keep_latches (s t : State) : (s.keep t).latches = t.latches := rfl
@[simp] theorem keep_buffers (s t : State) : (s.keep t).buffers = t.buffers := rfl
@[simp] theorem keep_msixTable (s t : State) : (s.keep t).msixTable = t.msixTable := rfl
@[simp] theorem keep_pba (s t : State) : (s.keep t).pba = t.pba := rfl
@[simp] theorem keep_evRing (s t : State) : (s.keep t).evRing = t.evRing := rfl
@[simp] theorem keep_staging (s t : State) : (s.keep t).staging = t.staging := rfl
@[simp] theorem keep_bbxPartial (s t : State) : (s.keep t).bbxPartial = t.bbxPartial := rfl
@[simp] theorem keep_bbxPages (s t : State) : (s.keep t).bbxPages = t.bbxPages := rfl
@[simp] theorem keep_gasps (s t : State) : (s.keep t).gasps = t.gasps := rfl
@[simp] theorem keep_norSpare (s t : State) : (s.keep t).norSpare = t.norSpare := rfl
@[simp] theorem keep_norWithdrawn (s t : State) : (s.keep t).norWithdrawn = t.norWithdrawn := rfl
@[simp] theorem keep_norErases (s t : State) : (s.keep t).norErases = t.norErases := rfl
@[simp] theorem keep_norMap (s t : State) : (s.keep t).norMap = t.norMap := rfl
@[simp] theorem keep_bbxShrunk (s t : State) : (s.keep t).bbxShrunk = t.bbxShrunk := rfl
@[simp] theorem keep_notices (s t : State) : (s.keep t).notices = t.notices := rfl
@[simp] theorem keep_windows (s t : State) : (s.keep t).windows = t.windows := rfl
@[simp] theorem keep_episodes (s t : State) : (s.keep t).episodes = t.episodes := rfl
@[simp] theorem keep_dram (s t : State) : (s.keep t).dram = t.dram := rfl
@[simp] theorem keep_poisoned (s t : State) : (s.keep t).poisoned = t.poisoned := rfl
@[simp] theorem keep_nor (s t : State) : (s.keep t).nor = t.nor := rfl
@[simp] theorem keep_mram (s t : State) : (s.keep t).mram = t.mram := rfl
@[simp] theorem keep_ltc (s t : State) : (s.keep t).ltc = t.ltc := rfl
@[simp] theorem keep_servo (s t : State) : (s.keep t).servo = t.servo := rfl
@[simp] theorem keep_meridian (s t : State) : (s.keep t).meridian = t.meridian := rfl
@[simp] theorem keep_exchanges (s t : State) : (s.keep t).exchanges = t.exchanges := rfl
@[simp] theorem keep_tagQueue (s t : State) : (s.keep t).tagQueue = t.tagQueue := rfl
@[simp] theorem keep_snap (s t : State) : (s.keep t).snap = t.snap := rfl
@[simp] theorem keep_streams (s t : State) : (s.keep t).streams = t.streams := rfl
@[simp] theorem keep_tiles (s t : State) : (s.keep t).tiles = t.tiles := rfl
@[simp] theorem keep_mmGens (s t : State) : (s.keep t).mmGens = t.mmGens := rfl
@[simp] theorem keep_watch (s t : State) : (s.keep t).watch = t.watch := rfl
@[simp] theorem keep_rails (s t : State) : (s.keep t).rails = t.rails := rfl
@[simp] theorem keep_change (s t : State) : (s.keep t).change = t.change := rfl
@[simp] theorem keep_reports (s t : State) : (s.keep t).reports = t.reports := rfl
@[simp] theorem keep_epochs (s t : State) : (s.keep t).epochs = t.epochs := rfl
@[simp] theorem keep_txq (s t : State) : (s.keep t).txq = t.txq := rfl
@[simp] theorem keep_prismHeld (s t : State) : (s.keep t).prismHeld = t.prismHeld := rfl
@[simp] theorem keep_proxies (s t : State) : (s.keep t).proxies = t.proxies := rfl
@[simp] theorem keep_gaps (s t : State) : (s.keep t).gaps = t.gaps := rfl
@[simp] theorem keep_noticeGens (s t : State) : (s.keep t).noticeGens = t.noticeGens := rfl
@[simp] theorem keep_egress (s t : State) : (s.keep t).egress = t.egress := rfl
@[simp] theorem keep_txFlows (s t : State) : (s.keep t).txFlows = t.txFlows := rfl
@[simp] theorem keep_flowFree (s t : State) : (s.keep t).flowFree = t.flowFree := rfl
@[simp] theorem keep_xlat (s t : State) : (s.keep t).xlat = t.xlat := rfl
@[simp] theorem keep_flatStage (s t : State) : (s.keep t).flatStage = t.flatStage := rfl
@[simp] theorem keep_jobStage (s t : State) : (s.keep t).jobStage = t.jobStage := rfl
@[simp] theorem keep_natDel (s t : State) : (s.keep t).natDel = t.natDel := rfl
@[simp] theorem keep_jobs (s t : State) : (s.keep t).jobs = t.jobs := rfl
@[simp] theorem keep_insts (s t : State) : (s.keep t).insts = t.insts := rfl
@[simp] theorem keep_bcasts (s t : State) : (s.keep t).bcasts = t.bcasts := rfl
@[simp] theorem keep_jsRuns (s t : State) : (s.keep t).jsRuns = t.jsRuns := rfl
@[simp] theorem keep_stepHist (s t : State) : (s.keep t).stepHist = t.stepHist := rfl
@[simp] theorem keep_govSeen (s t : State) : (s.keep t).govSeen = t.govSeen := rfl
@[simp] theorem keep_rxFlows (s t : State) : (s.keep t).rxFlows = t.rxFlows := rfl
@[simp] theorem keep_ctxs (s t : State) : (s.keep t).ctxs = t.ctxs := rfl
@[simp] theorem keep_ingest (s t : State) : (s.keep t).ingest = t.ingest := rfl
@[simp] theorem keep_ingestWait (s t : State) : (s.keep t).ingestWait = t.ingestWait := rfl
@[simp] theorem keep_healthBuf (s t : State) : (s.keep t).healthBuf = t.healthBuf := rfl
@[simp] theorem keep_lensSlots (s t : State) : (s.keep t).lensSlots = t.lensSlots := rfl
@[simp] theorem keep_lensOpen (s t : State) : (s.keep t).lensOpen = t.lensOpen := rfl
@[simp] theorem keep_lensClosed (s t : State) : (s.keep t).lensClosed = t.lensClosed := rfl
@[simp] theorem keep_lensHolds (s t : State) : (s.keep t).lensHolds = t.lensHolds := rfl
@[simp] theorem keep_lensExport (s t : State) : (s.keep t).lensExport = t.lensExport := rfl
@[simp] theorem keep_metrics (s t : State) : (s.keep t).metrics = t.metrics := rfl
@[simp] theorem keep_mboxes (s t : State) : (s.keep t).mboxes = t.mboxes := rfl
@[simp] theorem keep_mboxSend (s t : State) : (s.keep t).mboxSend = t.mboxSend := rfl
@[simp] theorem keep_imem (s t : State) : (s.keep t).imem = t.imem := rfl
@[simp] theorem keep_dmem (s t : State) : (s.keep t).dmem = t.dmem := rfl
@[simp] theorem keep_imgBuf (s t : State) : (s.keep t).imgBuf = t.imgBuf := rfl
@[simp] theorem keep_imgHash (s t : State) : (s.keep t).imgHash = t.imgHash := rfl
@[simp] theorem keep_corrected (s t : State) : (s.keep t).corrected = t.corrected := rfl
@[simp] theorem keep_mirrorWin (s t : State) : (s.keep t).mirrorWin = t.mirrorWin := rfl
@[simp] theorem keep_recent (s t : State) : (s.keep t).recent = t.recent := rfl
@[simp] theorem keep_field (s t : State) : (s.keep t).field = t.field := rfl
@[simp] theorem keep_barHost (s t : State) : (s.keep t).barHost = t.barHost := rfl
@[simp] theorem keep_barEcho (s t : State) : (s.keep t).barEcho = t.barEcho := rfl

@[simp] theorem keepStores_pending (s t : State) : (s.keepStores t).pending = s.pending := rfl
@[simp] theorem keepStores_size (s t : State) : (s.keepStores t).size = s.size := rfl
@[simp] theorem keepStores_regs (s t : State) : (s.keepStores t).regs = t.regs := rfl
@[simp] theorem keepStores_held (s t : State) : (s.keepStores t).held = t.held := rfl
@[simp] theorem keepStores_heldRead (s t : State) : (s.keepStores t).heldRead = t.heldRead := rfl
@[simp] theorem keepStores_now (s t : State) : (s.keepStores t).now = s.now := rfl
@[simp] theorem keepStores_freeCtr (s t : State) : (s.keepStores t).freeCtr = t.freeCtr := rfl
@[simp] theorem keepStores_out (s t : State) : (s.keepStores t).out = t.out := rfl
@[simp] theorem keepStores_latches (s t : State) : (s.keepStores t).latches = t.latches := rfl
@[simp] theorem keepStores_buffers (s t : State) : (s.keepStores t).buffers = t.buffers := rfl
@[simp] theorem keepStores_msixTable (s t : State) : (s.keepStores t).msixTable = t.msixTable := rfl
@[simp] theorem keepStores_pba (s t : State) : (s.keepStores t).pba = t.pba := rfl
@[simp] theorem keepStores_evRing (s t : State) : (s.keepStores t).evRing = t.evRing := rfl
@[simp] theorem keepStores_staging (s t : State) : (s.keepStores t).staging = t.staging := rfl
@[simp] theorem keepStores_bbxPartial (s t : State) : (s.keepStores t).bbxPartial = t.bbxPartial := rfl
@[simp] theorem keepStores_bbxPages (s t : State) : (s.keepStores t).bbxPages = t.bbxPages := rfl
@[simp] theorem keepStores_gasps (s t : State) : (s.keepStores t).gasps = t.gasps := rfl
@[simp] theorem keepStores_norSpare (s t : State) : (s.keepStores t).norSpare = t.norSpare := rfl
@[simp] theorem keepStores_norWithdrawn (s t : State) : (s.keepStores t).norWithdrawn = t.norWithdrawn := rfl
@[simp] theorem keepStores_norErases (s t : State) : (s.keepStores t).norErases = t.norErases := rfl
@[simp] theorem keepStores_norMap (s t : State) : (s.keepStores t).norMap = t.norMap := rfl
@[simp] theorem keepStores_bbxShrunk (s t : State) : (s.keepStores t).bbxShrunk = t.bbxShrunk := rfl
@[simp] theorem keepStores_notices (s t : State) : (s.keepStores t).notices = t.notices := rfl
@[simp] theorem keepStores_windows (s t : State) : (s.keepStores t).windows = t.windows := rfl
@[simp] theorem keepStores_episodes (s t : State) : (s.keepStores t).episodes = t.episodes := rfl
@[simp] theorem keepStores_dram (s t : State) : (s.keepStores t).dram = s.dram := rfl
@[simp] theorem keepStores_poisoned (s t : State) : (s.keepStores t).poisoned = t.poisoned := rfl
@[simp] theorem keepStores_nor (s t : State) : (s.keepStores t).nor = s.nor := rfl
@[simp] theorem keepStores_mram (s t : State) : (s.keepStores t).mram = s.mram := rfl
@[simp] theorem keepStores_ltc (s t : State) : (s.keepStores t).ltc = t.ltc := rfl
@[simp] theorem keepStores_servo (s t : State) : (s.keepStores t).servo = t.servo := rfl
@[simp] theorem keepStores_meridian (s t : State) : (s.keepStores t).meridian = t.meridian := rfl
@[simp] theorem keepStores_exchanges (s t : State) : (s.keepStores t).exchanges = t.exchanges := rfl
@[simp] theorem keepStores_tagQueue (s t : State) : (s.keepStores t).tagQueue = t.tagQueue := rfl
@[simp] theorem keepStores_snap (s t : State) : (s.keepStores t).snap = t.snap := rfl
@[simp] theorem keepStores_streams (s t : State) : (s.keepStores t).streams = t.streams := rfl
@[simp] theorem keepStores_tiles (s t : State) : (s.keepStores t).tiles = t.tiles := rfl
@[simp] theorem keepStores_mmGens (s t : State) : (s.keepStores t).mmGens = t.mmGens := rfl
@[simp] theorem keepStores_watch (s t : State) : (s.keepStores t).watch = t.watch := rfl
@[simp] theorem keepStores_rails (s t : State) : (s.keepStores t).rails = t.rails := rfl
@[simp] theorem keepStores_change (s t : State) : (s.keepStores t).change = t.change := rfl
@[simp] theorem keepStores_reports (s t : State) : (s.keepStores t).reports = t.reports := rfl
@[simp] theorem keepStores_epochs (s t : State) : (s.keepStores t).epochs = t.epochs := rfl
@[simp] theorem keepStores_txq (s t : State) : (s.keepStores t).txq = t.txq := rfl
@[simp] theorem keepStores_prismHeld (s t : State) : (s.keepStores t).prismHeld = t.prismHeld := rfl
@[simp] theorem keepStores_proxies (s t : State) : (s.keepStores t).proxies = t.proxies := rfl
@[simp] theorem keepStores_gaps (s t : State) : (s.keepStores t).gaps = t.gaps := rfl
@[simp] theorem keepStores_noticeGens (s t : State) : (s.keepStores t).noticeGens = t.noticeGens := rfl
@[simp] theorem keepStores_egress (s t : State) : (s.keepStores t).egress = t.egress := rfl
@[simp] theorem keepStores_txFlows (s t : State) : (s.keepStores t).txFlows = t.txFlows := rfl
@[simp] theorem keepStores_flowFree (s t : State) : (s.keepStores t).flowFree = t.flowFree := rfl
@[simp] theorem keepStores_xlat (s t : State) : (s.keepStores t).xlat = t.xlat := rfl
@[simp] theorem keepStores_flatStage (s t : State) : (s.keepStores t).flatStage = t.flatStage := rfl
@[simp] theorem keepStores_jobStage (s t : State) : (s.keepStores t).jobStage = t.jobStage := rfl
@[simp] theorem keepStores_natDel (s t : State) : (s.keepStores t).natDel = t.natDel := rfl
@[simp] theorem keepStores_jobs (s t : State) : (s.keepStores t).jobs = t.jobs := rfl
@[simp] theorem keepStores_insts (s t : State) : (s.keepStores t).insts = t.insts := rfl
@[simp] theorem keepStores_bcasts (s t : State) : (s.keepStores t).bcasts = t.bcasts := rfl
@[simp] theorem keepStores_jsRuns (s t : State) : (s.keepStores t).jsRuns = t.jsRuns := rfl
@[simp] theorem keepStores_stepHist (s t : State) : (s.keepStores t).stepHist = t.stepHist := rfl
@[simp] theorem keepStores_govSeen (s t : State) : (s.keepStores t).govSeen = t.govSeen := rfl
@[simp] theorem keepStores_rxFlows (s t : State) : (s.keepStores t).rxFlows = t.rxFlows := rfl
@[simp] theorem keepStores_ctxs (s t : State) : (s.keepStores t).ctxs = t.ctxs := rfl
@[simp] theorem keepStores_ingest (s t : State) : (s.keepStores t).ingest = t.ingest := rfl
@[simp] theorem keepStores_ingestWait (s t : State) : (s.keepStores t).ingestWait = t.ingestWait := rfl
@[simp] theorem keepStores_healthBuf (s t : State) : (s.keepStores t).healthBuf = t.healthBuf := rfl
@[simp] theorem keepStores_lensSlots (s t : State) : (s.keepStores t).lensSlots = t.lensSlots := rfl
@[simp] theorem keepStores_lensOpen (s t : State) : (s.keepStores t).lensOpen = t.lensOpen := rfl
@[simp] theorem keepStores_lensClosed (s t : State) : (s.keepStores t).lensClosed = t.lensClosed := rfl
@[simp] theorem keepStores_lensHolds (s t : State) : (s.keepStores t).lensHolds = t.lensHolds := rfl
@[simp] theorem keepStores_lensExport (s t : State) : (s.keepStores t).lensExport = t.lensExport := rfl
@[simp] theorem keepStores_metrics (s t : State) : (s.keepStores t).metrics = t.metrics := rfl
@[simp] theorem keepStores_mboxes (s t : State) : (s.keepStores t).mboxes = t.mboxes := rfl
@[simp] theorem keepStores_mboxSend (s t : State) : (s.keepStores t).mboxSend = t.mboxSend := rfl
@[simp] theorem keepStores_imem (s t : State) : (s.keepStores t).imem = t.imem := rfl
@[simp] theorem keepStores_dmem (s t : State) : (s.keepStores t).dmem = t.dmem := rfl
@[simp] theorem keepStores_imgBuf (s t : State) : (s.keepStores t).imgBuf = t.imgBuf := rfl
@[simp] theorem keepStores_imgHash (s t : State) : (s.keepStores t).imgHash = t.imgHash := rfl
@[simp] theorem keepStores_corrected (s t : State) : (s.keepStores t).corrected = t.corrected := rfl
@[simp] theorem keepStores_mirrorWin (s t : State) : (s.keepStores t).mirrorWin = t.mirrorWin := rfl
@[simp] theorem keepStores_recent (s t : State) : (s.keepStores t).recent = t.recent := rfl
@[simp] theorem keepStores_field (s t : State) : (s.keepStores t).field = t.field := rfl
@[simp] theorem keepStores_barHost (s t : State) : (s.keepStores t).barHost = t.barHost := rfl
@[simp] theorem keepStores_barEcho (s t : State) : (s.keepStores t).barEcho = t.barEcho := rfl

@[simp] theorem keeping_next (s t : State) : keeping s (.next t) = .next (s.keep t) := rfl
@[simp] theorem storeless_next (s t : State) : storeless s (.next t) = .next (s.keepStores t) := rfl

end Sys2Proof.Laws
end

