-- ==== Sys2Proof/Laws/Regs.lean ====
section
/-! SUPPORT. Sparse lists and registers: what a look after a store finds, what a field reads after a write. -/

namespace Sys2Proof.Laws

open Sys2Proof.Machine

@[simp] theorem look_put_same {α : Type} (k : Nat) (v : α) (l : List (Nat × α)) : look k (put k v l) = some v := by
  induction l with
  | nil => simp [put, look]
  | cons e r ih =>
    obtain ⟨k', v'⟩ := e
    unfold put
    split
    · simp [look]
    · split
      · simp [look]
      · next h => simp [look, h, ih]

theorem look_put_ne {α : Type} {k k' : Nat} (v : α) (l : List (Nat × α)) (h : k ≠ k') :
    look k (put k' v l) = look k l := by
  induction l with
  | nil => simp [put, look, h]
  | cons e r ih =>
    obtain ⟨a, b⟩ := e
    unfold put
    split
    · simp [look, h]
    · split
      · next he => subst he; simp [look, h]
      · simp [look, ih]

@[simp] theorem look_drop_same {α : Type} (k : Nat) (l : List (Nat × α)) : look k (drop k l) = none := by
  induction l with
  | nil => rfl
  | cons e r ih =>
    obtain ⟨a, b⟩ := e
    unfold drop
    split
    · exact ih
    · next he => simp [look, he, ih]

theorem look_drop_ne {α : Type} {k k' : Nat} (l : List (Nat × α)) (h : k ≠ k') : look k (drop k' l) = look k l := by
  induction l with
  | nil => rfl
  | cons e r ih =>
    obtain ⟨a, b⟩ := e
    unfold drop
    split
    · next he => subst he; simp [look, h, ih]
    · simp [look, ih]

/-- What a range of dropped keys leaves. -/
theorem look_dropRange_in {α : Type} {k lo hi : Nat} (l : List (Nat × α)) (h1 : lo ≤ k) (h2 : k < hi) :
    look k (dropRange lo hi l) = none := by
  induction l with
  | nil => rfl
  | cons e r ih =>
    obtain ⟨a, b⟩ := e
    unfold dropRange at *
    rw [List.filter_cons]
    split
    · next h =>
      have : k ≠ a := by rintro rfl; simp at h; omega
      rw [look, if_neg this]; exact ih
    · exact ih

/-- A field reads as written, to its width. -/
@[simp] theorem rd_wr_same (s : State) (u : Chip) (f : Fld) (v : Nat) : (s.wr u f v).rd u f = v % 2 ^ f.w := by
  unfold State.rd State.wr
  dsimp only
  split
  · next h => simp [h]
  · simp

/-- A write leaves every other field. -/
theorem rd_wr_ne (s : State) {u u' : Chip} {f g : Fld} (v : Nat) (h : f.key u ≠ g.key u') :
    (s.wr u' g v).rd u f = s.rd u f := by
  unfold State.rd State.wr
  dsimp only
  split
  · rw [look_drop_ne _ h]
  · rw [look_put_ne _ _ h]

/-- Fields of different code in one window have different keys. -/
theorem key_ne_of_code (u : Chip) {f g : Fld} (h : f.code ≠ g.code) : f.key u ≠ g.key u := by
  unfold Fld.key; omega

/-- What a field reads depends on the registers and the package size alone. -/
theorem rd_congr {s t : State} (hr : t.regs = s.regs) (hz : t.size = s.size) (u : Chip) (f : Fld) :
    t.rd u f = s.rd u f := by simp [State.rd, hr, hz]

theorem on_congr {s t : State} (hr : t.regs = s.regs) (hz : t.size = s.size) (u : Chip) (f : Fld) :
    t.on u f = s.on u f := by simp [State.on, rd_congr hr hz]

@[simp] theorem rd_emit (s : State) (o : Out) (u : Chip) (f : Fld) : (s.emit o).rd u f = s.rd u f := rfl
@[simp] theorem rd_keep (s t : State) (h : t.size = s.size) (u : Chip) (f : Fld) : (s.keep t).rd u f = t.rd u f := by
  simp [State.rd, h]
@[simp] theorem rd_keepStores (s t : State) (h : t.size = s.size) (u : Chip) (f : Fld) :
    (s.keepStores t).rd u f = t.rd u f := by simp [State.rd, h]

/-- A count below its largest value rises by what is added. -/
theorem rd_inc (s : State) (u : Chip) (f : Fld) (n : Nat) (h : s.rd u f + n < 2 ^ f.w) :
    (s.inc u f n).rd u f = s.rd u f + n := by
  unfold State.inc
  rw [if_pos h, rd_wr_same, Nat.mod_eq_of_lt h]

/-- A saturating count holds its largest value. -/
theorem rd_inc_sat (s : State) (u : Chip) (f : Fld) (n : Nat) (ho : f.ovf = .sat) (h : 2 ^ f.w ≤ s.rd u f + n) :
    (s.inc u f n).rd u f = 2 ^ f.w - 1 := by
  unfold State.inc
  rw [if_neg (by omega), ho]
  have : 0 < 2 ^ f.w := Nat.two_pow_pos _
  simp [Nat.mod_eq_of_lt (show 2 ^ f.w - 1 < 2 ^ f.w by omega)]

/-- A value written within its width is its own remainder. -/
theorem rd_wr_lt (s : State) (u : Chip) (f : Fld) (v : Nat) (h : v < 2 ^ f.w) : (s.wr u f v).rd u f = v := by
  rw [rd_wr_same, Nat.mod_eq_of_lt h]

end Sys2Proof.Laws
end

