-- ==== Sys2Proof/Laws/Field.lean ====
section
/-! SUPPORT. What a frame of the isolation barrier can do. -/

namespace Sys2Proof.Laws

open Machine

/-- A side without supply takes no frame. -/
theorem barRecv_dead (s : State) (a : Bool) (ty : Nat) (f : BarFrame) (act : State → State) (h : s.barAlive a = false) :
    s.barRecv a ty f act = s := by simp [State.barRecv, h]

/-- A frame whose check fails is counted. -/
theorem barRecv_bad (s : State) (a : Bool) (ty : Nat) (f : BarFrame) (act : State → State) (h : s.barAlive a = true)
    (hb : f.bad = true) : s.barRecv a ty f act = s.barBad a := by simp [State.barRecv, h, hb]

/-- An unsequenced frame, and a sequenced one in its turn, is taken in and has its effect. -/
theorem barRecv_takes (s : State) (a : Bool) (ty : Nat) (f : BarFrame) (act : State → State) (h : s.barAlive a = true)
    (hb : f.bad = false) (hu : (s.barEnd a).up = true) (hs : barUnseq ty = true ∨ f.seq % 65536 = (s.barEnd a).rx) :
    s.barRecv a ty f act = act (s.barTaken a ty f) := by
  have hs' : (barUnseq ty || f.seq % 65536 == (s.barEnd a).rx) = true := by
    rcases hs with h | h <;> simp [h]
  simp [State.barRecv, h, hb, hu, hs']

/-- What the field side does while it has supply, and without. -/
theorem fieldOn_on (s : State) (f : State → State) (h : s.field.running = true) : s.fieldOn f = f s := by
  simp [State.fieldOn, h]

theorem fieldOn_off (s : State) (f : State → State) (h : s.field.running = false) : s.fieldOn f = s := by
  simp [State.fieldOn, h]

end Sys2Proof.Laws
end

