-- ==== Sys2Proof/Laws/Memory.lean ====
section
/-! SUPPORT. Byte memories: what a read after a write finds, and that every operation keeps the canonical form. -/

namespace Sys2Proof.Laws

open Sys2Proof.Machine

/-- The canonical form by its first entry. -/
theorem memWf_cons {d : BitVec 8} {e : Host.Cell} {m : List Host.Cell} :
    memWf d (e :: m) = true ↔ e.2 ≠ d ∧ (∀ x ∈ m, e.1 < x.1) ∧ memWf d m = true := by
  induction m generalizing e with
  | nil => simp [memWf, risingKeys]
  | cons f r ih =>
    have h := ih (e := f)
    simp only [memWf, risingKeys, Bool.and_eq_true, decide_eq_true_eq, List.all_cons, List.mem_cons, forall_eq_or_imp,
      bne_iff_ne, ne_eq] at h ⊢
    constructor
    · rintro ⟨⟨h1, h2⟩, h3, h4, h5⟩
      obtain ⟨-, g2, -⟩ := h.1 ⟨h2, h4, h5⟩
      exact ⟨h3, ⟨h1, fun x hx => Nat.lt_trans h1 (g2 x hx)⟩, h2, h4, h5⟩
    · rintro ⟨h3, ⟨h1, -⟩, h2, h4, h5⟩
      exact ⟨⟨h1, h2⟩, h3, h4, h5⟩

theorem mem_drop {α : Type} {k : Nat} {x : Nat × α} {m : List (Nat × α)} (h : x ∈ drop k m) : x ∈ m := by
  induction m with
  | nil => exact h
  | cons e r ih =>
    obtain ⟨a, b⟩ := e
    unfold drop at h
    split at h
    · exact .tail _ (ih h)
    · rcases List.mem_cons.1 h with h | h
      · simp [h]
      · exact .tail _ (ih h)

theorem mem_put {α : Type} {k : Nat} {v : α} {x : Nat × α} {m : List (Nat × α)} (h : x ∈ put k v m) :
    x = (k, v) ∨ x ∈ m := by
  induction m with
  | nil => simpa [put] using h
  | cons e r ih =>
    obtain ⟨a, b⟩ := e
    unfold put at h
    split at h
    · simpa using h
    · split at h
      · rcases List.mem_cons.1 h with h | h <;> simp [h]
      · rcases List.mem_cons.1 h with h | h
        · simp [h]
        · rcases ih h with h | h <;> simp [h]

theorem drop_wf {d : BitVec 8} {m : List Host.Cell} (k : Nat) (h : memWf d m = true) : memWf d (drop k m) = true := by
  induction m with
  | nil => exact h
  | cons e r ih =>
    obtain ⟨a, b⟩ := e
    obtain ⟨h1, h2, h3⟩ := memWf_cons.1 h
    unfold drop
    split
    · exact ih h3
    · exact memWf_cons.2 ⟨h1, fun x hx => h2 x (mem_drop hx), ih h3⟩

theorem put_wf {d b : BitVec 8} {m : List Host.Cell} (k : Nat) (hb : b ≠ d) (h : memWf d m = true) :
    memWf d (put k b m) = true := by
  induction m with
  | nil => simp [put, memWf, risingKeys, hb]
  | cons e r ih =>
    obtain ⟨a, c⟩ := e
    obtain ⟨h1, h2, h3⟩ := memWf_cons.1 h
    unfold put
    split
    · next hk =>
      refine memWf_cons.2 ⟨hb, fun x hx => ?_, h⟩
      rcases List.mem_cons.1 hx with hx | hx
      · simpa [hx] using hk
      · exact Nat.lt_trans hk (h2 x hx)
    · split
      · next hk => subst hk; exact memWf_cons.2 ⟨hb, h2, h3⟩
      · refine memWf_cons.2 ⟨h1, fun x hx => ?_, ih h3⟩
        rcases mem_put hx with hx | hx
        · simp only [hx]; omega
        · exact h2 x hx

/-- A write keeps the canonical form. -/
theorem memWrite_wf {d : BitVec 8} {m : List Host.Cell} (a : Nat) (b : BitVec 8) (h : memWf d m = true) :
    memWf d (memWrite d m a b) = true := by
  unfold memWrite
  split
  · exact drop_wf a h
  · next hb => exact put_wf a hb h

/-- Writing a list of bytes keeps the canonical form. -/
theorem memWriteList_wf {d : BitVec 8} (bs : List (BitVec 8)) (a : Nat) {m : List Host.Cell} (h : memWf d m = true) :
    memWf d (memWriteList d bs a m) = true := by
  induction bs generalizing a m with
  | nil => exact h
  | cons b r ih => exact ih (a + 1) (memWrite_wf a b h)

/-- Removing a range of addresses keeps the canonical form. -/
theorem dropRange_wf {d : BitVec 8} (lo hi : Nat) {m : List Host.Cell} (h : memWf d m = true) :
    memWf d (dropRange lo hi m) = true := by
  induction m with
  | nil => exact h
  | cons e r ih =>
    obtain ⟨h1, h2, h3⟩ := memWf_cons.1 h
    have ih := ih h3
    unfold dropRange at *
    rw [List.filter_cons]
    split
    · exact memWf_cons.2 ⟨h1, fun x hx => h2 x ((List.mem_filter.1 hx).1), ih⟩
    · exact ih

/-- A byte reads as written. -/
@[simp] theorem memRead_memWrite_same (d : BitVec 8) (m : List Host.Cell) (a : Nat) (b : BitVec 8) :
    memRead d (memWrite d m a b) a = b := by
  unfold memRead memWrite
  split
  · next h => simp [h]
  · simp

/-- A write leaves every other byte. -/
theorem memRead_memWrite_ne (d : BitVec 8) (m : List Host.Cell) {a a' : Nat} (b : BitVec 8) (h : a' ≠ a) :
    memRead d (memWrite d m a b) a' = memRead d m a' := by
  unfold memRead memWrite
  split
  · rw [look_drop_ne m h]
  · rw [look_put_ne b m h]

end Sys2Proof.Laws
end

