-- ==== Sys2Proof/Laws/Ops.lean ====
section
/-! SUPPORT. What the shared operations can do. -/

namespace Sys2Proof.Laws

open Machine

/-- A happening at a block that is disabled does nothing. -/
theorem ifOn_off (s : State) (u : Chip) (b : Blk) (f : State → State) (h : s.enabled u b = false) : s.ifOn u b f = s := by
  simp [State.ifOn, h]

/-- A happening at a block that is enabled has its effect. -/
theorem ifOn_on (s : State) (u : Chip) (b : Blk) (f : State → State) (h : s.enabled u b = true) : s.ifOn u b f = f s := by
  simp [State.ifOn, h]

/-- A frame that reaches an end whose link is down has no effect. -/
theorem recv_down (s : State) (p : Nat) (ikb : Bool) (ty len : Nat) (act : State → State)
    (h : s.on (endChip p ikb) (ltlStatUp (endBlk p ikb)) = false) : s.recv p ikb ty len act = s := by
  simp [State.recv, h]

/-- A frame that reaches an end whose link is up, from a part of known version, is booked and has its effect. -/
theorem recv_up (s : State) (p : Nat) (ikb : Bool) (ty len : Nat) (act : State → State)
    (h : s.on (endChip p ikb) (ltlStatUp (endBlk p ikb)) = true)
    (hv : s.on (endChip p ikb) (verBad (endBlk p ikb)) = false) :
    s.recv p ikb ty len act = act (s.received p ikb ty len) := by
  simp [State.recv, h, hv]

/-- A frame of class CONTROL or PROXY is served whatever the version. -/
theorem recv_served (s : State) (p : Nat) (ikb : Bool) (ty len : Nat) (act : State → State)
    (h : s.on (endChip p ikb) (ltlStatUp (endBlk p ikb)) = true) (hc : frameClass ty = 0 ∨ frameClass ty = 4) :
    s.recv p ikb ty len act = act (s.received p ikb ty len) := by
  rcases hc with hc | hc <;> simp [State.recv, h, hc]

end Sys2Proof.Laws
end

