-- ==== Sys2Proof/Machine/Stores.lean ====
section
/-! DEFINITION. Every operation and every meaning keeps package DRAM, the NOR and the MRAM in canonical form. One lemma per
operation of the machine, in the order in which they call each other; each proof walks through the operation's
definition and cites the lemmas of what it calls. -/

namespace Sys2Proof.Laws

open Sys2Proof Sys2Proof.Machine

/-- The memories of a state are in canonical form. -/
structure Stores (s : State) : Prop where
  wf : Memory.wf s = true

/-- The memories of the next state, if an outcome is one, are in canonical form. -/
structure OutStores (o : Out') : Prop where
  next : ∀ t, o = .next t → Stores t

theorem OutStores.of {o : Out'} {t : State} (h : OutStores o) (ht : o = .next t) : Stores t := h.next t ht

theorem stores_eq {e t : State} (h : Stores e) (hd : t.dram = e.dram) (hn : t.nor = e.nor) (hm : t.mram = e.mram) :
    Stores t := by
  have := h.wf
  unfold Memory.wf at this
  exact ⟨by unfold Memory.wf; rw [hd, hn, hm]; exact this⟩

/-- An update of other fields keeps the form. -/
theorem stores_mk {e : State} {x0 x1 x2 x3 x4 x5 x6 x7 x8 x9 x10 x11 x12 x13 x14 x15 x16 x17 x18 x19 x20 x21 x22 x23 x24 x26 x29 x30 x31
    x32 x33 x34 x35 x36 x37 x38 x39 x40 x41 x42 x43 x44 x45 x46 x47 x48 x49 x50 x51 x52 x53 x54 x55 x56 x57 x58
    x59 x60 x61 x62 x63 x64 x65 x66 x67 x68 x69 x70 x71 x72 x73 x74 x75 x76 x77 x78 x79 x80 x81 x82 x83} :
    Stores (State.mk x0 x1 x2 x3 x4 x5 x6 x7 x8 x9 x10 x11 x12 x13 x14 x15 x16 x17 x18 x19 x20 x21 x22 x23 x24 e.dram x26 e.nor
    e.mram x29 x30 x31 x32 x33 x34 x35 x36 x37 x38 x39 x40 x41 x42 x43 x44 x45 x46 x47 x48 x49 x50 x51 x52 x53
    x54 x55 x56 x57 x58 x59 x60 x61 x62 x63 x64 x65 x66 x67 x68 x69 x70 x71 x72 x73 x74 x75 x76 x77 x78 x79 x80
    x81 x82 x83) ↔ Stores e :=
  ⟨fun h => stores_eq h rfl rfl rfl, fun h => stores_eq h rfl rfl rfl⟩

theorem stores_parts {t : State} :
    Stores t ↔ memWf dramDflt t.dram = true ∧ memWf norDflt t.nor = true ∧ memWf mramDflt t.mram = true :=
  ⟨fun h => by simpa [Memory.wf, and_assoc] using h.wf, fun h => ⟨by simpa [Memory.wf, and_assoc] using h⟩⟩

theorem dram_wf {t : State} (h : Stores t) : memWf dramDflt t.dram = true := (stores_parts.1 h).1
theorem nor_wf {t : State} (h : Stores t) : memWf norDflt t.nor = true := (stores_parts.1 h).2.1
theorem mram_wf {t : State} (h : Stores t) : memWf mramDflt t.mram = true := (stores_parts.1 h).2.2
theorem memNil_wf {d : BitVec 8} : memWf d [] = true := rfl

theorem stores_foldl {α : Type} {f : State → α → State} {l : List α} {s : State} (h : Stores s)
    (hf : ∀ t a, Stores t → Stores (f t a)) : Stores (l.foldl f s) := by
  induction l generalizing s with
  | nil => exact h
  | cons a r ih => exact ih (hf s a h)

theorem pairStores_foldl {α β : Type} {f : State × β → α → State × β} {l : List α} {s : State × β} (h : Stores s.1)
    (hf : ∀ t a, Stores t.1 → Stores (f t a).1) : Stores (l.foldl f s).1 := by
  induction l generalizing s with
  | nil => exact h
  | cons a r ih => exact ih (hf s a h)

theorem pair1 {β : Type} {e : State × β} {s : State} {b : β} (h : e = (s, b)) (h1 : Stores e.1) : Stores s := by
  subst h; exact h1

theorem pair2 {β : Type} {e : β × State} {s : State} {b : β} (h : e = (b, s)) (h1 : Stores e.2) : Stores s := by
  subst h; exact h1

theorem out_next {s : State} (h : Stores s) : OutStores (.next s) := ⟨by intro t ht; cases ht; exact h⟩
/-- The memories of the state that an optional result holds are in canonical form. -/
structure OptStores {β : Type} (o : Option (State × β)) : Prop where
  some : ∀ r, o = .some r → Stores r.1

theorem opt_none {β : Type} : OptStores (none : Option (State × β)) := ⟨by intro r h; cases h⟩
theorem opt_some {β : Type} {s : State} {b : β} (h : Stores s) : OptStores (some (s, b)) :=
  ⟨by intro r hr; cases hr; exact h⟩

theorem opt_pair {β : Type} {t : State × β} (h : Stores t.1) : OptStores (some t) := ⟨by intro r hr; cases hr; exact h⟩

theorem keeps_keep {s t : State} (h : Stores t) : Stores (s.keep t) := stores_eq h rfl rfl rfl
theorem keeps_keepStores {s t : State} (h : Stores s) : Stores (s.keepStores t) := stores_eq h rfl rfl rfl

theorem out_keeping {s : State} {o : Out'} (h : OutStores o) : OutStores (keeping s o) :=
  ⟨by
    intro t ht
    cases o with
    | next x => simp only [keeping, Host.Outcome.next.injEq] at ht; subst ht; exact keeps_keep (h.next x rfl)
    | fault r => cases r
    | refused r => simp [keeping] at ht⟩

theorem out_storeless {s : State} {o : Out'} (h : Stores s) : OutStores (storeless s o) :=
  ⟨by
    intro t ht
    cases o with
    | next x => simp only [storeless, Host.Outcome.next.injEq] at ht; subst ht; exact keeps_keepStores h
    | fault r => cases r
    | refused r => simp [storeless] at ht⟩

theorem keeps_taken {s : State} {o : Out'} (h : Stores s) (h2 : OutStores o) : Stores (taken s o) := by
  unfold taken
  split
  · exact h2.next _ rfl
  · exact h

theorem keeps_free {a1 a2} (h1 : Stores a1) : Stores (State.free a1 a2).2 := by
  unfold State.free
  with_reducible repeat'
    first
    | assumption | intro _ | split | simp only [stores_mk]

theorem keeps_wr {a1 a2 a3 a4} (h1 : Stores a1) : Stores (State.wr a1 a2 a3 a4) := by
  unfold State.wr
  with_reducible repeat'
    first
    | assumption | intro _ | split | simp only [stores_mk]

theorem keeps_inc {a1 a2 a3 a4} (h1 : Stores a1) : Stores (State.inc a1 a2 a3 a4) := by
  unfold State.inc
  with_reducible repeat'
    first
    | assumption | intro _ | apply keeps_free | refine pair2 (by assumption) (keeps_free ?_) | apply keeps_wr
    | split | simp only [stores_mk]

theorem keeps_emit {a1 a2} (h1 : Stores a1) : Stores (State.emit a1 a2) := by
  unfold State.emit
  with_reducible repeat'
    first
    | assumption | intro _ | split | simp only [stores_mk]

theorem keeps_respond {a1 a2 a3 a4 a5} (h1 : Stores a1) : Stores (State.respond a1 a2 a3 a4 a5) := by
  unfold State.respond
  with_reducible repeat'
    first
    | assumption | intro _ | apply keeps_emit | split | simp only [stores_mk]

theorem keeps_answer {a1 a2 a3 a4 a5 a6} (h1 : Stores a1) : Stores (State.answer a1 a2 a3 a4 a5 a6) := by
  unfold State.answer
  with_reducible repeat'
    first
    | assumption | intro _ | apply keeps_inc | apply keeps_respond | split | simp only [stores_mk]

theorem keeps_answerGive {a1 a2 a3 a4} (h1 : Stores a1.state) : Stores (Answer.give a1 a2 a3 a4) := by
  unfold Answer.give
  with_reducible repeat'
    first
    | assumption | intro _ | apply keeps_answer | split | simp only [stores_mk]

theorem keeps_bbxCopy {a1 a2} (h1 : Stores a1) : Stores (State.bbxCopy a1 a2) := by
  unfold State.bbxCopy
  with_reducible repeat'
    first
    | assumption | intro _ | apply keeps_inc | apply keeps_wr | split | simp only [stores_mk]

theorem keeps_setTx {a1 a2 a3 a4} (h1 : Stores a1) : Stores (State.setTx a1 a2 a3 a4) := by
  unfold State.setTx
  with_reducible repeat'
    first
    | assumption | intro _ | split | simp only [stores_mk]

theorem keeps_setHeld {a1 a2 a3} (h1 : Stores a1) : Stores (State.setHeld a1 a2 a3) := by
  unfold State.setHeld
  with_reducible repeat'
    first
    | assumption | intro _ | split | simp only [stores_mk]

theorem keeps_heldStep {a1 a2 a3 a4} (h1 : Stores a1) : Stores (State.heldStep a1 a2 a3 a4) := by
  unfold State.heldStep
  with_reducible repeat'
    first
    | assumption | intro _ | refine stores_foldl ?_ fun _ _ => ?_ | refine pairStores_foldl ?_ fun _ _ => ?_
    | apply keeps_emit | apply keeps_setHeld | split | simp only [stores_mk]

theorem keeps_ruleCount1 {a1 a2 a3} (h1 : Stores a1) : Stores (State.ruleCount1 a1 a2 a3) := by
  unfold State.ruleCount1
  with_reducible repeat'
    first
    | assumption | intro _ | apply keeps_wr | split | simp only [stores_mk]

theorem keeps_setB {a1 a2 a3 a4} (h1 : Stores a1) : Stores (State.setB a1 a2 a3 a4) := by
  unfold State.setB
  with_reducible repeat'
    first
    | assumption | intro _ | apply keeps_wr | split | simp only [stores_mk]

theorem keeps_ruleHit {a1 a2 a3 a4} (h1 : Stores a1) : Stores (State.ruleHit a1 a2 a3 a4) := by
  unfold State.ruleHit
  with_reducible repeat'
    first
    | assumption | intro _ | apply keeps_inc | apply keeps_setB | split | simp only [stores_mk]

theorem keeps_prismPick {a1 a2 a3 a4} (h1 : Stores a1) : Stores (State.prismPick a1 a2 a3 a4).1 := by
  unfold State.prismPick
  with_reducible repeat'
    first
    | assumption | intro _ | refine stores_foldl ?_ fun _ _ => ?_ | refine pairStores_foldl ?_ fun _ _ => ?_
    | apply keeps_ruleCount1 | apply keeps_ruleHit | split | simp only [stores_mk]

theorem keeps_prismOut {a1 a2 a3 a4 a5 a6} (h1 : Stores a1) : Stores (State.prismOut a1 a2 a3 a4 a5 a6) := by
  unfold State.prismOut
  with_reducible repeat'
    first
    | assumption | intro _ | apply keeps_emit | apply keeps_heldStep | apply keeps_prismPick
    | refine pair1 (by assumption) (keeps_prismPick ?_) | apply keeps_setHeld | split | dsimp only

theorem keeps_transmit {a1 a2 a3 a4} (h1 : Stores a1) : Stores (State.transmit a1 a2 a3 a4) := by
  unfold State.transmit
  with_reducible repeat'
    first
    | assumption | intro _ | apply keeps_prismOut | apply keeps_wr | split | simp only [stores_mk]

theorem keeps_pump {a1 a2 a3 a4} (h4 : Stores a4) : Stores (State.pump a1 a2 a3 a4) := by
  revert h4
  fun_induction State.pump <;> intros
  all_goals
    with_reducible repeat'
      first
      | assumption | apply_assumption | assumption | intro _ | apply keeps_setTx | apply keeps_transmit | split
      | simp only [stores_mk]

theorem keeps_offer {a1 a2 a3 a4} (h1 : Stores a1) : Stores (State.offer a1 a2 a3 a4) := by
  unfold State.offer
  with_reducible repeat'
    first
    | assumption | intro _ | apply keeps_pump | apply keeps_setTx | split | simp only [stores_mk]

theorem keeps_irqFollow {a1 a2 a3 a4} (h4 : Stores a4) : Stores (State.irqFollow a1 a2 a3 a4) := by
  induction a1 generalizing a2 a4 with
  | zero => exact h4
  | succ n ih =>
    unfold State.irqFollow
    with_reducible repeat'
      first
      | apply ih | assumption | intro _ | apply keeps_offer | split | dsimp only

theorem keeps_msixSend {a1 a2} (h1 : Stores a1) : Stores (State.msixSend a1 a2) := by
  unfold State.msixSend
  with_reducible repeat'
    first
    | assumption | intro _ | split | simp only [stores_mk]

theorem keeps_vecEdge {a1 a2 a3} (h1 : Stores a1) (_h2 : Stores a2) : Stores (State.vecEdge a1 a2 a3) := by
  unfold State.vecEdge
  with_reducible repeat'
    first
    | assumption | intro _ | apply keeps_msixSend | split | simp only [stores_mk]

theorem keeps_vecFollow {a1 a2 a3 a4} (h1 : Stores a1) (h2 : Stores a2) : Stores (State.vecFollow a1 a2 a3 a4) := by
  unfold State.vecFollow
  with_reducible repeat'
    first
    | assumption | intro _ | apply keeps_vecEdge | split | simp only [stores_mk]

theorem keeps_intChanged {a1 a2 a3 a4} (h1 : Stores a1) (h2 : Stores a2) : Stores (State.intChanged a1 a2 a3 a4) := by
  unfold State.intChanged
  with_reducible repeat'
    first
    | assumption | intro _ | apply keeps_irqFollow | apply keeps_vecFollow | split | simp only [stores_mk]

theorem keeps_int {a1 a2 a3 a4} (h1 : Stores a1) : Stores (State.int a1 a2 a3 a4) := by
  unfold State.int
  with_reducible repeat'
    first
    | assumption | intro _ | apply keeps_intChanged | apply keeps_setB | split | simp only [stores_mk]

theorem keeps_ringWrite {a1 a2 a3} (h1 : Stores a1) : Stores (State.ringWrite a1 a2 a3) := by
  unfold State.ringWrite
  with_reducible repeat'
    first
    | assumption | intro _ | apply keeps_inc | apply keeps_wr | split | simp only [stores_mk]

theorem keeps_setStaged {a1 a2 a3} (h1 : Stores a1) : Stores (State.setStaged a1 a2 a3) := by
  unfold State.setStaged
  with_reducible repeat'
    first
    | assumption | intro _ | split | simp only [stores_mk]

theorem keeps_stage {a1 a2 a3} (h1 : Stores a1) : Stores (State.stage a1 a2 a3) := by
  unfold State.stage
  with_reducible repeat'
    first
    | assumption | intro _ | apply keeps_inc | apply keeps_setStaged | apply keeps_wr | split
    | dsimp only

theorem keeps_deliver {a1 a2 a3} (h1 : Stores a1) : Stores (State.deliver a1 a2 a3) := by
  unfold State.deliver
  with_reducible repeat'
    first
    | assumption | intro _ | apply keeps_bbxCopy | apply keeps_inc | apply keeps_int | apply keeps_ringWrite
    | apply keeps_stage | split | simp only [stores_mk]

theorem keeps_sendUpAs {a1 a2 a3 a4 a5} (h1 : Stores a1) : Stores (State.sendUpAs a1 a2 a3 a4 a5) := by
  unfold State.sendUpAs
  with_reducible repeat'
    first
    | assumption | intro _ | apply keeps_inc | apply keeps_irqFollow | apply keeps_offer | split
    | dsimp only

theorem keeps_sendUp {a1 a2 a3 a4} (h1 : Stores a1) : Stores (State.sendUp a1 a2 a3 a4) := by
  unfold State.sendUp
  with_reducible repeat'
    first
    | assumption | intro _ | apply keeps_sendUpAs | split | simp only [stores_mk]

theorem keeps_record {a1 a2 a3} (h1 : Stores a1) : Stores (State.record a1 a2 a3) := by
  unfold State.record
  with_reducible repeat'
    first
    | assumption | intro _ | apply keeps_deliver | apply keeps_sendUp | apply keeps_wr | split
    | simp only [stores_mk]

theorem keeps_suppress {a1 a2 a3 a4} (h1 : Stores a1) : Stores (State.suppress a1 a2 a3 a4) := by
  unfold State.suppress
  with_reducible repeat'
    first
    | assumption | intro _ | apply keeps_inc | apply keeps_wr | split | simp only [stores_mk]

theorem keeps_takeToken {a1 a2 a3} (h1 : Stores a1) : Stores (State.takeToken a1 a2 a3) := by
  unfold State.takeToken
  with_reducible repeat'
    first
    | assumption | intro _ | apply keeps_wr | split | simp only [stores_mk]

theorem keeps_eventRec {a1 a2 a3 a4} (h1 : Stores a1) : Stores (State.eventRec a1 a2 a3 a4) := by
  unfold State.eventRec
  with_reducible repeat'
    first
    | assumption | intro _ | apply keeps_record | apply keeps_suppress | apply keeps_takeToken | split
    | simp only [stores_mk]

theorem keeps_event {a1 a2 a3 a4 a5 a6 a7 a8 a9} (h1 : Stores a1) :
    Stores (State.event a1 a2 a3 a4 a5 a6 a7 a8 a9) := by
  unfold State.event
  with_reducible repeat'
    first
    | assumption | intro _ | apply keeps_eventRec | split | simp only [stores_mk]

theorem keeps_abftCheck {a1 a2 a3} (h1 : Stores a1) : Stores (State.abftCheck a1 a2 a3) := by
  unfold State.abftCheck
  with_reducible repeat'
    first
    | assumption | intro _ | refine stores_foldl ?_ fun _ _ => ?_ | refine pairStores_foldl ?_ fun _ _ => ?_
    | apply keeps_event | apply keeps_int | apply keeps_wr | split | dsimp only

theorem keeps_effUpdate {a1 a2} (h1 : Stores a1) : Stores (State.effUpdate a1 a2) := by
  unfold State.effUpdate
  with_reducible repeat'
    first
    | assumption | intro _ | apply keeps_wr | split | simp only [stores_mk]

theorem keeps_intErr {a1 a2 a3} (h1 : Stores a1) : Stores (State.intErr a1 a2 a3) := by
  unfold State.intErr
  with_reducible repeat'
    first
    | assumption | intro _ | apply keeps_intChanged | apply keeps_wr | split | simp only [stores_mk]

theorem keeps_abortNvm {a1} (h1 : Stores a1) : Stores (State.abortNvm a1) := by
  unfold State.abortNvm
  with_reducible repeat'
    first
    | assumption | intro _ | apply keeps_int | apply keeps_wr | split | dsimp only

theorem keeps_lastGasp {a1 a2} (h1 : Stores a1) : Stores (State.lastGasp a1 a2) := by
  unfold State.lastGasp
  with_reducible repeat'
    first
    | assumption | intro _ | apply keeps_abortNvm | apply keeps_inc | apply keeps_int | apply keeps_setB
    | apply keeps_wr | split | dsimp only

theorem keeps_endIdle {a1 a2 a3} (h1 : Stores a1) : Stores (State.endIdle a1 a2 a3) := by
  unfold State.endIdle
  with_reducible repeat'
    first
    | assumption | intro _ | apply keeps_wr | split | simp only [stores_mk]

theorem keeps_linkIdle {a1 a2} (h1 : Stores a1) : Stores (State.linkIdle a1 a2) := by
  unfold State.linkIdle
  with_reducible repeat'
    first
    | assumption | intro _ | apply keeps_endIdle | split | simp only [stores_mk]

theorem keeps_pinFollow {a1 a2 a3 a4 a5} (h1 : Stores a1) : Stores (State.pinFollow a1 a2 a3 a4 a5) := by
  unfold State.pinFollow
  with_reducible repeat'
    first
    | assumption | intro _ | apply keeps_emit | split | simp only [stores_mk]

theorem keeps_pinsFollow {a1 a2 a3} (h1 : Stores a1) : Stores (State.pinsFollow a1 a2 a3) := by
  unfold State.pinsFollow
  with_reducible repeat'
    first
    | assumption | intro _ | refine stores_foldl ?_ fun _ _ => ?_ | apply keeps_pinFollow | split | simp only [stores_mk]

theorem keeps_safeIkbEnter {a1 a2} (h1 : Stores a1) : Stores (State.safeIkbEnter a1 a2) := by
  unfold State.safeIkbEnter
  with_reducible repeat'
    first
    | assumption | intro _ | apply keeps_pinsFollow | apply keeps_linkIdle | apply keeps_wr | split | simp only [stores_mk]

theorem keeps_linksIdle {a1 a2} (h1 : Stores a1) : Stores (State.linksIdle a1 a2) := by
  unfold State.linksIdle
  with_reducible repeat'
    first
    | assumption | intro _ | refine stores_foldl ?_ fun _ _ => ?_ | refine pairStores_foldl ?_ fun _ _ => ?_
    | apply keeps_linkIdle | split | simp only [stores_mk]

theorem keeps_safeWdieEnter {a1 a2} (h1 : Stores a1) : Stores (State.safeWdieEnter a1 a2) := by
  unfold State.safeWdieEnter
  with_reducible repeat'
    first
    | assumption | intro _ | apply keeps_inc | apply keeps_int | apply keeps_linksIdle | apply keeps_wr | split
    | simp only [stores_mk]

theorem keeps_fatalSafe {a1 a2 a3 a4 a5 a6} (h1 : Stores a1) : Stores (State.fatalSafe a1 a2 a3 a4 a5 a6) := by
  unfold State.fatalSafe
  with_reducible repeat'
    first
    | assumption | intro _ | apply keeps_event | apply keeps_lastGasp | apply keeps_safeIkbEnter
    | apply keeps_safeWdieEnter | apply keeps_sendUp | apply keeps_wr | split | simp only [stores_mk]

theorem keeps_reachFatal {a1 a2 a3 a4 a5} (h1 : Stores a1) : Stores (State.reachFatal a1 a2 a3 a4 a5) := by
  unfold State.reachFatal
  with_reducible repeat'
    first
    | assumption | intro _ | apply keeps_fatalSafe | apply keeps_int | apply keeps_wr | split
    | simp only [stores_mk]

theorem keeps_pageErr {a1 a2 a3 a4 a5 a6} (h1 : Stores a1) : Stores (State.pageErr a1 a2 a3 a4 a5 a6) := by
  unfold State.pageErr
  with_reducible repeat'
    first
    | assumption | intro _ | apply keeps_event | apply keeps_inc | apply keeps_intErr | apply keeps_reachFatal
    | apply keeps_wr | split | dsimp only

theorem keeps_abftModeWrite {a1 a2 a3} (h1 : Stores a1) : Stores (State.abftModeWrite a1 a2 a3) := by
  unfold State.abftModeWrite
  with_reducible repeat'
    first
    | assumption | intro _ | apply keeps_effUpdate | apply keeps_pageErr | apply keeps_wr | split
    | dsimp only

theorem keeps_endRun {a1 a2 a3 a4} (h1 : Stores a1) : Stores (State.endRun a1 a2 a3 a4) := by
  unfold State.endRun
  with_reducible repeat'
    first
    | assumption | intro _ | apply keeps_int | apply keeps_wr | split | simp only [stores_mk]

theorem keeps_freeCells {a1 a2} (h1 : Stores a1) : Stores (State.freeCells a1 a2) := by
  unfold State.freeCells
  with_reducible repeat'
    first
    | assumption | intro _ | apply keeps_wr | split | simp only [stores_mk]

theorem keeps_idleRounds {a1 a2} (h1 : Stores a1) : Stores (State.idleRounds a1 a2) := by
  unfold State.idleRounds
  with_reducible repeat'
    first
    | assumption | intro _ | refine stores_foldl ?_ fun _ _ => ?_ | refine pairStores_foldl ?_ fun _ _ => ?_
    | apply keeps_wr | split | dsimp only

theorem keeps_setQueue {a1 a2 a3 a4} (h1 : Stores a1) : Stores (State.setQueue a1 a2 a3 a4) := by
  unfold State.setQueue
  with_reducible repeat'
    first
    | assumption | intro _ | split | simp only [stores_mk]

theorem keeps_waitFollow {a1 a2} (h1 : Stores a1) : Stores (State.waitFollow a1 a2) := by
  unfold State.waitFollow
  with_reducible repeat'
    first
    | assumption | intro _ | refine stores_foldl ?_ fun _ _ => ?_ | refine pairStores_foldl ?_ fun _ _ => ?_
    | apply keeps_inc | apply keeps_wr | split | simp only [stores_mk]

theorem keeps_enqueue {a1 a2 a3 a4} (h1 : Stores a1) : Stores (State.enqueue a1 a2 a3 a4) := by
  unfold State.enqueue
  with_reducible repeat'
    first
    | assumption | intro _ | apply keeps_freeCells | apply keeps_idleRounds | apply keeps_inc | apply keeps_setQueue
    | apply keeps_waitFollow | split | dsimp only

theorem keeps_flatFor {a1 a2} (h1 : Stores a1) : Stores (State.flatFor a1 a2).2 := by
  unfold State.flatFor
  with_reducible repeat'
    first
    | assumption | intro _ | apply keeps_inc | split | simp only [stores_mk]

theorem keeps_setFlowFree {a1 a2 a3} (h1 : Stores a1) : Stores (State.setFlowFree a1 a2 a3) := by
  unfold State.setFlowFree
  with_reducible repeat'
    first
    | assumption | intro _ | split | simp only [stores_mk]

theorem keeps_newFlow {a1 a2} (h1 : Stores a1) : Stores (State.newFlow a1 a2).2 := by
  unfold State.newFlow
  with_reducible repeat'
    first
    | assumption | intro _ | apply keeps_free | refine pair2 (by assumption) (keeps_free ?_)
    | apply keeps_setFlowFree | apply keeps_wr | split | dsimp only

theorem keeps_setFlows {a1 a2 a3} (h1 : Stores a1) : Stores (State.setFlows a1 a2 a3) := by
  unfold State.setFlows
  with_reducible repeat'
    first
    | assumption | intro _ | split | simp only [stores_mk]

theorem keeps_takeFlow {a1 a2 a3 a4} (h1 : Stores a1) : Stores (State.takeFlow a1 a2 a3 a4).2 := by
  unfold State.takeFlow
  with_reducible repeat'
    first
    | assumption | intro _ | apply keeps_newFlow | refine pair2 (by assumption) (keeps_newFlow ?_)
    | apply keeps_setFlows | split | simp only [stores_mk]

theorem keeps_originate {a1 a2 a3 a4} (h1 : Stores a1) : Stores (State.originate a1 a2 a3 a4) := by
  unfold State.originate
  with_reducible repeat'
    first
    | assumption | intro _ | apply keeps_enqueue | apply keeps_flatFor
    | refine pair2 (by assumption) (keeps_flatFor ?_) | apply keeps_takeFlow
    | refine pair2 (by assumption) (keeps_takeFlow ?_) | split | dsimp only

theorem keeps_sendNotice {a1 a2} (h1 : Stores a1) : Stores (State.sendNotice a1 a2) := by
  unfold State.sendNotice
  with_reducible repeat'
    first
    | assumption | intro _ | apply keeps_originate | split | simp only [stores_mk]

theorem keeps_notice {a1 a2 a3 a4 a5 a6} (h1 : Stores a1) : Stores (State.notice a1 a2 a3 a4 a5 a6) := by
  unfold State.notice
  with_reducible repeat'
    first
    | assumption | intro _ | apply keeps_bbxCopy | apply keeps_event | apply keeps_sendNotice | apply keeps_wr
    | split | simp only [stores_mk]

theorem keeps_avsWrite {a1 a2 a3 a4} (h1 : Stores a1) : Stores (State.avsWrite a1 a2 a3 a4) := by
  unfold State.avsWrite
  with_reducible repeat'
    first
    | assumption | intro _ | apply keeps_emit | apply keeps_wr | split | simp only [stores_mk]

theorem keeps_setChange {a1 a2 a3} (h1 : Stores a1) : Stores (State.setChange a1 a2 a3) := by
  unfold State.setChange
  with_reducible repeat'
    first
    | assumption | intro _ | split | simp only [stores_mk]

theorem keeps_changeDone {a1 a2 a3} (h1 : Stores a1) : Stores (State.changeDone a1 a2 a3) := by
  unfold State.changeDone
  with_reducible repeat'
    first
    | assumption | intro _ | apply keeps_int | apply keeps_setChange | apply keeps_wr | split
    | dsimp only

theorem keeps_handshake {a1 a2 a3} (h1 : Stores a1) : Stores (State.handshake a1 a2 a3) := by
  unfold State.handshake
  with_reducible repeat'
    first
    | assumption | intro _ | apply keeps_emit | apply keeps_wr | split | simp only [stores_mk]

theorem keeps_advance {a1 a2 a3} (h1 : Stores a1) : Stores (State.advance a1 a2 a3) := by
  unfold State.advance
  with_reducible repeat'
    first
    | assumption | intro _ | apply keeps_avsWrite | apply keeps_changeDone | apply keeps_handshake
    | apply keeps_setChange | apply keeps_wr | split | simp only [stores_mk]

theorem keeps_restage {a1 a2} (h1 : Stores a1) : Stores (State.restage a1 a2) := by
  unfold State.restage
  with_reducible repeat'
    first
    | assumption | intro _ | apply keeps_advance | apply keeps_setChange | apply keeps_wr | split
    | dsimp only

theorem keeps_targetFollow {a1 a2} (h1 : Stores a1) : Stores (State.targetFollow a1 a2) := by
  unfold State.targetFollow
  with_reducible repeat'
    first
    | assumption | intro _ | apply keeps_wr | split | simp only [stores_mk]

theorem keeps_slotFollow {a1 a2} (h1 : Stores a1) : Stores (State.slotFollow a1 a2) := by
  unfold State.slotFollow
  with_reducible repeat'
    first
    | assumption | intro _ | apply keeps_restage | apply keeps_targetFollow | split | simp only [stores_mk]

theorem keeps_armSlot {a1 a2 a3} (h1 : Stores a1) : Stores (State.armSlot a1 a2 a3) := by
  unfold State.armSlot
  with_reducible repeat'
    first
    | assumption | intro _ | apply keeps_pageErr | apply keeps_setB | apply keeps_slotFollow | apply keeps_wr
    | split | dsimp only

theorem keeps_setSlotInstant {a1 a2 a3 a4 a5} (h1 : Stores a1) : Stores (State.setSlotInstant a1 a2 a3 a4 a5) := by
  unfold State.setSlotInstant
  with_reducible repeat'
    first
    | assumption | intro _ | apply keeps_wr | split | simp only [stores_mk]

theorem keeps_placeIn {a1 a2 a3 a4 a5 a6} (h1 : Stores a1) : Stores (State.placeIn a1 a2 a3 a4 a5 a6).1 := by
  unfold State.placeIn
  with_reducible repeat'
    first
    | assumption | intro _ | apply keeps_armSlot | apply keeps_setSlotInstant | apply keeps_wr | split
    | simp only [stores_mk]

theorem keeps_placeIkb {a1 a2 a3 a4 a5} (h1 : Stores a1) : Stores (State.placeIkb a1 a2 a3 a4 a5).1 := by
  unfold State.placeIkb
  with_reducible repeat'
    first
    | assumption | intro _ | apply keeps_placeIn | refine pair1 (by assumption) (keeps_placeIn ?_) | split
    | simp only [stores_mk]

theorem keeps_settlePoint {a1 a2} (h1 : Stores a1) : Stores (State.settlePoint a1 a2) := by
  unfold State.settlePoint
  with_reducible repeat'
    first
    | assumption | intro _ | apply keeps_wr | split | dsimp only

theorem keeps_placePoint {a1 a2 a3 a4} (h1 : Stores a1) : Stores (State.placePoint a1 a2 a3 a4) := by
  unfold State.placePoint
  with_reducible repeat'
    first
    | assumption | intro _ | apply keeps_placeIkb | refine pair1 (by assumption) (keeps_placeIkb ?_)
    | apply keeps_settlePoint | apply keeps_wr | split | simp only [stores_mk]

theorem keeps_placeSteps {a1 a2 a3} (h1 : Stores a1) : Stores (State.placeSteps a1 a2 a3).1 := by
  unfold State.placeSteps
  with_reducible repeat'
    first
    | assumption | intro _ | refine stores_foldl ?_ fun _ _ => ?_ | refine pairStores_foldl ?_ fun _ _ => ?_
    | apply keeps_placePoint | split | simp only [stores_mk]

theorem keeps_placeSwap {a1 a2} (h1 : Stores a1) : Stores (State.placeSwap a1 a2).1 := by
  unfold State.placeSwap
  with_reducible repeat'
    first
    | assumption | intro _ | refine stores_foldl ?_ fun _ _ => ?_ | refine pairStores_foldl ?_ fun _ _ => ?_
    | apply keeps_placeIn | refine pair1 (by assumption) (keeps_placeIn ?_) | split | simp only [stores_mk]

theorem keeps_commitHere {a1 a2 a3} (h1 : Stores a1) : Stores (State.commitHere a1 a2 a3).1 := by
  unfold State.commitHere
  with_reducible repeat'
    first
    | assumption | intro _ | apply keeps_placeSteps | refine pair1 (by assumption) (keeps_placeSteps ?_)
    | apply keeps_placeSwap | refine pair1 (by assumption) (keeps_placeSwap ?_) | split | simp only [stores_mk]

theorem keeps_ctxCounts {a1 a2} (h1 : Stores a1) : Stores (State.ctxCounts a1 a2) := by
  unfold State.ctxCounts
  with_reducible repeat'
    first
    | assumption | intro _ | refine stores_foldl ?_ fun _ _ => ?_ | refine pairStores_foldl ?_ fun _ _ => ?_
    | apply keeps_wr | split | simp only [stores_mk]

theorem keeps_setCtx {a1 a2 a3} (h1 : Stores a1) : Stores (State.setCtx a1 a2 a3) := by
  unfold State.setCtx
  with_reducible repeat'
    first
    | assumption | intro _ | apply keeps_ctxCounts | split | simp only [stores_mk]

theorem keeps_drainCtx {a1 a2 a3} (h1 : Stores a1) : Stores (State.drainCtx a1 a2 a3) := by
  unfold State.drainCtx
  with_reducible repeat'
    first
    | assumption | intro _ | apply keeps_setCtx | split | simp only [stores_mk]

theorem keeps_drainDie {a1 a2 a3} (h1 : Stores a1) : Stores (State.drainDie a1 a2 a3) := by
  unfold State.drainDie
  with_reducible repeat'
    first
    | assumption | intro _ | refine stores_foldl ?_ fun _ _ => ?_ | refine pairStores_foldl ?_ fun _ _ => ?_
    | apply keeps_drainCtx | split | simp only [stores_mk]

theorem keeps_openCtx {a1 a2 a3 a4 a5} (h1 : Stores a1) : Stores (State.openCtx a1 a2 a3 a4 a5) := by
  unfold State.openCtx
  with_reducible repeat'
    first
    | assumption | intro _ | apply keeps_event | apply keeps_inc | apply keeps_int | apply keeps_setCtx | split
    | simp only [stores_mk]

theorem keeps_openPort {a1 a2} (h1 : Stores a1) : Stores (State.openPort a1 a2) := by
  unfold State.openPort
  with_reducible repeat'
    first
    | assumption | intro _ | refine stores_foldl ?_ fun _ _ => ?_ | refine pairStores_foldl ?_ fun _ _ => ?_
    | apply keeps_openCtx | split | simp only [stores_mk]

theorem keeps_putGovJob {a1 a2} (h1 : Stores a1) : Stores (State.putGovJob a1 a2) := by
  unfold State.putGovJob
  with_reducible repeat'
    first
    | assumption | intro _ | apply keeps_wr | split | simp only [stores_mk]

theorem keeps_writeGovJob {a1 a2} (h1 : Stores a1) : Stores (State.writeGovJob a1 a2) := by
  unfold State.writeGovJob
  with_reducible repeat'
    first
    | assumption | intro _ | apply keeps_putGovJob | apply keeps_wr | split | simp only [stores_mk]

theorem keeps_jobFollow {a1 a2 a3} (h1 : Stores a1) (_h2 : Stores a2) : Stores (State.jobFollow a1 a2 a3) := by
  unfold State.jobFollow
  with_reducible repeat'
    first
    | assumption | intro _ | apply keeps_putGovJob | apply keeps_drainDie | apply keeps_openPort | apply keeps_writeGovJob | split
    | dsimp only

theorem keeps_slotCounts {a1 a2} (h1 : Stores a1) : Stores (State.slotCounts a1 a2) := by
  unfold State.slotCounts
  with_reducible repeat'
    first
    | assumption | intro _ | apply keeps_wr | split | simp only [stores_mk]

theorem keeps_delInst {a1 a2} (h1 : Stores a1) : Stores (State.delInst a1 a2) := by
  unfold State.delInst
  with_reducible repeat'
    first
    | assumption | intro _ | apply keeps_slotCounts | split | simp only [stores_mk]

theorem keeps_discardJob {a1 a2} (h1 : Stores a1) : Stores (State.discardJob a1 a2) := by
  unfold State.discardJob
  with_reducible repeat'
    first
    | assumption | intro _ | refine stores_foldl ?_ fun _ _ => ?_ | refine pairStores_foldl ?_ fun _ _ => ?_
    | apply keeps_delInst | apply keeps_inc | split | simp only [stores_mk]

theorem keeps_unring {a1 a2} (h1 : Stores a1) : Stores (State.unring a1 a2) := by
  unfold State.unring
  with_reducible repeat'
    first
    | assumption | intro _ | split | dsimp only
  all_goals refine stores_parts.2 ⟨?_, ?_, ?_⟩
  all_goals simp only []
  all_goals
    with_reducible repeat'
      first
      | assumption | intro _ | apply memWriteList_wf | apply memWrite_wf | apply dropRange_wf | apply dram_wf
      | apply nor_wf | apply mram_wf | exact memNil_wf | split | simp only [stores_mk]

theorem keeps_dramStore1 {a1 a2 a3} (h1 : Stores a1) : Stores (State.dramStore1 a1 a2 a3) := by
  unfold State.dramStore1
  with_reducible repeat'
    first
    | assumption | intro _ | apply keeps_unring | split | dsimp only
  all_goals refine stores_parts.2 ⟨?_, ?_, ?_⟩
  all_goals simp only []
  all_goals
    with_reducible repeat'
      first
      | assumption | intro _ | apply memWriteList_wf | apply memWrite_wf | apply dropRange_wf | apply dram_wf
      | apply nor_wf | apply mram_wf | exact memNil_wf | apply keeps_unring | split | simp only [stores_mk]

theorem keeps_dramStore {a1 a2 a3} (h3 : Stores a3) : Stores (State.dramStore a1 a2 a3) := by
  revert h3
  fun_induction State.dramStore <;> intros
  all_goals
    with_reducible repeat'
      first
      | assumption | apply_assumption | assumption | intro _ | apply keeps_dramStore1 | split
      | simp only [stores_mk]

theorem keeps_storeEntry {a1 a2 a3} (h1 : Stores a1) : Stores (State.storeEntry a1 a2 a3) := by
  unfold State.storeEntry
  with_reducible repeat'
    first
    | assumption | intro _ | refine stores_foldl ?_ fun _ _ => ?_ | refine pairStores_foldl ?_ fun _ _ => ?_
    | apply keeps_dramStore | split | simp only [stores_mk]

theorem keeps_leaveXlat {a1 a2} (h1 : Stores a1) : Stores (State.leaveXlat a1 a2) := by
  unfold State.leaveXlat
  with_reducible repeat'
    first
    | assumption | intro _ | refine stores_foldl ?_ fun _ _ => ?_ | refine pairStores_foldl ?_ fun _ _ => ?_
    | apply keeps_storeEntry | split | simp only [stores_mk]

theorem keeps_leaveJob {a1 a2} (h1 : Stores a1) : Stores (State.leaveJob a1 a2) := by
  unfold State.leaveJob
  with_reducible repeat'
    first
    | assumption | intro _ | apply keeps_discardJob | apply keeps_leaveXlat | split | simp only [stores_mk]

theorem keeps_stagedCount {a1} (h1 : Stores a1) : Stores (State.stagedCount a1) := by
  unfold State.stagedCount
  with_reducible repeat'
    first
    | assumption | intro _ | apply keeps_wr | split | simp only [stores_mk]

theorem keeps_endHere {a1 a2 a3} (h1 : Stores a1) : Stores (State.endHere a1 a2 a3) := by
  unfold State.endHere
  with_reducible repeat'
    first
    | assumption | intro _ | refine stores_foldl ?_ fun _ _ => ?_ | refine pairStores_foldl ?_ fun _ _ => ?_
    | apply keeps_jobFollow | apply keeps_leaveJob | apply keeps_placeSwap
    | refine pair1 (by assumption) (keeps_placeSwap ?_) | apply keeps_stagedCount | split | simp only [stores_mk]

theorem keeps_forgetBcasts {a1 a2 a3} (h1 : Stores a1) : Stores (State.forgetBcasts a1 a2 a3) := by
  unfold State.forgetBcasts
  with_reducible repeat'
    first
    | assumption | intro _ | split | simp only [stores_mk]

theorem keeps_stageJob {a1 a2 a3} (h1 : Stores a1) : Stores (State.stageJob a1 a2 a3).1 := by
  unfold State.stageJob
  with_reducible repeat'
    first
    | assumption | intro _ | apply keeps_event | apply keeps_stagedCount | apply keeps_wr | split
    | simp only [stores_mk]

theorem keeps_clrB {a1 a2 a3 a4} (h1 : Stores a1) : Stores (State.clrB a1 a2 a3 a4) := by
  unfold State.clrB
  with_reducible repeat'
    first
    | assumption | intro _ | apply keeps_wr | split | simp only [stores_mk]

theorem keeps_disarmSlot {a1 a2 a3} (h1 : Stores a1) : Stores (State.disarmSlot a1 a2 a3) := by
  unfold State.disarmSlot
  with_reducible repeat'
    first
    | assumption | intro _ | apply keeps_clrB | apply keeps_slotFollow | apply keeps_wr | split
    | simp only [stores_mk]

theorem keeps_unplace {a1 a2} (h1 : Stores a1) : Stores (State.unplace a1 a2) := by
  unfold State.unplace
  with_reducible repeat'
    first
    | assumption | intro _ | apply keeps_disarmSlot | split | simp only [stores_mk]

theorem keeps_unstage {a1 a2} (h1 : Stores a1) : Stores (State.unstage a1 a2) := by
  unfold State.unstage
  with_reducible repeat'
    first
    | assumption | intro _ | refine stores_foldl ?_ fun _ _ => ?_ | refine pairStores_foldl ?_ fun _ _ => ?_
    | apply keeps_stagedCount | apply keeps_unplace | apply keeps_wr | split | simp only [stores_mk]

theorem keeps_actBcast {a1 a2 a3 a4} (h1 : Stores a1) : Stores (State.actBcast a1 a2 a3 a4).1 := by
  unfold State.actBcast
  with_reducible repeat'
    first
    | assumption | intro _ | apply keeps_commitHere | refine pair1 (by assumption) (keeps_commitHere ?_)
    | apply keeps_endHere | apply keeps_forgetBcasts | apply keeps_stageJob
    | refine pair1 (by assumption) (keeps_stageJob ?_) | apply keeps_unstage | split | simp only [stores_mk]

theorem keeps_cross {a1 a2 a3 a4} (h4 : Stores a4) : Stores (State.cross a1 a2 a3 a4) := by
  induction a1 generalizing a2 a4 with
  | zero => exact h4
  | succ n ih =>
    unfold State.cross
    with_reducible repeat'
      first
      | apply ih | assumption | intro _ | apply keeps_inc | split | dsimp only

theorem keeps_sendOn {a1 a2 a3 a4 a5 a6} (h1 : Stores a1) : Stores (State.sendOn a1 a2 a3 a4 a5 a6) := by
  unfold State.sendOn
  with_reducible repeat'
    first
    | assumption | intro _ | apply keeps_cross | apply keeps_enqueue | apply keeps_takeFlow
    | refine pair2 (by assumption) (keeps_takeFlow ?_) | split | simp only [stores_mk]

theorem keeps_sidestepSend {a1 a2 a3 a4 a5 a6} (h1 : Stores a1) : Stores (State.sidestepSend a1 a2 a3 a4 a5 a6) := by
  unfold State.sidestepSend
  with_reducible repeat'
    first
    | assumption | intro _ | apply keeps_inc | apply keeps_sendOn | split | simp only [stores_mk]

theorem keeps_localFrame {a1 a2 a3} (h1 : Stores a1) : Stores (State.localFrame a1 a2 a3) := by
  unfold State.localFrame
  with_reducible repeat'
    first
    | assumption | intro _ | apply keeps_cross | apply keeps_emit | apply keeps_event | apply keeps_inc | split
    | simp only [stores_mk]

theorem keeps_unroutable {a1 a2 a3 a4} (h1 : Stores a1) : Stores (State.unroutable a1 a2 a3 a4) := by
  unfold State.unroutable
  with_reducible repeat'
    first
    | assumption | intro _ | apply keeps_event | apply keeps_inc | split | simp only [stores_mk]

theorem keeps_torusSendBy {a1 a2 a3 a4 a5} (h1 : Stores a1) : Stores (State.torusSendBy a1 a2 a3 a4 a5) := by
  unfold State.torusSendBy
  with_reducible repeat'
    first
    | assumption | intro _ | apply keeps_localFrame | apply keeps_sendOn | apply keeps_unroutable | split
    | dsimp only

theorem keeps_torusSend {a1 a2 a3 a4} (h1 : Stores a1) : Stores (State.torusSend a1 a2 a3 a4) := by
  unfold State.torusSend
  with_reducible repeat'
    first
    | assumption | intro _ | apply keeps_torusSendBy | split | simp only [stores_mk]

theorem keeps_sendPath {a1 a2 a3 a4} (h1 : Stores a1) : Stores (State.sendPath a1 a2 a3 a4) := by
  unfold State.sendPath
  with_reducible repeat'
    first
    | assumption | intro _ | apply keeps_sidestepSend | apply keeps_torusSend | apply keeps_torusSendBy | split
    | dsimp only

theorem keeps_sendMsg {a1 a2 a3 a4} (h1 : Stores a1) : Stores (State.sendMsg a1 a2 a3 a4) := by
  unfold State.sendMsg
  with_reducible repeat'
    first
    | assumption | intro _ | refine stores_foldl ?_ fun _ _ => ?_ | refine pairStores_foldl ?_ fun _ _ => ?_
    | apply keeps_sendPath | split | simp only [stores_mk]

theorem keeps_setBcast {a1 a2} (h1 : Stores a1) : Stores (State.setBcast a1 a2) := by
  unfold State.setBcast
  with_reducible repeat'
    first
    | assumption | intro _ | split | simp only [stores_mk]

theorem keeps_openBcast {a1 a2 a3 a4} (h1 : Stores a1) : Stores (State.openBcast a1 a2 a3 a4) := by
  unfold State.openBcast
  with_reducible repeat'
    first
    | assumption | intro _ | refine stores_foldl ?_ fun _ _ => ?_ | refine pairStores_foldl ?_ fun _ _ => ?_
    | apply keeps_actBcast | refine pair1 (by assumption) (keeps_actBcast ?_) | apply keeps_sendMsg
    | apply keeps_setBcast | split | simp only [stores_mk]

theorem keeps_abortRun {a1 a2 a3 a4} (h1 : Stores a1) : Stores (State.abortRun a1 a2 a3 a4) := by
  unfold State.abortRun
  with_reducible repeat'
    first
    | assumption | intro _ | apply keeps_endRun | apply keeps_event | apply keeps_free
    | refine pair2 (by assumption) (keeps_free ?_) | apply keeps_notice | apply keeps_openBcast | apply keeps_wr
    | split | simp only [stores_mk]

theorem keeps_abortStarts {a1} (h1 : Stores a1) : Stores (State.abortStarts a1) := by
  unfold State.abortStarts
  with_reducible repeat'
    first
    | assumption | intro _ | refine stores_foldl ?_ fun _ _ => ?_ | refine pairStores_foldl ?_ fun _ _ => ?_
    | apply keeps_endRun | apply keeps_event | apply keeps_notice | apply keeps_wr | split | simp only [stores_mk]

theorem keeps_sendHeld {a1 a2} (h1 : Stores a1) : Stores (State.sendHeld a1 a2) := by
  unfold State.sendHeld
  with_reducible repeat'
    first
    | assumption | intro _ | refine stores_foldl ?_ fun _ _ => ?_ | refine pairStores_foldl ?_ fun _ _ => ?_
    | apply keeps_emit | apply keeps_setHeld | split | simp only [stores_mk]

theorem keeps_prismDisarmAll {a1 a2 a3} (h1 : Stores a1) : Stores (State.prismDisarmAll a1 a2 a3) := by
  unfold State.prismDisarmAll
  with_reducible repeat'
    first
    | assumption | intro _ | refine stores_foldl ?_ fun _ _ => ?_ | refine pairStores_foldl ?_ fun _ _ => ?_
    | apply keeps_event | apply keeps_int | apply keeps_sendHeld | apply keeps_wr | split | dsimp only

theorem keeps_prismAuth {a1 a2 a3} (h1 : Stores a1) : Stores (State.prismAuth a1 a2 a3) := by
  unfold State.prismAuth
  with_reducible repeat'
    first
    | assumption | intro _ | apply keeps_prismDisarmAll | apply keeps_wr | split | simp only [stores_mk]

theorem keeps_grantFollow {a1 a2 a3} (h1 : Stores a1) : Stores (State.grantFollow a1 a2 a3) := by
  unfold State.grantFollow
  with_reducible repeat'
    first
    | assumption | intro _ | apply keeps_prismAuth | split | simp only [stores_mk]

theorem keeps_grantOff {a1 a2 a3 a4} (h1 : Stores a1) : Stores (State.grantOff a1 a2 a3 a4) := by
  unfold State.grantOff
  with_reducible repeat'
    first
    | assumption | intro _ | apply keeps_event | apply keeps_grantFollow | apply keeps_int | apply keeps_wr | split
    | simp only [stores_mk]

theorem keeps_grantOn {a1 a2 a3 a4 a5} (h1 : Stores a1) : Stores (State.grantOn a1 a2 a3 a4 a5) := by
  unfold State.grantOn
  with_reducible repeat'
    first
    | assumption | intro _ | apply keeps_grantFollow | apply keeps_grantOff | apply keeps_wr | split
    | simp only [stores_mk]

theorem keeps_unlock {a1 a2 a3} (h1 : Stores a1) : Stores (State.unlock a1 a2 a3) := by
  unfold State.unlock
  with_reducible repeat'
    first
    | assumption | intro _ | refine stores_foldl ?_ fun _ _ => ?_ | refine pairStores_foldl ?_ fun _ _ => ?_
    | apply keeps_wr | split | simp only [stores_mk]

theorem keeps_accept1 {a1 a2 a3} (h1 : Stores a1) : Stores (State.accept1 a1 a2 a3) := by
  unfold State.accept1
  with_reducible repeat'
    first
    | assumption | intro _ | apply keeps_grantOn | apply keeps_unlock | split | simp only [stores_mk]

theorem keeps_setIngest {a1 a2 a3} (h1 : Stores a1) : Stores (State.setIngest a1 a2 a3) := by
  unfold State.setIngest
  with_reducible repeat'
    first
    | assumption | intro _ | apply keeps_wr | split | simp only [stores_mk]

theorem keeps_takeIn {a1 a2} (h1 : Stores a1) : Stores (State.takeIn a1 a2) := by
  unfold State.takeIn
  with_reducible repeat'
    first
    | assumption | intro _ | apply keeps_setCtx | apply keeps_setIngest | apply keeps_wr | split
    | simp only [stores_mk]

theorem keeps_ctxColour {a1 a2 a3 a4} (h1 : Stores a1) : Stores (State.ctxColour a1 a2 a3 a4).2 := by
  unfold State.ctxColour
  with_reducible repeat'
    first
    | assumption | intro _ | apply keeps_inc | apply keeps_setCtx | split | dsimp only

theorem keeps_sendDown {a1 a2 a3 a4} (h1 : Stores a1) : Stores (State.sendDown a1 a2 a3 a4) := by
  unfold State.sendDown
  with_reducible repeat'
    first
    | assumption | intro _ | apply keeps_offer | apply keeps_vecFollow | split | dsimp only

theorem keeps_keyReq {a1 a2 a3} (h1 : Stores a1) : Stores (State.keyReq a1 a2 a3) := by
  unfold State.keyReq
  with_reducible repeat'
    first
    | assumption | intro _ | apply keeps_inc | apply keeps_sendDown | split | simp only [stores_mk]

theorem keeps_dropFrame {a1 a2} (h1 : Stores a1) : Stores (State.dropFrame a1 a2) := by
  unfold State.dropFrame
  with_reducible repeat'
    first
    | assumption | intro _ | apply keeps_inc | apply keeps_keyReq | apply keeps_setCtx | split
    | simp only [stores_mk]

theorem keeps_setWait {a1 a2 a3} (h1 : Stores a1) : Stores (State.setWait a1 a2 a3) := by
  unfold State.setWait
  with_reducible repeat'
    first
    | assumption | intro _ | split | simp only [stores_mk]

theorem keeps_acceptFrame {a1 a2} (h1 : Stores a1) : Stores (State.acceptFrame a1 a2).1 := by
  unfold State.acceptFrame
  with_reducible repeat'
    first
    | assumption | intro _ | apply keeps_takeIn | apply keeps_ctxColour
    | refine pair2 (by assumption) (keeps_ctxColour ?_) | apply keeps_dropFrame | apply keeps_inc
    | apply keeps_setWait | split | dsimp only

theorem keeps_dropLow {a1 a2 a3} (h1 : Stores a1) : Stores (State.dropLow a1 a2 a3) := by
  unfold State.dropLow
  with_reducible repeat'
    first
    | assumption | intro _ | split | simp only [stores_mk]

theorem keeps_setLatch {a1 a2 a3 a4} (h1 : Stores a1) : Stores (State.setLatch a1 a2 a3 a4) := by
  unfold State.setLatch
  with_reducible repeat'
    first
    | assumption | intro _ | split | simp only [stores_mk]

theorem keeps_readHalf {a1 a2 a3 a4 a5 a6 a7 a8} (h1 : Stores a1) :
    Stores (State.readHalf a1 a2 a3 a4 a5 a6 a7 a8).2 := by
  unfold State.readHalf
  with_reducible repeat'
    first
    | assumption | intro _ | apply keeps_pageErr | apply keeps_setLatch | split | simp only [stores_mk]

theorem keeps_execDomainWake {a1 a2 a3 a4} (h4 : Stores a4) : OutStores (execDomainWake a1 a2 a3 a4) := by
  unfold execDomainWake
  with_reducible repeat'
    first
    | assumption | intro _ | apply out_next | apply out_keeping | apply out_storeless | apply keeps_setB
    | apply keeps_wr | split | simp only [stores_mk]

theorem keeps_wakeFor {a1 a2 a3} (h1 : Stores a1) : Stores (State.wakeFor a1 a2 a3) := by
  unfold State.wakeFor
  with_reducible repeat'
    first
    | assumption | intro _ | apply keeps_execDomainWake
    | refine OutStores.of (keeps_execDomainWake ?_) (by assumption) | split | dsimp only

theorem keeps_accessAperture {a1 a2 a3 a4 a5 a6 a7 a8} (h1 : Stores a1) :
    Stores (State.accessAperture a1 a2 a3 a4 a5 a6 a7 a8).state := by
  unfold State.accessAperture
  with_reducible repeat'
    first
    | assumption | intro _ | apply keeps_dropLow | apply keeps_readHalf
    | refine pair2 (by assumption) (keeps_readHalf ?_) | apply keeps_setLatch | apply keeps_wakeFor | split
    | simp only [stores_mk]

theorem keeps_unmasked {a1 a2} (h1 : Stores a1) : Stores (State.unmasked a1 a2) := by
  unfold State.unmasked
  with_reducible repeat'
    first
    | assumption | intro _ | apply keeps_msixSend | split | simp only [stores_mk]

theorem keeps_msixWrite {a1 a2 a3} (h1 : Stores a1) : Stores (State.msixWrite a1 a2 a3) := by
  unfold State.msixWrite
  with_reducible repeat'
    first
    | assumption | intro _ | apply keeps_unmasked | split | simp only [stores_mk]

theorem keeps_accessMsix {a1 a2 a3 a4 a5} (h1 : Stores a1) : Stores (State.accessMsix a1 a2 a3 a4 a5).state := by
  unfold State.accessMsix
  with_reducible repeat'
    first
    | assumption | intro _ | apply keeps_msixWrite | split | simp only [stores_mk]

theorem keeps_addrErr {a1 a2 a3 a4} (h1 : Stores a1) : Stores (State.addrErr a1 a2 a3 a4) := by
  unfold State.addrErr
  with_reducible repeat'
    first
    | assumption | intro _ | apply keeps_inc | apply keeps_wr | split | simp only [stores_mk]

theorem keeps_lost {a1 a2 a3 a4} (h1 : Stores a1) : Stores (State.lost a1 a2 a3 a4).state := by
  unfold State.lost
  with_reducible repeat'
    first
    | assumption | intro _ | apply keeps_addrErr | apply keeps_inc | apply keeps_wr | split | simp only [stores_mk]

theorem keeps_duty {a1} (h1 : Stores a1) : Stores (State.duty a1).2 := by
  unfold State.duty
  with_reducible repeat'
    first
    | assumption | intro _ | apply keeps_free | refine pair2 (by assumption) (keeps_free ?_) | split
    | simp only [stores_mk]

theorem keeps_view {a1 a2 a3 a4 a5} (h1 : Stores a1) : Stores (State.view a1 a2 a3 a4 a5).2 := by
  unfold State.view
  with_reducible repeat'
    first
    | assumption | intro _ | apply keeps_duty | refine pair2 (by assumption) (keeps_duty ?_) | apply keeps_free
    | refine pair2 (by assumption) (keeps_free ?_) | split | simp only [stores_mk]

theorem keeps_readField {a1 a2 a3 a4 a5} (h1 : Stores a1) : Stores (State.readField a1 a2 a3 a4 a5).2 := by
  unfold State.readField
  with_reducible repeat'
    first
    | assumption | intro _ | apply keeps_view | refine pair2 (by assumption) (keeps_view ?_) | apply keeps_wr
    | split | simp only [stores_mk]

theorem keeps_readFields {a1 a2 a3 a4 a5} (h5 : Stores a5) : Stores (State.readFields a1 a2 a3 a4 a5).2 := by
  revert h5
  fun_induction State.readFields <;> intros
  all_goals
    with_reducible repeat'
      first
      | assumption | apply_assumption | assumption | intro _ | apply keeps_readField
      | refine pair2 (by assumption) (keeps_readField ?_) | split | simp only [stores_mk]

theorem keeps_coreParam {a1 a2} (h1 : Stores a1) : Stores (State.coreParam a1 a2) := by
  unfold State.coreParam
  with_reducible repeat'
    first
    | assumption | intro _ | apply keeps_pageErr | split | simp only [stores_mk]

theorem keeps_memNext {a1 a2} (h1 : Stores a1) : Stores (State.memNext a1 a2) := by
  unfold State.memNext
  with_reducible repeat'
    first
    | assumption | intro _ | apply keeps_wr | split | simp only [stores_mk]

theorem keeps_memPut {a1 a2 a3 a4} (h1 : Stores a1) : Stores (State.memPut a1 a2 a3 a4) := by
  unfold State.memPut
  with_reducible repeat'
    first
    | assumption | intro _ | split | simp only [stores_mk]

theorem keeps_memAccess {a1 a2 a3 a4} (h1 : Stores a1) : Stores (State.memAccess a1 a2 a3 a4).2 := by
  unfold State.memAccess
  with_reducible repeat'
    first
    | assumption | intro _ | apply keeps_coreParam | apply keeps_memNext | apply keeps_memPut | split
    | dsimp only

theorem keeps_readNow {a1 a2 a3 a4} (h1 : Stores a1) : Stores (State.readNow a1 a2 a3 a4).2 := by
  unfold State.readNow
  with_reducible repeat'
    first
    | assumption | intro _ | apply keeps_pageErr | apply keeps_setLatch | split | simp only [stores_mk]

theorem keeps_readWord {a1 a2 a3 a4 a5} (h1 : Stores a1) : Stores (State.readWord a1 a2 a3 a4 a5).2 := by
  unfold State.readWord
  with_reducible repeat'
    first
    | assumption | intro _ | apply keeps_memAccess | refine pair2 (by assumption) (keeps_memAccess ?_)
    | apply keeps_readFields | refine pair2 (by assumption) (keeps_readFields ?_) | apply keeps_readHalf
    | refine pair2 (by assumption) (keeps_readHalf ?_) | apply keeps_readNow
    | refine pair2 (by assumption) (keeps_readNow ?_) | apply keeps_setLatch | split | simp only [stores_mk]

theorem keeps_readTwo {a1 a2 a3 a4 a5} (h1 : Stores a1) : Stores (State.readTwo a1 a2 a3 a4 a5).2 := by
  unfold State.readTwo
  with_reducible repeat'
    first
    | assumption | intro _ | apply keeps_readFields | refine pair2 (by assumption) (keeps_readFields ?_)
    | apply keeps_readWord | refine pair2 (by assumption) (keeps_readWord ?_) | apply keeps_setLatch | split
    | simp only [stores_mk]

theorem keeps_codecRefuse {a1 a2} (h1 : Stores a1) : Stores (State.codecRefuse a1 a2) := by
  unfold State.codecRefuse
  with_reducible repeat'
    first
    | assumption | intro _ | apply keeps_pageErr | split | simp only [stores_mk]

theorem keeps_setTemplate {a1 a2 a3 a4} (h1 : Stores a1) : Stores (State.setTemplate a1 a2 a3 a4) := by
  unfold State.setTemplate
  with_reducible repeat'
    first
    | assumption | intro _ | apply keeps_wr | split | simp only [stores_mk]

theorem keeps_codecConfig {a1 a2 a3 a4} (h1 : Stores a1) : Stores (State.codecConfig a1 a2 a3 a4) := by
  unfold State.codecConfig
  with_reducible repeat'
    first
    | assumption | intro _ | apply keeps_codecRefuse | apply keeps_pageErr | apply keeps_setCtx
    | apply keeps_setTemplate | apply keeps_wr | split | dsimp only

theorem keeps_ifcExpect {a1 a2 a3 a4} (h1 : Stores a1) : Stores (State.ifcExpect a1 a2 a3 a4) := by
  unfold State.ifcExpect
  with_reducible repeat'
    first
    | assumption | intro _ | apply keeps_pageErr | apply keeps_wr | split | simp only [stores_mk]

theorem keeps_imgNextWrite {a1 a2 a3} (h1 : Stores a1) : Stores (State.imgNextWrite a1 a2 a3) := by
  unfold State.imgNextWrite
  with_reducible repeat'
    first
    | assumption | intro _ | refine stores_foldl ?_ fun _ _ => ?_ | refine pairStores_foldl ?_ fun _ _ => ?_
    | apply keeps_wr | split | simp only [stores_mk]

theorem keeps_setStream {a1 a2 a3 a4} (h1 : Stores a1) : Stores (State.setStream a1 a2 a3 a4) := by
  unfold State.setStream
  with_reducible repeat'
    first
    | assumption | intro _ | split | simp only [stores_mk]

theorem keeps_setShed {a1 a2 a3 a4} (h1 : Stores a1) : Stores (State.setShed a1 a2 a3 a4) := by
  unfold State.setShed
  with_reducible repeat'
    first
    | assumption | intro _ | apply keeps_inc | apply keeps_int | apply keeps_wr | split | dsimp only

theorem keeps_setLocalShed {a1 a2 a3} (h1 : Stores a1) : Stores (State.setLocalShed a1 a2 a3) := by
  unfold State.setLocalShed
  with_reducible repeat'
    first
    | assumption | intro _ | apply keeps_int | apply keeps_setShed | apply keeps_wr | split | simp only [stores_mk]

theorem keeps_shedUp {a1 a2} (h1 : Stores a1) : Stores (State.shedUp a1 a2) := by
  unfold State.shedUp
  with_reducible repeat'
    first
    | assumption | intro _ | apply keeps_setLocalShed | split | simp only [stores_mk]

theorem keeps_linkDiscard {a1 a2 a3} (h1 : Stores a1) : Stores (State.linkDiscard a1 a2 a3) := by
  unfold State.linkDiscard
  with_reducible repeat'
    first
    | assumption | intro _ | apply keeps_inc | apply keeps_shedUp | split | simp only [stores_mk]

theorem keeps_recordLost {a1 a2 a3} (h1 : Stores a1) : Stores (State.recordLost a1 a2 a3) := by
  unfold State.recordLost
  with_reducible repeat'
    first
    | assumption | intro _ | apply keeps_inc | apply keeps_int | apply keeps_linkDiscard | apply keeps_setStream
    | split | simp only [stores_mk]

theorem keeps_closeRecord {a1 a2 a3} (h1 : Stores a1) : Stores (State.closeRecord a1 a2 a3) := by
  unfold State.closeRecord
  with_reducible repeat'
    first
    | assumption | intro _ | apply keeps_inc | apply keeps_recordLost | apply keeps_sendUp | apply keeps_setStream
    | split | dsimp only

theorem keeps_drain {a1 a2 a3} (h1 : Stores a1) : Stores (State.drain a1 a2 a3) := by
  unfold State.drain
  with_reducible repeat'
    first
    | assumption | intro _ | apply keeps_closeRecord | split | dsimp only

theorem keeps_placeOverflow {a1 a2 a3} (h1 : Stores a1) : Stores (State.placeOverflow a1 a2 a3) := by
  unfold State.placeOverflow
  with_reducible repeat'
    first
    | assumption | intro _ | apply keeps_inc | apply keeps_int | apply keeps_setStream | split
    | dsimp only

theorem keeps_settle {a1 a2 a3 a4} (h1 : Stores a1) : Stores (State.settle a1 a2 a3 a4) := by
  unfold State.settle
  with_reducible repeat'
    first
    | assumption | intro _ | apply keeps_drain | apply keeps_placeOverflow | apply keeps_setStream | split
    | simp only [stores_mk]

theorem keeps_traceRefresh {a1 a2 a3} (h1 : Stores a1) : Stores (State.traceRefresh a1 a2 a3) := by
  unfold State.traceRefresh
  with_reducible repeat'
    first
    | assumption | intro _ | apply keeps_setStream | apply keeps_settle | split | dsimp only

theorem keeps_setMer {a1 a2 a3} (h1 : Stores a1) : Stores (State.setMer a1 a2 a3) := by
  unfold State.setMer
  with_reducible repeat'
    first
    | assumption | intro _ | split | simp only [stores_mk]

theorem keeps_execMerSetWrite {a1 a2 a3} (h3 : Stores a3) : OutStores (execMerSetWrite a1 a2 a3) := by
  unfold execMerSetWrite
  with_reducible repeat'
    first
    | assumption | intro _ | apply out_next | apply out_keeping | apply out_storeless | apply keeps_setMer
    | apply keeps_wr | split | simp only [stores_mk]

theorem keeps_setLtc {a1 a2 a3} (h1 : Stores a1) : Stores (State.setLtc a1 a2 a3) := by
  unfold State.setLtc
  with_reducible repeat'
    first
    | assumption | intro _ | split | simp only [stores_mk]

theorem keeps_setLtcState {a1 a2 a3} (h1 : Stores a1) : Stores (State.setLtcState a1 a2 a3) := by
  unfold State.setLtcState
  with_reducible repeat'
    first
    | assumption | intro _ | apply keeps_wr | split | simp only [stores_mk]

theorem keeps_setServo {a1 a2 a3} (h1 : Stores a1) : Stores (State.setServo a1 a2 a3) := by
  unfold State.setServo
  with_reducible repeat'
    first
    | assumption | intro _ | split | simp only [stores_mk]

theorem keeps_ltcStepBy {a1 a2 a3} (h1 : Stores a1) : Stores (State.ltcStepBy a1 a2 a3) := by
  unfold State.ltcStepBy
  with_reducible repeat'
    first
    | assumption | intro _ | apply keeps_setLtc | apply keeps_setLtcState | apply keeps_setServo | apply keeps_wr
    | split | simp only [stores_mk]

theorem keeps_execTimeStepWrite {a1 a2 a3} (h3 : Stores a3) : OutStores (execTimeStepWrite a1 a2 a3) := by
  unfold execTimeStepWrite
  with_reducible repeat'
    first
    | assumption | intro _ | apply out_next | apply out_keeping | apply out_storeless | apply keeps_ltcStepBy
    | apply keeps_pageErr | apply keeps_wr | split | simp only [stores_mk]

theorem keeps_commit {a1 a2 a3 a4 a5 a6 a7} (h1 : Stores a1) : Stores (State.commit a1 a2 a3 a4 a5 a6 a7) := by
  unfold State.commit
  with_reducible repeat'
    first
    | assumption | intro _ | refine stores_foldl ?_ fun _ _ => ?_ | refine pairStores_foldl ?_ fun _ _ => ?_
    | apply keeps_codecConfig | apply keeps_ifcExpect | apply keeps_imgNextWrite | apply keeps_pageErr
    | apply keeps_traceRefresh | apply keeps_wr | apply keeps_execMerSetWrite
    | refine OutStores.of (keeps_execMerSetWrite ?_) (by assumption) | apply keeps_execTimeStepWrite
    | refine OutStores.of (keeps_execTimeStepWrite ?_) (by assumption) | apply keeps_taken | split
    | simp only [stores_mk]

theorem keeps_usableFollow {a1} (h1 : Stores a1) : Stores (State.usableFollow a1) := by
  unfold State.usableFollow
  with_reducible repeat'
    first
    | assumption | intro _ | refine stores_foldl ?_ fun _ _ => ?_ | refine pairStores_foldl ?_ fun _ _ => ?_
    | apply keeps_wr | split | simp only [stores_mk]

theorem keeps_setUsable {a1 a2 a3} (h1 : Stores a1) : Stores (State.setUsable a1 a2 a3) := by
  unfold State.setUsable
  with_reducible repeat'
    first
    | assumption | intro _ | apply keeps_usableFollow | apply keeps_wr | split | simp only [stores_mk]

theorem keeps_bypassFollow {a1 a2} (h1 : Stores a1) : Stores (State.bypassFollow a1 a2) := by
  unfold State.bypassFollow
  with_reducible repeat'
    first
    | assumption | intro _ | apply keeps_setUsable | split | dsimp only

theorem keeps_planWidth {a1 a2 a3} (h1 : Stores a1) : Stores (State.planWidth a1 a2 a3) := by
  unfold State.planWidth
  with_reducible repeat'
    first
    | assumption | intro _ | apply keeps_sendDown | apply keeps_sendUp | apply keeps_wr | split
    | dsimp only

theorem keeps_forceOneLane {a1 a2 a3 a4} (h1 : Stores a1) : Stores (State.forceOneLane a1 a2 a3 a4) := by
  unfold State.forceOneLane
  with_reducible repeat'
    first
    | assumption | intro _ | apply keeps_planWidth | apply keeps_wr | split | simp only [stores_mk]

theorem keeps_mirrorFollow {a1 a2} (h1 : Stores a1) (_h2 : Stores a2) : Stores (State.mirrorFollow a1 a2) := by
  unfold State.mirrorFollow
  with_reducible repeat'
    first
    | assumption | intro _ | apply keeps_drainCtx | apply keeps_openCtx | split | dsimp only

theorem keeps_beginChange {a1 a2 a3 a4} (h1 : Stores a1) : Stores (State.beginChange a1 a2 a3 a4) := by
  unfold State.beginChange
  with_reducible repeat'
    first
    | assumption | intro _ | apply keeps_advance | apply keeps_int | apply keeps_setChange | apply keeps_wr | split
    | dsimp only

theorem keeps_setReports {a1 a2 a3} (h1 : Stores a1) : Stores (State.setReports a1 a2 a3) := by
  unfold State.setReports
  with_reducible repeat'
    first
    | assumption | intro _ | split | simp only [stores_mk]

theorem keeps_govReport {a1 a2 a3 a4} (h1 : Stores a1) : Stores (State.govReport a1 a2 a3 a4) := by
  unfold State.govReport
  with_reducible repeat'
    first
    | assumption | intro _ | apply keeps_sendUp | apply keeps_setReports | split | simp only [stores_mk]

theorem keeps_breakPersists {a1 a2} (h1 : Stores a1) : Stores (State.breakPersists a1 a2) := by
  unfold State.breakPersists
  with_reducible repeat'
    first
    | assumption | intro _ | apply keeps_event | apply keeps_govReport | apply keeps_int | apply keeps_wr | split
    | simp only [stores_mk]

theorem keeps_govBreak {a1 a2 a3 a4} (h1 : Stores a1) : Stores (State.govBreak a1 a2 a3 a4) := by
  unfold State.govBreak
  with_reducible repeat'
    first
    | assumption | intro _ | apply keeps_breakPersists | apply keeps_event | apply keeps_govReport | apply keeps_inc
    | apply keeps_int | apply keeps_wr | split | dsimp only

theorem keeps_raiseHard {a1 a2 a3 a4 a5} (h1 : Stores a1) : Stores (State.raiseHard a1 a2 a3 a4 a5) := by
  unfold State.raiseHard
  with_reducible repeat'
    first
    | assumption | intro _ | apply keeps_emit | apply keeps_event | apply keeps_inc | apply keeps_int
    | apply keeps_wr | split | dsimp only

theorem keeps_exhaust {a1 a2 a3} (h1 : Stores a1) : Stores (State.exhaust a1 a2 a3) := by
  unfold State.exhaust
  with_reducible repeat'
    first
    | assumption | intro _ | apply keeps_event | apply keeps_govBreak | apply keeps_raiseHard | apply keeps_wr
    | split | dsimp only

theorem keeps_goTo {a1 a2 a3 a4} (h1 : Stores a1) : Stores (State.goTo a1 a2 a3 a4) := by
  unfold State.goTo
  with_reducible repeat'
    first
    | assumption | intro _ | apply keeps_beginChange | apply keeps_exhaust | apply keeps_govBreak | split
    | simp only [stores_mk]

theorem keeps_pointCheck {a1 a2} (h1 : Stores a1) : Stores (State.pointCheck a1 a2) := by
  unfold State.pointCheck
  with_reducible repeat'
    first
    | assumption | intro _ | apply keeps_beginChange | apply keeps_exhaust | apply keeps_goTo | apply keeps_govBreak
    | split | dsimp only

theorem keeps_remapped {a1 a2 a3 a4} (h1 : Stores a1) (h2 : Stores a2) : Stores (State.remapped a1 a2 a3 a4) := by
  unfold State.remapped
  with_reducible repeat'
    first
    | assumption | intro _ | refine stores_foldl ?_ fun _ _ => ?_ | refine pairStores_foldl ?_ fun _ _ => ?_
    | apply keeps_vecEdge | split | simp only [stores_mk]

theorem keeps_retireActions {a1 a2 a3} (h1 : Stores a1) : Stores (State.retireActions a1 a2 a3) := by
  unfold State.retireActions
  with_reducible repeat'
    first
    | assumption | intro _ | apply keeps_clrB | apply keeps_setB | apply keeps_wr | split | simp only [stores_mk]

theorem keeps_heldLost {a1 a2 a3} (h1 : Stores a1) : Stores (State.heldLost a1 a2 a3) := by
  unfold State.heldLost
  with_reducible repeat'
    first
    | assumption | intro _ | refine stores_foldl ?_ fun _ _ => ?_ | refine pairStores_foldl ?_ fun _ _ => ?_
    | apply keeps_inc | apply keeps_setHeld | split | simp only [stores_mk]

theorem keeps_portDark {a1 a2} (h1 : Stores a1) : Stores (State.portDark a1 a2) := by
  unfold State.portDark
  with_reducible repeat'
    first
    | assumption | intro _ | apply keeps_heldLost | apply keeps_setUsable | apply keeps_wr | split
    | simp only [stores_mk]

theorem keeps_swapPrep {a1 a2 a3} (h1 : Stores a1) : Stores (State.swapPrep a1 a2 a3) := by
  unfold State.swapPrep
  with_reducible repeat'
    first
    | assumption | intro _ | refine stores_foldl ?_ fun _ _ => ?_ | refine pairStores_foldl ?_ fun _ _ => ?_
    | apply keeps_portDark | apply keeps_wr | split | simp only [stores_mk]

theorem keeps_afterWrite {a1 a2 a3 a4 a5 a6} (h1 : Stores a1) (h2 : Stores a2) :
    Stores (State.afterWrite a1 a2 a3 a4 a5 a6) := by
  unfold State.afterWrite
  with_reducible repeat'
    first
    | assumption | intro _ | apply keeps_pinsFollow | refine stores_foldl ?_ fun _ _ => ?_ | refine pairStores_foldl ?_ fun _ _ => ?_
    | apply keeps_bypassFollow | apply keeps_forceOneLane | apply keeps_intChanged | apply keeps_mirrorFollow
    | apply keeps_pointCheck | apply keeps_remapped | apply keeps_retireActions | apply keeps_sendDown
    | apply keeps_swapPrep | apply keeps_traceRefresh | apply keeps_vecEdge | apply keeps_wr | split
    | simp only [stores_mk]

theorem keeps_lockedErr {a1 a2 a3 a4 a5} (h1 : Stores a1) : Stores (State.lockedErr a1 a2 a3 a4 a5) := by
  unfold State.lockedErr
  with_reducible repeat'
    first
    | assumption | intro _ | apply keeps_pageErr | split | simp only [stores_mk]

theorem keeps_clearBank {a1 a2 a3} (h1 : Stores a1) : Stores (State.clearBank a1 a2 a3) := by
  unfold State.clearBank
  with_reducible repeat'
    first
    | assumption | intro _ | split | simp only [stores_mk]

theorem keeps_bankClear {a1 a2 a3} (h1 : Stores a1) : Stores (State.bankClear a1 a2 a3) := by
  unfold State.bankClear
  with_reducible repeat'
    first
    | assumption | intro _ | apply keeps_clearBank | apply keeps_pageErr | apply keeps_wr | split
    | dsimp only

theorem keeps_norErase {a1 a2 a3} (h1 : Stores a1) : Stores (State.norErase a1 a2 a3) := by
  unfold State.norErase
  with_reducible repeat'
    first
    | assumption | intro _ | split | simp only [stores_mk]
  all_goals refine stores_parts.2 ⟨?_, ?_, ?_⟩
  all_goals simp only []
  all_goals
    with_reducible repeat'
      first
      | assumption | intro _ | apply memWriteList_wf | apply memWrite_wf | apply dropRange_wf | apply dram_wf
      | apply nor_wf | apply mram_wf | exact memNil_wf | split | simp only [stores_mk]

theorem keeps_bbxErase {a1} (h1 : Stores a1) : Stores (State.bbxErase a1) := by
  unfold State.bbxErase
  with_reducible repeat'
    first
    | assumption | intro _ | apply keeps_norErase | split | simp only [stores_mk]

theorem keeps_evrClear {a1 a2} (h1 : Stores a1) : Stores (State.evrClear a1 a2) := by
  unfold State.evrClear
  with_reducible repeat'
    first
    | assumption | intro _ | apply keeps_bbxErase | apply keeps_event | apply keeps_free
    | refine pair2 (by assumption) (keeps_free ?_) | apply keeps_int | apply keeps_pageErr | apply keeps_wr | split
    | simp only [stores_mk]

theorem keeps_ctxResult {a1 a2 a3} (h1 : Stores a1) : Stores (State.ctxResult a1 a2 a3) := by
  unfold State.ctxResult
  with_reducible repeat'
    first
    | assumption | intro _ | apply keeps_wr | split | simp only [stores_mk]

theorem keeps_driftResult {a1 a2 a3} (h1 : Stores a1) : Stores (State.driftResult a1 a2 a3) := by
  unfold State.driftResult
  with_reducible repeat'
    first
    | assumption | intro _ | apply keeps_wr | split | simp only [stores_mk]

theorem keeps_ifOn {a1 a2 a3 a4} (h1 : Stores a1) (h4 : ∀ y0, Stores y0 → Stores (a4 y0)) :
    Stores (State.ifOn a1 a2 a3 a4) := by
  unfold State.ifOn
  with_reducible repeat'
    first
    | assumption | intro _ | apply h4 | split | simp only [stores_mk]

theorem keeps_barEmit {a1 a2 a3 a4 a5 a6} (h1 : Stores a1) : Stores (State.barEmit a1 a2 a3 a4 a5 a6) := by
  unfold State.barEmit
  with_reducible repeat'
    first
    | assumption | intro _ | apply keeps_emit | split | simp only [stores_mk]

theorem keeps_setBar {a1 a2 a3} (h1 : Stores a1) : Stores (State.setBar a1 a2 a3) := by
  unfold State.setBar
  with_reducible repeat'
    first
    | assumption | intro _ | split | simp only [stores_mk]

theorem keeps_barFill {a1 a2 a3} (h3 : Stores a3) : Stores (State.barFill a1 a2 a3) := by
  induction a1 generalizing a3 with
  | zero => exact h3
  | succ n ih =>
    unfold State.barFill
    with_reducible repeat'
      first
      | apply ih | assumption | intro _ | apply keeps_barEmit | apply keeps_setBar | split | dsimp only

theorem keeps_barSend {a1 a2 a3 a4} (h1 : Stores a1) : Stores (State.barSend a1 a2 a3 a4) := by
  unfold State.barSend
  with_reducible repeat'
    first
    | assumption | intro _ | apply keeps_barEmit | apply keeps_barFill | apply keeps_setBar | split
    | dsimp only

theorem keeps_cmdEnd {a1 a2} (h1 : Stores a1) : Stores (State.cmdEnd a1 a2) := by
  unfold State.cmdEnd
  with_reducible repeat'
    first
    | assumption | intro _ | apply keeps_int | apply keeps_wr | split | simp only [stores_mk]

theorem keeps_barGo {a1 a2 a3 a4 a5} (h1 : Stores a1) : Stores (State.barGo a1 a2 a3 a4 a5) := by
  unfold State.barGo
  with_reducible repeat'
    first
    | assumption | intro _ | apply keeps_barSend | apply keeps_cmdEnd | apply keeps_pageErr | apply keeps_wr | split
    | dsimp only

theorem keeps_barCmd {a1 a2 a3} (h1 : Stores a1) : Stores (State.barCmd a1 a2 a3) := by
  unfold State.barCmd
  with_reducible repeat'
    first
    | assumption | intro _ | apply keeps_barGo | split | simp only [stores_mk]

theorem keeps_barBad {a1 a2} (h1 : Stores a1) : Stores (State.barBad a1 a2) := by
  unfold State.barBad
  with_reducible repeat'
    first
    | assumption | intro _ | apply keeps_inc | apply keeps_setBar | split | simp only [stores_mk]

theorem keeps_barTaken {a1 a2 a3 a4} (h1 : Stores a1) : Stores (State.barTaken a1 a2 a3 a4) := by
  unfold State.barTaken
  with_reducible repeat'
    first
    | assumption | intro _ | apply keeps_barFill | apply keeps_setBar | split | simp only [stores_mk]

theorem keeps_barRecv {a1 a2 a3 a4 a5} (h1 : Stores a1) (h5 : ∀ y0, Stores y0 → Stores (a5 y0)) :
    Stores (State.barRecv a1 a2 a3 a4 a5) := by
  unfold State.barRecv
  with_reducible repeat'
    first
    | assumption | intro _ | apply h5 | apply keeps_barBad | apply keeps_barFill | apply keeps_barTaken
    | apply keeps_inc | apply keeps_setBar | split | dsimp only

theorem keeps_barrierCmd {a1 a2 a3 a4} (h1 : Stores a1) (h3 : ∀ y0, Stores y0 → Stores (a3 y0)) (h4 : ∀ y0 y1, Stores y0 → Stores (a4 y0 y1)) :
    Stores (State.barrierCmd a1 a2 a3 a4) := by
  unfold State.barrierCmd
  with_reducible repeat'
    first
    | assumption | intro _ | apply h3 | apply h4 | apply keeps_barRecv | split | simp only [stores_mk]

theorem keeps_cmdReply {a1 a2 a3} (h1 : Stores a1) : Stores (State.cmdReply a1 a2 a3) := by
  unfold State.cmdReply
  with_reducible repeat'
    first
    | assumption | intro _ | apply keeps_barSend | split | simp only [stores_mk]

theorem keeps_mramRecord {a1 a2 a3 a4} (h1 : Stores a1) : Stores (State.mramRecord a1 a2 a3 a4) := by
  unfold State.mramRecord
  with_reducible repeat'
    first
    | assumption | intro _ | split | dsimp only
  all_goals refine stores_parts.2 ⟨?_, ?_, ?_⟩
  all_goals simp only []
  all_goals
    with_reducible repeat'
      first
      | assumption | intro _ | apply memWriteList_wf | apply memWrite_wf | apply dropRange_wf | apply dram_wf
      | apply nor_wf | apply mram_wf | exact memNil_wf | split | simp only [stores_mk]

theorem keeps_fieldEvent {a1 a2 a3 a4 a5} (h1 : Stores a1) : Stores (State.fieldEvent a1 a2 a3 a4 a5) := by
  unfold State.fieldEvent
  with_reducible repeat'
    first
    | assumption | intro _ | apply keeps_barSend | apply keeps_mramRecord | split | simp only [stores_mk]

theorem keeps_fieldStart {a1} (h1 : Stores a1) : Stores (State.fieldStart a1) := by
  unfold State.fieldStart
  with_reducible repeat'
    first
    | assumption | intro _ | apply keeps_cmdReply | apply keeps_fieldEvent | split | simp only [stores_mk]

theorem keeps_execBarrierFwStart {a1 a2} (h2 : Stores a2) : OutStores (execBarrierFwStart a1 a2) := by
  unfold execBarrierFwStart
  with_reducible repeat'
    first
    | assumption | intro _ | apply out_next | apply out_keeping | apply out_storeless | apply keeps_barCmd
    | apply keeps_barrierCmd | apply keeps_fieldStart | split | simp only [stores_mk]

theorem keeps_hsOff {a1 a2} (h1 : Stores a1) : Stores (State.hsOff a1 a2) := by
  unfold State.hsOff
  with_reducible repeat'
    first
    | assumption | intro _ | apply keeps_cmdReply | apply keeps_fieldEvent | split | simp only [stores_mk]

theorem keeps_execBarrierHsOff {a1 a2} (h2 : Stores a2) : OutStores (execBarrierHsOff a1 a2) := by
  unfold execBarrierHsOff
  with_reducible repeat'
    first
    | assumption | intro _ | apply out_next | apply out_keeping | apply out_storeless | apply keeps_barCmd
    | apply keeps_barrierCmd | apply keeps_hsOff | split | simp only [stores_mk]

theorem keeps_mramClear {a1 a2} (h1 : Stores a1) : Stores (State.mramClear a1 a2) := by
  unfold State.mramClear
  with_reducible repeat'
    first
    | assumption | intro _ | apply keeps_cmdReply | apply keeps_fieldEvent | split | dsimp only
  all_goals refine stores_parts.2 ⟨?_, ?_, ?_⟩
  all_goals simp only []
  all_goals
    with_reducible repeat'
      first
      | assumption | intro _ | apply memWriteList_wf | apply memWrite_wf | apply dropRange_wf | apply dram_wf
      | apply nor_wf | apply mram_wf | exact memNil_wf | apply keeps_cmdReply | apply keeps_fieldEvent | split
      | simp only [stores_mk]

theorem keeps_execBarrierMramClear {a1 a2} (h2 : Stores a2) : OutStores (execBarrierMramClear a1 a2) := by
  unfold execBarrierMramClear
  with_reducible repeat'
    first
    | assumption | intro _ | apply out_next | apply out_keeping | apply out_storeless | apply keeps_barGo
    | apply keeps_barrierCmd | apply keeps_mramClear | split | simp only [stores_mk]

theorem keeps_mramByte {a1 a2} (h1 : Stores a1) : Stores (State.mramByte a1 a2).2 := by
  unfold State.mramByte
  with_reducible repeat'
    first
    | assumption | intro _ | apply keeps_free | refine pair2 (by assumption) (keeps_free ?_) | split
    | simp only [stores_mk]

theorem keeps_mramBytes {a1 a2 a3} (h3 : Stores a3) : Stores (State.mramBytes a1 a2 a3).2 := by
  induction a1 generalizing a2 a3 with
  | zero => exact h3
  | succ n ih =>
    unfold State.mramBytes
    exact ih (keeps_mramByte h3)

theorem keeps_mramRead {a1 a2 a3} (h3 : Stores a3) : Stores (State.mramRead a1 a2 a3) := by
  revert h3
  fun_induction State.mramRead <;> intros
  all_goals
    with_reducible repeat'
      first
      | assumption | apply_assumption | assumption | intro _ | apply keeps_barSend | apply keeps_mramBytes
      | refine pair2 (by assumption) (keeps_mramBytes ?_) | split | simp only [stores_mk]

theorem keeps_execBarrierMramRead {a1 a2} (h2 : Stores a2) : OutStores (execBarrierMramRead a1 a2) := by
  unfold execBarrierMramRead
  with_reducible repeat'
    first
    | assumption | intro _ | apply out_next | apply out_keeping | apply out_storeless | apply keeps_barCmd
    | apply keeps_barrierCmd | apply keeps_cmdReply | apply keeps_mramRead | split | simp only [stores_mk]

theorem keeps_setAlarm {a1 a2 a3} (h1 : Stores a1) : Stores (State.setAlarm a1 a2 a3) := by
  unfold State.setAlarm
  with_reducible repeat'
    first
    | assumption | intro _ | split | simp only [stores_mk]

theorem keeps_rearm {a1 a2} (h1 : Stores a1) : Stores (State.rearm a1 a2) := by
  unfold State.rearm
  with_reducible repeat'
    first
    | assumption | intro _ | refine stores_foldl ?_ fun _ _ => ?_ | refine pairStores_foldl ?_ fun _ _ => ?_
    | apply keeps_cmdReply | apply keeps_fieldEvent | apply keeps_setAlarm | split | simp only [stores_mk]

theorem keeps_execBarrierRearm {a1 a2} (h2 : Stores a2) : OutStores (execBarrierRearm a1 a2) := by
  unfold execBarrierRearm
  with_reducible repeat'
    first
    | assumption | intro _ | apply out_next | apply out_keeping | apply out_storeless | apply keeps_barCmd
    | apply keeps_barrierCmd | apply keeps_rearm | split | simp only [stores_mk]

theorem keeps_onSlot {a1 a2 a3} (h1 : Stores a1) (h3 : ∀ y0 y1, Stores (a3 y0 y1)) :
    Stores (State.onSlot a1 a2 a3) := by
  unfold State.onSlot
  with_reducible repeat'
    first
    | assumption | intro _ | apply h3 | apply keeps_ctxResult | split | dsimp only

theorem keeps_ctxClose {a1 a2} (h1 : Stores a1) : Stores (State.ctxClose a1 a2) := by
  unfold State.ctxClose
  with_reducible repeat'
    first
    | assumption | intro _ | apply keeps_ctxResult | apply keeps_drainCtx | apply keeps_onSlot | split
    | simp only [stores_mk]

theorem keeps_execCtxClose {a1 a2} (h2 : Stores a2) : OutStores (execCtxClose a1 a2) := by
  unfold execCtxClose
  with_reducible repeat'
    first
    | assumption | intro _ | apply out_next | apply out_keeping | apply out_storeless | apply keeps_ctxClose
    | apply keeps_ifOn | split | simp only [stores_mk]

theorem keeps_ctxLookup {a1 a2} (h1 : Stores a1) : Stores (State.ctxLookup a1 a2) := by
  unfold State.ctxLookup
  with_reducible repeat'
    first
    | assumption | intro _ | apply keeps_ctxResult | apply keeps_pageErr | apply keeps_wr | split
    | dsimp only

theorem keeps_execCtxLookup {a1 a2} (h2 : Stores a2) : OutStores (execCtxLookup a1 a2) := by
  unfold execCtxLookup
  with_reducible repeat'
    first
    | assumption | intro _ | apply out_next | apply out_keeping | apply out_storeless | apply keeps_ctxLookup
    | apply keeps_ifOn | split | simp only [stores_mk]

theorem keeps_delCtx {a1 a2} (h1 : Stores a1) : Stores (State.delCtx a1 a2) := by
  unfold State.delCtx
  with_reducible repeat'
    first
    | assumption | intro _ | apply keeps_ctxCounts | split | simp only [stores_mk]

theorem keeps_moveMetrics {a1 a2 a3} (h1 : Stores a1) : Stores (State.moveMetrics a1 a2 a3) := by
  unfold State.moveMetrics
  with_reducible repeat'
    first
    | assumption | intro _ | refine stores_foldl ?_ fun _ _ => ?_ | refine pairStores_foldl ?_ fun _ _ => ?_ | split
    | simp only [stores_mk]

theorem keeps_countGroups {a1 a2 a3 a4} (h1 : Stores a1) : Stores (State.countGroups a1 a2 a3 a4) := by
  unfold State.countGroups
  with_reducible repeat'
    first
    | assumption | intro _ | refine stores_foldl ?_ fun _ _ => ?_ | refine pairStores_foldl ?_ fun _ _ => ?_
    | apply keeps_event | apply keeps_inc | apply keeps_int | split | simp only [stores_mk]

theorem keeps_countKib {a1 a2 a3 a4 a5} (h1 : Stores a1) : Stores (State.countKib a1 a2 a3 a4 a5) := by
  unfold State.countKib
  with_reducible repeat'
    first
    | assumption | intro _ | apply keeps_inc | apply keeps_wr | split | simp only [stores_mk]

theorem keeps_codeOne {a1 a2 a3 a4} (h1 : Stores a1) : Stores (State.codeOne a1 a2 a3 a4) := by
  unfold State.codeOne
  with_reducible repeat'
    first
    | assumption | intro _ | apply keeps_countGroups | apply keeps_countKib | apply keeps_inc | apply keeps_setCtx
    | split | dsimp only

theorem keeps_popClosed {a1 a2} (h1 : Stores a1) : ∀ r, State.popClosed a1 a2 = some r → Stores r.2 := by
  unfold State.popClosed
  intro r hr
  repeat' (split at hr)
  all_goals first | (cases hr; done) | (obtain rfl := Option.some.inj hr)
  all_goals
    with_reducible repeat'
      first
      | assumption | intro _ | apply keeps_setCtx | split | simp only [stores_mk]

theorem keeps_codeAll {a1 a2 a3 a4} (h4 : Stores a4) : Stores (State.codeAll a1 a2 a3 a4) := by
  revert h4
  fun_induction State.codeAll <;> intros
  all_goals
    with_reducible repeat'
      first
      | assumption | apply_assumption | assumption | intro _ | apply keeps_codeOne
      | refine keeps_popClosed ?_ _ (by assumption) | refine keeps_popClosed ?_ (_, _) (by assumption) | split
      | simp only [stores_mk]

theorem keeps_sealCtx {a1 a2 a3} (h1 : Stores a1) : Stores (State.sealCtx a1 a2 a3) := by
  unfold State.sealCtx
  with_reducible repeat'
    first
    | assumption | intro _ | apply keeps_codeAll | apply keeps_setCtx | split | simp only [stores_mk]

theorem keeps_moveCtx {a1 a2 a3 a4} (h1 : Stores a1) : Stores (State.moveCtx a1 a2 a3 a4) := by
  unfold State.moveCtx
  with_reducible repeat'
    first
    | assumption | intro _ | refine stores_foldl ?_ fun _ _ => ?_ | refine pairStores_foldl ?_ fun _ _ => ?_
    | apply keeps_delCtx | apply keeps_dropFrame | apply keeps_moveMetrics | apply keeps_sealCtx
    | apply keeps_setCtx | apply keeps_setIngest | apply keeps_setWait | split | dsimp only

theorem keeps_ctxPin {a1 a2} (h1 : Stores a1) : Stores (State.ctxPin a1 a2) := by
  unfold State.ctxPin
  with_reducible repeat'
    first
    | assumption | intro _ | apply keeps_ctxResult | apply keeps_moveCtx | apply keeps_onSlot | apply keeps_setCtx
    | split | simp only [stores_mk]

theorem keeps_execCtxPin {a1 a2} (h2 : Stores a2) : OutStores (execCtxPin a1 a2) := by
  unfold execCtxPin
  with_reducible repeat'
    first
    | assumption | intro _ | apply out_next | apply out_keeping | apply out_storeless | apply keeps_ctxPin
    | apply keeps_ifOn | split | simp only [stores_mk]

theorem keeps_ctxRead {a1 a2} (h1 : Stores a1) : Stores (State.ctxRead a1 a2) := by
  unfold State.ctxRead
  with_reducible repeat'
    first
    | assumption | intro _ | apply keeps_ctxResult | apply keeps_onSlot | apply keeps_wr | split
    | simp only [stores_mk]

theorem keeps_execCtxRead {a1 a2} (h2 : Stores a2) : OutStores (execCtxRead a1 a2) := by
  unfold execCtxRead
  with_reducible repeat'
    first
    | assumption | intro _ | apply out_next | apply out_keeping | apply out_storeless | apply keeps_ctxRead
    | apply keeps_ifOn | split | simp only [stores_mk]

theorem keeps_freeHeld {a1 a2} (h1 : Stores a1) : Stores (State.freeHeld a1 a2) := by
  unfold State.freeHeld
  with_reducible repeat'
    first
    | assumption | intro _ | apply keeps_wr | split | simp only [stores_mk]

theorem keeps_admitWaiting {a1 a2} (h1 : Stores a1) : Stores (State.admitWaiting a1 a2) := by
  unfold State.admitWaiting
  with_reducible repeat'
    first
    | assumption | intro _ | refine stores_foldl ?_ fun _ _ => ?_ | refine pairStores_foldl ?_ fun _ _ => ?_
    | apply keeps_takeIn | apply keeps_ctxColour | refine pair2 (by assumption) (keeps_ctxColour ?_)
    | apply keeps_dropFrame | apply keeps_freeHeld | apply keeps_setWait | split | dsimp only

theorem keeps_reopenCtx {a1 a2} (h1 : Stores a1) : Stores (State.reopenCtx a1 a2) := by
  unfold State.reopenCtx
  with_reducible repeat'
    first
    | assumption | intro _ | refine stores_foldl ?_ fun _ _ => ?_ | refine pairStores_foldl ?_ fun _ _ => ?_
    | apply keeps_admitWaiting | apply keeps_event | apply keeps_inc | apply keeps_sendDown | apply keeps_setCtx
    | split | simp only [stores_mk]

theorem keeps_ctxReopen {a1 a2} (h1 : Stores a1) : Stores (State.ctxReopen a1 a2) := by
  unfold State.ctxReopen
  with_reducible repeat'
    first
    | assumption | intro _ | apply keeps_ctxResult | apply keeps_onSlot | apply keeps_reopenCtx | split
    | simp only [stores_mk]

theorem keeps_execCtxReopenCmd {a1 a2} (h2 : Stores a2) : OutStores (execCtxReopenCmd a1 a2) := by
  unfold execCtxReopenCmd
  with_reducible repeat'
    first
    | assumption | intro _ | apply out_next | apply out_keeping | apply out_storeless | apply keeps_ctxReopen
    | apply keeps_ifOn | split | simp only [stores_mk]

theorem keeps_ctxUnpin {a1 a2} (h1 : Stores a1) : Stores (State.ctxUnpin a1 a2) := by
  unfold State.ctxUnpin
  with_reducible repeat'
    first
    | assumption | intro _ | apply keeps_ctxResult | apply keeps_onSlot | apply keeps_setCtx | split
    | simp only [stores_mk]

theorem keeps_execCtxUnpin {a1 a2} (h2 : Stores a2) : OutStores (execCtxUnpin a1 a2) := by
  unfold execCtxUnpin
  with_reducible repeat'
    first
    | assumption | intro _ | apply out_next | apply out_keeping | apply out_storeless | apply keeps_ctxUnpin
    | apply keeps_ifOn | split | simp only [stores_mk]

theorem keeps_ctxWrite {a1 a2} (h1 : Stores a1) : Stores (State.ctxWrite a1 a2) := by
  unfold State.ctxWrite
  with_reducible repeat'
    first
    | assumption | intro _ | apply keeps_ctxResult | apply keeps_onSlot | apply keeps_pageErr | apply keeps_setCtx
    | split | dsimp only

theorem keeps_execCtxWrite {a1 a2} (h2 : Stores a2) : OutStores (execCtxWrite a1 a2) := by
  unfold execCtxWrite
  with_reducible repeat'
    first
    | assumption | intro _ | apply out_next | apply out_keeping | apply out_storeless | apply keeps_ctxWrite
    | apply keeps_ifOn | split | simp only [stores_mk]

theorem keeps_driftRead {a1 a2} (h1 : Stores a1) : Stores (State.driftRead a1 a2) := by
  unfold State.driftRead
  with_reducible repeat'
    first
    | assumption | intro _ | apply keeps_driftResult | apply keeps_wr | split | simp only [stores_mk]

theorem keeps_execDriftRead {a1 a2} (h2 : Stores a2) : OutStores (execDriftRead a1 a2) := by
  unfold execDriftRead
  with_reducible repeat'
    first
    | assumption | intro _ | apply out_next | apply out_keeping | apply out_storeless | apply keeps_driftRead
    | apply keeps_ifOn | split | simp only [stores_mk]

theorem keeps_setMetric {a1 a2 a3 a4} (h1 : Stores a1) : Stores (State.setMetric a1 a2 a3 a4) := by
  unfold State.setMetric
  with_reducible repeat'
    first
    | assumption | intro _ | split | simp only [stores_mk]

theorem keeps_driftReset {a1 a2} (h1 : Stores a1) : Stores (State.driftReset a1 a2) := by
  unfold State.driftReset
  with_reducible repeat'
    first
    | assumption | intro _ | apply keeps_driftResult | apply keeps_setMetric | split | simp only [stores_mk]

theorem keeps_execDriftReset {a1 a2} (h2 : Stores a2) : OutStores (execDriftReset a1 a2) := by
  unfold execDriftReset
  with_reducible repeat'
    first
    | assumption | intro _ | apply out_next | apply out_keeping | apply out_storeless | apply keeps_driftReset
    | apply keeps_ifOn | split | simp only [stores_mk]

theorem keeps_driftWrite {a1 a2} (h1 : Stores a1) : Stores (State.driftWrite a1 a2) := by
  unfold State.driftWrite
  with_reducible repeat'
    first
    | assumption | intro _ | apply keeps_driftResult | apply keeps_pageErr | apply keeps_setMetric | split
    | dsimp only

theorem keeps_execDriftWrite {a1 a2} (h2 : Stores a2) : OutStores (execDriftWrite a1 a2) := by
  unfold execDriftWrite
  with_reducible repeat'
    first
    | assumption | intro _ | apply out_next | apply out_keeping | apply out_storeless | apply keeps_driftWrite
    | apply keeps_ifOn | split | simp only [stores_mk]

theorem keeps_setRun {a1 a2} (h1 : Stores a1) : Stores (State.setRun a1 a2) := by
  unfold State.setRun
  with_reducible repeat'
    first
    | assumption | intro _ | split | simp only [stores_mk]

theorem keeps_rootDone {a1 a2 a3 a4} (h1 : Stores a1) : Stores (State.rootDone a1 a2 a3 a4) := by
  unfold State.rootDone
  with_reducible repeat'
    first
    | assumption | intro _ | apply keeps_abortRun | apply keeps_endRun | apply keeps_openBcast | apply keeps_setRun
    | split | dsimp only

theorem keeps_sendBack {a1 a2 a3 a4} (h1 : Stores a1) : Stores (State.sendBack a1 a2 a3 a4) := by
  unfold State.sendBack
  with_reducible repeat'
    first
    | assumption | intro _ | apply keeps_torusSend | split | simp only [stores_mk]

theorem keeps_bcastCheck {a1 a2 a3} (h1 : Stores a1) : Stores (State.bcastCheck a1 a2 a3) := by
  unfold State.bcastCheck
  with_reducible repeat'
    first
    | assumption | intro _ | apply keeps_rootDone | apply keeps_sendBack | apply keeps_setBcast | split
    | dsimp only

theorem keeps_jsEnd {a1 a2} (h1 : Stores a1) : Stores (State.jsEnd a1 a2) := by
  unfold State.jsEnd
  with_reducible repeat'
    first
    | assumption | intro _ | apply keeps_bcastCheck | apply keeps_openBcast | apply keeps_pageErr
    | apply keeps_setRun | apply keeps_wr | split | dsimp only

theorem keeps_execJsEnd {a1 a2} (h2 : Stores a2) : OutStores (execJsEnd a1 a2) := by
  unfold execJsEnd
  with_reducible repeat'
    first
    | assumption | intro _ | apply out_next | apply out_keeping | apply out_storeless | apply keeps_ifOn
    | apply keeps_jsEnd | split | simp only [stores_mk]

theorem keeps_rootSend {a1 a2 a3 a4} (h1 : Stores a1) : Stores (State.rootSend a1 a2 a3 a4) := by
  unfold State.rootSend
  with_reducible repeat'
    first
    | assumption | intro _ | apply keeps_bcastCheck | apply keeps_openBcast | split | simp only [stores_mk]

theorem keeps_jsStart {a1 a2} (h1 : Stores a1) : Stores (State.jsStart a1 a2) := by
  unfold State.jsStart
  with_reducible repeat'
    first
    | assumption | intro _ | apply keeps_pageErr | apply keeps_rootSend | apply keeps_setRun | apply keeps_wr
    | split | dsimp only

theorem keeps_execJsStart {a1 a2} (h2 : Stores a2) : OutStores (execJsStart a1 a2) := by
  unfold execJsStart
  with_reducible repeat'
    first
    | assumption | intro _ | apply out_next | apply out_keeping | apply out_storeless | apply keeps_ifOn
    | apply keeps_jsStart | split | simp only [stores_mk]

theorem keeps_eraseCount {a1 a2} (h1 : Stores a1) : Stores (State.eraseCount a1 a2) := by
  unfold State.eraseCount
  with_reducible repeat'
    first
    | assumption | intro _ | split | simp only [stores_mk]

theorem keeps_nvmResult {a1 a2} (h1 : Stores a1) : Stores (State.nvmResult a1 a2) := by
  unfold State.nvmResult
  with_reducible repeat'
    first
    | assumption | intro _ | apply keeps_int | apply keeps_wr | split | simp only [stores_mk]

theorem keeps_nvmStart {a1 a2 a3} (h1 : Stores a1) (h3 : ∀ y0, Stores y0 → Stores (a3 y0)) :
    Stores (State.nvmStart a1 a2 a3) := by
  unfold State.nvmStart
  with_reducible repeat'
    first
    | assumption | intro _ | apply h3 | apply keeps_nvmResult | apply keeps_pageErr | apply keeps_wr | split
    | dsimp only

theorem keeps_nvmErase {a1} (h1 : Stores a1) : Stores (State.nvmErase a1) := by
  unfold State.nvmErase
  with_reducible repeat'
    first
    | assumption | intro _ | refine stores_foldl ?_ fun _ _ => ?_ | refine pairStores_foldl ?_ fun _ _ => ?_
    | apply keeps_eraseCount | apply keeps_norErase | apply keeps_nvmStart | split | simp only [stores_mk]

theorem keeps_execNvmErase {a1 a2} (h2 : Stores a2) : OutStores (execNvmErase a1 a2) := by
  unfold execNvmErase
  with_reducible repeat'
    first
    | assumption | intro _ | apply out_next | apply out_keeping | apply out_storeless | apply keeps_nvmErase | split
    | simp only [stores_mk]

theorem keeps_nvmProgram {a1} (h1 : Stores a1) : Stores (State.nvmProgram a1) := by
  unfold State.nvmProgram
  with_reducible repeat'
    first
    | assumption | intro _ | apply keeps_nvmStart | split | dsimp only
  all_goals refine stores_parts.2 ⟨?_, ?_, ?_⟩
  all_goals simp only []
  all_goals
    with_reducible repeat'
      first
      | assumption | intro _ | apply memWriteList_wf | apply memWrite_wf | apply dropRange_wf | apply dram_wf
      | apply nor_wf | apply mram_wf | exact memNil_wf | apply keeps_nvmStart | split | simp only [stores_mk]

theorem keeps_execNvmProgram {a1 a2} (h2 : Stores a2) : OutStores (execNvmProgram a1 a2) := by
  unfold execNvmProgram
  with_reducible repeat'
    first
    | assumption | intro _ | apply out_next | apply out_keeping | apply out_storeless | apply keeps_nvmProgram
    | split | simp only [stores_mk]

theorem keeps_nvmRead {a1} (h1 : Stores a1) : Stores (State.nvmRead a1) := by
  unfold State.nvmRead
  with_reducible repeat'
    first
    | assumption | intro _ | apply keeps_dramStore | apply keeps_nvmStart | split | simp only [stores_mk]

theorem keeps_execNvmRead {a1 a2} (h2 : Stores a2) : OutStores (execNvmRead a1 a2) := by
  unfold execNvmRead
  with_reducible repeat'
    first
    | assumption | intro _ | apply out_next | apply out_keeping | apply out_storeless | apply keeps_nvmRead | split
    | simp only [stores_mk]

theorem keeps_routeResult {a1 a2} (h1 : Stores a1) : Stores (State.routeResult a1 a2) := by
  unfold State.routeResult
  with_reducible repeat'
    first
    | assumption | intro _ | apply keeps_int | apply keeps_wr | split | simp only [stores_mk]

theorem keeps_routeAdd {a1} (h1 : Stores a1) : Stores (State.routeAdd a1) := by
  unfold State.routeAdd
  with_reducible repeat'
    first
    | assumption | intro _ | apply keeps_routeResult | apply keeps_stagedCount | split | simp only [stores_mk]

theorem keeps_execPkgrouteAdd {a1} (h1 : Stores a1) : OutStores (execPkgrouteAdd a1) := by
  unfold execPkgrouteAdd
  with_reducible repeat'
    first
    | assumption | intro _ | apply out_next | apply out_keeping | apply out_storeless | apply keeps_routeAdd | split
    | simp only [stores_mk]

theorem keeps_execPkgrouteDiscardStaged {a1} (h1 : Stores a1) : OutStores (execPkgrouteDiscardStaged a1) := by
  unfold execPkgrouteDiscardStaged
  with_reducible repeat'
    first
    | assumption | intro _ | apply out_next | apply out_keeping | apply out_storeless | apply keeps_routeResult
    | apply keeps_stagedCount | split | simp only [stores_mk]

theorem keeps_setEEntry {a1 a2} (h1 : Stores a1) : Stores (State.setEEntry a1 a2) := by
  unfold State.setEEntry
  with_reducible repeat'
    first
    | assumption | intro _ | refine stores_foldl ?_ fun _ _ => ?_ | refine pairStores_foldl ?_ fun _ _ => ?_
    | apply keeps_wr | split | simp only [stores_mk]

theorem keeps_unpoison {a1 a2} (h1 : Stores a1) : Stores (State.unpoison a1 a2) := by
  unfold State.unpoison
  with_reducible repeat'
    first
    | assumption | intro _ | split | simp only [stores_mk]

theorem keeps_routePoison {a1 a2 a3} (h1 : Stores a1) : Stores (State.routePoison a1 a2 a3) := by
  unfold State.routePoison
  with_reducible repeat'
    first
    | assumption | intro _ | apply keeps_event | apply keeps_int | apply keeps_unpoison | split
    | dsimp only

theorem keeps_translate {a1 a2 a3 a4 a5} (h1 : Stores a1) : Stores (State.translate a1 a2 a3 a4 a5).2 := by
  unfold State.translate
  with_reducible repeat'
    first
    | assumption | intro _ | apply keeps_routePoison | split | simp only [stores_mk]

theorem keeps_routeLookup {a1} (h1 : Stores a1) : Stores (State.routeLookup a1) := by
  unfold State.routeLookup
  with_reducible repeat'
    first
    | assumption | intro _ | apply keeps_inc | apply keeps_routeResult | apply keeps_setEEntry
    | apply keeps_translate | refine pair2 (by assumption) (keeps_translate ?_) | apply keeps_wr | split
    | dsimp only

theorem keeps_execPkgrouteLookup {a1} (h1 : Stores a1) : OutStores (execPkgrouteLookup a1) := by
  unfold execPkgrouteLookup
  with_reducible repeat'
    first
    | assumption | intro _ | apply out_next | apply out_keeping | apply out_storeless | apply keeps_routeLookup
    | split | simp only [stores_mk]

theorem keeps_routeRemove {a1} (h1 : Stores a1) : Stores (State.routeRemove a1) := by
  unfold State.routeRemove
  with_reducible repeat'
    first
    | assumption | intro _ | apply keeps_routeResult | apply keeps_stagedCount | split | simp only [stores_mk]

theorem keeps_execPkgrouteRemove {a1} (h1 : Stores a1) : OutStores (execPkgrouteRemove a1) := by
  unfold execPkgrouteRemove
  with_reducible repeat'
    first
    | assumption | intro _ | apply out_next | apply out_keeping | apply out_storeless | apply keeps_routeRemove
    | split | simp only [stores_mk]

theorem keeps_routeRewrite {a1} (h1 : Stores a1) : Stores (State.routeRewrite a1) := by
  unfold State.routeRewrite
  with_reducible repeat'
    first
    | assumption | intro _ | refine stores_foldl ?_ fun _ _ => ?_ | refine pairStores_foldl ?_ fun _ _ => ?_
    | apply keeps_routeResult | apply keeps_storeEntry | apply keeps_unpoison | split | simp only [stores_mk]

theorem keeps_execPkgrouteRewrite {a1} (h1 : Stores a1) : OutStores (execPkgrouteRewrite a1) := by
  unfold execPkgrouteRewrite
  with_reducible repeat'
    first
    | assumption | intro _ | apply out_next | apply out_keeping | apply out_storeless | apply keeps_routeRewrite
    | split | simp only [stores_mk]

theorem keeps_go {a1 a2 a3} (h1 : Stores a1) : Stores (State.go a1 a2 a3) := by
  unfold State.go
  with_reducible repeat'
    first
    | assumption | intro _ | apply keeps_ctxResult | apply keeps_driftResult | apply keeps_ifOn
    | apply keeps_pageErr | apply keeps_execBarrierFwStart
    | refine OutStores.of (keeps_execBarrierFwStart ?_) (by assumption) | apply keeps_execBarrierHsOff
    | refine OutStores.of (keeps_execBarrierHsOff ?_) (by assumption) | apply keeps_execBarrierMramClear
    | refine OutStores.of (keeps_execBarrierMramClear ?_) (by assumption) | apply keeps_execBarrierMramRead
    | refine OutStores.of (keeps_execBarrierMramRead ?_) (by assumption) | apply keeps_execBarrierRearm
    | refine OutStores.of (keeps_execBarrierRearm ?_) (by assumption) | apply keeps_execCtxClose
    | refine OutStores.of (keeps_execCtxClose ?_) (by assumption) | apply keeps_execCtxLookup
    | refine OutStores.of (keeps_execCtxLookup ?_) (by assumption) | apply keeps_execCtxPin
    | refine OutStores.of (keeps_execCtxPin ?_) (by assumption) | apply keeps_execCtxRead
    | refine OutStores.of (keeps_execCtxRead ?_) (by assumption) | apply keeps_execCtxReopenCmd
    | refine OutStores.of (keeps_execCtxReopenCmd ?_) (by assumption) | apply keeps_execCtxUnpin
    | refine OutStores.of (keeps_execCtxUnpin ?_) (by assumption) | apply keeps_execCtxWrite
    | refine OutStores.of (keeps_execCtxWrite ?_) (by assumption) | apply keeps_execDriftRead
    | refine OutStores.of (keeps_execDriftRead ?_) (by assumption) | apply keeps_execDriftReset
    | refine OutStores.of (keeps_execDriftReset ?_) (by assumption) | apply keeps_execDriftWrite
    | refine OutStores.of (keeps_execDriftWrite ?_) (by assumption) | apply keeps_execJsEnd
    | refine OutStores.of (keeps_execJsEnd ?_) (by assumption) | apply keeps_execJsStart
    | refine OutStores.of (keeps_execJsStart ?_) (by assumption) | apply keeps_execNvmErase
    | refine OutStores.of (keeps_execNvmErase ?_) (by assumption) | apply keeps_execNvmProgram
    | refine OutStores.of (keeps_execNvmProgram ?_) (by assumption) | apply keeps_execNvmRead
    | refine OutStores.of (keeps_execNvmRead ?_) (by assumption) | apply keeps_execPkgrouteAdd
    | refine OutStores.of (keeps_execPkgrouteAdd ?_) (by assumption) | apply keeps_execPkgrouteDiscardStaged
    | refine OutStores.of (keeps_execPkgrouteDiscardStaged ?_) (by assumption) | apply keeps_execPkgrouteLookup
    | refine OutStores.of (keeps_execPkgrouteLookup ?_) (by assumption) | apply keeps_execPkgrouteRemove
    | refine OutStores.of (keeps_execPkgrouteRemove ?_) (by assumption) | apply keeps_execPkgrouteRewrite
    | refine OutStores.of (keeps_execPkgrouteRewrite ?_) (by assumption) | apply keeps_taken | split
    | simp only [stores_mk]

theorem keeps_placeMode {a1 a2 a3} (h1 : Stores a1) : Stores (State.placeMode a1 a2 a3) := by
  unfold State.placeMode
  with_reducible repeat'
    first
    | assumption | intro _ | refine stores_foldl ?_ fun _ _ => ?_ | refine pairStores_foldl ?_ fun _ _ => ?_
    | apply keeps_placeIkb | refine pair1 (by assumption) (keeps_placeIkb ?_) | apply keeps_setB | split
    | dsimp only

theorem keeps_unplaceMode {a1} (h1 : Stores a1) : Stores (State.unplaceMode a1) := by
  unfold State.unplaceMode
  with_reducible repeat'
    first
    | assumption | intro _ | refine stores_foldl ?_ fun _ _ => ?_ | refine pairStores_foldl ?_ fun _ _ => ?_
    | apply keeps_disarmSlot | apply keeps_wr | split | simp only [stores_mk]

theorem keeps_modeArm {a1} (h1 : Stores a1) : Stores (State.modeArm a1) := by
  unfold State.modeArm
  with_reducible repeat'
    first
    | assumption | intro _ | apply keeps_placeMode | apply keeps_unplaceMode | apply keeps_wr | split
    | dsimp only

theorem keeps_modeCancel {a1} (h1 : Stores a1) : Stores (State.modeCancel a1) := by
  unfold State.modeCancel
  with_reducible repeat'
    first
    | assumption | intro _ | apply keeps_unplaceMode | apply keeps_wr | split | simp only [stores_mk]

theorem keeps_poisonClear {a1 a2} (h1 : Stores a1) : Stores (State.poisonClear a1 a2) := by
  unfold State.poisonClear
  with_reducible repeat'
    first
    | assumption | intro _ | refine stores_foldl ?_ fun _ _ => ?_ | refine pairStores_foldl ?_ fun _ _ => ?_
    | apply keeps_wr | split | simp only [stores_mk]

theorem keeps_prismArm {a1 a2 a3} (h1 : Stores a1) : Stores (State.prismArm a1 a2 a3) := by
  unfold State.prismArm
  with_reducible repeat'
    first
    | assumption | intro _ | apply keeps_pageErr | apply keeps_setB | apply keeps_wr | split | simp only [stores_mk]

theorem keeps_prismDisarm {a1 a2 a3} (h1 : Stores a1) : Stores (State.prismDisarm a1 a2 a3) := by
  unfold State.prismDisarm
  with_reducible repeat'
    first
    | assumption | intro _ | apply keeps_clrB | apply keeps_pageErr | apply keeps_wr | split | simp only [stores_mk]

theorem keeps_prismHalt {a1 a2} (h1 : Stores a1) : Stores (State.prismHalt a1 a2) := by
  unfold State.prismHalt
  with_reducible repeat'
    first
    | assumption | intro _ | apply keeps_pageErr | apply keeps_prismDisarmAll | split | simp only [stores_mk]

theorem keeps_setEpisode {a1 a2 a3 a4} (h1 : Stores a1) : Stores (State.setEpisode a1 a2 a3 a4) := by
  unfold State.setEpisode
  with_reducible repeat'
    first
    | assumption | intro _ | split | simp only [stores_mk]

theorem keeps_setWindow {a1 a2 a3 a4} (h1 : Stores a1) : Stores (State.setWindow a1 a2 a3 a4) := by
  unfold State.setWindow
  with_reducible repeat'
    first
    | assumption | intro _ | split | simp only [stores_mk]

theorem keeps_showCounts {a1 a2 a3} (h1 : Stores a1) : Stores (State.showCounts a1 a2 a3) := by
  unfold State.showCounts
  with_reducible repeat'
    first
    | assumption | intro _ | apply keeps_wr | split | simp only [stores_mk]

theorem keeps_unretire {a1 a2 a3} (h1 : Stores a1) : Stores (State.unretire a1 a2 a3) := by
  unfold State.unretire
  with_reducible repeat'
    first
    | assumption | intro _ | apply keeps_clrB | apply keeps_setB | apply keeps_wr | split | simp only [stores_mk]

theorem keeps_rasClear {a1 a2 a3} (h1 : Stores a1) : Stores (State.rasClear a1 a2 a3) := by
  unfold State.rasClear
  with_reducible repeat'
    first
    | assumption | intro _ | apply keeps_pageErr | apply keeps_setEpisode | apply keeps_setWindow
    | apply keeps_showCounts | apply keeps_unretire | apply keeps_wr | split | simp only [stores_mk]

theorem keeps_chanRecovered {a1 a2 a3 a4} (h1 : Stores a1) : Stores (State.chanRecovered a1 a2 a3 a4) := by
  unfold State.chanRecovered
  with_reducible repeat'
    first
    | assumption | intro _ | apply keeps_clrB | apply keeps_event | apply keeps_setEpisode | apply keeps_wr | split
    | simp only [stores_mk]

theorem keeps_rasCondDone {a1 a2 a3} (h1 : Stores a1) : Stores (State.rasCondDone a1 a2 a3) := by
  unfold State.rasCondDone
  with_reducible repeat'
    first
    | assumption | intro _ | apply keeps_chanRecovered | apply keeps_pageErr | apply keeps_setWindow
    | apply keeps_showCounts | apply keeps_wr | split | simp only [stores_mk]

theorem keeps_retireChan {a1 a2 a3} (h1 : Stores a1) : Stores (State.retireChan a1 a2 a3) := by
  unfold State.retireChan
  with_reducible repeat'
    first
    | assumption | intro _ | apply keeps_event | apply keeps_inc | apply keeps_int | apply keeps_notice
    | apply keeps_retireActions | apply keeps_setEpisode | apply keeps_wr | split | dsimp only

theorem keeps_declareIfPermanent {a1 a2 a3} (h1 : Stores a1) : Stores (State.declareIfPermanent a1 a2 a3) := by
  unfold State.declareIfPermanent
  with_reducible repeat'
    first
    | assumption | intro _ | apply keeps_int | apply keeps_retireChan | apply keeps_wr | split
    | dsimp only

theorem keeps_rasPreload {a1 a2 a3} (h1 : Stores a1) : Stores (State.rasPreload a1 a2 a3) := by
  unfold State.rasPreload
  with_reducible repeat'
    first
    | assumption | intro _ | apply keeps_declareIfPermanent | apply keeps_setWindow | apply keeps_showCounts | split
    | simp only [stores_mk]

theorem keeps_rasRetire {a1 a2 a3} (h1 : Stores a1) : Stores (State.rasRetire a1 a2 a3) := by
  unfold State.rasRetire
  with_reducible repeat'
    first
    | assumption | intro _ | apply keeps_inc | apply keeps_int | apply keeps_retireChan | apply keeps_setEpisode
    | apply keeps_wr | split | simp only [stores_mk]

theorem keeps_clearTx {a1 a2 a3} (h1 : Stores a1) : Stores (State.clearTx a1 a2 a3) := by
  unfold State.clearTx
  with_reducible repeat'
    first
    | assumption | intro _ | refine stores_foldl ?_ fun _ _ => ?_ | refine pairStores_foldl ?_ fun _ _ => ?_
    | apply keeps_inc | apply keeps_setTx | split | simp only [stores_mk]

theorem keeps_fwdLevels {a1 a2 a3} (h1 : Stores a1) : Stores (State.fwdLevels a1 a2 a3) := by
  unfold State.fwdLevels
  with_reducible repeat'
    first
    | assumption | intro _ | refine stores_foldl ?_ fun _ _ => ?_ | refine pairStores_foldl ?_ fun _ _ => ?_
    | apply keeps_msixSend | apply keeps_wr | split | simp only [stores_mk]

theorem keeps_classFault {a1 a2 a3 a4 a5 a6 a7 a8} (h1 : Stores a1) :
    Stores (State.classFault a1 a2 a3 a4 a5 a6 a7 a8) := by
  unfold State.classFault
  with_reducible repeat'
    first
    | assumption | intro _ | apply keeps_declareIfPermanent | apply keeps_event | apply keeps_inc | apply keeps_int
    | apply keeps_setWindow | apply keeps_showCounts | apply keeps_wr | split | dsimp only

theorem keeps_senseFaulted {a1 a2 a3} (h1 : Stores a1) : Stores (State.senseFaulted a1 a2 a3) := by
  unfold State.senseFaulted
  with_reducible repeat'
    first
    | assumption | intro _ | apply keeps_int | apply keeps_setB | split | simp only [stores_mk]

theorem keeps_chanFault {a1 a2 a3 a4 a5 a6 a7 a8} (h1 : Stores a1) :
    Stores (State.chanFault a1 a2 a3 a4 a5 a6 a7 a8) := by
  unfold State.chanFault
  with_reducible repeat'
    first
    | assumption | intro _ | apply keeps_classFault | apply keeps_int | apply keeps_senseFaulted
    | apply keeps_setEpisode | apply keeps_wr | split | simp only [stores_mk]

theorem keeps_linkFault {a1 a2} (h1 : Stores a1) : Stores (State.linkFault a1 a2) := by
  unfold State.linkFault
  with_reducible repeat'
    first
    | assumption | intro _ | apply keeps_chanFault | split | simp only [stores_mk]

theorem keeps_proxyFailed {a1 a2 a3} (h1 : Stores a1) : Stores (State.proxyFailed a1 a2 a3) := by
  unfold State.proxyFailed
  with_reducible repeat'
    first
    | assumption | intro _ | apply keeps_answer | apply keeps_inc | split | simp only [stores_mk]

theorem keeps_setProxies {a1 a2 a3} (h1 : Stores a1) : Stores (State.setProxies a1 a2 a3) := by
  unfold State.setProxies
  with_reducible repeat'
    first
    | assumption | intro _ | split | simp only [stores_mk]

theorem keeps_downAtDie {a1 a2 a3 a4} (h1 : Stores a1) : Stores (State.downAtDie a1 a2 a3 a4) := by
  unfold State.downAtDie
  with_reducible repeat'
    first
    | assumption | intro _ | refine stores_foldl ?_ fun _ _ => ?_ | refine pairStores_foldl ?_ fun _ _ => ?_
    | apply keeps_clearTx | apply keeps_event | apply keeps_fwdLevels | apply keeps_heldLost | apply keeps_inc
    | apply keeps_int | apply keeps_linkFault | apply keeps_notice | apply keeps_proxyFailed
    | apply keeps_setProxies | apply keeps_wr | split | simp only [stores_mk]

theorem keeps_setAddend {a1 a2 a3} (h1 : Stores a1) : Stores (State.setAddend a1 a2 a3) := by
  unfold State.setAddend
  with_reducible repeat'
    first
    | assumption | intro _ | apply keeps_wr | split | simp only [stores_mk]

theorem keeps_holdover {a1 a2} (h1 : Stores a1) : Stores (State.holdover a1 a2) := by
  unfold State.holdover
  with_reducible repeat'
    first
    | assumption | intro _ | apply keeps_inc | apply keeps_pageErr | apply keeps_setAddend | apply keeps_setLtcState
    | apply keeps_setServo | split | simp only [stores_mk]

theorem keeps_downAtIkb {a1 a2 a3 a4} (h1 : Stores a1) : Stores (State.downAtIkb a1 a2 a3 a4) := by
  unfold State.downAtIkb
  with_reducible repeat'
    first
    | assumption | intro _ | apply keeps_clearTx | apply keeps_event | apply keeps_heldLost | apply keeps_holdover
    | apply keeps_inc | apply keeps_int | apply keeps_wr | split | simp only [stores_mk]

theorem keeps_downAt {a1 a2 a3 a4 a5} (h1 : Stores a1) : Stores (State.downAt a1 a2 a3 a4 a5) := by
  unfold State.downAt
  with_reducible repeat'
    first
    | assumption | intro _ | apply keeps_downAtDie | apply keeps_downAtIkb | split | simp only [stores_mk]

theorem keeps_retrain {a1 a2 a3} (h1 : Stores a1) : Stores (State.retrain a1 a2 a3) := by
  unfold State.retrain
  with_reducible repeat'
    first
    | assumption | intro _ | apply keeps_downAt | split | simp only [stores_mk]

theorem keeps_syncNow {a1 a2} (h1 : Stores a1) : Stores (State.syncNow a1 a2) := by
  unfold State.syncNow
  with_reducible repeat'
    first
    | assumption | intro _ | split | simp only [stores_mk]

theorem keeps_vikbOffReq {a1 a2} (h1 : Stores a1) : Stores (State.vikbOffReq a1 a2) := by
  unfold State.vikbOffReq
  with_reducible repeat'
    first
    | assumption | intro _ | apply keeps_wr | split | dsimp only

theorem keeps_execAdcBgRecal {a1 a2 a3} (h3 : Stores a3) : OutStores (execAdcBgRecal a1 a2 a3) := by
  unfold execAdcBgRecal
  with_reducible repeat'
    first
    | assumption | intro _ | apply out_next | apply out_keeping | apply out_storeless | apply keeps_ifOn
    | apply keeps_wr | split | simp only [stores_mk]

theorem keeps_authRevoke {a1 a2} (h1 : Stores a1) : Stores (State.authRevoke a1 a2) := by
  unfold State.authRevoke
  with_reducible repeat'
    first
    | assumption | intro _ | refine stores_foldl ?_ fun _ _ => ?_ | refine pairStores_foldl ?_ fun _ _ => ?_
    | apply keeps_grantOff | split | simp only [stores_mk]

theorem keeps_execAuthRevoke {a1 a2} (h2 : Stores a2) : OutStores (execAuthRevoke a1 a2) := by
  unfold execAuthRevoke
  with_reducible repeat'
    first
    | assumption | intro _ | apply out_next | apply out_keeping | apply out_storeless | apply keeps_authRevoke
    | apply keeps_ifOn | split | simp only [stores_mk]

theorem keeps_newNonce {a1 a2} (h1 : Stores a1) : Stores (State.newNonce a1 a2) := by
  unfold State.newNonce
  with_reducible repeat'
    first
    | assumption | intro _ | refine stores_foldl ?_ fun _ _ => ?_ | refine pairStores_foldl ?_ fun _ _ => ?_
    | apply keeps_free | refine pair2 (by assumption) (keeps_free ?_) | apply keeps_wr | split
    | simp only [stores_mk]

theorem keeps_authSubmit {a1 a2} (h1 : Stores a1) : Stores (State.authSubmit a1 a2) := by
  unfold State.authSubmit
  split
  · exact keeps_pageErr h1
  · extract_lets t res s1 s2 s3
    have hs : Stores s1 := keeps_wr h1
    split
    · exact keeps_int (keeps_event hs)
    · exact keeps_int (keeps_event (keeps_wr (keeps_wr (keeps_newNonce (stores_foldl hs fun _ _ h => keeps_accept1 h)))))

theorem keeps_execAuthSubmit {a1 a2} (h2 : Stores a2) : OutStores (execAuthSubmit a1 a2) := by
  unfold execAuthSubmit
  with_reducible repeat'
    first
    | assumption | intro _ | apply out_next | apply out_keeping | apply out_storeless | apply keeps_authSubmit
    | apply keeps_ifOn | split | simp only [stores_mk]

theorem keeps_authVerify {a1 a2} (h1 : Stores a1) : Stores (State.authVerify a1 a2) := by
  unfold State.authVerify
  with_reducible repeat'
    first
    | assumption | intro _ | apply keeps_pageErr | apply keeps_wr | split | simp only [stores_mk]

theorem keeps_execAuthVerify {a1 a2} (h2 : Stores a2) : OutStores (execAuthVerify a1 a2) := by
  unfold execAuthVerify
  with_reducible repeat'
    first
    | assumption | intro _ | apply out_next | apply out_keeping | apply out_storeless | apply keeps_authVerify
    | apply keeps_ifOn | split | simp only [stores_mk]

theorem keeps_execBbxCommitNow {a1 a2} (h2 : Stores a2) : OutStores (execBbxCommitNow a1 a2) := by
  unfold execBbxCommitNow
  with_reducible repeat'
    first
    | assumption | intro _ | apply out_next | apply out_keeping | apply out_storeless | apply keeps_lastGasp | split
    | simp only [stores_mk]

theorem keeps_bbxQueuePartial {a1} (h1 : Stores a1) : Stores (State.bbxQueuePartial a1) := by
  unfold State.bbxQueuePartial
  with_reducible repeat'
    first
    | assumption | intro _ | split | simp only [stores_mk]

theorem keeps_execBbxFlush {a1 a2} (h2 : Stores a2) : OutStores (execBbxFlush a1 a2) := by
  unfold execBbxFlush
  with_reducible repeat'
    first
    | assumption | intro _ | apply out_next | apply out_keeping | apply out_storeless | apply keeps_bbxQueuePartial
    | split | simp only [stores_mk]

theorem keeps_coreStop {a1 a2 a3 a4} (h1 : Stores a1) : Stores (State.coreStop a1 a2 a3 a4) := by
  unfold State.coreStop
  with_reducible repeat'
    first
    | assumption | intro _ | apply keeps_event | apply keeps_free | refine pair2 (by assumption) (keeps_free ?_)
    | apply keeps_int | apply keeps_wr | split | simp only [stores_mk]

theorem keeps_coreHalt {a1 a2 a3 a4} (h1 : Stores a1) : Stores (State.coreHalt a1 a2 a3 a4) := by
  unfold State.coreHalt
  with_reducible repeat'
    first
    | assumption | intro _ | apply keeps_coreParam | apply keeps_coreStop | split | simp only [stores_mk]

theorem keeps_execCoreHalt {a1 a2 a3 a4} (h4 : Stores a4) : OutStores (execCoreHalt a1 a2 a3 a4) := by
  unfold execCoreHalt
  with_reducible repeat'
    first
    | assumption | intro _ | apply out_next | apply out_keeping | apply out_storeless | apply keeps_coreHalt
    | apply keeps_ifOn | split | simp only [stores_mk]

theorem keeps_corePowerOff {a1 a2 a3} (h1 : Stores a1) : Stores (State.corePowerOff a1 a2 a3) := by
  unfold State.corePowerOff
  with_reducible repeat'
    first
    | assumption | intro _ | apply keeps_coreParam | apply keeps_wr | split | simp only [stores_mk]

theorem keeps_execCorePowerOff {a1 a2 a3} (h3 : Stores a3) : OutStores (execCorePowerOff a1 a2 a3) := by
  unfold execCorePowerOff
  with_reducible repeat'
    first
    | assumption | intro _ | apply out_next | apply out_keeping | apply out_storeless | apply keeps_corePowerOff
    | apply keeps_ifOn | split | simp only [stores_mk]

theorem keeps_corePowerOn {a1 a2 a3} (h1 : Stores a1) : Stores (State.corePowerOn a1 a2 a3) := by
  unfold State.corePowerOn
  with_reducible repeat'
    first
    | assumption | intro _ | apply keeps_coreParam | apply keeps_wr | split | simp only [stores_mk]

theorem keeps_execCorePowerOn {a1 a2 a3} (h3 : Stores a3) : OutStores (execCorePowerOn a1 a2 a3) := by
  unfold execCorePowerOn
  with_reducible repeat'
    first
    | assumption | intro _ | apply out_next | apply out_keeping | apply out_storeless | apply keeps_corePowerOn
    | apply keeps_ifOn | split | simp only [stores_mk]

theorem keeps_promote {a1 a2} (h1 : Stores a1) : Stores (State.promote a1 a2) := by
  unfold State.promote
  with_reducible repeat'
    first
    | assumption | intro _ | apply keeps_coreParam | apply keeps_wr | split | simp only [stores_mk]

theorem keeps_execCorePromote {a1 a2} (h2 : Stores a2) : OutStores (execCorePromote a1 a2) := by
  unfold execCorePromote
  with_reducible repeat'
    first
    | assumption | intro _ | apply out_next | apply out_keeping | apply out_storeless | apply keeps_ifOn
    | apply keeps_promote | split | simp only [stores_mk]

theorem keeps_coreRun {a1 a2 a3 a4 a5 a6} (h1 : Stores a1) : Stores (State.coreRun a1 a2 a3 a4 a5 a6) := by
  unfold State.coreRun
  extract_lets changed s1 l m s2 s3 s4 s5
  have e1 : Stores s1 := stores_eq h1 rfl rfl rfl
  have e2 : Stores s2 := by
    simp only [s2]
    split
    · split
      · exact e1
      · exact keeps_wr (stores_eq e1 rfl rfl rfl)
    · exact e1
  have e5 : Stores s5 :=
    keeps_wr (keeps_wr (keeps_wr (keeps_wr (keeps_wr (keeps_wr (keeps_wr (keeps_wr e2)))))))
  split
  · exact keeps_event e5
  · exact e5

theorem keeps_coreStart {a1 a2 a3 a4} (h1 : Stores a1) : Stores (State.coreStart a1 a2 a3 a4).1 := by
  unfold State.coreStart
  with_reducible repeat'
    first
    | assumption | intro _ | apply keeps_coreParam | apply keeps_coreRun | apply keeps_pageErr | split
    | dsimp only

theorem keeps_execCoreStart {a1 a2 a3} (h3 : Stores a3) : OutStores (execCoreStart a1 a2 a3) := by
  unfold execCoreStart
  with_reducible repeat'
    first
    | assumption | intro _ | apply out_next | apply out_keeping | apply out_storeless | apply keeps_coreStart
    | refine pair1 (by assumption) (keeps_coreStart ?_) | apply keeps_ifOn | split | simp only [stores_mk]

theorem keeps_execKeyframeNow {a1 a2} (h2 : Stores a2) : OutStores (execKeyframeNow a1 a2) := by
  unfold execKeyframeNow
  with_reducible repeat'
    first
    | assumption | intro _ | apply out_next | apply out_keeping | apply out_storeless | apply keeps_wr | split
    | simp only [stores_mk]

theorem keeps_launchArm {a1 a2 a3 a4} (h1 : Stores a1) : Stores (State.launchArm a1 a2 a3 a4) := by
  unfold State.launchArm
  with_reducible repeat'
    first
    | assumption | intro _ | apply keeps_armSlot | apply keeps_pageErr | split | simp only [stores_mk]

theorem keeps_execLaunchArm {a1 a2 a3 a4} (h4 : Stores a4) : OutStores (execLaunchArm a1 a2 a3 a4) := by
  unfold execLaunchArm
  with_reducible repeat'
    first
    | assumption | intro _ | apply out_next | apply out_keeping | apply out_storeless | apply keeps_ifOn
    | apply keeps_launchArm | split | simp only [stores_mk]

theorem keeps_execLaunchDisarm {a1 a2 a3} (h3 : Stores a3) : OutStores (execLaunchDisarm a1 a2 a3) := by
  unfold execLaunchDisarm
  with_reducible repeat'
    first
    | assumption | intro _ | apply out_next | apply out_keeping | apply out_storeless | apply keeps_disarmSlot
    | apply keeps_ifOn | split | simp only [stores_mk]

theorem keeps_lensFollow {a1 a2} (h1 : Stores a1) : Stores (State.lensFollow a1 a2) := by
  unfold State.lensFollow
  with_reducible repeat'
    first
    | assumption | intro _ | refine stores_foldl ?_ fun _ _ => ?_ | refine pairStores_foldl ?_ fun _ _ => ?_
    | apply keeps_wr | split | dsimp only

theorem keeps_setLslot {a1 a2 a3 a4} (h1 : Stores a1) : Stores (State.setLslot a1 a2 a3 a4) := by
  unfold State.setLslot
  with_reducible repeat'
    first
    | assumption | intro _ | split | simp only [stores_mk]

theorem keeps_lensLoad {a1 a2} (h1 : Stores a1) : Stores (State.lensLoad a1 a2) := by
  unfold State.lensLoad
  with_reducible repeat'
    first
    | assumption | intro _ | apply keeps_lensFollow | apply keeps_pageErr | apply keeps_setLslot | apply keeps_wr
    | split | dsimp only

theorem keeps_execLensLoad {a1 a2} (h2 : Stores a2) : OutStores (execLensLoad a1 a2) := by
  unfold execLensLoad
  with_reducible repeat'
    first
    | assumption | intro _ | apply out_next | apply out_keeping | apply out_storeless | apply keeps_ifOn
    | apply keeps_lensLoad | split | simp only [stores_mk]

theorem keeps_setMbox {a1 a2 a3 a4} (h1 : Stores a1) : Stores (State.setMbox a1 a2 a3 a4) := by
  unfold State.setMbox
  with_reducible repeat'
    first
    | assumption | intro _ | apply keeps_wr | split | simp only [stores_mk]

theorem keeps_execMboxPop {a1 a2 a3} (h3 : Stores a3) : OutStores (execMboxPop a1 a2 a3) := by
  unfold execMboxPop
  with_reducible repeat'
    first
    | assumption | intro _ | apply out_next | apply out_keeping | apply out_storeless | apply keeps_ifOn
    | apply keeps_setMbox | split | simp only [stores_mk]

theorem keeps_sweep {a1 a2 a3} (h1 : Stores a1) : Stores (State.sweep a1 a2 a3) := by
  unfold State.sweep
  with_reducible repeat'
    first
    | assumption | intro _ | apply keeps_wr | split | simp only [stores_mk]

theorem keeps_execOptSweepStart {a1 a2 a3} (h3 : Stores a3) : OutStores (execOptSweepStart a1 a2 a3) := by
  unfold execOptSweepStart
  with_reducible repeat'
    first
    | assumption | intro _ | apply out_next | apply out_keeping | apply out_storeless | apply keeps_ifOn
    | apply keeps_sweep | split | simp only [stores_mk]

theorem keeps_execScrubRecal {a1 a2 a3} (h3 : Stores a3) : OutStores (execScrubRecal a1 a2 a3) := by
  unfold execScrubRecal
  with_reducible repeat'
    first
    | assumption | intro _ | apply out_next | apply out_keeping | apply out_storeless | apply keeps_ifOn
    | apply keeps_wr | split | simp only [stores_mk]

theorem keeps_holdSlots {a1 a2 a3} (h1 : Stores a1) : Stores (State.holdSlots a1 a2 a3) := by
  unfold State.holdSlots
  with_reducible repeat'
    first
    | assumption | intro _ | refine stores_foldl ?_ fun _ _ => ?_ | refine pairStores_foldl ?_ fun _ _ => ?_
    | apply keeps_clrB | apply keeps_int | apply keeps_wr | split | simp only [stores_mk]

theorem keeps_execTimeReacquire {a1 a2} (h2 : Stores a2) : OutStores (execTimeReacquire a1 a2) := by
  unfold execTimeReacquire
  with_reducible repeat'
    first
    | assumption | intro _ | apply out_next | apply out_keeping | apply out_storeless | apply keeps_holdSlots
    | apply keeps_pageErr | apply keeps_setLtcState | split | simp only [stores_mk]

theorem keeps_trigger {a1 a2 a3 a4 a5 a6} (h1 : Stores a1) : Stores (State.trigger a1 a2 a3 a4 a5 a6) := by
  unfold State.trigger
  with_reducible repeat'
    first
    | assumption | intro _ | refine stores_foldl ?_ fun _ _ => ?_ | refine pairStores_foldl ?_ fun _ _ => ?_
    | apply keeps_bankClear | apply keeps_evrClear | apply keeps_go | apply keeps_modeArm | apply keeps_modeCancel
    | apply keeps_poisonClear | apply keeps_prismArm | apply keeps_prismDisarm | apply keeps_prismHalt
    | apply keeps_rasClear | apply keeps_rasCondDone | apply keeps_rasPreload | apply keeps_rasRetire
    | apply keeps_retrain | apply keeps_sendDown | apply keeps_syncNow | apply keeps_vikbOffReq
    | apply keeps_execAdcBgRecal | refine OutStores.of (keeps_execAdcBgRecal ?_) (by assumption)
    | apply keeps_execAuthRevoke | refine OutStores.of (keeps_execAuthRevoke ?_) (by assumption)
    | apply keeps_execAuthSubmit | refine OutStores.of (keeps_execAuthSubmit ?_) (by assumption)
    | apply keeps_execAuthVerify | refine OutStores.of (keeps_execAuthVerify ?_) (by assumption)
    | apply keeps_execBbxCommitNow | refine OutStores.of (keeps_execBbxCommitNow ?_) (by assumption)
    | apply keeps_execBbxFlush | refine OutStores.of (keeps_execBbxFlush ?_) (by assumption)
    | apply keeps_execCoreHalt | refine OutStores.of (keeps_execCoreHalt ?_) (by assumption)
    | apply keeps_execCorePowerOff | refine OutStores.of (keeps_execCorePowerOff ?_) (by assumption)
    | apply keeps_execCorePowerOn | refine OutStores.of (keeps_execCorePowerOn ?_) (by assumption)
    | apply keeps_execCorePromote | refine OutStores.of (keeps_execCorePromote ?_) (by assumption)
    | apply keeps_execCoreStart | refine OutStores.of (keeps_execCoreStart ?_) (by assumption)
    | apply keeps_execKeyframeNow | refine OutStores.of (keeps_execKeyframeNow ?_) (by assumption)
    | apply keeps_execLaunchArm | refine OutStores.of (keeps_execLaunchArm ?_) (by assumption)
    | apply keeps_execLaunchDisarm | refine OutStores.of (keeps_execLaunchDisarm ?_) (by assumption)
    | apply keeps_execLensLoad | refine OutStores.of (keeps_execLensLoad ?_) (by assumption)
    | apply keeps_execMboxPop | refine OutStores.of (keeps_execMboxPop ?_) (by assumption)
    | apply keeps_execOptSweepStart | refine OutStores.of (keeps_execOptSweepStart ?_) (by assumption)
    | apply keeps_execScrubRecal | refine OutStores.of (keeps_execScrubRecal ?_) (by assumption)
    | apply keeps_execTimeReacquire | refine OutStores.of (keeps_execTimeReacquire ?_) (by assumption)
    | apply keeps_taken | split | simp only [stores_mk]

theorem keeps_writeFields {a1 a2 a3 a4 a5 a6 a7} (h1 : Stores a1) :
    Stores (State.writeFields a1 a2 a3 a4 a5 a6 a7) := by
  unfold State.writeFields
  with_reducible repeat'
    first
    | assumption | intro _ | refine stores_foldl ?_ fun _ _ => ?_ | refine pairStores_foldl ?_ fun _ _ => ?_
    | apply keeps_afterWrite | apply keeps_lockedErr | apply keeps_pageErr | apply keeps_trigger | apply keeps_wr
    | split | dsimp only

theorem keeps_bar2Base {a1 a2} (h1 : Stores a1) : Stores (State.bar2Base a1 a2) := by
  unfold State.bar2Base
  with_reducible repeat'
    first
    | assumption | intro _ | apply keeps_pageErr | apply keeps_wr | split | simp only [stores_mk]

theorem keeps_batchWrite {a1 a2 a3} (h1 : Stores a1) : Stores (State.batchWrite a1 a2 a3) := by
  unfold State.batchWrite
  with_reducible repeat'
    first
    | assumption | intro _ | apply keeps_pageErr | apply keeps_wr | split | dsimp only

theorem keeps_bindingWrite {a1 a2 a3 a4 a5} (h1 : Stores a1) : Stores (State.bindingWrite a1 a2 a3 a4 a5) := by
  unfold State.bindingWrite
  with_reducible repeat'
    first
    | assumption | intro _ | apply keeps_pageErr | apply keeps_wr | split | simp only [stores_mk]

theorem keeps_bktCfgWrite {a1 a2 a3} (h1 : Stores a1) : Stores (State.bktCfgWrite a1 a2 a3) := by
  unfold State.bktCfgWrite
  with_reducible repeat'
    first
    | assumption | intro _ | apply keeps_pageErr | apply keeps_wr | split | dsimp only

theorem keeps_mboxPost {a1 a2 a3 a4} (h1 : Stores a1) : Stores (State.mboxPost a1 a2 a3 a4).1 := by
  unfold State.mboxPost
  with_reducible repeat'
    first
    | assumption | intro _ | apply keeps_inc | apply keeps_int | apply keeps_pageErr | apply keeps_setMbox | split
    | dsimp only

theorem keeps_nextWrite {a1 a2} (h1 : Stores a1) : Stores (State.nextWrite a1 a2) := by
  unfold State.nextWrite
  with_reducible repeat'
    first
    | assumption | intro _ | apply keeps_modeArm | apply keeps_modeCancel | apply keeps_pageErr | apply keeps_wr
    | split | simp only [stores_mk]

theorem keeps_optabWrite {a1 a2 a3 a4 a5 a6} (h1 : Stores a1) : Stores (State.optabWrite a1 a2 a3 a4 a5 a6) := by
  unfold State.optabWrite
  with_reducible repeat'
    first
    | assumption | intro _ | apply keeps_lockedErr | apply keeps_pageErr | apply keeps_pointCheck | apply keeps_wr
    | split | dsimp only

theorem keeps_policeWrite {a1 a2 a3 a4} (h1 : Stores a1) : Stores (State.policeWrite a1 a2 a3 a4) := by
  unfold State.policeWrite
  with_reducible repeat'
    first
    | assumption | intro _ | apply keeps_pageErr | apply keeps_wr | split | dsimp only

theorem keeps_stageRole {a1 a2 a3} (h1 : Stores a1) : Stores (State.stageRole a1 a2 a3) := by
  unfold State.stageRole
  with_reducible repeat'
    first
    | assumption | intro _ | apply keeps_pageErr | apply keeps_wr | split | simp only [stores_mk]

theorem keeps_dropLive {a1} (h1 : Stores a1) : Stores (State.dropLive a1) := by
  unfold State.dropLive
  with_reducible repeat'
    first
    | assumption | intro _ | split | simp only [stores_mk]

theorem keeps_putBack {a1 a2} (h1 : Stores a1) : Stores (State.putBack a1 a2) := by
  unfold State.putBack
  with_reducible repeat'
    first
    | assumption | intro _ | refine stores_foldl ?_ fun _ _ => ?_ | refine pairStores_foldl ?_ fun _ _ => ?_
    | apply keeps_wr | split | simp only [stores_mk]

theorem keeps_coldClear {a1} (h1 : Stores a1) : Stores (State.coldClear a1) := by
  unfold State.coldClear
  with_reducible repeat'
    first
    | assumption | intro _ | apply keeps_dropLive | apply keeps_putBack | split | simp only [stores_mk]
  all_goals refine stores_parts.2 ⟨?_, ?_, ?_⟩
  all_goals simp only []
  all_goals
    with_reducible repeat'
      first
      | assumption | intro _ | apply memWriteList_wf | apply memWrite_wf | apply dropRange_wf | apply dram_wf
      | apply nor_wf | apply mram_wf | exact memNil_wf | apply keeps_dropLive | apply keeps_putBack | split
      | simp only [stores_mk]

theorem keeps_startLinks {a1} (h1 : Stores a1) : Stores (State.startLinks a1) := by
  unfold State.startLinks
  with_reducible repeat'
    first
    | assumption | intro _ | refine stores_foldl ?_ fun _ _ => ?_ | refine pairStores_foldl ?_ fun _ _ => ?_
    | apply keeps_downAt | apply keeps_linkIdle | apply keeps_wr | split | simp only [stores_mk]

theorem keeps_clearPage {a1 a2 a3 a4 a5} (h1 : Stores a1) : Stores (State.clearPage a1 a2 a3 a4 a5) := by
  unfold State.clearPage
  with_reducible repeat'
    first
    | assumption | intro _ | split | simp only [stores_mk]

theorem keeps_timeKept {a1 a2} (h1 : Stores a1) : Stores (State.timeKept a1 a2) := by
  unfold State.timeKept
  with_reducible repeat'
    first
    | assumption | intro _ | apply keeps_holdover | apply keeps_setLtcState | split | simp only [stores_mk]

theorem keeps_warmDie {a1 a2 a3} (h2 : Stores a2) : Stores (State.warmDie a1 a2 a3) := by
  unfold State.warmDie
  with_reducible repeat'
    first
    | assumption | intro _ | refine stores_foldl ?_ fun _ _ => ?_ | refine pairStores_foldl ?_ fun _ _ => ?_
    | apply keeps_clearPage | apply keeps_putBack | apply keeps_retireActions | apply keeps_timeKept
    | apply keeps_wr | split | simp only [stores_mk]

theorem keeps_warmClear {a1 a2} (h1 : Stores a1) : Stores (State.warmClear a1 a2) := by
  unfold State.warmClear
  with_reducible repeat'
    first
    | assumption | intro _ | refine stores_foldl ?_ fun _ _ => ?_ | refine pairStores_foldl ?_ fun _ _ => ?_
    | apply keeps_clearPage | apply keeps_dropLive | apply keeps_warmDie | split | simp only [stores_mk]

theorem keeps_beginAs {a1 a2 a3 a4 a5} (h1 : Stores a1) : Stores (State.beginAs a1 a2 a3 a4 a5) := by
  unfold State.beginAs
  with_reducible repeat'
    first
    | assumption | intro _ | refine stores_foldl ?_ fun _ _ => ?_ | refine pairStores_foldl ?_ fun _ _ => ?_
    | apply keeps_coldClear | apply keeps_startLinks | apply keeps_warmClear | apply keeps_wr | split
    | simp only [stores_mk]

theorem keeps_coldStart {a1 a2 a3} (h1 : Stores a1) : Stores (State.coldStart a1 a2 a3) := by
  unfold State.coldStart
  with_reducible repeat'
    first
    | assumption | intro _ | apply keeps_beginAs | split | simp only [stores_mk]

theorem keeps_startKeyBad {a1} (h1 : Stores a1) : Stores (State.startKeyBad a1) := by
  unfold State.startKeyBad
  with_reducible repeat'
    first
    | assumption | intro _ | apply keeps_pageErr | split | simp only [stores_mk]

theorem keeps_execStartCold {a1 a2} (h2 : Stores a2) : OutStores (execStartCold a1 a2) := by
  unfold execStartCold
  with_reducible repeat'
    first
    | assumption | intro _ | apply out_next | apply out_keeping | apply out_storeless | apply keeps_coldStart
    | apply keeps_startKeyBad | split | simp only [stores_mk]

theorem keeps_warmStart {a1 a2} (h1 : Stores a1) : Stores (State.warmStart a1 a2) := by
  unfold State.warmStart
  with_reducible repeat'
    first
    | assumption | intro _ | apply keeps_beginAs | split | simp only [stores_mk]

theorem keeps_execStartWarm {a1 a2 a3} (h3 : Stores a3) : OutStores (execStartWarm a1 a2 a3) := by
  unfold execStartWarm
  with_reducible repeat'
    first
    | assumption | intro _ | apply out_next | apply out_keeping | apply out_storeless | apply keeps_startKeyBad
    | apply keeps_warmStart | split | simp only [stores_mk]

theorem keeps_startWrite {a1 a2 a3} (h1 : Stores a1) : Stores (State.startWrite a1 a2 a3) := by
  unfold State.startWrite
  with_reducible repeat'
    first
    | assumption | intro _ | apply keeps_pageErr | apply keeps_execStartCold
    | refine OutStores.of (keeps_execStartCold ?_) (by assumption) | apply keeps_execStartWarm
    | refine OutStores.of (keeps_execStartWarm ?_) (by assumption) | apply keeps_taken | split
    | dsimp only

theorem keeps_traceAuthWrite {a1 a2 a3 a4} (h1 : Stores a1) : Stores (State.traceAuthWrite a1 a2 a3 a4) := by
  unfold State.traceAuthWrite
  with_reducible repeat'
    first
    | assumption | intro _ | apply keeps_inc | apply keeps_int | apply keeps_wr | split | dsimp only

theorem keeps_wdogRestart {a1 a2} (h1 : Stores a1) : Stores (State.wdogRestart a1 a2) := by
  unfold State.wdogRestart
  with_reducible repeat'
    first
    | assumption | intro _ | apply keeps_wr | split | simp only [stores_mk]

theorem keeps_wdogCtrlWrite {a1 a2 a3 a4} (h1 : Stores a1) : Stores (State.wdogCtrlWrite a1 a2 a3 a4) := by
  unfold State.wdogCtrlWrite
  with_reducible repeat'
    first
    | assumption | intro _ | apply keeps_lockedErr | apply keeps_pageErr | apply keeps_wdogRestart | apply keeps_wr
    | split | dsimp only

theorem keeps_writeCap {a1 a2 a3 a4} (h1 : Stores a1) : Stores (State.writeCap a1 a2 a3 a4) := by
  unfold State.writeCap
  with_reducible repeat'
    first
    | assumption | intro _ | apply keeps_pageErr | apply keeps_wr | split | dsimp only

theorem keeps_execAddendCommit {a1 a2 a3 a4} (h4 : Stores a4) : OutStores (execAddendCommit a1 a2 a3 a4) := by
  unfold execAddendCommit
  with_reducible repeat'
    first
    | assumption | intro _ | apply out_next | apply out_keeping | apply out_storeless | apply keeps_dropLow
    | apply keeps_pageErr | apply keeps_setAddend | split | simp only [stores_mk]

theorem keeps_fSend {a1 a2} (h1 : Stores a1) : Stores (State.fSend a1 a2) := by
  unfold State.fSend
  with_reducible repeat'
    first
    | assumption | intro _ | apply keeps_barSend | split | simp only [stores_mk]

theorem keeps_barParam {a1} (h1 : Stores a1) : Stores (State.barParam a1) := by
  unfold State.barParam
  with_reducible repeat'
    first
    | assumption | intro _ | apply keeps_pageErr | split | simp only [stores_mk]

theorem keeps_fWrite {a1 a2 a3} (h1 : Stores a1) : Stores (State.fWrite a1 a2 a3) := by
  unfold State.fWrite
  with_reducible repeat'
    first
    | assumption | intro _ | apply keeps_barParam | apply keeps_wr | split | dsimp only

theorem keeps_execBarrierFWrite {a1 a2 a3} (h3 : Stores a3) : OutStores (execBarrierFWrite a1 a2 a3) := by
  unfold execBarrierFWrite
  with_reducible repeat'
    first
    | assumption | intro _ | apply out_next | apply out_keeping | apply out_storeless | apply keeps_fSend
    | apply keeps_fWrite | apply keeps_wr | split | simp only [stores_mk]

theorem keeps_blkEnBit {a1 a2 a3 a4} (h1 : Stores a1) : Stores (State.blkEnBit a1 a2 a3 a4) := by
  unfold State.blkEnBit
  with_reducible repeat'
    first
    | assumption | intro _ | apply keeps_clrB | apply keeps_intChanged | apply keeps_pageErr | apply keeps_setB
    | split | dsimp only

theorem keeps_execClkBlkEnWrite {a1 a2 a3 a4} (h4 : Stores a4) : OutStores (execClkBlkEnWrite a1 a2 a3 a4) := by
  unfold execClkBlkEnWrite
  with_reducible repeat'
    first
    | assumption | intro _ | refine stores_foldl ?_ fun _ _ => ?_ | refine pairStores_foldl ?_ fun _ _ => ?_
    | apply out_next | apply out_keeping | apply out_storeless | apply keeps_blkEnBit | split
    | simp only [stores_mk]

theorem keeps_setDomSrc {a1 a2 a3 a4} (h1 : Stores a1) : Stores (State.setDomSrc a1 a2 a3 a4) := by
  unfold State.setDomSrc
  with_reducible repeat'
    first
    | assumption | intro _ | apply keeps_wr | split | simp only [stores_mk]

theorem keeps_switchRefused {a1 a2 a3} (h1 : Stores a1) : Stores (State.switchRefused a1 a2 a3) := by
  unfold State.switchRefused
  with_reducible repeat'
    first
    | assumption | intro _ | apply keeps_pageErr | apply keeps_wr | split | simp only [stores_mk]

theorem keeps_domSrcWrite {a1 a2 a3 a4} (h1 : Stores a1) : Stores (State.domSrcWrite a1 a2 a3 a4) := by
  unfold State.domSrcWrite
  with_reducible repeat'
    first
    | assumption | intro _ | apply keeps_setDomSrc | apply keeps_switchRefused | apply keeps_wr | split
    | simp only [stores_mk]

theorem keeps_showSwBusy {a1 a2} (h1 : Stores a1) : Stores (State.showSwBusy a1 a2) := by
  unfold State.showSwBusy
  with_reducible repeat'
    first
    | assumption | intro _ | apply keeps_wr | split | simp only [stores_mk]

theorem keeps_execClkDomSrcWrite {a1 a2 a3} (h3 : Stores a3) : OutStores (execClkDomSrcWrite a1 a2 a3) := by
  unfold execClkDomSrcWrite
  with_reducible repeat'
    first
    | assumption | intro _ | refine stores_foldl ?_ fun _ _ => ?_ | refine pairStores_foldl ?_ fun _ _ => ?_
    | apply out_next | apply out_keeping | apply out_storeless | apply keeps_domSrcWrite | apply keeps_showSwBusy
    | split | simp only [stores_mk]

theorem keeps_execCodecTableWrite {a1 a2 a3 a4 a5} (h5 : Stores a5) :
    OutStores (execCodecTableWrite a1 a2 a3 a4 a5) := by
  unfold execCodecTableWrite
  with_reducible repeat'
    first
    | assumption | intro _ | apply out_next | apply out_keeping | apply out_storeless | apply keeps_wr | split
    | simp only [stores_mk]

theorem keeps_execLensDivWrite {a1 a2 a3} (h3 : Stores a3) : OutStores (execLensDivWrite a1 a2 a3) := by
  unfold execLensDivWrite
  with_reducible repeat'
    first
    | assumption | intro _ | apply out_next | apply out_keeping | apply out_storeless | apply keeps_wr | split
    | simp only [stores_mk]

theorem keeps_lockUpdate {a1 a2 a3} (h1 : Stores a1) : Stores (State.lockUpdate a1 a2 a3) := by
  unfold State.lockUpdate
  with_reducible repeat'
    first
    | assumption | intro _ | apply keeps_setLtcState | apply keeps_setServo | split | dsimp only

theorem keeps_servoSample {a1 a2 a3} (h1 : Stores a1) : Stores (State.servoSample a1 a2 a3) := by
  unfold State.servoSample
  with_reducible repeat'
    first
    | assumption | intro _ | apply keeps_lockUpdate | apply keeps_pageErr | apply keeps_setAddend
    | apply keeps_setLtcState | apply keeps_setServo | apply keeps_wr | split | simp only [stores_mk]

theorem keeps_offsetSample {a1 a2 a3} (h1 : Stores a1) : Stores (State.offsetSample a1 a2 a3) := by
  unfold State.offsetSample
  with_reducible repeat'
    first
    | assumption | intro _ | apply keeps_ltcStepBy | apply keeps_servoSample | apply keeps_setLtcState
    | apply keeps_wr | split | simp only [stores_mk]

theorem keeps_execOffsetInWrite {a1 a2 a3} (h3 : Stores a3) : OutStores (execOffsetInWrite a1 a2 a3) := by
  unfold execOffsetInWrite
  with_reducible repeat'
    first
    | assumption | intro _ | apply out_next | apply out_keeping | apply out_storeless | apply keeps_offsetSample
    | split | simp only [stores_mk]

theorem keeps_execTorusCoordWrite {a1 a2 a3 a4 a5} (h5 : Stores a5) :
    OutStores (execTorusCoordWrite a1 a2 a3 a4 a5) := by
  unfold execTorusCoordWrite
  with_reducible repeat'
    first
    | assumption | intro _ | apply out_next | apply out_keeping | apply out_storeless | apply keeps_lockedErr
    | apply keeps_wr | split | simp only [stores_mk]

theorem keeps_writeOwn {a1 a2 a3 a4 a5 a6 a7} (h1 : Stores a1) :
    ∀ r, State.writeOwn a1 a2 a3 a4 a5 a6 a7 = some r → Stores r.1 := by
  intro r hr
  refine OptStores.some (o := a1.writeOwn a2 a3 a4 a5 a6 a7) ?_ r hr
  clear hr
  unfold State.writeOwn
  dsimp only
  with_reducible repeat'
    first
    | exact opt_none | apply opt_some | apply opt_pair | split
  all_goals
    with_reducible repeat'
      first
      | assumption | intro _ | refine stores_foldl ?_ fun _ _ => ?_ | refine pairStores_foldl ?_ fun _ _ => ?_
      | apply keeps_abftModeWrite | apply keeps_bar2Base | apply keeps_batchWrite | apply keeps_bindingWrite
      | apply keeps_bktCfgWrite | apply keeps_codecConfig | apply keeps_intChanged | apply keeps_mboxPost
      | refine pair1 (by assumption) (keeps_mboxPost ?_) | apply keeps_memAccess
      | refine pair2 (by assumption) (keeps_memAccess ?_) | apply keeps_nextWrite | apply keeps_optabWrite
      | apply keeps_pageErr | apply keeps_policeWrite | apply keeps_stageRole | apply keeps_startWrite
      | apply keeps_traceAuthWrite | apply keeps_wdogCtrlWrite | apply keeps_wr | apply keeps_writeCap
      | apply keeps_execAddendCommit | refine OutStores.of (keeps_execAddendCommit ?_) (by assumption)
      | apply keeps_execBarrierFWrite | refine OutStores.of (keeps_execBarrierFWrite ?_) (by assumption)
      | apply keeps_execClkBlkEnWrite | refine OutStores.of (keeps_execClkBlkEnWrite ?_) (by assumption)
      | apply keeps_execClkDomSrcWrite | refine OutStores.of (keeps_execClkDomSrcWrite ?_) (by assumption)
      | apply keeps_execCodecTableWrite | refine OutStores.of (keeps_execCodecTableWrite ?_) (by assumption)
      | apply keeps_execLaunchDisarm | refine OutStores.of (keeps_execLaunchDisarm ?_) (by assumption)
      | apply keeps_execLensDivWrite | refine OutStores.of (keeps_execLensDivWrite ?_) (by assumption)
      | apply keeps_execOffsetInWrite | refine OutStores.of (keeps_execOffsetInWrite ?_) (by assumption)
      | apply keeps_execTorusCoordWrite | refine OutStores.of (keeps_execTorusCoordWrite ?_) (by assumption)
      | apply keeps_taken | split | simp only [stores_mk]

theorem keeps_writeBody {a1 a2 a3 a4 a5 a6 a7} (h1 : Stores a1) :
    Stores (State.writeBody a1 a2 a3 a4 a5 a6 a7).1 := by
  unfold State.writeBody
  with_reducible repeat'
    first
    | assumption | intro _ | apply keeps_writeFields | refine keeps_writeOwn ?_ _ (by assumption)
    | refine keeps_writeOwn ?_ (_, _) (by assumption) | split | simp only [stores_mk]

theorem keeps_errClear {a1 a2 a3} (h1 : Stores a1) : Stores (State.errClear a1 a2 a3) := by
  unfold State.errClear
  with_reducible repeat'
    first
    | assumption | intro _ | apply keeps_wr | split | dsimp only

theorem keeps_intForce {a1 a2 a3 a4} (h1 : Stores a1) : Stores (State.intForce a1 a2 a3 a4) := by
  unfold State.intForce
  with_reducible repeat'
    first
    | assumption | intro _ | apply keeps_intChanged | apply keeps_wr | split | simp only [stores_mk]

theorem keeps_intRawClear {a1 a2 a3 a4} (h1 : Stores a1) : Stores (State.intRawClear a1 a2 a3 a4) := by
  unfold State.intRawClear
  with_reducible repeat'
    first
    | assumption | intro _ | apply keeps_intChanged | apply keeps_msixSend | apply keeps_wr | split
    | dsimp only

theorem keeps_enableFollow {a1 a2 a3 a4} (h1 : Stores a1) (_h2 : Stores a2) :
    Stores (State.enableFollow a1 a2 a3 a4) := by
  unfold State.enableFollow
  with_reducible repeat'
    first
    | assumption | intro _ | refine stores_foldl ?_ fun _ _ => ?_ | refine pairStores_foldl ?_ fun _ _ => ?_
    | apply keeps_goTo | apply keeps_traceRefresh | split | simp only [stores_mk]

theorem keeps_freeze {a1 a2 a3} (h1 : Stores a1) : Stores (State.freeze a1 a2 a3) := by
  unfold State.freeze
  with_reducible repeat'
    first
    | assumption | intro _ | refine stores_foldl ?_ fun _ _ => ?_ | refine pairStores_foldl ?_ fun _ _ => ?_
    | apply keeps_view | refine pair2 (by assumption) (keeps_view ?_) | split | simp only [stores_mk]

theorem keeps_unfreeze {a1 a2 a3} (h1 : Stores a1) : Stores (State.unfreeze a1 a2 a3) := by
  unfold State.unfreeze
  with_reducible repeat'
    first
    | assumption | intro _ | split | simp only [stores_mk]

theorem keeps_freezeWrite {a1 a2 a3 a4} (h1 : Stores a1) : Stores (State.freezeWrite a1 a2 a3 a4) := by
  unfold State.freezeWrite
  with_reducible repeat'
    first
    | assumption | intro _ | apply keeps_freeze | apply keeps_unfreeze | apply keeps_wr | split
    | simp only [stores_mk]

theorem keeps_softDrop {a1 a2 a3} (h1 : Stores a1) : Stores (State.softDrop a1 a2 a3) := by
  unfold State.softDrop
  with_reducible repeat'
    first
    | assumption | intro _ | apply keeps_clearPage | split | simp only [stores_mk]

theorem keeps_tapFault {a1 a2 a3 a4 a5} (h1 : Stores a1) : Stores (State.tapFault a1 a2 a3 a4 a5) := by
  unfold State.tapFault
  with_reducible repeat'
    first
    | assumption | intro _ | apply keeps_chanFault | split | simp only [stores_mk]

theorem keeps_unchecked {a1 a2 a3 a4 a5 a6 a7} (h1 : Stores a1) : Stores (State.unchecked a1 a2 a3 a4 a5 a6 a7) := by
  unfold State.unchecked
  with_reducible repeat'
    first
    | assumption | intro _ | apply keeps_emit | apply keeps_event | apply keeps_inc | apply keeps_int
    | apply keeps_wr | split | simp only [stores_mk]

theorem keeps_setWatch {a1 a2 a3} (h1 : Stores a1) : Stores (State.setWatch a1 a2 a3) := by
  unfold State.setWatch
  with_reducible repeat'
    first
    | assumption | intro _ | split | simp only [stores_mk]

theorem keeps_setStep {a1 a2 a3} (h1 : Stores a1) : Stores (State.setStep a1 a2 a3) := by
  unfold State.setStep
  with_reducible repeat'
    first
    | assumption | intro _ | apply keeps_setWatch | split | simp only [stores_mk]

theorem keeps_watchBreach {a1 a2 a3 a4 a5} (h1 : Stores a1) : Stores (State.watchBreach a1 a2 a3 a4 a5) := by
  unfold State.watchBreach
  with_reducible repeat'
    first
    | assumption | intro _ | apply keeps_setStep | split | simp only [stores_mk]

theorem keeps_breach {a1 a2 a3 a4 a5} (h1 : Stores a1) : Stores (State.breach a1 a2 a3 a4 a5) := by
  unfold State.breach
  with_reducible repeat'
    first
    | assumption | intro _ | apply keeps_tapFault | apply keeps_unchecked | apply keeps_watchBreach | split
    | simp only [stores_mk]

theorem keeps_setTiles {a1 a2 a3 a4} (h1 : Stores a1) : Stores (State.setTiles a1 a2 a3 a4) := by
  unfold State.setTiles
  with_reducible repeat'
    first
    | assumption | intro _ | split | simp only [stores_mk]

theorem keeps_endTiles {a1 a2} (h1 : Stores a1) : Stores (State.endTiles a1 a2) := by
  unfold State.endTiles
  with_reducible repeat'
    first
    | assumption | intro _ | refine stores_foldl ?_ fun _ _ => ?_ | refine pairStores_foldl ?_ fun _ _ => ?_
    | apply keeps_breach | apply keeps_setTiles | split | simp only [stores_mk]

theorem keeps_summarise {a1 a2 a3} (h1 : Stores a1) : Stores (State.summarise a1 a2 a3) := by
  unfold State.summarise
  with_reducible repeat'
    first
    | assumption | intro _ | apply keeps_event | apply keeps_int | apply keeps_wr | split | simp only [stores_mk]

theorem keeps_summariseAll {a1 a2} (h1 : Stores a1) : Stores (State.summariseAll a1 a2) := by
  unfold State.summariseAll
  with_reducible repeat'
    first
    | assumption | intro _ | refine stores_foldl ?_ fun _ _ => ?_ | refine pairStores_foldl ?_ fun _ _ => ?_
    | apply keeps_summarise | split | simp only [stores_mk]

theorem keeps_softFirst {a1 a2 a3} (h1 : Stores a1) : Stores (State.softFirst a1 a2 a3) := by
  unfold State.softFirst
  with_reducible repeat'
    first
    | assumption | intro _ | refine stores_foldl ?_ fun _ _ => ?_ | refine pairStores_foldl ?_ fun _ _ => ?_
    | apply keeps_endTiles | apply keeps_grantOff | apply keeps_prismDisarmAll | apply keeps_summariseAll | split
    | simp only [stores_mk]

theorem keeps_softLast {a1 a2 a3} (h1 : Stores a1) : Stores (State.softLast a1 a2 a3) := by
  unfold State.softLast
  with_reducible repeat'
    first
    | assumption | intro _ | refine stores_foldl ?_ fun _ _ => ?_ | refine pairStores_foldl ?_ fun _ _ => ?_
    | apply keeps_retireActions | apply keeps_timeKept | apply keeps_wr | split | simp only [stores_mk]

theorem keeps_softReset {a1 a2 a3 a4} (h1 : Stores a1) : Stores (State.softReset a1 a2 a3 a4) := by
  unfold State.softReset
  with_reducible repeat'
    first
    | assumption | intro _ | apply keeps_clearPage | apply keeps_freezeWrite | apply keeps_intChanged
    | apply keeps_lockedErr | apply keeps_putBack | apply keeps_softDrop | apply keeps_softFirst
    | apply keeps_softLast | apply keeps_wr | split | simp only [stores_mk]

theorem keeps_writeCtrl {a1 a2 a3 a4 a5} (h1 : Stores a1) : Stores (State.writeCtrl a1 a2 a3 a4 a5) := by
  unfold State.writeCtrl
  with_reducible repeat'
    first
    | assumption | intro _ | apply keeps_enableFollow | apply keeps_freezeWrite | apply keeps_lockedErr
    | apply keeps_softReset | apply keeps_wr | split | simp only [stores_mk]

theorem keeps_writeHeader {a1 a2 a3 a4 a5 a6} (h1 : Stores a1) : Stores (State.writeHeader a1 a2 a3 a4 a5 a6) := by
  unfold State.writeHeader
  with_reducible repeat'
    first
    | assumption | intro _ | apply keeps_errClear | apply keeps_intChanged | apply keeps_intForce
    | apply keeps_intRawClear | apply keeps_lockedErr | apply keeps_wr | apply keeps_writeCtrl
    | apply keeps_writeFields | split | simp only [stores_mk]

theorem keeps_writeWord {a1 a2 a3 a4 a5 a6 a7} (h1 : Stores a1) :
    Stores (State.writeWord a1 a2 a3 a4 a5 a6 a7).1 := by
  unfold State.writeWord
  with_reducible repeat'
    first
    | assumption | intro _ | apply keeps_commit | apply keeps_dropLow | apply keeps_pageErr | apply keeps_wr
    | apply keeps_writeBody | refine pair1 (by assumption) (keeps_writeBody ?_) | apply keeps_writeHeader | split
    | simp only [stores_mk]

theorem keeps_writeTwo {a1 a2 a3 a4 a5 a6 a7} (h1 : Stores a1) : Stores (State.writeTwo a1 a2 a3 a4 a5 a6 a7).1 := by
  unfold State.writeTwo
  with_reducible repeat'
    first
    | assumption | intro _ | apply keeps_writeWord | refine pair1 (by assumption) (keeps_writeWord ?_) | split
    | simp only [stores_mk]

theorem keeps_accessPage {a1 a2 a3 a4 a5 a6 a7 a8 a9} (h1 : Stores a1) :
    Stores (State.accessPage a1 a2 a3 a4 a5 a6 a7 a8 a9).state := by
  unfold State.accessPage
  with_reducible repeat'
    first
    | assumption | intro _ | apply keeps_lost | apply keeps_readTwo
    | refine pair2 (by assumption) (keeps_readTwo ?_) | apply keeps_readWord
    | refine pair2 (by assumption) (keeps_readWord ?_) | apply keeps_wakeFor | apply keeps_writeTwo
    | refine pair1 (by assumption) (keeps_writeTwo ?_) | apply keeps_writeWord
    | refine pair1 (by assumption) (keeps_writeWord ?_) | split | simp only [stores_mk]

theorem keeps_accessBar0 {a1 a2 a3 a4 a5} (h1 : Stores a1) :
    ∀ r, State.accessBar0 a1 a2 a3 a4 a5 = some r → Stores r.state := by
  intro r hr
  rw [State.accessBar0] at hr
  by_cases c1 : a2 < 0x3000
  · rw [if_pos c1] at hr
    cases hp : pageAt .pkg (a2 / 4096) with
    | some b => rw [hp] at hr; obtain rfl := Option.some.inj hr; exact keeps_accessPage h1
    | none => rw [hp] at hr; obtain rfl := Option.some.inj hr; exact keeps_lost h1
  · rw [if_neg c1] at hr
    by_cases c2 : (0xF0000 ≤ a2 && a2 < 0xF2000) = true
    · rw [if_pos c2] at hr; obtain rfl := Option.some.inj hr; exact keeps_accessMsix h1
    · rw [if_neg c2] at hr
      by_cases c3 : a2 < 0x1000000
      · rw [if_pos c3] at hr; obtain rfl := Option.some.inj hr; exact keeps_lost h1
      · rw [if_neg c3] at hr
        generalize (a2 - 0x1000000) / 0x400000 = d at hr
        generalize (a2 - 0x1000000) % 0x400000 = off at hr
        generalize a2 % 4194304 = e at hr
        dsimp only at hr
        split at hr
        · obtain rfl := Option.some.inj hr; exact keeps_lost h1
        · split at hr
          · split at hr
            · obtain rfl := Option.some.inj hr; exact keeps_accessPage (keeps_cross h1)
            · obtain rfl := Option.some.inj hr; exact keeps_lost (keeps_cross h1)
          · cases hr

theorem keeps_accessIkb {a1 a2 a3 a4 a5 a6 a7 a8} (h1 : Stores a1) :
    Stores (State.accessIkb a1 a2 a3 a4 a5 a6 a7 a8).state := by
  unfold State.accessIkb
  with_reducible repeat'
    first
    | assumption | intro _ | apply keeps_accessAperture | apply keeps_accessPage | apply keeps_lost | split
    | dsimp only

theorem keeps_coreZero {a1 a2 a3} (h1 : Stores a1) : Stores (State.coreZero a1 a2 a3) := by
  unfold State.coreZero
  with_reducible repeat'
    first
    | assumption | intro _ | apply keeps_wr | split | dsimp only

theorem keeps_govExit {a1 a2} (h1 : Stores a1) : Stores (State.govExit a1 a2) := by
  unfold State.govExit
  with_reducible repeat'
    first
    | assumption | intro _ | apply keeps_advance | apply keeps_exhaust | apply keeps_goTo | apply keeps_govBreak
    | apply keeps_setChange | apply keeps_wr | split | dsimp only

theorem keeps_ikbMidnight {a1 a2} (h1 : Stores a1) : Stores (State.ikbMidnight a1 a2) := by
  unfold State.ikbMidnight
  with_reducible repeat'
    first
    | assumption | intro _ | refine stores_foldl ?_ fun _ _ => ?_ | refine pairStores_foldl ?_ fun _ _ => ?_
    | apply keeps_endTiles | apply keeps_wr | split | simp only [stores_mk]

theorem keeps_modeCores {a1 a2 a3} (h1 : Stores a1) : Stores (State.modeCores a1 a2 a3) := by
  unfold State.modeCores
  with_reducible repeat'
    first
    | assumption | intro _ | refine stores_foldl ?_ fun _ _ => ?_ | refine pairStores_foldl ?_ fun _ _ => ?_
    | apply keeps_coreStop | apply keeps_wr | split | dsimp only

theorem keeps_wakeAll {a1 a2} (h1 : Stores a1) : Stores (State.wakeAll a1 a2) := by
  unfold State.wakeAll
  with_reducible repeat'
    first
    | assumption | intro _ | apply keeps_wr | split | simp only [stores_mk]

theorem keeps_enterIkb {a1 a2 a3} (h1 : Stores a1) : Stores (State.enterIkb a1 a2 a3) := by
  unfold State.enterIkb
  with_reducible repeat'
    first
    | assumption | intro _ | refine stores_foldl ?_ fun _ _ => ?_ | refine pairStores_foldl ?_ fun _ _ => ?_
    | apply keeps_coreZero | apply keeps_govExit | apply keeps_ikbMidnight | apply keeps_modeCores
    | apply keeps_planWidth | apply keeps_targetFollow | apply keeps_traceRefresh | apply keeps_wakeAll
    | apply keeps_wr | split | dsimp only

theorem keeps_changeStopped {a1 a2 a3} (h1 : Stores a1) : Stores (State.changeStopped a1 a2 a3) := by
  unfold State.changeStopped
  with_reducible repeat'
    first
    | assumption | intro _ | apply keeps_govBreak | apply keeps_setChange | split | simp only [stores_mk]

theorem keeps_govStep {a1 a2 a3} (h1 : Stores a1) : Stores (State.govStep a1 a2 a3) := by
  unfold State.govStep
  with_reducible repeat'
    first
    | assumption | intro _ | apply keeps_advance | apply keeps_changeStopped | apply keeps_goTo
    | apply keeps_govBreak | apply keeps_setChange | apply keeps_wr | split | dsimp only

theorem keeps_copyFields {a1 a2 a3 a4 a5} (h1 : Stores a1) : Stores (State.copyFields a1 a2 a3 a4 a5) := by
  unfold State.copyFields
  with_reducible repeat'
    first
    | assumption | intro _ | refine stores_foldl ?_ fun _ _ => ?_ | refine pairStores_foldl ?_ fun _ _ => ?_ | split
    | simp only [stores_mk]

theorem keeps_sendSnap {a1 a2 a3 a4 a5} (h1 : Stores a1) : Stores (State.sendSnap a1 a2 a3 a4 a5) := by
  unfold State.sendSnap
  with_reducible repeat'
    first
    | assumption | intro _ | apply keeps_sendUp | split | simp only [stores_mk]

theorem keeps_showCap {a1 a2 a3} (h1 : Stores a1) : Stores (State.showCap a1 a2 a3) := by
  unfold State.showCap
  with_reducible repeat'
    first
    | assumption | intro _ | apply keeps_wr | split | simp only [stores_mk]

theorem keeps_capture {a1 a2 a3 a4 a5 a6 a7 a8} (h1 : Stores a1) :
    Stores (State.capture a1 a2 a3 a4 a5 a6 a7 a8) := by
  unfold State.capture
  with_reducible repeat'
    first
    | assumption | intro _ | apply keeps_copyFields | apply keeps_inc | apply keeps_int | apply keeps_pageErr
    | apply keeps_sendSnap | apply keeps_showCap | apply keeps_wr | split | simp only [stores_mk]

theorem keeps_mark {a1 a2 a3 a4 a5} (h1 : Stores a1) : Stores (State.mark a1 a2 a3 a4 a5) := by
  unfold State.mark
  with_reducible repeat'
    first
    | assumption | intro _ | apply keeps_capture | apply keeps_wr | split | simp only [stores_mk]

theorem keeps_setClosed {a1 a2 a3} (h1 : Stores a1) : Stores (State.setClosed a1 a2 a3) := by
  unfold State.setClosed
  with_reducible repeat'
    first
    | assumption | intro _ | split | simp only [stores_mk]

theorem keeps_setOpen {a1 a2 a3} (h1 : Stores a1) : Stores (State.setOpen a1 a2 a3) := by
  unfold State.setOpen
  with_reducible repeat'
    first
    | assumption | intro _ | split | simp only [stores_mk]

theorem keeps_closeBatches {a1 a2 a3} (h1 : Stores a1) : Stores (State.closeBatches a1 a2 a3) := by
  unfold State.closeBatches
  with_reducible repeat'
    first
    | assumption | intro _ | apply keeps_setClosed | apply keeps_setOpen | split | simp only [stores_mk]

theorem keeps_modelSwap {a1 a2 a3 a4 a5} (h1 : Stores a1) : Stores (State.modelSwap a1 a2 a3 a4 a5) := by
  unfold State.modelSwap
  with_reducible repeat'
    first
    | assumption | intro _ | apply keeps_closeBatches | apply keeps_event | apply keeps_int | apply keeps_lensFollow
    | apply keeps_setLslot | split | dsimp only

theorem keeps_windowEvent {a1 a2 a3 a4} (h1 : Stores a1) : Stores (State.windowEvent a1 a2 a3 a4) := by
  unfold State.windowEvent
  with_reducible repeat'
    first
    | assumption | intro _ | apply keeps_event | split | simp only [stores_mk]

theorem keeps_prismLaunch {a1 a2 a3} (h1 : Stores a1) : Stores (State.prismLaunch a1 a2 a3) := by
  unfold State.prismLaunch
  with_reducible repeat'
    first
    | assumption | intro _ | refine stores_foldl ?_ fun _ _ => ?_ | refine pairStores_foldl ?_ fun _ _ => ?_
    | apply keeps_windowEvent | apply keeps_wr | split | dsimp only

theorem keeps_pulsePin {a1 a2 a3 a4} (h1 : Stores a1) : Stores (State.pulsePin a1 a2 a3 a4) := by
  unfold State.pulsePin
  with_reducible repeat'
    first
    | assumption | intro _ | apply keeps_emit | split | simp only [stores_mk]

theorem keeps_pulse {a1 a2 a3} (h1 : Stores a1) : Stores (State.pulse a1 a2 a3) := by
  unfold State.pulse
  with_reducible repeat'
    first
    | assumption | intro _ | apply keeps_pulsePin | apply keeps_wr | split | simp only [stores_mk]

theorem keeps_swapCodec {a1 a2 a3} (h1 : Stores a1) : Stores (State.swapCodec a1 a2 a3) := by
  unfold State.swapCodec
  with_reducible repeat'
    first
    | assumption | intro _ | refine stores_foldl ?_ fun _ _ => ?_ | refine pairStores_foldl ?_ fun _ _ => ?_
    | apply keeps_dramStore | apply keeps_int | apply keeps_pageErr | apply keeps_wr | split | dsimp only

theorem keeps_swapCtxSeed {a1 a2} (h1 : Stores a1) : Stores (State.swapCtxSeed a1 a2) := by
  unfold State.swapCtxSeed
  with_reducible repeat'
    first
    | assumption | intro _ | refine stores_foldl ?_ fun _ _ => ?_ | refine pairStores_foldl ?_ fun _ _ => ?_
    | apply keeps_int | apply keeps_moveCtx | apply keeps_wr | split | dsimp only

theorem keeps_swapDramSeed {a1 a2 a3} (h1 : Stores a1) : Stores (State.swapDramSeed a1 a2 a3) := by
  unfold State.swapDramSeed
  with_reducible repeat'
    first
    | assumption | intro _ | refine stores_foldl ?_ fun _ _ => ?_ | refine pairStores_foldl ?_ fun _ _ => ?_
    | apply keeps_event | apply keeps_int | apply keeps_pageErr | apply keeps_wr | split | dsimp only

theorem keeps_clearPort {a1 a2 a3} (h1 : Stores a1) : Stores (State.clearPort a1 a2 a3) := by
  unfold State.clearPort
  with_reducible repeat'
    first
    | assumption | intro _ | refine stores_foldl ?_ fun _ _ => ?_ | refine pairStores_foldl ?_ fun _ _ => ?_
    | apply keeps_freeCells | apply keeps_inc | apply keeps_setQueue | apply keeps_wr | split
    | simp only [stores_mk]

theorem keeps_swapPort {a1 a2} (h1 : Stores a1) : Stores (State.swapPort a1 a2) := by
  unfold State.swapPort
  with_reducible repeat'
    first
    | assumption | intro _ | apply keeps_clearPort | apply keeps_setUsable | apply keeps_wr | split
    | dsimp only

theorem keeps_enterXlat {a1 a2 a3} (h1 : Stores a1) : Stores (State.enterXlat a1 a2 a3) := by
  unfold State.enterXlat
  with_reducible repeat'
    first
    | assumption | intro _ | apply keeps_storeEntry | split | simp only [stores_mk]

theorem keeps_enterJob {a1 a2 a3} (h1 : Stores a1) : Stores (State.enterJob a1 a2 a3) := by
  unfold State.enterJob
  with_reducible repeat'
    first
    | assumption | intro _ | refine stores_foldl ?_ fun _ _ => ?_ | refine pairStores_foldl ?_ fun _ _ => ?_
    | apply keeps_enterXlat | apply keeps_leaveXlat | split | simp only [stores_mk]

theorem keeps_swapRoute {a1} (h1 : Stores a1) : Stores (State.swapRoute a1) := by
  unfold State.swapRoute
  with_reducible repeat'
    first
    | assumption | intro _ | refine stores_foldl ?_ fun _ _ => ?_ | refine pairStores_foldl ?_ fun _ _ => ?_
    | apply keeps_enterJob | apply keeps_enterXlat | apply keeps_jobFollow | apply keeps_leaveJob
    | apply keeps_leaveXlat | apply keeps_stagedCount | apply keeps_wr | split | simp only [stores_mk]

theorem keeps_act {a1 a2 a3 a4 a5 a6 a7} (h1 : Stores a1) : Stores (State.act a1 a2 a3 a4 a5 a6 a7) := by
  unfold State.act
  with_reducible repeat'
    first
    | assumption | intro _ | apply keeps_abftCheck | apply keeps_enterIkb | apply keeps_govStep | apply keeps_ifOn
    | apply keeps_mark | apply keeps_modelSwap | apply keeps_prismLaunch | apply keeps_pulse | apply keeps_swapCodec
    | apply keeps_swapCtxSeed | apply keeps_swapDramSeed | apply keeps_swapPort | apply keeps_swapRoute | split
    | simp only [stores_mk]

theorem keeps_setInst {a1 a2} (h1 : Stores a1) : Stores (State.setInst a1 a2) := by
  unfold State.setInst
  with_reducible repeat'
    first
    | assumption | intro _ | apply keeps_slotCounts | split | simp only [stores_mk]

theorem keeps_tellChildren {a1 a2 a3} (h1 : Stores a1) : Stores (State.tellChildren a1 a2 a3) := by
  unfold State.tellChildren
  with_reducible repeat'
    first
    | assumption | intro _ | refine stores_foldl ?_ fun _ _ => ?_ | refine pairStores_foldl ?_ fun _ _ => ?_
    | apply keeps_torusSend | split | simp only [stores_mk]

theorem keeps_checkLaunch {a1 a2} (h1 : Stores a1) : Stores (State.checkLaunch a1 a2) := by
  unfold State.checkLaunch
  with_reducible repeat'
    first
    | assumption | intro _ | refine stores_foldl ?_ fun _ _ => ?_ | refine pairStores_foldl ?_ fun _ _ => ?_
    | apply keeps_free | refine pair2 (by assumption) (keeps_free ?_) | apply keeps_placeIkb
    | refine pair1 (by assumption) (keeps_placeIkb ?_) | apply keeps_tellChildren | split | simp only [stores_mk]

theorem keeps_dissentNotice {a1 a2 a3 a4 a5} (h1 : Stores a1) : Stores (State.dissentNotice a1 a2 a3 a4 a5) := by
  unfold State.dissentNotice
  with_reducible repeat'
    first
    | assumption | intro _ | apply keeps_notice | split | simp only [stores_mk]

theorem keeps_setJob {a1 a2} (h1 : Stores a1) : Stores (State.setJob a1 a2) := by
  unfold State.setJob
  with_reducible repeat'
    first
    | assumption | intro _ | split | simp only [stores_mk]

theorem keeps_launchPoint {a1 a2 a3 a4} (h1 : Stores a1) : Stores (State.launchPoint a1 a2 a3 a4) := by
  unfold State.launchPoint
  with_reducible repeat'
    first
    | assumption | intro _ | refine stores_foldl ?_ fun _ _ => ?_ | refine pairStores_foldl ?_ fun _ _ => ?_
    | apply keeps_placePoint | apply keeps_setJob | apply keeps_tellChildren | split | simp only [stores_mk]

theorem keeps_epochResult {a1 a2 a3 a4 a5} (h1 : Stores a1) : Stores (State.epochResult a1 a2 a3 a4 a5) := by
  unfold State.epochResult
  with_reducible repeat'
    first
    | assumption | intro _ | refine stores_foldl ?_ fun _ _ => ?_ | refine pairStores_foldl ?_ fun _ _ => ?_
    | apply keeps_launchPoint | apply keeps_setJob | split | dsimp only

theorem keeps_dissentHere {a1 a2 a3 a4 a5} (h1 : Stores a1) : Stores (State.dissentHere a1 a2 a3 a4 a5) := by
  unfold State.dissentHere
  with_reducible repeat'
    first
    | assumption | intro _ | refine stores_foldl ?_ fun _ _ => ?_ | refine pairStores_foldl ?_ fun _ _ => ?_
    | apply keeps_event | split | simp only [stores_mk]

theorem keeps_resultMeans {a1 a2 a3 a4 a5 a6 a7 a8 a9 a10} (h1 : Stores a1) :
    Stores (State.resultMeans a1 a2 a3 a4 a5 a6 a7 a8 a9 a10) := by
  unfold State.resultMeans
  with_reducible repeat'
    first
    | assumption | intro _ | apply keeps_dissentHere | split | simp only [stores_mk]

theorem keeps_ringRecord {a1 a2 a3 a4 a5} (h1 : Stores a1) : Stores (State.ringRecord a1 a2 a3 a4 a5) := by
  unfold State.ringRecord
  with_reducible repeat'
    first
    | assumption | intro _ | apply keeps_dramStore | apply keeps_inc | apply keeps_int | apply keeps_wr | split
    | dsimp only

theorem keeps_sendDownTree {a1 a2 a3 a4 a5 a6} (h1 : Stores a1) : Stores (State.sendDownTree a1 a2 a3 a4 a5 a6) := by
  unfold State.sendDownTree
  with_reducible repeat'
    first
    | assumption | intro _ | refine stores_foldl ?_ fun _ _ => ?_ | refine pairStores_foldl ?_ fun _ _ => ?_
    | apply keeps_torusSend | split | simp only [stores_mk]

theorem keeps_finaliseInst {a1 a2} (h1 : Stores a1) : Stores (State.finaliseInst a1 a2) := by
  unfold State.finaliseInst
  with_reducible repeat'
    first
    | assumption | intro _ | refine stores_foldl ?_ fun _ _ => ?_ | refine pairStores_foldl ?_ fun _ _ => ?_
    | apply keeps_checkLaunch | apply keeps_dissentNotice | apply keeps_epochResult | apply keeps_inc
    | apply keeps_int | apply keeps_originate | apply keeps_resultMeans | apply keeps_ringRecord
    | apply keeps_sendDownTree | apply keeps_setInst | split | dsimp only

theorem keeps_forwardInst {a1 a2} (h1 : Stores a1) : Stores (State.forwardInst a1 a2) := by
  unfold State.forwardInst
  with_reducible repeat'
    first
    | assumption | intro _ | refine stores_foldl ?_ fun _ _ => ?_ | refine pairStores_foldl ?_ fun _ _ => ?_
    | apply keeps_inc | apply keeps_setInst | apply keeps_torusSend | split | simp only [stores_mk]

theorem keeps_settleInst {a1 a2} (h1 : Stores a1) : Stores (State.settleInst a1 a2) := by
  unfold State.settleInst
  with_reducible repeat'
    first
    | assumption | intro _ | apply keeps_finaliseInst | apply keeps_forwardInst | split | simp only [stores_mk]

theorem keeps_addRank {a1 a2 a3 a4 a5} (h1 : Stores a1) : Stores (State.addRank a1 a2 a3 a4 a5) := by
  unfold State.addRank
  with_reducible repeat'
    first
    | assumption | intro _ | apply keeps_inc | apply keeps_setInst | apply keeps_settleInst | split
    | simp only [stores_mk]

theorem keeps_alarmFrame {a1 a2} (h1 : Stores a1) : Stores (State.alarmFrame a1 a2) := by
  unfold State.alarmFrame
  with_reducible repeat'
    first
    | assumption | intro _ | apply keeps_barSend | split | simp only [stores_mk]

theorem keeps_alarmState {a1 a2 a3 a4} (h1 : Stores a1) : Stores (State.alarmState a1 a2 a3 a4) := by
  unfold State.alarmState
  with_reducible repeat'
    first
    | assumption | intro _ | apply keeps_alarmFrame | apply keeps_fieldEvent | apply keeps_setAlarm | split
    | simp only [stores_mk]

theorem keeps_alarmSample {a1 a2 a3} (h1 : Stores a1) : Stores (State.alarmSample a1 a2 a3) := by
  unfold State.alarmSample
  with_reducible repeat'
    first
    | assumption | intro _ | apply keeps_alarmState | apply keeps_inc | apply keeps_setAlarm | split
    | dsimp only

theorem keeps_alarmStuck {a1 a2} (h1 : Stores a1) : Stores (State.alarmStuck a1 a2) := by
  unfold State.alarmStuck
  with_reducible repeat'
    first
    | assumption | intro _ | apply keeps_fieldEvent | apply keeps_setAlarm | split | dsimp only

theorem keeps_arriveKey {a1 a2 a3 a4 a5 a6 a7 a8 a9} (h1 : Stores a1) :
    Stores (State.arriveKey a1 a2 a3 a4 a5 a6 a7 a8 a9).1 := by
  unfold State.arriveKey
  with_reducible repeat'
    first
    | assumption | intro _ | apply keeps_acceptFrame | refine pair1 (by assumption) (keeps_acceptFrame ?_)
    | apply keeps_inc | split | simp only [stores_mk]

theorem keeps_noteRecent {a1 a2 a3 a4} (h1 : Stores a1) : Stores (State.noteRecent a1 a2 a3 a4) := by
  unfold State.noteRecent
  with_reducible repeat'
    first
    | assumption | intro _ | split | simp only [stores_mk]

theorem keeps_portColour {a1 a2 a3 a4} (h1 : Stores a1) : Stores (State.portColour a1 a2 a3 a4).2 := by
  unfold State.portColour
  with_reducible repeat'
    first
    | assumption | intro _ | apply keeps_inc | apply keeps_wr | split | dsimp only

theorem keeps_arriveLtl {a1 a2 a3 a4 a5} (h1 : Stores a1) : Stores (State.arriveLtl a1 a2 a3 a4 a5).1 := by
  unfold State.arriveLtl
  with_reducible repeat'
    first
    | assumption | intro _ | apply keeps_arriveKey | refine pair1 (by assumption) (keeps_arriveKey ?_)
    | apply keeps_noteRecent | apply keeps_portColour | refine pair2 (by assumption) (keeps_portColour ?_) | split
    | simp only [stores_mk]

theorem keeps_pcieError {a1 a2} (h1 : Stores a1) : Stores (State.pcieError a1 a2) := by
  unfold State.pcieError
  with_reducible repeat'
    first
    | assumption | intro _ | apply keeps_answer | split | simp only [stores_mk]

theorem keeps_bar2 {a1 a2 a3 a4 a5 a6} (h1 : Stores a1) : Stores (State.bar2 a1 a2 a3 a4 a5 a6) := by
  unfold State.bar2
  with_reducible repeat'
    first
    | assumption | intro _ | refine stores_foldl ?_ fun _ _ => ?_ | refine pairStores_foldl ?_ fun _ _ => ?_
    | apply keeps_addrErr | apply keeps_cross | apply keeps_dramStore | apply keeps_emit | apply keeps_inc
    | apply keeps_pcieError | apply keeps_respond | apply keeps_unpoison | split | dsimp only

theorem keeps_busStopAll {a1} (h1 : Stores a1) : Stores (State.busStopAll a1) := by
  unfold State.busStopAll
  with_reducible repeat'
    first
    | assumption | intro _ | refine stores_foldl ?_ fun _ _ => ?_ | refine pairStores_foldl ?_ fun _ _ => ?_
    | apply keeps_wr | split | simp only [stores_mk]

theorem keeps_barAlarms {a1 a2} (h1 : Stores a1) : Stores (State.barAlarms a1 a2) := by
  unfold State.barAlarms
  with_reducible repeat'
    first
    | assumption | intro _ | apply keeps_busStopAll | apply keeps_eventRec | apply keeps_int | apply keeps_lastGasp
    | apply keeps_warmStart | apply keeps_wr | split | dsimp only

theorem keeps_batchPoison {a1 a2 a3} (h1 : Stores a1) : Stores (State.batchPoison a1 a2 a3) := by
  unfold State.batchPoison
  with_reducible repeat'
    first
    | assumption | intro _ | apply keeps_closeBatches | apply keeps_event | apply keeps_inc | apply keeps_int
    | apply keeps_lensFollow | apply keeps_setClosed | apply keeps_setLslot | split | simp only [stores_mk]

theorem keeps_bbxNext {a1} (h1 : Stores a1) : Stores (State.bbxNext a1).2 := by
  unfold State.bbxNext
  with_reducible repeat'
    first
    | assumption | intro _ | apply keeps_norErase | apply keeps_wr | split | simp only [stores_mk]

theorem keeps_bbxAdvance {a1} (h1 : Stores a1) : Stores (State.bbxAdvance a1) := by
  unfold State.bbxAdvance
  with_reducible repeat'
    first
    | assumption | intro _ | apply keeps_bbxNext | refine pair2 (by assumption) (keeps_bbxNext ?_) | apply keeps_wr
    | split | dsimp only

theorem keeps_sendAck {a1 a2 a3 a4} (h1 : Stores a1) : Stores (State.sendAck a1 a2 a3 a4) := by
  unfold State.sendAck
  with_reducible repeat'
    first
    | assumption | intro _ | apply keeps_sendBack | split | simp only [stores_mk]

theorem keeps_bcastIn {a1 a2 a3 a4 a5 a6 a7} (h1 : Stores a1) : Stores (State.bcastIn a1 a2 a3 a4 a5 a6 a7) := by
  unfold State.bcastIn
  with_reducible repeat'
    first
    | assumption | intro _ | apply keeps_bcastCheck | apply keeps_openBcast | apply keeps_sendAck | split
    | simp only [stores_mk]

theorem keeps_bcastOn {a1 a2} (h1 : Stores a1) (h2 : ∀ y0, Stores y0 → Stores (a2 y0)) :
    Stores (State.bcastOn a1 a2) := by
  unfold State.bcastOn
  with_reducible repeat'
    first
    | assumption | intro _ | apply h2 | split | simp only [stores_mk]

theorem keeps_startFailed {a1 a2 a3 a4} (h1 : Stores a1) : Stores (State.startFailed a1 a2 a3 a4) := by
  unfold State.startFailed
  with_reducible repeat'
    first
    | assumption | intro _ | apply keeps_event | apply keeps_int | apply keeps_wr | split | simp only [stores_mk]

theorem keeps_bootSource {a1 a2} (h1 : Stores a1) : Stores (State.bootSource a1 a2).2 := by
  unfold State.bootSource
  with_reducible repeat'
    first
    | assumption | intro _ | apply keeps_event | apply keeps_norErase | apply keeps_setMbox
    | apply keeps_startFailed | apply keeps_wr | split | dsimp only
  all_goals refine stores_parts.2 ⟨?_, ?_, ?_⟩
  all_goals simp only []
  all_goals
    with_reducible repeat'
      first
      | assumption | intro _ | apply memWriteList_wf | apply memWrite_wf | apply dropRange_wf | apply dram_wf
      | apply nor_wf | apply mram_wf | exact memNil_wf | apply keeps_event | apply keeps_norErase
      | apply keeps_setMbox | apply keeps_startFailed | apply keeps_wr | split | simp only [stores_mk]

theorem keeps_busLowAt {a1 a2} (h1 : Stores a1) : Stores (State.busLowAt a1 a2) := by
  unfold State.busLowAt
  with_reducible repeat'
    first
    | assumption | intro _ | apply keeps_alarmFrame | apply keeps_fieldEvent | split | simp only [stores_mk]

theorem keeps_busRestored {a1 a2} (h1 : Stores a1) : Stores (State.busRestored a1 a2) := by
  unfold State.busRestored
  with_reducible repeat'
    first
    | assumption | intro _ | apply keeps_alarmFrame | apply keeps_fieldEvent | split | simp only [stores_mk]

theorem keeps_capture17 {a1 a2} (h1 : Stores a1) : Stores (State.capture17 a1 a2) := by
  unfold State.capture17
  with_reducible repeat'
    first
    | assumption | intro _ | split | dsimp only
  all_goals refine stores_parts.2 ⟨?_, ?_, ?_⟩
  all_goals simp only []
  all_goals
    with_reducible repeat'
      first
      | assumption | intro _ | apply memWriteList_wf | apply memWrite_wf | apply dropRange_wf | apply dram_wf
      | apply nor_wf | apply mram_wf | exact memNil_wf | split | simp only [stores_mk]

theorem keeps_cfgApply {a1 a2 a3} (h1 : Stores a1) : Stores (State.cfgApply a1 a2 a3) := by
  unfold State.cfgApply
  with_reducible repeat'
    first
    | assumption | intro _ | apply keeps_alarmState | apply keeps_barSend | apply keeps_setAlarm | split
    | simp only [stores_mk]

theorem keeps_clampPos {a1 a2} (h1 : Stores a1) : Stores (State.clampPos a1 a2).2 := by
  unfold State.clampPos
  with_reducible repeat'
    first
    | assumption | intro _ | apply keeps_free | refine pair2 (by assumption) (keeps_free ?_) | split
    | simp only [stores_mk]

theorem keeps_takeRow {a1 a2 a3} (h1 : Stores a1) : Stores (State.takeRow a1 a2 a3) := by
  unfold State.takeRow
  with_reducible repeat'
    first
    | assumption | intro _ | apply keeps_event | apply keeps_inc | apply keeps_setCtx | split
    | simp only [stores_mk]

theorem keeps_codecTake {a1 a2} (h1 : Stores a1) : Stores (State.codecTake a1 a2).1 := by
  unfold State.codecTake
  with_reducible repeat'
    first
    | assumption | intro _ | apply keeps_admitWaiting | apply keeps_setIngest | apply keeps_takeRow | split
    | simp only [stores_mk]

theorem keeps_complete {a1 a2 a3 a4 a5 a6} (h1 : Stores a1) : Stores (State.complete a1 a2 a3 a4 a5 a6) := by
  unfold State.complete
  with_reducible repeat'
    first
    | assumption | intro _ | apply keeps_dramStore | apply keeps_int | apply keeps_wr | split
    | simp only [stores_mk]

theorem keeps_openInst {a1 a2 a3 a4 a5 a6 a7} (h1 : Stores a1) : Stores (State.openInst a1 a2 a3 a4 a5 a6 a7).1 := by
  unfold State.openInst
  with_reducible repeat'
    first
    | assumption | intro _ | apply keeps_event | apply keeps_inc | apply keeps_int | apply keeps_setInst | split
    | dsimp only

theorem keeps_instFor {a1 a2 a3 a4 a5 a6 a7} (h1 : Stores a1) : Stores (State.instFor a1 a2 a3 a4 a5 a6 a7).1 := by
  unfold State.instFor
  with_reducible repeat'
    first
    | assumption | intro _ | apply keeps_openInst | refine pair1 (by assumption) (keeps_openInst ?_) | split
    | simp only [stores_mk]

theorem keeps_contribute {a1 a2 a3 a4 a5 a6 a7} (h1 : Stores a1) :
    Stores (State.contribute a1 a2 a3 a4 a5 a6 a7) := by
  unfold State.contribute
  with_reducible repeat'
    first
    | assumption | intro _ | refine stores_foldl ?_ fun _ _ => ?_ | refine pairStores_foldl ?_ fun _ _ => ?_
    | apply keeps_addRank | apply keeps_instFor | refine pair1 (by assumption) (keeps_instFor ?_) | split
    | simp only [stores_mk]

theorem keeps_countMissed {a1} (h1 : Stores a1) : Stores (State.countMissed a1) := by
  unfold State.countMissed
  with_reducible repeat'
    first
    | assumption | intro _ | refine stores_foldl ?_ fun _ _ => ?_ | refine pairStores_foldl ?_ fun _ _ => ?_
    | apply keeps_inc | apply keeps_wr | split | simp only [stores_mk]

theorem keeps_flushExport {a1 a2} (h1 : Stores a1) : Stores (State.flushExport a1 a2) := by
  unfold State.flushExport
  with_reducible repeat'
    first
    | assumption | intro _ | apply keeps_originate | split | simp only [stores_mk]

theorem keeps_export {a1 a2 a3} (h1 : Stores a1) : Stores (State.export a1 a2 a3) := by
  unfold State.export
  with_reducible repeat'
    first
    | assumption | intro _ | apply keeps_flushExport | split | simp only [stores_mk]

theorem keeps_report {a1 a2 a3 a4 a5} (h1 : Stores a1) : Stores (State.report a1 a2 a3 a4 a5) := by
  unfold State.report
  with_reducible repeat'
    first
    | assumption | intro _ | apply keeps_dramStore | apply keeps_export | apply keeps_inc | apply keeps_int
    | apply keeps_wr | split | dsimp only

theorem keeps_raise {a1 a2 a3 a4 a5 a6 a7} (h1 : Stores a1) : Stores (State.raise a1 a2 a3 a4 a5 a6 a7) := by
  unfold State.raise
  with_reducible repeat'
    first
    | assumption | intro _ | apply keeps_inc | apply keeps_int | apply keeps_report | apply keeps_setMetric | split
    | dsimp only

theorem keeps_cusumUpdate {a1 a2 a3 a4 a5 a6} (h1 : Stores a1) : Stores (State.cusumUpdate a1 a2 a3 a4 a5 a6) := by
  unfold State.cusumUpdate
  with_reducible repeat'
    first
    | assumption | intro _ | apply keeps_clampPos | refine pair2 (by assumption) (keeps_clampPos ?_)
    | apply keeps_raise | apply keeps_setMetric | split | dsimp only

theorem keeps_scramble {a1 a2 a3} (h3 : Stores a3) : Stores (State.scramble a1 a2 a3) := by
  revert h3
  fun_induction State.scramble <;> intros
  all_goals
    with_reducible repeat'
      first
      | assumption | apply_assumption | assumption | intro _ | apply keeps_dramStore1 | apply keeps_free
      | refine pair2 (by assumption) (keeps_free ?_) | split | simp only [stores_mk]

theorem keeps_scrambleAll {a1 a2 a3} (h1 : Stores a1) : Stores (State.scrambleAll a1 a2 a3) := by
  unfold State.scrambleAll
  with_reducible repeat'
    first
    | assumption | intro _ | refine stores_foldl ?_ fun _ _ => ?_ | refine pairStores_foldl ?_ fun _ _ => ?_
    | apply keeps_scramble | split | simp only [stores_mk]

theorem keeps_descrPoison {a1 a2 a3} (h1 : Stores a1) : Stores (State.descrPoison a1 a2 a3) := by
  unfold State.descrPoison
  with_reducible repeat'
    first
    | assumption | intro _ | apply keeps_complete | apply keeps_scrambleAll | split | simp only [stores_mk]

theorem keeps_scatter {a1 a2 a3 a4} (h4 : Stores a4) : Stores (State.scatter a1 a2 a3 a4).1 := by
  induction a2 generalizing a3 a4 with
  | nil => exact h4
  | cons e r ih =>
    obtain ⟨x, y⟩ := e
    unfold State.scatter
    with_reducible repeat'
      first
      | apply ih | assumption | intro _ | apply keeps_dramStore | split | simp only [stores_mk]

theorem keeps_output {a1 a2 a3 a4 a5 a6} (h1 : Stores a1) (h6 : ∀ y0, Stores y0 → Stores (a6 y0)) :
    Stores (State.output a1 a2 a3 a4 a5 a6) := by
  unfold State.output
  with_reducible repeat'
    first
    | assumption | intro _ | apply h6 | apply keeps_complete | apply keeps_inc | apply keeps_scatter
    | refine pair1 (by assumption) (keeps_scatter ?_) | apply keeps_scrambleAll | split | dsimp only

theorem keeps_writeRecord {a1 a2 a3 a4 a5 a6 a7 a8} (h1 : Stores a1) :
    Stores (State.writeRecord a1 a2 a3 a4 a5 a6 a7 a8) := by
  unfold State.writeRecord
  with_reducible repeat'
    first
    | assumption | intro _ | apply keeps_dramStore | split | simp only [stores_mk]

theorem keeps_decodeD {a1 a2 a3} (h1 : Stores a1) : Stores (State.decodeD a1 a2 a3) := by
  unfold State.decodeD
  with_reducible repeat'
    first
    | assumption | intro _ | apply keeps_complete | apply keeps_descrPoison | apply keeps_output
    | apply keeps_writeRecord | split | simp only [stores_mk]

theorem keeps_drift {a1 a2 a3 a4 a5} (h1 : Stores a1) : Stores (State.drift a1 a2 a3 a4 a5) := by
  unfold State.drift
  with_reducible repeat'
    first
    | assumption | intro _ | apply keeps_cusumUpdate | apply keeps_inc | apply keeps_raise | apply keeps_setMetric
    | split | dsimp only

theorem keeps_driftAll {a1 a2 a3 a4} (h1 : Stores a1) : Stores (State.driftAll a1 a2 a3 a4) := by
  unfold State.driftAll
  with_reducible repeat'
    first
    | assumption | intro _ | refine stores_foldl ?_ fun _ _ => ?_ | refine pairStores_foldl ?_ fun _ _ => ?_
    | apply keeps_drift | split | dsimp only

theorem keeps_lensReport {a1 a2 a3 a4 a5 a6 a7} (h1 : Stores a1) :
    Stores (State.lensReport a1 a2 a3 a4 a5 a6 a7) := by
  unfold State.lensReport
  with_reducible repeat'
    first
    | assumption | intro _ | apply keeps_inc | apply keeps_report | split | simp only [stores_mk]

theorem keeps_scoreRow {a1 a2 a3 a4 a5} (h1 : Stores a1) : Stores (State.scoreRow a1 a2 a3 a4 a5) := by
  unfold State.scoreRow
  with_reducible repeat'
    first
    | assumption | intro _ | refine stores_foldl ?_ fun _ _ => ?_ | refine pairStores_foldl ?_ fun _ _ => ?_
    | apply keeps_driftAll | apply keeps_inc | apply keeps_lensReport | apply keeps_setClosed | apply keeps_setOpen
    | split | dsimp only

theorem keeps_scoreBatch {a1 a2} (h1 : Stores a1) : Stores (State.scoreBatch a1 a2) := by
  unfold State.scoreBatch
  with_reducible repeat'
    first
    | assumption | intro _ | refine stores_foldl ?_ fun _ _ => ?_ | refine pairStores_foldl ?_ fun _ _ => ?_
    | apply keeps_batchPoison | apply keeps_inc | apply keeps_lensFollow | apply keeps_scoreRow
    | apply keeps_setClosed | split | dsimp only

theorem keeps_scoreAll {a1 a2 a3} (h3 : Stores a3) : Stores (State.scoreAll a1 a2 a3) := by
  revert h3
  fun_induction State.scoreAll <;> intros
  all_goals
    with_reducible repeat'
      first
      | assumption | apply_assumption | assumption | intro _ | apply keeps_scoreBatch | split
      | simp only [stores_mk]

theorem keeps_lensMidnight {a1 a2} (h1 : Stores a1) : Stores (State.lensMidnight a1 a2) := by
  unfold State.lensMidnight
  with_reducible repeat'
    first
    | assumption | intro _ | apply keeps_closeBatches | apply keeps_scoreAll | split | simp only [stores_mk]

theorem keeps_dieMidnight {a1 a2} (h1 : Stores a1) : Stores (State.dieMidnight a1 a2) := by
  unfold State.dieMidnight
  with_reducible repeat'
    first
    | assumption | intro _ | refine stores_foldl ?_ fun _ _ => ?_ | refine pairStores_foldl ?_ fun _ _ => ?_
    | apply keeps_lensMidnight | apply keeps_sealCtx | split | simp only [stores_mk]

theorem keeps_setHealth {a1 a2 a3} (h1 : Stores a1) : Stores (State.setHealth a1 a2 a3) := by
  unfold State.setHealth
  with_reducible repeat'
    first
    | assumption | intro _ | split | simp only [stores_mk]

theorem keeps_flushHealth {a1 a2} (h1 : Stores a1) : Stores (State.flushHealth a1 a2) := by
  unfold State.flushHealth
  with_reducible repeat'
    first
    | assumption | intro _ | refine stores_foldl ?_ fun _ _ => ?_ | refine pairStores_foldl ?_ fun _ _ => ?_
    | apply keeps_codeAll | apply keeps_codeOne | apply keeps_setHealth | split | simp only [stores_mk]

theorem keeps_flushStaged {a1 a2} (h1 : Stores a1) : Stores (State.flushStaged a1 a2) := by
  unfold State.flushStaged
  with_reducible repeat'
    first
    | assumption | intro _ | refine stores_foldl ?_ fun _ _ => ?_ | refine pairStores_foldl ?_ fun _ _ => ?_
    | apply keeps_ringWrite | apply keeps_setStaged | split | simp only [stores_mk]

theorem keeps_dramWake {a1 a2} (h1 : Stores a1) : Stores (State.dramWake a1 a2) := by
  unfold State.dramWake
  with_reducible repeat'
    first
    | assumption | intro _ | apply keeps_flushHealth | apply keeps_flushStaged | split | simp only [stores_mk]

theorem keeps_dieWake {a1 a2} (h1 : Stores a1) : Stores (State.dieWake a1 a2) := by
  unfold State.dieWake
  with_reducible repeat'
    first
    | assumption | intro _ | apply keeps_dramWake | apply keeps_wakeAll | apply keeps_wr | split
    | simp only [stores_mk]

theorem keeps_poison {a1 a2} (h1 : Stores a1) : Stores (State.poison a1 a2) := by
  unfold State.poison
  with_reducible repeat'
    first
    | assumption | intro _ | split | simp only [stores_mk]

theorem keeps_dramLineLost {a1 a2 a3 a4 a5} (h1 : Stores a1) : Stores (State.dramLineLost a1 a2 a3 a4 a5) := by
  unfold State.dramLineLost
  with_reducible repeat'
    first
    | assumption | intro _ | apply keeps_event | apply keeps_inc | apply keeps_poison | apply keeps_wr | split
    | simp only [stores_mk]

theorem keeps_dramError {a1 a2 a3 a4 a5 a6 a7} (h1 : Stores a1) : Stores (State.dramError a1 a2 a3 a4 a5 a6 a7) := by
  unfold State.dramError
  with_reducible repeat'
    first
    | assumption | intro _ | refine stores_foldl ?_ fun _ _ => ?_ | refine pairStores_foldl ?_ fun _ _ => ?_
    | apply keeps_chanFault | apply keeps_dramLineLost | apply keeps_inc | split | simp only [stores_mk]

theorem keeps_dramUp {a1 a2 a3} (h2 : Stores a2) : Stores (State.dramUp a1 a2 a3) := by
  unfold State.dramUp
  with_reducible repeat'
    first
    | assumption | intro _ | apply keeps_wr | split | simp only [stores_mk]

theorem keeps_dropIkb {a1 a2} (h1 : Stores a1) : Stores (State.dropIkb a1 a2) := by
  unfold State.dropIkb
  with_reducible repeat'
    first
    | assumption | intro _ | apply keeps_setTx | split | simp only [stores_mk]

theorem keeps_dropMetrics {a1 a2} (h1 : Stores a1) : Stores (State.dropMetrics a1 a2) := by
  unfold State.dropMetrics
  with_reducible repeat'
    first
    | assumption | intro _ | split | simp only [stores_mk]

theorem keeps_encodeD {a1 a2 a3} (h1 : Stores a1) : Stores (State.encodeD a1 a2 a3) := by
  unfold State.encodeD
  with_reducible repeat'
    first
    | assumption | intro _ | apply keeps_complete | apply keeps_descrPoison | apply keeps_output
    | apply keeps_writeRecord | split | dsimp only

theorem keeps_endInst {a1 a2} (h1 : Stores a1) : Stores (State.endInst a1 a2) := by
  unfold State.endInst
  with_reducible repeat'
    first
    | assumption | intro _ | apply keeps_finaliseInst | apply keeps_forwardInst | split | simp only [stores_mk]

theorem keeps_lensMode {a1 a2} (h1 : Stores a1) : Stores (State.lensMode a1 a2) := by
  unfold State.lensMode
  with_reducible repeat'
    first
    | assumption | intro _ | apply keeps_wr | split | simp only [stores_mk]

theorem keeps_rootLost {a1 a2} (h1 : Stores a1) : Stores (State.rootLost a1 a2) := by
  unfold State.rootLost
  with_reducible repeat'
    first
    | assumption | intro _ | refine stores_foldl ?_ fun _ _ => ?_ | refine pairStores_foldl ?_ fun _ _ => ?_
    | apply keeps_event | apply keeps_notice | split | simp only [stores_mk]

theorem keeps_portMode {a1 a2} (h1 : Stores a1) : Stores (State.portMode a1 a2) := by
  unfold State.portMode
  with_reducible repeat'
    first
    | assumption | intro _ | apply keeps_portDark | apply keeps_rootLost | apply keeps_wr | split
    | dsimp only

theorem keeps_enterDie {a1 a2 a3} (h1 : Stores a1) : Stores (State.enterDie a1 a2 a3) := by
  unfold State.enterDie
  with_reducible repeat'
    first
    | assumption | intro _ | apply keeps_lensMode | apply keeps_modeCores | apply keeps_portMode | apply keeps_wr
    | split | simp only [stores_mk]

theorem keeps_flushInsts {a1} (h1 : Stores a1) : Stores (State.flushInsts a1) := by
  unfold State.flushInsts
  with_reducible repeat'
    first
    | assumption | intro _ | refine stores_foldl ?_ fun _ _ => ?_ | refine pairStores_foldl ?_ fun _ _ => ?_
    | apply keeps_endInst | split | simp only [stores_mk]

theorem keeps_enterPkg {a1 a2} (h1 : Stores a1) : Stores (State.enterPkg a1 a2) := by
  unfold State.enterPkg
  with_reducible repeat'
    first
    | assumption | intro _ | refine stores_foldl ?_ fun _ _ => ?_ | refine pairStores_foldl ?_ fun _ _ => ?_
    | apply keeps_dieMidnight | apply keeps_dieWake | apply keeps_enterDie | apply keeps_flushInsts
    | apply keeps_planWidth | apply keeps_wr | split | simp only [stores_mk]

theorem keeps_loseDie {a1 a2} (h1 : Stores a1) : Stores (State.loseDie a1 a2) := by
  unfold State.loseDie
  with_reducible repeat'
    first
    | assumption | intro _ | refine stores_foldl ?_ fun _ _ => ?_ | refine pairStores_foldl ?_ fun _ _ => ?_
    | apply keeps_delCtx | apply keeps_dropMetrics | apply keeps_event | apply keeps_int | apply keeps_setCtx
    | apply keeps_setIngest | split | simp only [stores_mk]

theorem keeps_loseInsts {a1 a2} (h1 : Stores a1) : Stores (State.loseInsts a1 a2) := by
  unfold State.loseInsts
  with_reducible repeat'
    first
    | assumption | intro _ | apply keeps_slotCounts | split | simp only [stores_mk]

theorem keeps_excludeDie {a1 a2 a3} (h1 : Stores a1) : Stores (State.excludeDie a1 a2 a3) := by
  unfold State.excludeDie
  with_reducible repeat'
    first
    | assumption | intro _ | refine stores_foldl ?_ fun _ _ => ?_ | refine pairStores_foldl ?_ fun _ _ => ?_
    | apply keeps_clearPort | apply keeps_event | apply keeps_linksIdle | apply keeps_loseDie
    | apply keeps_loseInsts | apply keeps_portDark | apply keeps_wr | split | simp only [stores_mk]

theorem keeps_fanTach {a1 a2 a3} (h1 : Stores a1) : Stores (State.fanTach a1 a2 a3) := by
  unfold State.fanTach
  with_reducible repeat'
    first
    | assumption | intro _ | apply keeps_duty | refine pair2 (by assumption) (keeps_duty ?_)
    | apply keeps_fieldEvent | apply keeps_wr | split | simp only [stores_mk]

theorem keeps_fetFault {a1 a2 a3} (h1 : Stores a1) : Stores (State.fetFault a1 a2 a3) := by
  unfold State.fetFault
  with_reducible repeat'
    first
    | assumption | intro _ | apply keeps_busLowAt | apply keeps_fieldEvent | split | simp only [stores_mk]

theorem keeps_fieldLoad {a1} (h1 : Stores a1) : Stores (State.fieldLoad a1) := by
  unfold State.fieldLoad
  with_reducible repeat'
    first
    | assumption | intro _ | refine stores_foldl ?_ fun _ _ => ?_ | refine pairStores_foldl ?_ fun _ _ => ?_
    | apply keeps_barGo | apply keeps_barSend | split | dsimp only

theorem keeps_fieldOn {a1 a2} (h1 : Stores a1) (h2 : ∀ y0, Stores y0 → Stores (a2 y0)) :
    Stores (State.fieldOn a1 a2) := by
  unfold State.fieldOn
  with_reducible repeat'
    first
    | assumption | intro _ | apply h2 | split | simp only [stores_mk]

theorem keeps_fieldReset {a1 a2} (h1 : Stores a1) : Stores (State.fieldReset a1 a2) := by
  unfold State.fieldReset
  with_reducible repeat'
    first
    | assumption | intro _ | apply keeps_fieldEvent | split | simp only [stores_mk]

theorem keeps_fill {a1 a2 a3 a4 a5 a6 a7} (h7 : Stores a7) : Stores (State.fill a1 a2 a3 a4 a5 a6 a7) := by
  induction a5 generalizing a6 a7 with
  | zero => exact h7
  | succ n ih =>
    unfold State.fill
    with_reducible repeat'
      first
      | apply ih | assumption | intro _ | apply keeps_setClosed | apply keeps_setOpen | split
      | dsimp only

theorem keeps_shed {a1 a2 a3} (h1 : Stores a1) : Stores (State.shed a1 a2 a3) := by
  unfold State.shed
  with_reducible repeat'
    first
    | assumption | intro _ | apply keeps_event | apply keeps_inc | apply keeps_int | apply keeps_wr | split
    | dsimp only

theorem keeps_formSamples {a1 a2 a3 a4 a5 a6 a7 a8} (h1 : Stores a1) :
    Stores (State.formSamples a1 a2 a3 a4 a5 a6 a7 a8) := by
  unfold State.formSamples
  with_reducible repeat'
    first
    | assumption | intro _ | apply keeps_driftAll | apply keeps_fill | apply keeps_inc | apply keeps_lensFollow
    | apply keeps_setCtx | apply keeps_shed | split | dsimp only

theorem keeps_gaspCommit {a1} (h1 : Stores a1) : Stores (State.gaspCommit a1) := by
  unfold State.gaspCommit
  with_reducible repeat'
    first
    | assumption | intro _ | apply keeps_bbxNext | refine pair2 (by assumption) (keeps_bbxNext ?_)
    | apply keeps_free | refine pair2 (by assumption) (keeps_free ?_) | apply keeps_inc | apply keeps_wr | split
    | simp only [stores_mk]

theorem keeps_hopTimeout {a1 a2 a3 a4} (h1 : Stores a1) : Stores (State.hopTimeout a1 a2 a3 a4) := by
  unfold State.hopTimeout
  with_reducible repeat'
    first
    | assumption | intro _ | apply keeps_bcastCheck | apply keeps_inc | apply keeps_sendMsg | apply keeps_setBcast
    | split | dsimp only

theorem keeps_killMetrics {a1 a2} (h1 : Stores a1) : Stores (State.killMetrics a1 a2) := by
  unfold State.killMetrics
  with_reducible repeat'
    first
    | assumption | intro _ | split | simp only [stores_mk]

theorem keeps_killCtx {a1 a2} (h1 : Stores a1) : Stores (State.killCtx a1 a2) := by
  unfold State.killCtx
  with_reducible repeat'
    first
    | assumption | intro _ | apply keeps_event | apply keeps_inc | apply keeps_int | apply keeps_killMetrics
    | apply keeps_notice | apply keeps_setCtx | apply keeps_setIngest | split | simp only [stores_mk]

theorem keeps_killInst {a1 a2} (h1 : Stores a1) : Stores (State.killInst a1 a2) := by
  unfold State.killInst
  with_reducible repeat'
    first
    | assumption | intro _ | apply keeps_endInst | apply keeps_event | apply keeps_inc | split
    | simp only [stores_mk]

theorem keeps_lastGaspDone {a1} (h1 : Stores a1) : Stores (State.lastGaspDone a1) := by
  unfold State.lastGaspDone
  with_reducible repeat'
    first
    | assumption | intro _ | apply keeps_gaspCommit | apply keeps_warmStart | split | dsimp only

theorem keeps_missSlot {a1 a2 a3 a4} (h4 : Stores a4) : Stores (State.missSlot a1 a2 a3 a4) := by
  revert h4
  fun_induction State.missSlot <;> intros
  all_goals
    with_reducible repeat'
      first
      | assumption | apply_assumption | assumption | intro _ | apply keeps_inc | apply keeps_int
      | apply keeps_pageErr | split | simp only [stores_mk]

theorem keeps_slotNext {a1 a2 a3 a4} (h1 : Stores a1) : Stores (State.slotNext a1 a2 a3 a4) := by
  unfold State.slotNext
  with_reducible repeat'
    first
    | assumption | intro _ | apply keeps_clrB | apply keeps_missSlot | apply keeps_setSlotInstant
    | apply keeps_slotFollow | apply keeps_wr | split | dsimp only

theorem keeps_launchFire {a1 a2 a3} (h1 : Stores a1) : Stores (State.launchFire a1 a2 a3) := by
  unfold State.launchFire
  with_reducible repeat'
    first
    | assumption | intro _ | apply keeps_act | apply keeps_govBreak | apply keeps_ifOn | apply keeps_int
    | apply keeps_missSlot | apply keeps_pageErr | apply keeps_slotNext | apply keeps_wr | split
    | dsimp only

theorem keeps_loadFail {a1 a2 a3} (h1 : Stores a1) : Stores (State.loadFail a1 a2 a3) := by
  unfold State.loadFail
  with_reducible repeat'
    first
    | assumption | intro _ | apply keeps_event | apply keeps_wr | split | simp only [stores_mk]

theorem keeps_loadSend {a1 a2} (h1 : Stores a1) : Stores (State.loadSend a1 a2) := by
  unfold State.loadSend
  with_reducible repeat'
    first
    | assumption | intro _ | refine stores_foldl ?_ fun _ _ => ?_ | refine pairStores_foldl ?_ fun _ _ => ?_
    | apply keeps_loadFail | apply keeps_sendDown | apply keeps_wr | split | simp only [stores_mk]

theorem keeps_loadBegin {a1 a2} (h1 : Stores a1) : Stores (State.loadBegin a1 a2) := by
  unfold State.loadBegin
  with_reducible repeat'
    first
    | assumption | intro _ | apply keeps_loadSend | split | dsimp only

theorem keeps_mergePartial {a1 a2 a3 a4} (h1 : Stores a1) : Stores (State.mergePartial a1 a2 a3 a4) := by
  unfold State.mergePartial
  with_reducible repeat'
    first
    | assumption | intro _ | apply keeps_inc | apply keeps_setInst | apply keeps_settleInst | split
    | simp only [stores_mk]

theorem keeps_modeDone {a1} (h1 : Stores a1) : Stores (State.modeDone a1) := by
  unfold State.modeDone
  with_reducible repeat'
    first
    | assumption | intro _ | apply keeps_countMissed | apply keeps_enterPkg | apply keeps_wr | split
    | dsimp only

theorem keeps_mramData {a1 a2} (h1 : Stores a1) : Stores (State.mramData a1 a2) := by
  unfold State.mramData
  with_reducible repeat'
    first
    | assumption | intro _ | apply keeps_dramStore | apply keeps_wr | split | dsimp only

theorem keeps_norFound {a1 a2} (h1 : Stores a1) : Stores (State.norFound a1 a2) := by
  unfold State.norFound
  with_reducible repeat'
    first
    | assumption | intro _ | apply keeps_wr | split | simp only [stores_mk]

theorem keeps_openSelf {a1 a2} (h1 : Stores a1) : Stores (State.openSelf a1 a2) := by
  unfold State.openSelf
  with_reducible repeat'
    first
    | assumption | intro _ | apply keeps_openCtx | split | simp only [stores_mk]

theorem keeps_takeImage {a1 a2 a3 a4 a5} (h1 : Stores a1) : Stores (State.takeImage a1 a2 a3 a4 a5) := by
  unfold State.takeImage
  with_reducible repeat'
    first
    | assumption | intro _ | refine stores_foldl ?_ fun _ _ => ?_ | refine pairStores_foldl ?_ fun _ _ => ?_
    | apply keeps_coreRun | apply keeps_dramStore | apply keeps_wr | split | simp only [stores_mk]

theorem keeps_otherImage {a1 a2 a3 a4} (h1 : Stores a1) : Stores (State.otherImage a1 a2 a3 a4) := by
  unfold State.otherImage
  with_reducible repeat'
    first
    | assumption | intro _ | apply keeps_excludeDie | apply keeps_startFailed | apply keeps_takeImage | split
    | simp only [stores_mk]

theorem keeps_ownerHurt {a1 a2 a3 a4 a5} (h1 : Stores a1) : Stores (State.ownerHurt a1 a2 a3 a4 a5) := by
  unfold State.ownerHurt
  with_reducible repeat'
    first
    | assumption | intro _ | apply keeps_batchPoison | apply keeps_killCtx | apply keeps_killInst | split
    | simp only [stores_mk]

theorem keeps_pcieUp {a1} (h1 : Stores a1) : Stores (State.pcieUp a1) := by
  unfold State.pcieUp
  with_reducible repeat'
    first
    | assumption | intro _ | apply keeps_free | refine pair2 (by assumption) (keeps_free ?_) | apply keeps_wr
    | split | dsimp only

theorem keeps_tellGasps {a1} (h1 : Stores a1) : Stores (State.tellGasps a1) := by
  unfold State.tellGasps
  with_reducible repeat'
    first
    | assumption | intro _ | refine stores_foldl ?_ fun _ _ => ?_ | refine pairStores_foldl ?_ fun _ _ => ?_
    | apply keeps_event | split | simp only [stores_mk]

theorem keeps_startDone {a1} (h1 : Stores a1) : Stores (State.startDone a1) := by
  unfold State.startDone
  with_reducible repeat'
    first
    | assumption | intro _ | refine stores_foldl ?_ fun _ _ => ?_ | refine pairStores_foldl ?_ fun _ _ => ?_
    | apply keeps_abortStarts | apply keeps_enterPkg | apply keeps_event | apply keeps_flushStaged | apply keeps_int
    | apply keeps_loadBegin | apply keeps_openSelf | apply keeps_pcieUp | apply keeps_reopenCtx
    | apply keeps_tellGasps | apply keeps_wr | split | simp only [stores_mk]

theorem keeps_trainingFailed {a1 a2 a3} (h1 : Stores a1) : Stores (State.trainingFailed a1 a2 a3) := by
  unfold State.trainingFailed
  with_reducible repeat'
    first
    | assumption | intro _ | apply keeps_chanFault | apply keeps_excludeDie | apply keeps_startFailed
    | apply keeps_wr | split | dsimp only

theorem keeps_packageStart {a1 a2 a3 a4} (h1 : Stores a1) : Stores (State.packageStart a1 a2 a3 a4) := by
  unfold State.packageStart
  with_reducible repeat'
    first
    | assumption | intro _ | refine stores_foldl ?_ fun _ _ => ?_ | refine pairStores_foldl ?_ fun _ _ => ?_
    | apply keeps_beginAs | apply keeps_bootSource | refine pair2 (by assumption) (keeps_bootSource ?_)
    | apply keeps_dramUp | apply keeps_norFound | apply keeps_otherImage | apply keeps_startDone
    | apply keeps_takeImage | apply keeps_trainingFailed | split | dsimp only

theorem keeps_partialIn {a1 a2 a3} (h1 : Stores a1) : Stores (State.partialIn a1 a2 a3) := by
  unfold State.partialIn
  with_reducible repeat'
    first
    | assumption | intro _ | apply keeps_event | apply keeps_inc | apply keeps_instFor
    | refine pair1 (by assumption) (keeps_instFor ?_) | apply keeps_mergePartial | apply keeps_setInst | split
    | dsimp only

theorem keeps_persistAtRoot {a1 a2 a3} (h1 : Stores a1) : Stores (State.persistAtRoot a1 a2 a3) := by
  unfold State.persistAtRoot
  with_reducible repeat'
    first
    | assumption | intro _ | apply keeps_launchPoint | apply keeps_setJob | split | dsimp only

theorem keeps_sendProxy {a1 a2 a3} (h1 : Stores a1) : Stores (State.sendProxy a1 a2 a3) := by
  unfold State.sendProxy
  with_reducible repeat'
    first
    | assumption | intro _ | apply keeps_sendDown | split | simp only [stores_mk]

theorem keeps_proxyPump {a1 a2} (h1 : Stores a1) : Stores (State.proxyPump a1 a2) := by
  unfold State.proxyPump
  with_reducible repeat'
    first
    | assumption | intro _ | refine stores_foldl ?_ fun _ _ => ?_ | refine pairStores_foldl ?_ fun _ _ => ?_
    | apply keeps_sendProxy | apply keeps_setProxies | split | simp only [stores_mk]

theorem keeps_proxy {a1 a2 a3 a4 a5 a6 a7} (h1 : Stores a1) : Stores (State.proxy a1 a2 a3 a4 a5 a6 a7) := by
  unfold State.proxy
  with_reducible repeat'
    first
    | assumption | intro _ | apply keeps_proxyFailed | apply keeps_proxyPump | apply keeps_setProxies | split
    | simp only [stores_mk]

theorem keeps_received {a1 a2 a3 a4 a5} (h1 : Stores a1) : Stores (State.received a1 a2 a3 a4 a5) := by
  unfold State.received
  with_reducible repeat'
    first
    | assumption | intro _ | apply keeps_wr | split | simp only [stores_mk]

theorem keeps_recv {a1 a2 a3 a4 a5 a6} (h1 : Stores a1) (h6 : ∀ y0, Stores y0 → Stores (a6 y0)) :
    Stores (State.recv a1 a2 a3 a4 a5 a6) := by
  unfold State.recv
  with_reducible repeat'
    first
    | assumption | intro _ | apply h6 | apply keeps_inc | apply keeps_received | split | dsimp only

theorem keeps_recvTele {a1 a2 a3 a4 a5 a6 a7} (h1 : Stores a1) (h7 : ∀ y0, Stores y0 → Stores (a7 y0)) :
    Stores (State.recvTele a1 a2 a3 a4 a5 a6 a7) := by
  unfold State.recvTele
  with_reducible repeat'
    first
    | assumption | intro _ | apply h7 | apply keeps_arriveLtl | refine pair1 (by assumption) (keeps_arriveLtl ?_)
    | apply keeps_inc | apply keeps_wr | split | dsimp only

theorem keeps_reportIn {a1 a2 a3 a4 a5 a6 a7} (h1 : Stores a1) : Stores (State.reportIn a1 a2 a3 a4 a5 a6 a7) := by
  unfold State.reportIn
  with_reducible repeat'
    first
    | assumption | intro _ | apply keeps_bcastCheck | apply keeps_inc | apply keeps_setBcast | split
    | simp only [stores_mk]

theorem keeps_restoreD {a1 a2 a3} (h1 : Stores a1) : Stores (State.restoreD a1 a2 a3) := by
  unfold State.restoreD
  extract_lets k
  split
  · exact keeps_complete h1
  · split
    · exact keeps_complete h1
    · split
      · exact keeps_complete h1
      · split
        · exact keeps_complete (keeps_setCtx h1)
        · exact keeps_complete (keeps_setCtx h1)

theorem keeps_resultHere {a1 a2 a3 a4 a5 a6} (h1 : Stores a1) : Stores (State.resultHere a1 a2 a3 a4 a5 a6) := by
  unfold State.resultHere
  with_reducible repeat'
    first
    | assumption | intro _ | apply keeps_resultMeans | apply keeps_ringRecord | split | simp only [stores_mk]

theorem keeps_resultIn {a1 a2 a3} (h1 : Stores a1) : Stores (State.resultIn a1 a2 a3) := by
  unfold State.resultIn
  with_reducible repeat'
    first
    | assumption | intro _ | apply keeps_event | apply keeps_inc | apply keeps_resultHere | apply keeps_sendDownTree
    | apply keeps_setInst | split | dsimp only

theorem keeps_rtdSample {a1 a2 a3} (h1 : Stores a1) : Stores (State.rtdSample a1 a2 a3) := by
  unfold State.rtdSample
  with_reducible repeat'
    first
    | assumption | intro _ | apply keeps_fieldEvent | apply keeps_wr | split | simp only [stores_mk]

theorem keeps_sampleRow {a1 a2 a3 a4} (h1 : Stores a1) : Stores (State.sampleRow a1 a2 a3 a4) := by
  unfold State.sampleRow
  with_reducible repeat'
    first
    | assumption | intro _ | apply keeps_formSamples | split | dsimp only

theorem keeps_saveD {a1 a2 a3} (h1 : Stores a1) : Stores (State.saveD a1 a2 a3) := by
  unfold State.saveD
  with_reducible repeat'
    first
    | assumption | intro _ | apply keeps_complete | apply keeps_sealCtx | apply keeps_writeRecord | split
    | dsimp only

theorem keeps_serve {a1 a2 a3 a4} (h1 : Stores a1) (h4 : ∀ y0, Stores (a4 y0)) :
    Stores (State.serve a1 a2 a3 a4) := by
  unfold State.serve
  with_reducible repeat'
    first
    | assumption | intro _ | apply h4 | split | simp only [stores_mk]

theorem keeps_stepValue {a1 a2 a3} (h1 : Stores a1) : Stores (State.stepValue a1 a2 a3) := by
  unfold State.stepValue
  with_reducible repeat'
    first
    | assumption | intro _ | apply keeps_driftAll | split | simp only [stores_mk]

theorem keeps_takeReport {a1 a2 a3 a4} (h1 : Stores a1) : Stores (State.takeReport a1 a2 a3 a4) := by
  unfold State.takeReport
  with_reducible repeat'
    first
    | assumption | intro _ | apply keeps_contribute | apply keeps_persistAtRoot | apply keeps_sendDown
    | apply keeps_torusSend | split | simp only [stores_mk]

theorem keeps_tickIkb {a1 a2} (h1 : Stores a1) : Stores (State.tickIkb a1 a2) := by
  unfold State.tickIkb
  with_reducible repeat'
    first
    | assumption | intro _ | apply keeps_setLtc | apply keeps_setMer | split | dsimp only

theorem keeps_tickWdie {a1 a2} (h1 : Stores a1) : Stores (State.tickWdie a1 a2) := by
  unfold State.tickWdie
  with_reducible repeat'
    first
    | assumption | intro _ | apply keeps_setLtc | apply keeps_setMer | apply keeps_wr | split
    | dsimp only

theorem keeps_tick {a1} (h1 : Stores a1) : Stores (State.tick a1) := by
  unfold State.tick
  with_reducible repeat'
    first
    | assumption | intro _ | refine stores_foldl ?_ fun _ _ => ?_ | refine pairStores_foldl ?_ fun _ _ => ?_
    | apply keeps_tickIkb | apply keeps_tickWdie | split | simp only [stores_mk]

theorem keeps_requestsFollow {a1 a2 a3} (h1 : Stores a1) : Stores (State.requestsFollow a1 a2 a3) := by
  unfold State.requestsFollow
  with_reducible repeat'
    first
    | assumption | intro _ | apply keeps_pinFollow | split | simp only [stores_mk]

theorem keeps_vikbReset {a1 a2 a3 a4} (h1 : Stores a1) : Stores (State.vikbReset a1 a2 a3 a4) := by
  unfold State.vikbReset
  with_reducible repeat'
    first
    | assumption | intro _ | apply keeps_requestsFollow | apply keeps_pinsFollow | refine stores_foldl ?_ fun _ _ => ?_ | refine pairStores_foldl ?_ fun _ _ => ?_
    | apply keeps_clearPage | apply keeps_downAt | apply keeps_dropIkb | apply keeps_inc | apply keeps_linkIdle
    | apply keeps_newNonce | apply keeps_putBack | apply keeps_retireActions | apply keeps_sendUp
    | apply keeps_timeKept | apply keeps_wr | split | simp only [stores_mk]

theorem keeps_wdogExpire {a1 a2} (h1 : Stores a1) : Stores (State.wdogExpire a1 a2) := by
  unfold State.wdogExpire
  with_reducible repeat'
    first
    | assumption | intro _ | apply keeps_event | apply keeps_lastGasp | apply keeps_vikbReset
    | apply keeps_warmStart | apply keeps_wr | split | dsimp only

theorem keeps_execAlarmChatter {a1} (h1 : Stores a1) : OutStores (execAlarmChatter a1) := by
  unfold execAlarmChatter
  with_reducible repeat'
    first
    | assumption | intro _ | refine stores_foldl ?_ fun _ _ => ?_ | refine pairStores_foldl ?_ fun _ _ => ?_
    | apply out_next | apply out_keeping | apply out_storeless | apply keeps_fieldEvent | apply keeps_fieldOn
    | apply keeps_setAlarm | split | simp only [stores_mk]

theorem keeps_execAlarmSample {a1 a2} (h2 : Stores a2) : OutStores (execAlarmSample a1 a2) := by
  unfold execAlarmSample
  with_reducible repeat'
    first
    | assumption | intro _ | refine stores_foldl ?_ fun _ _ => ?_ | refine pairStores_foldl ?_ fun _ _ => ?_
    | apply out_next | apply out_keeping | apply out_storeless | apply keeps_alarmSample | apply keeps_fieldOn
    | split | simp only [stores_mk]

theorem keeps_execAlarmStuck {a1 a2} (h2 : Stores a2) : OutStores (execAlarmStuck a1 a2) := by
  unfold execAlarmStuck
  with_reducible repeat'
    first
    | assumption | intro _ | apply out_next | apply out_keeping | apply out_storeless | apply keeps_alarmStuck
    | apply keeps_fieldOn | split | simp only [stores_mk]

theorem keeps_execBar2Access {a1 a2 a3 a4 a5 a6} (h6 : Stores a6) : OutStores (execBar2Access a1 a2 a3 a4 a5 a6) := by
  unfold execBar2Access
  with_reducible repeat'
    first
    | assumption | intro _ | apply out_next | apply out_keeping | apply out_storeless | apply keeps_bar2 | split
    | simp only [stores_mk]

theorem keeps_execBarrierAlarm {a1 a2} (h2 : Stores a2) : OutStores (execBarrierAlarm a1 a2) := by
  unfold execBarrierAlarm
  with_reducible repeat'
    first
    | assumption | intro _ | apply out_next | apply out_keeping | apply out_storeless | apply keeps_barAlarms
    | apply keeps_barRecv | split | simp only [stores_mk]

theorem keeps_execBarrierCfgWriteFrame {a1 a2} (h2 : Stores a2) : OutStores (execBarrierCfgWriteFrame a1 a2) := by
  unfold execBarrierCfgWriteFrame
  with_reducible repeat'
    first
    | assumption | intro _ | apply out_next | apply out_keeping | apply out_storeless | apply keeps_barRecv
    | apply keeps_cfgApply | split | simp only [stores_mk]

theorem keeps_execBarrierHeartbeat {a1 a2 a3} (h3 : Stores a3) : OutStores (execBarrierHeartbeat a1 a2 a3) := by
  unfold execBarrierHeartbeat
  with_reducible repeat'
    first
    | assumption | intro _ | apply out_next | apply out_keeping | apply out_storeless | apply keeps_barAlarms
    | apply keeps_barRecv | split | simp only [stores_mk]

theorem keeps_execBarrierMramData {a1 a2} (h2 : Stores a2) : OutStores (execBarrierMramData a1 a2) := by
  unfold execBarrierMramData
  with_reducible repeat'
    first
    | assumption | intro _ | apply out_next | apply out_keeping | apply out_storeless | apply keeps_barRecv
    | apply keeps_mramData | split | simp only [stores_mk]

theorem keeps_execBbxPageProgrammed {a1} (h1 : Stores a1) : OutStores (execBbxPageProgrammed a1) := by
  unfold execBbxPageProgrammed
  with_reducible repeat'
    first
    | assumption | intro _ | apply out_next | apply out_keeping | apply out_storeless | apply keeps_bbxAdvance
    | split | dsimp only
  all_goals refine stores_parts.2 ⟨?_, ?_, ?_⟩
  all_goals simp only []
  all_goals
    with_reducible repeat'
      first
      | assumption | intro _ | apply memWriteList_wf | apply memWrite_wf | apply dropRange_wf | apply dram_wf
      | apply nor_wf | apply mram_wf | exact memNil_wf | apply out_next | apply out_keeping | apply out_storeless
      | apply keeps_bbxAdvance | split | simp only [stores_mk]

theorem keeps_execBcastAbortReceive {a1 a2 a3} (h3 : Stores a3) : OutStores (execBcastAbortReceive a1 a2 a3) := by
  unfold execBcastAbortReceive
  with_reducible repeat'
    first
    | assumption | intro _ | apply out_next | apply out_keeping | apply out_storeless | apply keeps_bcastIn
    | apply keeps_bcastOn | split | simp only [stores_mk]

theorem keeps_execBcastCommitReceive {a1 a2 a3 a4} (h4 : Stores a4) :
    OutStores (execBcastCommitReceive a1 a2 a3 a4) := by
  unfold execBcastCommitReceive
  with_reducible repeat'
    first
    | assumption | intro _ | apply out_next | apply out_keeping | apply out_storeless | apply keeps_bcastIn
    | apply keeps_bcastOn | split | simp only [stores_mk]

theorem keeps_execBcastEndReceive {a1 a2 a3 a4} (h4 : Stores a4) : OutStores (execBcastEndReceive a1 a2 a3 a4) := by
  unfold execBcastEndReceive
  with_reducible repeat'
    first
    | assumption | intro _ | apply out_next | apply out_keeping | apply out_storeless | apply keeps_bcastIn
    | apply keeps_bcastOn | split | simp only [stores_mk]

theorem keeps_execBcastHopTimeout {a1 a2 a3 a4} (h4 : Stores a4) : OutStores (execBcastHopTimeout a1 a2 a3 a4) := by
  unfold execBcastHopTimeout
  with_reducible repeat'
    first
    | assumption | intro _ | apply out_next | apply out_keeping | apply out_storeless | apply keeps_bcastOn
    | apply keeps_hopTimeout | split | simp only [stores_mk]

theorem keeps_execBcastStartReceive {a1 a2 a3 a4} (h4 : Stores a4) :
    OutStores (execBcastStartReceive a1 a2 a3 a4) := by
  unfold execBcastStartReceive
  with_reducible repeat'
    first
    | assumption | intro _ | apply out_next | apply out_keeping | apply out_storeless | apply keeps_bcastIn
    | apply keeps_bcastOn | split | simp only [stores_mk]

theorem keeps_execBusCaptureFreeze {a1 a2} (h2 : Stores a2) : OutStores (execBusCaptureFreeze a1 a2) := by
  unfold execBusCaptureFreeze
  with_reducible repeat'
    first
    | assumption | intro _ | apply out_next | apply out_keeping | apply out_storeless | apply keeps_capture17
    | apply keeps_fieldOn | split | simp only [stores_mk]

theorem keeps_execBusLow {a1 a2} (h2 : Stores a2) : OutStores (execBusLow a1 a2) := by
  unfold execBusLow
  with_reducible repeat'
    first
    | assumption | intro _ | apply out_next | apply out_keeping | apply out_storeless | apply keeps_busLowAt
    | apply keeps_fieldOn | split | simp only [stores_mk]

theorem keeps_execBusOv {a1 a2} (h2 : Stores a2) : OutStores (execBusOv a1 a2) := by
  unfold execBusOv
  with_reducible repeat'
    first
    | assumption | intro _ | apply out_next | apply out_keeping | apply out_storeless | apply keeps_fetFault
    | apply keeps_fieldEvent | apply keeps_fieldOn | split | simp only [stores_mk]

theorem keeps_execBusRestored {a1 a2} (h2 : Stores a2) : OutStores (execBusRestored a1 a2) := by
  unfold execBusRestored
  with_reducible repeat'
    first
    | assumption | intro _ | apply out_next | apply out_keeping | apply out_storeless | apply keeps_busRestored
    | apply keeps_fieldOn | split | simp only [stores_mk]

theorem keeps_execCodecDecode {a1 a2} (h2 : Stores a2) : OutStores (execCodecDecode a1 a2) := by
  unfold execCodecDecode
  with_reducible repeat'
    first
    | assumption | intro _ | apply out_next | apply out_keeping | apply out_storeless | apply keeps_decodeD
    | apply keeps_serve | split | simp only [stores_mk]

theorem keeps_execCodecEncode {a1 a2} (h2 : Stores a2) : OutStores (execCodecEncode a1 a2) := by
  unfold execCodecEncode
  with_reducible repeat'
    first
    | assumption | intro _ | apply out_next | apply out_keeping | apply out_storeless | apply keeps_encodeD
    | apply keeps_serve | split | simp only [stores_mk]

theorem keeps_execCodecRestore {a1 a2} (h2 : Stores a2) : OutStores (execCodecRestore a1 a2) := by
  unfold execCodecRestore
  with_reducible repeat'
    first
    | assumption | intro _ | apply out_next | apply out_keeping | apply out_storeless | apply keeps_restoreD
    | apply keeps_serve | split | simp only [stores_mk]

theorem keeps_execCodecRowTake {a1 a2} (h2 : Stores a2) : OutStores (execCodecRowTake a1 a2) := by
  unfold execCodecRowTake
  apply out_keeping
  split
  · next s1 f hf =>
    have hs : Stores s1 := by
      split at hf
      · cases hf
      · exact pair1 hf (keeps_codecTake h2)
    split
    · exact out_next (keeps_stepValue (keeps_sampleRow hs))
    · exact out_next hs
  · next s1 hf =>
    have hs : Stores s1 := by
      split at hf
      · cases hf; exact h2
      · exact pair1 hf (keeps_codecTake h2)
    exact out_next hs

theorem keeps_execCodecSave {a1 a2} (h2 : Stores a2) : OutStores (execCodecSave a1 a2) := by
  unfold execCodecSave
  with_reducible repeat'
    first
    | assumption | intro _ | apply out_next | apply out_keeping | apply out_storeless | apply keeps_saveD
    | apply keeps_serve | split | simp only [stores_mk]

theorem keeps_execDramReadError {a1 a2 a3 a4 a5 a6 a7 a8 a9} (h9 : Stores a9) :
    OutStores (execDramReadError a1 a2 a3 a4 a5 a6 a7 a8 a9) := by
  unfold execDramReadError
  with_reducible repeat'
    first
    | assumption | intro _ | apply out_next | apply out_keeping | apply out_storeless | apply keeps_dramError
    | apply keeps_inc | apply keeps_int | apply keeps_ownerHurt | split | simp only [stores_mk]

theorem keeps_execEvrClear {a1 a2} (h2 : Stores a2) : OutStores (execEvrClear a1 a2) := by
  unfold execEvrClear
  with_reducible repeat'
    first
    | assumption | intro _ | apply out_next | apply out_keeping | apply out_storeless | apply keeps_evrClear | split
    | simp only [stores_mk]

theorem keeps_execFanTach {a1 a2 a3} (h3 : Stores a3) : OutStores (execFanTach a1 a2 a3) := by
  unfold execFanTach
  with_reducible repeat'
    first
    | assumption | intro _ | apply out_next | apply out_keeping | apply out_storeless | apply keeps_fanTach
    | apply keeps_fieldOn | split | simp only [stores_mk]

theorem keeps_execFieldSideReset {a1 a2} (h2 : Stores a2) : OutStores (execFieldSideReset a1 a2) := by
  unfold execFieldSideReset
  with_reducible repeat'
    first
    | assumption | intro _ | apply out_next | apply out_keeping | apply out_storeless | apply keeps_fieldReset
    | split | simp only [stores_mk]

theorem keeps_execFieldSuppressed {a1} (h1 : Stores a1) : OutStores (execFieldSuppressed a1) := by
  unfold execFieldSuppressed
  with_reducible repeat'
    first
    | assumption | intro _ | refine stores_foldl ?_ fun _ _ => ?_ | refine pairStores_foldl ?_ fun _ _ => ?_
    | apply out_next | apply out_keeping | apply out_storeless | apply keeps_fieldEvent | split
    | simp only [stores_mk]

theorem keeps_execHighWordRead {a1 a2 a3 a4 a5} (h5 : Stores a5) : OutStores (execHighWordRead a1 a2 a3 a4 a5) := by
  unfold execHighWordRead
  with_reducible repeat'
    first
    | assumption | intro _ | apply out_next | apply out_keeping | apply out_storeless | apply keeps_answerGive
    | apply keeps_accessPage | split | simp only [stores_mk]

theorem keeps_execHighWordWrite {a1 a2 a3 a4 a5 a6} (h6 : Stores a6) :
    OutStores (execHighWordWrite a1 a2 a3 a4 a5 a6) := by
  unfold execHighWordWrite
  with_reducible repeat'
    first
    | assumption | intro _ | apply out_next | apply out_keeping | apply out_storeless | apply keeps_answerGive
    | apply keeps_accessPage | split | simp only [stores_mk]

theorem keeps_execHostPowerUp {a1} (h1 : Stores a1) : OutStores (execHostPowerUp a1) := by
  unfold execHostPowerUp
  with_reducible repeat'
    first
    | assumption | intro _ | apply out_next | apply out_keeping | apply out_storeless | apply keeps_coldStart
    | split | simp only [stores_mk]

theorem keeps_execHostSupplyFall {a1} (h1 : Stores a1) : OutStores (execHostSupplyFall a1) := by
  unfold execHostSupplyFall
  with_reducible repeat'
    first
    | assumption | intro _ | refine stores_foldl ?_ fun _ _ => ?_ | refine pairStores_foldl ?_ fun _ _ => ?_
    | apply out_next | apply out_keeping | apply out_storeless | apply keeps_coldClear | apply keeps_linkIdle
    | split | simp only [stores_mk]

theorem keeps_execHsFault {a1 a2 a3} (h3 : Stores a3) : OutStores (execHsFault a1 a2 a3) := by
  unfold execHsFault
  with_reducible repeat'
    first
    | assumption | intro _ | apply out_next | apply out_keeping | apply out_storeless | apply keeps_fetFault
    | apply keeps_fieldOn | split | simp only [stores_mk]

theorem keeps_execJsCommitCheck {a1 a2} (h2 : Stores a2) : OutStores (execJsCommitCheck a1 a2) := by
  unfold execJsCommitCheck
  with_reducible repeat'
    first
    | assumption | intro _ | apply out_next | apply out_keeping | apply out_storeless | apply keeps_abortRun
    | apply keeps_endRun | split | simp only [stores_mk]

theorem keeps_execJsDeadline {a1 a2} (h2 : Stores a2) : OutStores (execJsDeadline a1 a2) := by
  unfold execJsDeadline
  with_reducible repeat'
    first
    | assumption | intro _ | apply out_next | apply out_keeping | apply out_storeless | apply keeps_abortRun | split
    | simp only [stores_mk]

theorem keeps_execJsReportReceive {a1 a2 a3 a4 a5 a6 a7} (h7 : Stores a7) :
    OutStores (execJsReportReceive a1 a2 a3 a4 a5 a6 a7) := by
  unfold execJsReportReceive
  with_reducible repeat'
    first
    | assumption | intro _ | apply out_next | apply out_keeping | apply out_storeless | apply keeps_bcastOn
    | apply keeps_reportIn | split | simp only [stores_mk]

theorem keeps_execLastGaspDone {a1} (h1 : Stores a1) : OutStores (execLastGaspDone a1) := by
  unfold execLastGaspDone
  with_reducible repeat'
    first
    | assumption | intro _ | apply out_next | apply out_keeping | apply out_storeless | apply keeps_lastGaspDone
    | split | simp only [stores_mk]

theorem keeps_execLaunchFire {a1 a2 a3} (h3 : Stores a3) : OutStores (execLaunchFire a1 a2 a3) := by
  unfold execLaunchFire
  with_reducible repeat'
    first
    | assumption | intro _ | apply out_next | apply out_keeping | apply out_storeless | apply keeps_launchFire
    | split | simp only [stores_mk]

theorem keeps_execLensBatchScored {a1 a2} (h2 : Stores a2) : OutStores (execLensBatchScored a1 a2) := by
  unfold execLensBatchScored
  with_reducible repeat'
    first
    | assumption | intro _ | apply out_next | apply out_keeping | apply out_storeless | apply keeps_ifOn
    | apply keeps_scoreBatch | split | simp only [stores_mk]

theorem keeps_execLowWordRead {a1 a2 a3 a4 a5} (h5 : Stores a5) : OutStores (execLowWordRead a1 a2 a3 a4 a5) := by
  unfold execLowWordRead
  with_reducible repeat'
    first
    | assumption | intro _ | apply out_next | apply out_keeping | apply out_storeless | apply keeps_answerGive
    | apply keeps_accessPage | split | simp only [stores_mk]

theorem keeps_execLowWordWrite {a1 a2 a3 a4 a5 a6} (h6 : Stores a6) :
    OutStores (execLowWordWrite a1 a2 a3 a4 a5 a6) := by
  unfold execLowWordWrite
  with_reducible repeat'
    first
    | assumption | intro _ | apply out_next | apply out_keeping | apply out_storeless | apply keeps_answerGive
    | apply keeps_accessPage | split | simp only [stores_mk]

theorem keeps_execLtlGovReport {a1 a2 a3 a4} (h4 : Stores a4) : OutStores (execLtlGovReport a1 a2 a3 a4) := by
  unfold execLtlGovReport
  with_reducible repeat'
    first
    | assumption | intro _ | apply out_next | apply out_keeping | apply out_storeless | apply keeps_recvTele
    | apply keeps_takeReport | split | simp only [stores_mk]

theorem keeps_execLtlProxyReq {a1 a2 a3 a4 a5 a6 a7} (h7 : Stores a7) :
    OutStores (execLtlProxyReq a1 a2 a3 a4 a5 a6 a7) := by
  unfold execLtlProxyReq
  with_reducible repeat'
    first
    | assumption | intro _ | apply out_next | apply out_keeping | apply out_storeless | apply keeps_accessIkb
    | apply keeps_recv | apply keeps_sendUp | split | simp only [stores_mk]

theorem keeps_execMergeContribution {a1 a2 a3 a4 a5 a6 a7} (h7 : Stores a7) :
    OutStores (execMergeContribution a1 a2 a3 a4 a5 a6 a7) := by
  unfold execMergeContribution
  with_reducible repeat'
    first
    | assumption | intro _ | apply out_next | apply out_keeping | apply out_storeless | apply keeps_contribute
    | split | simp only [stores_mk]

theorem keeps_execMergePartialReceive {a1 a2 a3} (h3 : Stores a3) : OutStores (execMergePartialReceive a1 a2 a3) := by
  unfold execMergePartialReceive
  with_reducible repeat'
    first
    | assumption | intro _ | apply out_next | apply out_keeping | apply out_storeless | apply keeps_partialIn
    | split | simp only [stores_mk]

theorem keeps_execMergeResultDown {a1 a2 a3} (h3 : Stores a3) : OutStores (execMergeResultDown a1 a2 a3) := by
  unfold execMergeResultDown
  with_reducible repeat'
    first
    | assumption | intro _ | apply out_next | apply out_keeping | apply out_storeless | apply keeps_resultIn | split
    | simp only [stores_mk]

theorem keeps_execMergeRootFinalise {a1 a2 a3} (h3 : Stores a3) : OutStores (execMergeRootFinalise a1 a2 a3) := by
  unfold execMergeRootFinalise
  with_reducible repeat'
    first
    | assumption | intro _ | apply out_next | apply out_keeping | apply out_storeless | apply keeps_finaliseInst
    | split | simp only [stores_mk]

theorem keeps_execModeTransitionDone {a1} (h1 : Stores a1) : OutStores (execModeTransitionDone a1) := by
  unfold execModeTransitionDone
  with_reducible repeat'
    first
    | assumption | intro _ | apply out_next | apply out_keeping | apply out_storeless | apply keeps_modeDone | split
    | simp only [stores_mk]

theorem keeps_execPackageFatalTimeout {a1 a2} (h2 : Stores a2) : OutStores (execPackageFatalTimeout a1 a2) := by
  unfold execPackageFatalTimeout
  with_reducible repeat'
    first
    | assumption | intro _ | apply out_next | apply out_keeping | apply out_storeless | apply keeps_warmStart
    | split | simp only [stores_mk]

theorem keeps_execPackageStartDone {a1 a2 a3 a4} (h4 : Stores a4) : OutStores (execPackageStartDone a1 a2 a3 a4) := by
  unfold execPackageStartDone
  with_reducible repeat'
    first
    | assumption | intro _ | apply out_next | apply out_keeping | apply out_storeless | apply keeps_fieldLoad
    | apply keeps_packageStart | split | simp only [stores_mk]

theorem keeps_execPcieBar0Access {a1 a2 a3 a4 a5} (h5 : Stores a5) :
    OutStores (execPcieBar0Access a1 a2 a3 a4 a5) := by
  unfold execPcieBar0Access
  with_reducible repeat'
    first
    | assumption | intro _ | apply out_next | apply out_keeping | apply out_storeless
    | refine keeps_accessBar0 ?_ _ (by assumption) | refine keeps_accessBar0 ?_ (_, _) (by assumption)
    | apply keeps_answer | apply keeps_cross | apply keeps_lost | apply keeps_proxy | split | dsimp only

theorem keeps_execPcieFlr {a1} (h1 : Stores a1) : OutStores (execPcieFlr a1) := by
  unfold execPcieFlr
  with_reducible repeat'
    first
    | assumption | intro _ | apply out_next | apply out_keeping | apply out_storeless | apply keeps_warmStart
    | split | simp only [stores_mk]

theorem keeps_execPciePerst {a1} (h1 : Stores a1) : OutStores (execPciePerst a1) := by
  unfold execPciePerst
  with_reducible repeat'
    first
    | assumption | intro _ | apply out_next | apply out_keeping | apply out_storeless | apply keeps_warmStart
    | split | simp only [stores_mk]

theorem keeps_execRcRead {a1 a2 a3 a4 a5} (h5 : Stores a5) : OutStores (execRcRead a1 a2 a3 a4 a5) := by
  unfold execRcRead
  with_reducible repeat'
    first
    | assumption | intro _ | apply out_next | apply out_keeping | apply out_storeless | apply keeps_answerGive
    | apply keeps_accessPage | split | simp only [stores_mk]

theorem keeps_execRegPortRequest {a1 a2 a3 a4 a5 a6 a7 a8 a9} (h9 : Stores a9) :
    OutStores (execRegPortRequest a1 a2 a3 a4 a5 a6 a7 a8 a9) := by
  unfold execRegPortRequest
  with_reducible repeat'
    first
    | assumption | intro _ | apply out_next | apply out_keeping | apply out_storeless | apply keeps_accessIkb
    | apply keeps_lost | apply keeps_pageErr | apply keeps_respond | split | dsimp only

theorem keeps_execRegisterWrite {a1 a2 a3 a4 a5 a6 a7} (h7 : Stores a7) :
    OutStores (execRegisterWrite a1 a2 a3 a4 a5 a6 a7) := by
  unfold execRegisterWrite
  with_reducible repeat'
    first
    | assumption | intro _ | apply out_next | apply out_keeping | apply out_storeless | apply keeps_answerGive
    | apply keeps_accessPage | split | simp only [stores_mk]

theorem keeps_execRtdSample {a1 a2 a3} (h3 : Stores a3) : OutStores (execRtdSample a1 a2 a3) := by
  unfold execRtdSample
  with_reducible repeat'
    first
    | assumption | intro _ | apply out_next | apply out_keeping | apply out_storeless | apply keeps_fieldOn
    | apply keeps_rtdSample | split | simp only [stores_mk]

theorem keeps_execTableSwapCodec {a1 a2 a3} (h3 : Stores a3) : OutStores (execTableSwapCodec a1 a2 a3) := by
  unfold execTableSwapCodec
  with_reducible repeat'
    first
    | assumption | intro _ | apply out_next | apply out_keeping | apply out_storeless | apply keeps_swapCodec
    | split | simp only [stores_mk]

theorem keeps_execTableSwapRoute {a1} (h1 : Stores a1) : OutStores (execTableSwapRoute a1) := by
  unfold execTableSwapRoute
  with_reducible repeat'
    first
    | assumption | intro _ | apply out_next | apply out_keeping | apply out_storeless | apply keeps_swapRoute
    | split | simp only [stores_mk]

theorem keeps_execWdogExpire {a1 a2} (h2 : Stores a2) : OutStores (execWdogExpire a1 a2) := by
  unfold execWdogExpire
  with_reducible repeat'
    first
    | assumption | intro _ | apply out_next | apply out_keeping | apply out_storeless | apply keeps_wdogExpire
    | split | simp only [stores_mk]

end Sys2Proof.Laws
end

