-- ==== Sys2Proof/Tests/Slice0.lean ====
section
/-! SUPPORT. The model's own tests: the refusals of WellFormed, the worked examples of the spec, and for every statement
of Certificates/Slice0/Obligations.lean that has hypotheses, states and operands that meet them, clause by clause. -/

set_option Elab.async false

open Sys2Proof Sys2Proof.Machine

/-- The state after reset with some fields set. -/
def Wit.st (l : List (Chip × Fld × Nat)) : State := l.foldl (fun s e => s.wr e.1 e.2.1 e.2.2) State.reset

/-! ## WellFormed: what each check refuses -/

theorem test_wf_ports : (Instr.ikbPorst 63).wf .wfk8 = true ∧ (Instr.ikbPorst 64).wf .wfk8 = false ∧
    (Instr.ikbPorst 16).wf .wfk2 = false := by decide

theorem test_wf_dies : (Instr.ctxRead 7).wf .wfk8 = true ∧ (Instr.ctxRead 8).wf .wfk8 = false ∧
    (Instr.ctxRead 4).wf .wfk4 = false := by decide

theorem test_wf_optical_ports : (Instr.peerIdSend 15).wf .wfk8 = true ∧ (Instr.peerIdSend 16).wf .wfk8 = false := by decide

theorem test_wf_parts : (Instr.timeReacquire .pkg).wf .wfk8 = false ∧ (Instr.timeReacquire (.wdie 8)).wf .wfk8 = false := by
  decide

theorem test_wf_pages : (Instr.lockSet (.ikb 0) .abft).wf .wfk8 = true ∧ (Instr.lockSet (.ikb 0) .codec).wf .wfk8 = false ∧
    (Instr.lockSet (.wdie 0) .abft).wf .wfk8 = false ∧ (Instr.lockSet .pkg .route).wf .wfk8 = false := by decide

theorem test_wf_requesters : (Instr.softReset (.ikb 0) .abft 4).wf .wfk8 = false ∧
    (Instr.softReset (.wdie 0) .route 12).wf .wfk8 = true ∧ (Instr.softReset (.wdie 0) .route 13).wf .wfk8 = false := by decide

theorem test_wf_offsets : (Instr.rcRead (.ikb 0) .abft 4096 0).wf .wfk8 = false ∧
    (Instr.rcRead (.ikb 0) .abft 258 0).wf .wfk8 = false := by decide

theorem test_wf_words : (Instr.lensDivWrite 0 4294967296).wf .wfk8 = false ∧
    (Instr.ifcExpectWrite 0 255 18446744073709551616).wf .wfk8 = false ∧
    (Instr.regPortRequest 0 262144 false 15 0 true true false).wf .wfk8 = false ∧
    (Instr.regPortRequest 0 0 false 16 0 true true false).wf .wfk8 = false := by decide

theorem test_wf_cores : (Instr.coreStart (.ikb 0) 2).wf .wfk8 = false ∧ (Instr.coreStart (.wdie 0) 4).wf .wfk8 = false := by decide

theorem test_wf_channels : (Instr.rasRetire (.ikb 0) 8).wf .wfk8 = false ∧ (Instr.rasRetire (.ikb 0) 0x2F).wf .wfk8 = true ∧
    (Instr.rasRetire (.wdie 0) 0x18).wf .wfk8 = false := by decide

theorem test_wf_beats : (Instr.tapBeat 0 16 ⟨0, 0, 0, 0, true, true, 0, true⟩).wf .wfk8 = false ∧
    (Instr.tapBeat 0 15 ⟨4, 0, 0, 0, true, true, 0, true⟩).wf .wfk8 = false := by decide

theorem test_wf_elements : (Instr.launchFire (.ikb 0) 16).wf .wfk8 = false ∧ (Instr.launchFire (.wdie 0) 24).wf .wfk8 = false ∧
    (Instr.prismRuleArm (.wdie 0) 64).wf .wfk8 = false ∧ (Instr.domainWake (.ikb 0) 4 0).wf .wfk8 = false ∧
    (Instr.traceRetire 0 64 ⟨false, false, 0, 0, 0, true⟩).wf .wfk8 = false ∧ (Instr.bankClear 0 64).wf .wfk8 = false ∧
    (Instr.ctxDrainDone 0 512).wf .wfk8 = false ∧ (Instr.mboxSend (.ikb 0) 0 32).wf .wfk8 = false := by decide

theorem test_wf_codes : (Instr.sourceLoss (.ikb 0) 5).wf .wfk8 = false ∧ (Instr.launchMode 0 4).wf .wfk8 = false ∧
    (Instr.startStepTimeout 0 0).wf .wfk8 = false ∧ (Instr.startStepTimeout 0 10).wf .wfk8 = false ∧
    (Instr.thermSample 0 0 4096 true).wf .wfk8 = false ∧ (Instr.busLow 4096).wf .wfk8 = false ∧
    (Instr.pageError (.ikb 0) .abft 1 4 0).wf .wfk8 = false := by decide

/-! ## The worked examples of the spec -/

/-- The row and features of the example of spec 14 (Table 14.9), group 3. -/
def Wit.feats : List LFeat :=
  [⟨1, 0, false, 2, 0, 0, 0, 0x36800000, 0xBF800000, [0x3F800000, 0x40000000, 0x40800000, 0x41000000, 0x41800000], 0⟩,
   ⟨3, 0, false, 5, 6, 0, 0, 0x3F800000, 0, [0x3E800000, 0x3F000000, 0x3F400000], 0⟩,
   ⟨4, 0, false, 0, 0, 0, 1, 0, 0, [], 4⟩]
def Wit.featRow (a b : Nat) : FeatRow :=
  ⟨3, 100000, List.replicate 56 0 ++ [1572864, 0, 0, a, b], some (0, List.replicate 61 0)⟩
def Wit.tree : LTree :=
  ⟨0, 5, [0x0000003C00080000, 0x0010001C00000000, 0x0020009404040000, 0x000000540C0C0000].map nodeOf,
   [0xBF000000, 0x3E800000, 0x3FC00000, 0xBF800000, 0x40000000]⟩

/-- Spec 14: codes 3, 2 and 14; y of feature 0 is 5.0. -/
theorem test_feature_codes : (featGroup (Wit.featRow 600 1000) Wit.feats 54).codes = [3, 2, 14] ∧
    (featGroup (Wit.featRow 600 1000) Wit.feats 54).ys = [some 0x40A00000, some 0x3F19999A, none] := by decide +kernel

/-- Spec 14: with lanes 59 and 60 unchanged features 1 and 2 take code 0xFFFF. -/
theorem test_feature_nan : (featGroup (Wit.featRow 0 0) Wit.feats 54).codes = [3, 0xFFFF, 0xFFFF] := by decide +kernel

/-- Spec 14 Table 14.9: leaf 2 is 1.5; with NaN codes leaf 0 is -0.5. -/
theorem test_tree_leaves : evalTree Wit.tree [3, 2, 14] = some 0x3FC00000 ∧
    evalTree Wit.tree [3, 0xFFFF, 0xFFFF] = some 0xBF000000 := by decide +kernel

/-- Spec 14: margins 1.25 and -0.75; the logistic output 0.7772999 reaches THR 0.75. -/
theorem test_margins : margins [0xBF800000] 1 [(0, 0x3FC00000), (0, 0x3F400000)] = [0x3FA00000] ∧
    margins [0xBF800000] 1 [(0, 0xBF000000), (0, 0x3F400000)] = [0xBF400000] ∧
    (outputs 1 [0x3FA00000]).map (fun o => fge o 0x3F400000) = [true] := by decide +kernel

/-- Spec 12 Table 12.10: the payload of TIME2 is 121 bits in 16 bytes that begin 0x23, 0xE8; TIME 155 and PLANE 167. -/
theorem test_codec_example :
    (mainPay 1 64 0 2 table0 [[1000, 2000, 0, 5000], [1500, 2600, 0, 5000], [2000, 3200, 0, 5001]] none none).map
      (fun p => (p.bytes.length, p.bytes.take 2, p.dyn)) = some (16, [0x23, 0xE8], false) ∧
    ([2, 1, 0].map fun _ => 0) = [0, 0, 0] ∧
    [2, 1].map (fun p => (toksBits table0 (tokens 13 (residuals p 64 0
      [[1000, 2000, 0, 5000], [1500, 2600, 0, 5000], [2000, 3200, 0, 5001]] none none))).map List.length) =
      [some 121, some 155] := by decide +kernel

/-- Spec 13 R380: 2^24, 1 and -2^24 sum to 1.0 exactly, 0x3FF0_0000_0000_0000. -/
theorem test_sum_f32_exact :
    ([(0x4B800000, 0), (0x3F800000, 1), (0xCB800000, 2)].foldl (fun p e => joinPart 2 2 1 0 p (onePart 2 2 e.1 e.2 false))
      (emptyPart 2)) = .sumF (2 ^ 149) 0 0 0 ∧ f64Result (2 ^ 149) 0 0 0 = 0x3FF0000000000000 := by decide +kernel

/-- Spec 13 R382: the first values of the log region, the last bucket that receives a value. -/
theorem test_buckets : bucketOf 127 = 127 ∧ bucketOf 128 = 128 ∧ bucketOf 256 = 256 ∧ bucketOf 257 = 256 ∧
    bucketOf (2 ^ 64 - 1) = 7423 ∧ bucketEdge 256 = 256 := by decide +kernel

/-- The tile of the example of spec 07: C[0][1] is the argument. -/
def Wit.tile (c01 : Nat) : Tile :=
  ⟨0, 5, 7, 0, 0, 2, 2, 2, 2, false, false, none, none, ⟨true, true, 3, [0x3E00 + 65536 * 0x4000, 0x3400 + 65536 * 0xBC00]⟩,
   ⟨true, true, 3, [0x4000 + 65536 * 0x3800, 0x4400 + 65536 * 0xC200]⟩,
   ⟨true, true, 3, [0x4980 + 65536 * c01, 0xC300 + 65536 * 0x4240]⟩, none, false⟩
def Wit.abft : State := Wit.st [(.ikb 0, abftEngTolMult 3, 6), (.ikb 0, abftTolAbsFp16Tol, 0)]

/-- Spec 07: ROW 0, COL 1, DIFF 0.25 and TOL 0.052734375; -5.25 and -5.25390625 pass. -/
theorem test_tile_example : Wit.abft.checkTile 0 3 (Wit.tile 0xC500) 0 0 = .mismatch (some 0) (some 1) 0x3E800000 0x3D580000 ∧
    Wit.abft.checkTile 0 3 (Wit.tile 0xC540) 0 0 = .pass ∧ Wit.abft.checkTile 0 3 (Wit.tile 0xC541) 0 0 = .pass := by
  decide +kernel

/-- Spec 05 R144: the addend of the example commits; one unit beyond the limit keeps the old one. -/
theorem test_addend_example :
    (match exec (.addendCommit (.wdie 0) 0 0x13)
        { State.reset with buffers := [(reqKey (.wdie 0) 0, timeAddendLoAdd.key (.wdie 0), 0xFFEF9DB2)] } with
      | .next t => t.addend (.wdie 0)
      | _ => 0) = 85898272178 ∧
    (match exec (.addendCommit (.wdie 0) 0 0x14)
        { State.reset with buffers := [(reqKey (.wdie 0) 0, timeAddendLoAdd.key (.wdie 0), 0x5000001)] } with
      | .next t => t.addend (.wdie 0)
      | _ => 0) = 0x1400000000 := by decide +kernel

/-- Spec 08: SCALE 51,200 and ICODE 3,946 read 23,121. -/
theorem test_current_example :
    (match exec (.senseConversion 0 0 2000 3946) (Wit.st [(.ikb 0, hdrBlkCtrlEnable .health, 1),
        (.ikb 0, healthRailScaleScale 0, 51200), (.ikb 0, healthChanEnEn, 255)]) with
      | .next t => t.rd (.ikb 0) (healthRailNowINow 0)
      | _ => 0) = 23121 := by decide +kernel

/-- The check value of CRC-32C over "123456789" (the standard that spec 00 Table 0.4 names). -/
theorem test_crc32c : crc32c [0x31#8, 0x32#8, 0x33#8, 0x34#8, 0x35#8, 0x36#8, 0x37#8, 0x38#8, 0x39#8] = 0xE3069283#32 := by
  decide +kernel

/-- A step takes the front command and leaves the rest; with none it is 20 ns. -/
theorem test_step_takes_front :
    (match step { State.reset with pending := [.evtOccurrence 0 5, .timeReacquire (.ikb 0)] } with
      | .next t => (t.pending, t.now)
      | _ => ([], 1)) = ([.timeReacquire (.ikb 0)], 0) ∧
    (match step State.reset with
      | .next t => (t.pending, t.now)
      | _ => ([], 1)) = ([], 20) := by decide +kernel

/-! ## Witnesses of the statements -/

theorem test_witness_RouteTableCommands :
    ((fun s : State => (xlatOf s.eEntry 0).flat = true ∧ bitAt s.eEntry 41 = 1 ∧ (xlatOf s.eEntry 0).job = 0 ∧ (xlatOf s.eEntry 0).key ≠ 0xFFFFFF ∧ s.entriesAfter (put (xlatOf s.eEntry 0).key (some (xlatOf s.eEntry 0)) s.flatStage) s.natStaged ≤ s.rd .pkg pkgrTblCapEntries) ((Wit.st [(.pkg, pkgrTblCapEntries, 100)]).setEEntry (2^40+2^41+5*2^16))) ∧
    ((fun s : State => (s.xlat.any fun e => e.flat && e.key == (xlatOf s.eEntry 0).key) = true) { State.reset.setEEntry (2^40+2^41+5*2^16) with xlat := [⟨0, 0, 5, true, 1, 0, 0, 0, 0⟩] }) ∧
    ((fun s : State => (s.xlat.any fun e => e.flat && e.key == (xlatOf s.eEntry 0).key) = false ∧ ((look (xlatOf s.eEntry 0).key s.flatStage).any fun c => c.isSome) = true) { State.reset.setEEntry (2^40+2^41+5*2^16) with flatStage := [(5, some ⟨0, 0, 5, true, 1, 0, 0, 0, 0⟩)] }) ∧
    ((fun s : State => (xlatOf s.eEntry 0).flat = true ∧ (s.translate 0 (xlatOf s.eEntry 0).job (xlatOf s.eEntry 0).key (xlatOf s.eEntry 0).flat) = (some ⟨0, 0, 5, true, 1, 0, 0, 0, 0⟩, s)) { State.reset.setEEntry (2^40+2^41+5*2^16) with xlat := [⟨0, 0, 5, true, 1, 0, 0, 0, 0⟩] }) ∧
    ((fun s : State => (xlatOf s.eEntry (s.rd .pkg pkgrEIndexIdx)).gen = s.rd .pkg pkgrGenInForce ∧ s.rd .pkg pkgrEIndexIdx < s.rd .pkg pkgrTblCapEntries ∧ bitAt s.eEntry 41 = 1) ((Wit.st [(.pkg, pkgrTblCapEntries, 100)]).setEEntry (2^40+2^41+5*2^16))) ∧
    ((fun s : State => s.jobStage = [] ∧ s.natDel = []) State.reset) := by
  refine ⟨?_, ?_, ?_, ?_, ?_, ?_⟩ <;> decide +kernel

theorem test_witness_SpineFlowCommands :
    ((fun (P source : Nat) (frame : FabricFrame) (r : RxFlow) (s : State) => s.on (dieOfOpt P) (portsStatUp (P % 2)) = true ∧ s.portRole P = 2 ∧ s.aged (dieOfOpt P) frame.hdr = false ∧ s.rxFlow source frame.hdr.flow = some r ∧ r.started = true ∧ r.held = [] ∧ frame.hdr.seq = r.next ∧ r.next < 2 ^ 32 ∧ 0 < s.rd .pkg windowFrames) 1 7 { hdr := { kind := 1, flow := 3, seq := 9 } } { source := 7, flow := 3, next := 9, started := true, last := 0 } { Wit.st [(.wdie 0, portsStatUp 1, 1)] with rxFlows := [{ source := 7, flow := 3, next := 9, started := true, last := 0 }] }) ∧
    ((fun (P : Nat) (frame : FabricFrame) (s : State) => s.on (dieOfOpt P) (portsStatUp (P % 2)) = true ∧ s.portRole P = 2 ∧ s.aged (dieOfOpt P) frame.hdr = true) 1 { hdr := { kind := 1, timeLocked := true } } { Wit.st [(.wdie 0, portsStatUp 1, 1), (.wdie 0, timeStatFleetLock, 1)] with ltc := [(0, { sec := 5 })] }) ∧
    ((fun (r : RxFlow) (s : State) => s.rxFlow 7 3 = some r ∧ s.windowDue r = true) { source := 7, flow := 3, next := 9, last := 0, windowAt := 1 } { State.reset with now := 600000, rxFlows := [{ source := 7, flow := 3, next := 9, last := 0, windowAt := 1 }] }) ∧
    ((fun (r : RxFlow) (s : State) => s.rxFlow 7 3 = some r ∧ r.last + 100 * ms ≤ s.now) { source := 7, flow := 3, next := 9, last := 0 } { State.reset with now := 100000000, rxFlows := [{ source := 7, flow := 3, next := 9, last := 0 }] }) ∧
    ((fun (f : TxFlow) (s : State) => (s.flowsOf 0).find? (fun f => f.id == 5) = some f ∧ f.last + 100 * ms ≤ s.now) ⟨5, 1, 1, 1, 0⟩ { State.reset with now := 100000000, txFlows := [(0, [⟨5, 1, 1, 1, 0⟩])] }) := by
  refine ⟨?_, ?_, ?_, ?_, ?_⟩ <;> decide +kernel

theorem test_witness_FabricHopCommands :
    ((fun (e : Xlat) (s : State) => s.translate 0 7 5 false = (some e, s)) ⟨0, 7, 5, false, 1, 0, 0, 0, 0⟩ { State.reset with xlat := [⟨0, 7, 5, false, 1, 0, 0, 0, 0⟩] }) ∧
    (State.reset.translate 0 7 5 false = (none, State.reset)) ∧
    ((fun (s : State) => s.on (dieOfOpt 0) (portsStatUp 0) = true ∧ s.portUsable 0 = true ∧ s.mode (dieOfOpt 0) ≠ .midnight ∧ s.enabled (dieOfOpt 0) .torus = true) (Wit.st [(.wdie 0, portsStatUp 0, 1), (.wdie 0, portsStatUsable 0, 1), (.wdie 0, hdrBlkCtrlEnable .torus, 1), (.pkg, pkgSizeDiePresent, 255), (.wdie 0, pwrStatMode, 0)])) ∧
    ((fun (s : State) => s.on (dieOfOpt 0) (portsStatUp 0) = true) (Wit.st [(.wdie 0, portsStatUp 0, 1)])) ∧
    ((fun (f : EgFrame) (s : State) => s.enabled (dieOfOpt 0) .torus = true ∧ (s.queueOf 0 (2 % 8)).head? = some f ∧ s.portUsable 0 = false ∧ s.portRole 0 = 1 ∧ f.frame.hdr.kind ≠ 5) ⟨{ hdr := { kind := 1 } }, 100, none⟩ ((Wit.st [(.wdie 0, hdrBlkCtrlEnable .torus, 1)]).setQueue 0 2 [⟨{ hdr := { kind := 1 } }, 100, none⟩])) ∧
    ((fun (s : State) => s.enabled (dieOfOpt 0) .torus = true ∧ s.portRole 0 = 1 ∧ s.on (dieOfOpt 0) (portsStatUp 0) = true ∧ s.on .pkg pkgStartStatJoined = true) (Wit.st [(.wdie 0, portsStatUp 0, 1), (.wdie 0, hdrBlkCtrlEnable .torus, 1), (.pkg, pkgStartStatJoined, 1)])) ∧
    ((fun (s : State) => s.enabled (dieOfOpt 0) .torus = true ∧ s.portRole 0 = 1 ∧ s.on (dieOfOpt 0) (portsStatUp 0) = true) (Wit.st [(.wdie 0, portsStatUp 0, 1), (.wdie 0, hdrBlkCtrlEnable .torus, 1)])) ∧
    ((fun (s : State) => s.on (dieOfOpt 0) (portsStatUsable 0) = true ∧ s.rd (dieOfOpt 0) (peerAt 0) - 1 + 3 * ms ≤ s.now) { Wit.st [(.wdie 0, portsStatUsable 0, 1)] with now := 3000000 }) ∧
    (State.reset.roleRefused 3 2 0 0 = false) ∧
    (State.reset.roleRefused 1 0 0 0 = true) := by
  refine ⟨?_, ?_, ?_, ?_, ?_, ?_, ?_, ?_, ?_, ?_⟩ <;> decide +kernel

theorem test_witness_PackageCommands :
    (0 < State.d2dLinks State.reset ∧ (Wit.st [(.wdie 0, d2dStatLinkUp, 1)]).d2dUp 0 0 = true) ∧
    (2 < State.d2dLinks State.reset) ∧
    (([0, 0].countP fun x => x == 0) ≠ 1) ∧
    ((fun s : State => s.present 1 = true ∧ s.rd (.wdie 1) pathLostAt ≠ 0 ∧ s.rd (.wdie 1) pathLostAt - 1 + 10 * ms ≤ s.now) { Wit.st [(.pkg, pkgSizeDiePresent, 255), (.wdie 1, pathLostAt, 1)] with now := 10000000 }) ∧
    (look (lineOf (dieAddr 1 64)) State.reset.corrected = none) ∧
    ((fun s : State => s.capSum (.wdie 0) - s.rd (.wdie 0) (dramcBwCapCap 0) + bitsOf 0 0 16 ≤ capLimit (popCount 8 (s.keptChannels (.wdie 0)))) State.reset) ∧
    (64 % 512 + 64 ≤ State.dies State.reset * 64) ∧
    ((fun s : State => 8 ≤ 68719476736 ∧ s.rd (.wdie 0) pcieBar2BaseGib = 0 ∧ 0 < s.dies ∧ s.present 0 = true ∧ 8 ≤ s.rd (.wdie 0) dramcCapGib * 1073741824) (Wit.st [(.pkg, pkgSizeDiePresent, 255), (.wdie 0, dramcCapGib, 64)])) ∧
    ((fun s : State => 8 ≤ 68719476736 ∧ s.rd (.wdie 0) pcieBar2BaseGib = 0 ∧ 0 < s.dies ∧ s.present 0 = true ∧ 8 ≤ s.rd (.wdie 0) dramcCapGib * 1073741824 ∧ s.poisoned = []) (Wit.st [(.pkg, pkgSizeDiePresent, 255), (.wdie 0, dramcCapGib, 64)])) := by
  refine ⟨?_, ?_, ?_, ?_, ?_, ?_, ?_, ?_, ?_⟩ <;> decide +kernel

theorem test_witness_OpticalCommands :
    ((Wit.st [(.wdie 0, portsStatUp 0, 1)]).on (dieOfOpt 0) (portsStatUp (0 % 2)) = true) ∧
    ((fun (P : Nat) (s : State) => s.on (dieOfOpt P) (portsStatRetired (P % 2)) = false ∧ s.on (dieOfOpt P) squelched = false ∧ s.present (P / 2) = true ∧ s.portRole P ≠ 0 ∧ s.bit (dieOfOpt P) optElsOutOk (P % 2) = true ∧ s.on (.wdie 0) optElsSwapPrep = false ∧ s.lanesAllowed P = 3) 0 (Wit.st [(.pkg, pkgSizeDiePresent, 255), (.wdie 0, optElsOutOk, 3), (.wdie 0, pwrStatMode, 0)])) ∧
    ((Wit.st [(.wdie 0, optElsOutOk, 3)]).bit (dieOfOpt 0) optElsOutOk (0 % 2) = true) ∧
    ((3 ≠ 0 ∨ 1 % 2 = 0)) ∧
    ((Wit.st [(.wdie 0, portsStatLanes 0, 3)]).rd (dieOfOpt 0) (portsStatLanes (0 % 2)) = 3) ∧
    ((fun s : State => s.rd (dieOfOpt 0) (portsStatLanes (0 % 2)) = 2 ∧ 3 % 4 / 2 = s.rd (dieOfOpt 0) (halfUsed (0 % 2))) (Wit.st [(.wdie 0, portsStatLanes 0, 2), (.wdie 0, halfUsed 0, 1)])) ∧
    ((Wit.st [(.wdie 0, optSweepLocked, 255)]).bit (.wdie 0) optSweepLocked 7 = true) ∧
    ((Wit.st [(.wdie 0, hdrBlkCtrlEnable .opt, 1)]).enabled (.wdie 0) .opt = true) ∧
    ((Wit.st [(.wdie 0, optSweepBusy, 1)]).bit (.wdie 0) optSweepBusy 0 = true) ∧
    ((fun (P switch k : Nat) (xs : List MirrorSample) (s : State) => s.enabled (.wdie 0) .mirror = true ∧ s.on (.wdie 0) mirrorCtrlEnable = true ∧ s.portRole P = 2 ∧ xs ≠ [] ∧ xs.length ≤ 64 ∧ (∀ x ∈ xs, x.data ≠ [] ∧ x.data.length ≤ 128) ∧ k < 32 ∧ s.on (.wdie 0) (mirrorSwitchValid k) = true ∧ s.rd (.wdie 0) (mirrorSwitchSwitchId k) = switch) 1 5 31 [⟨0, 0, 0, [1]⟩] (Wit.st [(.wdie 0, hdrBlkCtrlEnable .mirror, 1), (.wdie 0, mirrorCtrlEnable, 1), (.wdie 0, mirrorSwitchValid 31, 1), (.wdie 0, mirrorSwitchSwitchId 31, 5)])) ∧
    ((Wit.st [(.wdie 0, hdrBlkCtrlEnable .mirror, 1)]).enabled (.wdie 0) .mirror = true) := by
  refine ⟨?_, ?_, ?_, ?_, ?_, ?_, ?_, ?_, ?_, ?_, ?_⟩ <;> decide +kernel

theorem test_witness_NoticeAndTelemetryFrames :
    ((fun (p : Nat) (s : State) => s.on (dieOfPort p) (ltlStatUp (linkOfPort p)) = true ∧ s.on (dieOfPort p) (verBad (linkOfPort p)) = false ∧ ((s.wr (dieOfPort p) (uncorrRun (linkOfPort p)) 0).arriveLtl p 2 2 [1, 2]).2 = true) 0 (Wit.st [(.wdie 0, ltlStatUp (.ltl 0), 1)])) ∧
    ((fun (p : Nat) (s : State) => s.on (dieOfPort p) (ltlStatUp (linkOfPort p)) = true ∧ s.on (dieOfPort p) (verBad (linkOfPort p)) = false ∧ ((s.wr (dieOfPort p) (uncorrRun (linkOfPort p)) 0).arriveLtl p 3 2 [1, 2]).2 = true) 0 (Wit.st [(.wdie 0, ltlStatUp (.ltl 0), 1)])) ∧
    ((fun (p : Nat) (s : State) => s.on (dieOfPort p) (ltlStatUp (linkOfPort p)) = true ∧ s.on (dieOfPort p) (verBad (linkOfPort p)) = false ∧ ((s.wr (dieOfPort p) (uncorrRun (linkOfPort p)) 0).arriveLtl p 3 2 [1, 2]).2 = true) 0 (Wit.st [(.wdie 0, ltlStatUp (.ltl 0), 1)])) ∧
    ((fun (p : Nat) (s : State) => s.on (dieOfPort p) (ltlStatUp (linkOfPort p)) = true ∧ s.on (dieOfPort p) (verBad (linkOfPort p)) = false ∧ ((s.wr (dieOfPort p) (uncorrRun (linkOfPort p)) 0).arriveLtl p 4 2 [1, 2]).2 = true) 0 (Wit.st [(.wdie 0, ltlStatUp (.ltl 0), 1)])) ∧
    ((fun (p : Nat) (s : State) => s.on (dieOfPort p) (ltlStatUp (linkOfPort p)) = true ∧ s.on (dieOfPort p) (verBad (linkOfPort p)) = false ∧ ((s.wr (dieOfPort p) (uncorrRun (linkOfPort p)) 0).arriveLtl p 5 2 [1, 2]).2 = true) 0 (Wit.st [(.wdie 0, ltlStatUp (.ltl 0), 1)])) ∧
    ((fun (n : Notice) (s : State) => s.notices.find? (fun n => n.seq == 3) = some n ∧ n.lastSend + 2 * ms ≤ s.now ∧ s.on .pkg pkgStartStatDone = true ∧ n.sends < 16) ⟨3, 1, 1, 1, 0, [], 15, 0⟩ { Wit.st [(.pkg, pkgStartStatDone, 1)] with now := 2000000, notices := [⟨3, 1, 1, 1, 0, [], 15, 0⟩] }) := by
  refine ⟨?_, ?_, ?_, ?_, ?_, ?_⟩ <;> decide +kernel

theorem test_witness_ContextCommands :
    ((fun (c : Ctx) (s : State) => s.enabled (.wdie 0) .ctx = true ∧ s.ctxAt (s.ctxSlotKey 0) = some c) { job := 1, dieIndex := 0, kind := 0, aware := false, redMark := false, queue := 2, cir := 1, pir := 1, cbs := 1, pbs := 1, tc := 0, tp := 0, last := 0 } { Wit.st [(.wdie 0, hdrBlkCtrlEnable .ctx, 1)] with ctxs := [(0, { job := 1, dieIndex := 0, kind := 0, aware := false, redMark := false, queue := 2, cir := 1, pir := 1, cbs := 1, pbs := 1, tc := 0, tp := 0, last := 0 })] }) ∧
    ((fun (c : Ctx) (s : State) => s.enabled (.wdie 0) .ctx = true ∧ s.ctxAt (s.ctxSlotKey 0) = some c ∧ c.state ≠ 4 ∧ 2 ≤ s.rd (.wdie 0) ctxEPoliceQueue ∧ policeOk (s.rd (.wdie 0) ctxECirCir) (s.rd (.wdie 0) ctxEPirPir) (s.rd (.wdie 0) ctxEBurstCbs) (s.rd (.wdie 0) ctxEBurstPbs) = true) { job := 1, dieIndex := 0, kind := 0, aware := false, redMark := false, queue := 2, cir := 1, pir := 1, cbs := 1, pbs := 1, tc := 0, tp := 0, last := 0 } { Wit.st [(.wdie 0, hdrBlkCtrlEnable .ctx, 1), (.wdie 0, ctxEPoliceQueue, 2), (.wdie 0, ctxECirCir, 1), (.wdie 0, ctxEPirPir, 1), (.wdie 0, ctxEBurstCbs, 1), (.wdie 0, ctxEBurstPbs, 1)] with ctxs := [(0, { job := 1, dieIndex := 0, kind := 0, aware := false, redMark := false, queue := 2, cir := 1, pir := 1, cbs := 1, pbs := 1, tc := 0, tp := 0, last := 0 })] }) ∧
    ((fun (c : Ctx) (s : State) => s.enabled (.wdie 0) .ctx = true ∧ s.ctxAt (s.ctxSlotKey 0) = some c ∧ c.state ≠ 4 ∧ s.rd (.wdie 0) ctxCmdDie = 0 ∧ s.present 0 = true) { job := 1, dieIndex := 0, kind := 0, aware := false, redMark := false, queue := 2, cir := 1, pir := 1, cbs := 1, pbs := 1, tc := 0, tp := 0, last := 0 } { Wit.st [(.wdie 0, hdrBlkCtrlEnable .ctx, 1), (.pkg, pkgSizeDiePresent, 255)] with ctxs := [(0, { job := 1, dieIndex := 0, kind := 0, aware := false, redMark := false, queue := 2, cir := 1, pir := 1, cbs := 1, pbs := 1, tc := 0, tp := 0, last := 0 })] }) ∧
    ((fun (c : Ctx) (s : State) => s.enabled (.wdie 0) .ctx = true ∧ s.ctxAt (s.ctxSlotKey 0) = some c ∧ c.state ≠ 4) { job := 1, dieIndex := 0, kind := 0, aware := false, redMark := false, queue := 2, cir := 1, pir := 1, cbs := 1, pbs := 1, tc := 0, tp := 0, last := 0 } { Wit.st [(.wdie 0, hdrBlkCtrlEnable .ctx, 1)] with ctxs := [(0, { job := 1, dieIndex := 0, kind := 0, aware := false, redMark := false, queue := 2, cir := 1, pir := 1, cbs := 1, pbs := 1, tc := 0, tp := 0, last := 0 })] }) ∧
    ((fun (c : Ctx) (s : State) => s.enabled (.wdie 0) .ctx = true ∧ s.ctxAt (s.ctxSlotKey 0) = some c ∧ c.state ≠ 4 ∧ c.state ≠ 2) { job := 1, dieIndex := 0, kind := 0, aware := false, redMark := false, queue := 2, cir := 1, pir := 1, cbs := 1, pbs := 1, tc := 0, tp := 0, last := 0 } { Wit.st [(.wdie 0, hdrBlkCtrlEnable .ctx, 1)] with ctxs := [(0, { job := 1, dieIndex := 0, kind := 0, aware := false, redMark := false, queue := 2, cir := 1, pir := 1, cbs := 1, pbs := 1, tc := 0, tp := 0, last := 0 })] }) ∧
    ((fun (c : Ctx) (s : State) => s.enabled (.wdie 0) .ctx = true ∧ s.ctxAt (s.ctxSlotKey 0) = some c ∧ c.state ≠ 4) { job := 1, dieIndex := 0, kind := 0, aware := false, redMark := false, queue := 2, cir := 1, pir := 1, cbs := 1, pbs := 1, tc := 0, tp := 0, last := 0 } { Wit.st [(.wdie 0, hdrBlkCtrlEnable .ctx, 1)] with ctxs := [(0, { job := 1, dieIndex := 0, kind := 0, aware := false, redMark := false, queue := 2, cir := 1, pir := 1, cbs := 1, pbs := 1, tc := 0, tp := 0, last := 0 })] }) ∧
    ((fun (c : Ctx) (s : State) => s.enabled (.wdie 0) .ctx = true ∧ [0, 1, 2, 3, 4, 5, 0x10, 0x11].contains (s.rd (.wdie 0) ctxKey0Kind) = true ∧ s.findCtx (s.rd (.wdie 0) ctxKey1Job) (s.rd (.wdie 0) ctxKey0DieIndex) (s.rd (.wdie 0) ctxKey0Kind) = some (0, c)) { job := 1, dieIndex := 0, kind := 0, aware := false, redMark := false, queue := 2, cir := 1, pir := 1, cbs := 1, pbs := 1, tc := 0, tp := 0, last := 0 } { Wit.st [(.wdie 0, hdrBlkCtrlEnable .ctx, 1), (.wdie 0, ctxKey1Job, 1)] with ctxs := [(0, { job := 1, dieIndex := 0, kind := 0, aware := false, redMark := false, queue := 2, cir := 1, pir := 1, cbs := 1, pbs := 1, tc := 0, tp := 0, last := 0 })] }) := by
  refine ⟨?_, ?_, ?_, ?_, ?_, ?_, ?_⟩ <;> decide +kernel

theorem test_witness_ContextLife :
    ((fun (c : Ctx) (s : State) => s.ctxAt (ctxKey 0 0) = some c) { job := 1, dieIndex := 0, kind := 0, aware := false, redMark := false, queue := 2, cir := 1, pir := 1, cbs := 1, pbs := 1, tc := 0, tp := 0, last := 0 } { State.reset with ctxs := [(0, { job := 1, dieIndex := 0, kind := 0, aware := false, redMark := false, queue := 2, cir := 1, pir := 1, cbs := 1, pbs := 1, tc := 0, tp := 0, last := 0 })] }) ∧
    (State.reset.ctxAt (ctxKey 0 0) = none) ∧
    ((fun (c : Ctx) (s : State) => s.ctxAt (ctxKey 0 0) = some c ∧ c.state = 3 ∧ c.since + ms ≤ s.now) { job := 1, dieIndex := 0, kind := 0, state := 3, aware := false, redMark := false, queue := 2, cir := 1, pir := 1, cbs := 1, pbs := 1, tc := 0, tp := 0, last := 0 } { State.reset with now := 1000000, ctxs := [(0, { job := 1, dieIndex := 0, kind := 0, state := 3, aware := false, redMark := false, queue := 2, cir := 1, pir := 1, cbs := 1, pbs := 1, tc := 0, tp := 0, last := 0 })] }) ∧
    ((fun (c : Ctx) (s : State) => s.ctxAt (ctxKey 0 0) = some c ∧ c.state = 4) { job := 1, dieIndex := 0, kind := 0, state := 4, aware := false, redMark := false, queue := 2, cir := 1, pir := 1, cbs := 1, pbs := 1, tc := 0, tp := 0, last := 0 } { State.reset with now := 1000000, ctxs := [(0, { job := 1, dieIndex := 0, kind := 0, state := 4, aware := false, redMark := false, queue := 2, cir := 1, pir := 1, cbs := 1, pbs := 1, tc := 0, tp := 0, last := 0 })] }) ∧
    (State.reset.ctxs = []) ∧
    ((fun s : State => s.on (.wdie 0) routeMigrateSweepBusy = false ∧ s.rd (.wdie 0) dramcStatPendRetire &&& s.rd (.wdie 0) dramcCapChActive = 0) State.reset) ∧
    ((Wit.st [(.wdie 0, routeMigrateSweepBusy, 1)]).on (.wdie 0) routeMigrateSweepBusy = true) ∧
    (7 < 8 ∧ 2 ≤ bitsOf 8 2 3) ∧
    ((fun (s : State) => s.enabled (.wdie 0) .police = true ∧ s.on (.wdie 0) policeLevelAuto = true ∧ s.rd (.wdie 0) upSince ≠ 0 ∧ s.rd (.wdie 0) upSince - 1 + s.rd (.wdie 0) policeLevelTimeUpUs * us ≤ s.now ∧ argMax (fun p => s.recentBytes 0 p) ((List.range 8).map fun n => 8 * 0 + n) = some 0 ∧ s.rd (.wdie 0) (ltlCtrlLevelCmd (linkOfPort 0)) < 5) { Wit.st [(.wdie 0, hdrBlkCtrlEnable .police, 1), (.wdie 0, policeLevelAuto, 1), (.wdie 0, upSince, 1)] with now := 100000000 }) ∧
    ((fun (s : State) => s.enabled (.wdie 0) .police = true ∧ s.on (.wdie 0) policeLevelAuto = true ∧ s.rd (.wdie 0) downSince ≠ 0 ∧ s.rd (.wdie 0) downSince - 1 + s.rd (.wdie 0) policeLevelTimeDownMs * ms ≤ s.now ∧ argMax (fun p => s.rd (.wdie 0) (ltlCtrlLevelCmd (linkOfPort p))) ((List.range 8).map fun n => 8 * 0 + n) = some 3 ∧ 0 < s.rd (.wdie 0) (ltlCtrlLevelCmd (linkOfPort 3))) { Wit.st [(.wdie 0, hdrBlkCtrlEnable .police, 1), (.wdie 0, policeLevelAuto, 1), (.wdie 0, downSince, 1), (.wdie 0, ltlCtrlLevelCmd (.ltl 3), 1)] with now := 100000000000 }) ∧
    ((fun (s : State) => ((List.range s.dies).filter fun d => s.present d) = [0] ∧ s.ctxs = []) (Wit.st [(.pkg, pkgSizeDiePresent, 1)])) := by
  refine ⟨?_, ?_, ?_, ?_, ?_, ?_, ?_, ?_, ?_, ?_, ?_⟩ <;> decide +kernel

theorem test_witness_EgressCommands :
    ((Wit.st [(.wdie 0, hdrBlkCtrlEnable .sched, 1)]).enabled (dieOfOpt 0) .sched = true) ∧
    ((fun (f : EgFrame) (s : State) => s.enabled (dieOfOpt 1) .sched = true ∧ s.eligible 1 0 = true ∧ (s.queueOf 1 0).head? = some f) ⟨{ hdr := { kind := 3 } }, 100, none⟩ ((Wit.st [(.wdie 0, hdrBlkCtrlEnable .sched, 1), (.wdie 0, portsStatUp 1, 1), (.wdie 0, schedQueueShapeSburst 1 0, 10), (.wdie 0, schedPortPortBurstSburst 1, 10)]).setQueue 1 0 [⟨{ hdr := { kind := 3 } }, 100, none⟩])) ∧
    ((fun (f : EgFrame) (s : State) => s.enabled (dieOfOpt 1) .sched = true ∧ s.eligible 1 0 = false ∧ s.eligible 1 1 = true ∧ (s.queueOf 1 1).head? = some f) ⟨{ hdr := { kind := 3 } }, 100, none⟩ ((Wit.st [(.wdie 0, hdrBlkCtrlEnable .sched, 1), (.wdie 0, portsStatUp 1, 1), (.wdie 0, schedQueueShapeSburst 1 1, 10), (.wdie 0, schedPortPortBurstSburst 1, 10)]).setQueue 1 1 [⟨{ hdr := { kind := 3 } }, 100, none⟩])) ∧
    ((fun (P : Nat) (s : State) => s.enabled (dieOfOpt P) .sched = true ∧ s.credited P = true ∧ s.on (dieOfOpt P) (portsStatUp (P % 2)) = true) 0 (Wit.st [(.wdie 0, hdrBlkCtrlEnable .sched, 1), (.wdie 0, portsStatUp 0, 1)])) ∧
    ((fun (P : Nat) (s : State) => s.enabled (dieOfOpt P) .sched = true ∧ s.credited P = true ∧ s.on (dieOfOpt P) (portsStatUp (P % 2)) = true) 0 (Wit.st [(.wdie 0, hdrBlkCtrlEnable .sched, 1), (.wdie 0, portsStatUp 0, 1)])) ∧
    ((fun (P : Nat) (f : EgFrame) (s : State) => s.enabled (dieOfOpt P) .sched = true ∧ (s.queueOf P 2).head? = some f ∧ s.rd (dieOfOpt P) (waitSince (P % 2) 2) ≠ 0 ∧ s.rd (dieOfOpt P) (waitSince (P % 2) 2) - 1 + s.rd (dieOfOpt P) (schedPortPortBurstTransitWaitUs (P % 2)) * us < s.now) 0 ⟨{ hdr := { kind := 1 } }, 100, none⟩ { (Wit.st [(.wdie 0, hdrBlkCtrlEnable .sched, 1), (.wdie 0, waitSince 0 2, 1)]).setQueue 0 2 [⟨{ hdr := { kind := 1 } }, 100, none⟩] with now := 1000000000 }) ∧
    ((fun (P : Nat) (f : EgFrame) (s : State) => s.enabled (dieOfOpt P) .sched = true ∧ ((s.queueOf P 1).filter fun f => f.frame.deadline.any fun d => d < (s.ltcOf (dieOfOpt P)).nsTotal) = [f]) 0 ⟨{ hdr := { kind := 1 }, deadline := some 5 }, 100, none⟩ { (Wit.st [(.wdie 0, hdrBlkCtrlEnable .sched, 1)]).setQueue 0 1 [⟨{ hdr := { kind := 1 }, deadline := some 5 }, 100, none⟩] with ltc := [(0, { sec := 1 })] }) := by
  refine ⟨?_, ?_, ?_, ?_, ?_, ?_, ?_⟩ <;> decide +kernel

theorem test_witness_CodecSetup :
    (7 < 8 ∧ cfgOk (kindOfTemplate 7) (1 + 4 * 4 + 2 * 65536) = true) ∧
    (1 ≤ 15 ∧ 15 < 16 ∧ 9 < 10) ∧
    ((fun (c : Ctx) (b : CtxBlock) (s : State) => s.ctxAt (ctxKey 1 3) = some c ∧ c.cod.opened = some b ∧ b.at' + s.rd (.wdie 1) codecTimingCloseMs * ms ≤ s.now) { job := 1, dieIndex := 0, kind := 0, aware := false, redMark := false, queue := 3, cir := 0, pir := 0, cbs := 0, pbs := 0, tc := 0, tp := 0, last := 0, cod := { opened := some ⟨[], 0, false, ⟨0, 0, 0, 0, 0, false, 0⟩, [], 0⟩ } } ⟨[], 0, false, ⟨0, 0, 0, 0, 0, false, 0⟩, [], 0⟩ { Wit.st [] with now := 1000000000000, ctxs := [(515, { job := 1, dieIndex := 0, kind := 0, aware := false, redMark := false, queue := 3, cir := 0, pir := 0, cbs := 0, pbs := 0, tc := 0, tp := 0, last := 0, cod := { opened := some ⟨[], 0, false, ⟨0, 0, 0, 0, 0, false, 0⟩, [], 0⟩ } })] }) ∧
    ((fun (c : Ctx) (b : CtxBlock) (s : State) => s.stopped 1 = false ∧ s.enabled (.wdie 1) .codec = true ∧ (s.mode (.wdie (ctxKey 1 3 / 512)) == .midnight) = false ∧ s.ctxAt (ctxKey 1 3) = some c ∧ c.cod.closed = b :: []) { job := 1, dieIndex := 0, kind := 0, aware := false, redMark := false, queue := 3, cir := 0, pir := 0, cbs := 0, pbs := 0, tc := 0, tp := 0, last := 0, cod := { closed := [⟨[], 0, false, ⟨0, 0, 0, 0, 0, false, 0⟩, [], 0⟩] } } ⟨[], 0, false, ⟨0, 0, 0, 0, 0, false, 0⟩, [], 0⟩ { Wit.st [(.wdie 1, hdrBlkCtrlEnable .codec, 1), (.wdie 1, pwrStatMode, 0)] with ctxs := [(515, { job := 1, dieIndex := 0, kind := 0, aware := false, redMark := false, queue := 3, cir := 0, pir := 0, cbs := 0, pbs := 0, tc := 0, tp := 0, last := 0, cod := { closed := [⟨[], 0, false, ⟨0, 0, 0, 0, 0, false, 0⟩, [], 0⟩] } })] }) ∧
    ((fun (f : IngFrame) (c : Ctx) (s : State) => s.stopped 0 = false ∧ s.enabled (.wdie 0) .codec = true ∧ s.nextFrame 0 = some f ∧ s.ctxAt f.ctx = some c) { ctx := 3, kind := 0, port := none, marked := false, bytes := 8, body := [1] } { job := 1, dieIndex := 0, kind := 0, aware := false, redMark := false, queue := 3, cir := 0, pir := 0, cbs := 0, pbs := 0, tc := 0, tp := 0, last := 0 } { Wit.st [(.wdie 0, hdrBlkCtrlEnable .codec, 1)] with ctxs := [(3, { job := 1, dieIndex := 0, kind := 0, aware := false, redMark := false, queue := 3, cir := 0, pir := 0, cbs := 0, pbs := 0, tc := 0, tp := 0, last := 0 })], ingest := [(0, [{ ctx := 3, kind := 0, port := none, marked := false, bytes := 8, body := [1] }])] }) ∧
    (128 ≤ (State.stagedOf { State.reset with staging := [((Chip.wdie 0).code, List.replicate 128 ⟨0, 0, 0, 0, 0, 0, false, false, false, 0⟩)] } (.wdie 0)).length) ∧
    (32768 ≤ rawBytes (State.healthOf { State.reset with healthBuf := [(0, List.replicate 1366 (0, ⟨[], 0, false, ⟨0, 0, 0, 0, 0, false, 0⟩, [], 0⟩))] } 0)) ∧
    ((fun (c : Ctx) (s : State) => s.ctxAt (ctxKey 1 3) = some c ∧ c.state = 2 ∧ ((s.ingestOf 1).any fun f => f.ctx == ctxKey 1 3) = false) { job := 1, dieIndex := 0, kind := 0, state := 2, aware := false, redMark := false, queue := 3, cir := 0, pir := 0, cbs := 0, pbs := 0, tc := 0, tp := 0, last := 0 } { State.reset with ctxs := [(515, { job := 1, dieIndex := 0, kind := 0, state := 2, aware := false, redMark := false, queue := 3, cir := 0, pir := 0, cbs := 0, pbs := 0, tc := 0, tp := 0, last := 0 })] }) := by
  refine ⟨?_, ?_, ?_, ?_, ?_, ?_, ?_, ?_⟩ <;> decide +kernel

theorem test_witness_CodecDescriptors :
    ((fun s : State => (s.enabled (.wdie 0) .codec && !(s.mode (.wdie 0) == .midnight) && (s.descr 0).any fun x => x.op == 0 && !x.invalid && !s.hurt 0 x.src x.srcLen && x.state == 0 && x.path == 1 && !(codeBlock ⟨x.path, x.level, x.pred, x.table, x.laneW, x.signed, x.mask⟩ (s.tablesInForce 0) (s.rd (.wdie 0) codecTgenGen) true false false (srcRows x.rows ((s.dramBytes x.srcLen (dieAddr 0 x.src)).map BitVec.toNat)) {}).noGain) = true) { Wit.st [(.wdie 0, hdrBlkCtrlEnable .codec, 1), (.wdie 0, pwrStatMode, 0), (.wdie 0, codecCtrlRingEn, 1), (.wdie 0, codecRingSizeLog2, 4), (.wdie 0, codecRingPtrTail, 1)] with dram := [(0, 20), (6, 1), (9, 1), (16, 200), (20, 64), (24, 128)] }) ∧
    ((fun s : State => (s.enabled (.wdie 0) .codec && !(s.mode (.wdie 0) == .midnight) && (s.descr 0).any fun x => x.op == 0 && x.invalid) = true) { Wit.st [(.wdie 0, hdrBlkCtrlEnable .codec, 1), (.wdie 0, pwrStatMode, 0), (.wdie 0, codecCtrlRingEn, 1), (.wdie 0, codecRingSizeLog2, 4), (.wdie 0, codecRingPtrTail, 1)] with dram := [] }) ∧
    ((fun s : State => (s.enabled (.wdie 0) .codec && !(s.mode (.wdie 0) == .midnight) && (s.descr 0).any fun x => x.op == 1 && !x.invalid && s.hurt 0 x.src x.srcLen) = true) { Wit.st [(.wdie 0, hdrBlkCtrlEnable .codec, 1), (.wdie 0, pwrStatMode, 0), (.wdie 0, codecCtrlRingEn, 1), (.wdie 0, codecRingSizeLog2, 4), (.wdie 0, codecRingPtrTail, 1)] with dram := [(0, 21), (16, 64)], poisoned := [0] }) ∧
    ((fun s : State => (s.enabled (.wdie 0) .codec && !(s.mode (.wdie 0) == .midnight) && (s.descr 0).any fun x => x.op == 1 && !x.invalid && !s.hurt 0 x.src x.srcLen && x.state == 0 && !(decodeRun (s.tablesInForce 0) x.signed ((s.dramBytes x.srcLen (dieAddr 0 x.src)).length + 1) {} ((s.dramBytes x.srcLen (dieAddr 0 x.src)).map BitVec.toNat) []).2.2) = true) { Wit.st [(.wdie 0, hdrBlkCtrlEnable .codec, 1), (.wdie 0, pwrStatMode, 0), (.wdie 0, codecCtrlRingEn, 1), (.wdie 0, codecRingSizeLog2, 4), (.wdie 0, codecRingPtrTail, 1)] with dram := [(0, 21)] }) ∧
    ((fun s : State => (s.enabled (.wdie 0) .codec && !(s.mode (.wdie 0) == .midnight) && (s.descr 0).any fun x => x.op == 2 && !x.reserved && x.state != 0 && decide (x.lanes < 512) && (s.ctxAt (ctxKey 0 x.lanes)).isSome && ((s.sealCtx (ctxKey 0 x.lanes) false).ctxAt (ctxKey 0 x.lanes)).any fun c => c.cod.ref == none) = true) { Wit.st [(.wdie 0, hdrBlkCtrlEnable .codec, 1), (.wdie 0, pwrStatMode, 0), (.wdie 0, codecCtrlRingEn, 1), (.wdie 0, codecRingSizeLog2, 4), (.wdie 0, codecRingPtrTail, 1)] with dram := [(0, 2), (41, 1)], ctxs := [(0, { job := 1, dieIndex := 0, kind := 0, aware := false, redMark := false, queue := 3, cir := 0, pir := 0, cbs := 0, pbs := 0, tc := 0, tp := 0, last := 0 })] }) ∧
    ((fun s : State => (s.enabled (.wdie 0) .codec && !(s.mode (.wdie 0) == .midnight) && (s.descr 0).any fun x => x.op == 3 && !x.reserved && x.state != 0 && decide (x.lanes < 512) && !s.hurt 0 x.state 64 && (s.ctxAt (ctxKey 0 x.lanes)).any fun c => (s.readRecord 0 x.state (bitsOf c.cod.cfg 13 2) (c.cod.link.row1.map List.length)).any fun r => r.2 == 0xFFFFFFFF) = true) { Wit.st [(.wdie 0, hdrBlkCtrlEnable .codec, 1), (.wdie 0, pwrStatMode, 0), (.wdie 0, codecCtrlRingEn, 1), (.wdie 0, codecRingSizeLog2, 4), (.wdie 0, codecRingPtrTail, 1)] with dram := [(0, 3), (41, 1), (256, 1), (272, 255), (273, 255), (274, 255), (275, 255)], ctxs := [(0, { job := 1, dieIndex := 0, kind := 0, aware := false, redMark := false, queue := 3, cir := 0, pir := 0, cbs := 0, pbs := 0, tc := 0, tp := 0, last := 0 })] }) := by
  refine ⟨?_, ?_, ?_, ?_, ?_, ?_⟩ <;> decide +kernel

theorem test_witness_ClockSources :
    ((fun s : State => s.on (.ikb 2) clkISrcStatRefReady = false ∧ 15 ≤ s.rd (.ikb 2) refPasses) (Wit.st [(.ikb 2, refPasses, 15)])) ∧
    ((fun s : State => s.on (.ikb 2) clkISrcStatRefReady = false ∧ s.rd (.ikb 2) refPasses < 15) (Wit.st [(.ikb 2, refPasses, 14)])) ∧
    ((Wit.st [(.ikb 2, clkISrcStatRefReady, 1)]).on (.ikb 2) clkISrcStatRefReady = true) ∧
    ((Wit.st [(.ikb 2, clkISrcStatRefReady, 1)]).on (.ikb 2) clkISrcStatRefReady = true) ∧
    (1 < 2) ∧
    ((Wit.st [(.ikb 7, lossRow, 3)]).rd (.ikb 7) lossRow = 3) ∧
    (∀ i < domCount (.wdie 1), State.rd State.reset (.wdie 1) (swTarget i) = 0) := by
  refine ⟨?_, ?_, ?_, ?_, ?_, ?_, ?_⟩ <;> decide +kernel

theorem test_witness_SleepAndModes :
    (State.mode State.reset (.wdie 1) = .midnight ∧ ∀ b ∈ domBlks (.wdie 1) 4, State.on State.reset (.wdie 1) (hdrClkReqKeepAwake b) = false) ∧
    ((fun s : State => s.domFeed (.wdie 1) 4 ≠ 0 ∧ s.bit (.wdie 1) clkWDomRunRun 4 = false ∧ s.on (.wdie 1) clkWSrcStatPllLock = true) (Wit.st [(.wdie 1, clkWDomSrcSrc, 512), (.wdie 1, clkWSrcStatPllLock, 1)])) ∧
    ((Wit.st [(.ikb 0, clkIDomRunRun, 2)]).bit (.ikb 0) clkIDomRunRun 1 = true) ∧
    ((fun s : State => s.mode (.ikb 3) = .midnight ∧ s.rd (.ikb 3) clkIDomRunRun = 0 ∧ s.rd (.ikb 3) idleFrom + s.rd (.ikb 3) clkIIdlePllIdle * us ≤ s.now) { Wit.st [(.ikb 3, aonModeCurMode, 3)] with now := 100000000000 }) ∧
    (State.inTransition State.reset = true) ∧
    ((fun s : State => s.inTransition = false ∧ (s.dieBase = 0 → s.rd .pkg pkgmNextNsNs < 1000000000) ∧ s.dieTime + baseUs s.dieBase (leadUs (s.rd .pkg pkgmCurMode) (s.rd .pkg pkgmNextTarget)) ≤ s.nextInstant s.dieBase ∧ s.on .pkg pkgmNextArmed = false ∧ (s.wr .pkg pkgmNextArmed 1).on .pkg pkgmNextIkbFollow = false) (Wit.st [(.pkg, pkgStartStatDone, 1), (.pkg, pkgmNextSecLoSec, 100), (.pkg, pkgmNextIkbFollow, 0)])) ∧
    ((Wit.st [(.pkg, pkgmNextArmed, 1)]).on .pkg pkgmNextArmed = true) ∧
    ((fun s : State => s.on .pkg pkgmNextArmed = true ∧ s.nextInstant s.dieBase ≤ s.dieTime ∧ s.rd .pkg pkgmNextTarget ≠ s.rd .pkg pkgmCurMode ∧ earlyUs (s.rd .pkg pkgmCurMode) (s.rd .pkg pkgmNextTarget) = 0) (Wit.st [(.pkg, pkgmNextArmed, 1), (.pkg, pkgmCurMode, 0), (.pkg, pkgmNextTarget, 1)])) ∧
    ((fun s : State => s.on .pkg pkgmCurInTransition = true ∧ s.on .pkg pkgStartStatDone = true ∧ (∀ d < s.dies, s.present d = true → s.on (.wdie d) pwrStatSafe = false) ∧ s.on .pkg modeEarly = false ∧ ((s.enterPkg (s.rd .pkg pkgmNextTarget)).wr .pkg modePlaced 0).rd .pkg pkgmStatusResult ≠ 6) { Wit.st [(.pkg, pkgmCurInTransition, 1), (.pkg, pkgStartStatDone, 1), (.pkg, pkgmCurMode, 0), (.pkg, pkgmNextTarget, 1)] with size := .wfk2 }) ∧
    ((fun s : State => s.rd (.ikb 4) aonModeCurMode = 3 ∧ s.on (.ikb 4) aonModeInTransition = false) (Wit.st [(.ikb 4, aonModeCurMode, 3)])) ∧
    ((fun s : State => s.on (.ikb 4) aonPwrCtrlVikbOffReq = true ∧ s.on (.ikb 4) aonPwrCtrlRetainBaseline = false) (Wit.st [(.ikb 4, aonPwrCtrlVikbOffReq, 1), (.ikb 4, aonPwrCtrlRetainBaseline, 0)])) ∧
    ((Wit.st [(.wdie 0, hdrBlkCtrlEnable .therm, 1)]).enabled (.wdie 0) .therm = true) ∧
    (State.on State.reset (.wdie 0) pwrStatSrHeld = false) ∧
    ((Wit.st [(.wdie 0, pwrStatSrHeld, 1)]).on (.wdie 0) pwrStatSrHeld = true) := by
  refine ⟨?_, ?_, ?_, ?_, ?_, ?_, ?_, ?_, ?_, ?_, ?_, ?_, ?_, ?_⟩ <;> decide +kernel

theorem test_witness_TimeClock :
    ((fun (s : State) => s.heldLow (.wdie 0) 3 timeAddendLoAdd = some 5 ∧ nominalAddend (.wdie 0) ≤ 20 % 256 * 4294967296 + 5 + nominalAddend (.wdie 0) / 1024 ∧ 20 % 256 * 4294967296 + 5 ≤ nominalAddend (.wdie 0) + nominalAddend (.wdie 0) / 1024) { State.reset with buffers := [(reqKey (.wdie 0) 3, timeAddendLoAdd.key (.wdie 0), 5)] }) ∧
    ((Wit.st [(.ikb 1, timeStatState, 1)]).rd (.ikb 1) timeStatState = 1) ∧
    (State.rd State.reset (.ikb 1) timeStatState ≠ 1) ∧
    ((fun (s : State) => s.enabled (.wdie 0) .time = true ∧ (s.rd (.wdie 0) timeStatState = 2 ∨ s.rd (.wdie 0) timeStatState = 3) ∧ (s.servoOf (.wdie 0)).lastSample + s.rd (.wdie 0) timeParentTimeoutMs * ms ≤ s.now) { Wit.st [(.wdie 0, hdrBlkCtrlEnable .time, 1), (.wdie 0, timeStatState, 3)] with now := 100000000000000 }) ∧
    ((fun (m : PtpMessage) (s : State) => s.enabled (.wdie (1 / 2)) .time = true ∧ s.on (.wdie (1 / 2)) timePtpCfgEnable = true ∧ m.unlisted = false ∧ m.domain = s.rd (.wdie (1 / 2)) timePtpCfgDomain ∧ ptpListed (s.rd (.wdie (1 / 2)) (portsRoleRole (1 % 2))) m.kind = true ∧ m.kind ≠ 0xB) ⟨0, 24, false, 0, false⟩ (Wit.st [(.wdie 0, hdrBlkCtrlEnable .time, 1), (.wdie 0, timePtpCfgEnable, 1), (.wdie 0, timePtpCfgDomain, 24)])) ∧
    ((fun (s : State) => s.rd (.wdie 1) announceAt ≠ 0 ∧ s.rd (.wdie 1) announceAt + 3 * announceNs (s.rd (.wdie 1) timePtpCfgLogAnnounce) ≤ s.now + 1 ∧ s.rd (.wdie 1) timeStatState ≠ 3) { Wit.st [(.wdie 1, announceAt, 1)] with now := 100000000000000 }) ∧
    ((Wit.st [(.wdie 0, timeCtrlMerRoot, 1)]).on (.wdie 0) timeCtrlMerRoot = true) ∧
    ((fun (s : State) => s.enabled (.wdie 0) .time = true ∧ s.rd (.wdie 0) timeCtrlMerParent = 0 ∧ s.rd (.wdie 0) (portsRoleRole 0) = 1 ∧ s.on (.wdie 0) timeCtrlMerRoot = false) (Wit.st [(.wdie 0, hdrBlkCtrlEnable .time, 1), (.wdie 0, timeCtrlMerParent, 0), (.wdie 0, portsRoleRole 0, 1)])) := by
  refine ⟨?_, ?_, ?_, ?_, ?_, ?_, ?_, ?_⟩ <;> decide +kernel

theorem test_witness_TimeExchangeAndTags :
    ((Wit.st [(.wdie 0, hdrBlkCtrlEnable .time, 1)]).enabled (.wdie 0) .time = true) ∧
    ((Wit.st [(.ikb 5, ltlStatUp .link, 1)]).on (endChip 5 true) (ltlStatUp (endBlk 5 true)) = true) ∧
    ((Wit.st [(.wdie 0, ltlStatUp (.ltl 5), 1)]).on (endChip 5 false) (ltlStatUp (endBlk 5 false)) = true) ∧
    ((fun (s : State) => s.enabled (.ikb 1) .xrx = true ∧ s.mode (.ikb 1) ≠ .midnight ∧ s.bit (.ikb 1) (if 0 = 0 then xrxCtrlTxEn else xrxCtrlRxEn) 15 = true ∧ 7 &&& s.rd (.ikb 1) xrxSampleMaskMask = s.rd (.ikb 1) xrxSampleMatchMatch &&& s.rd (.ikb 1) xrxSampleMaskMask ∧ (s.tagsOf 1).length < 256 ∧ s.rd (.ikb 1) coderShedLevel < 5) (Wit.st [(.ikb 1, hdrBlkCtrlEnable .xrx, 1), (.ikb 1, xrxCtrlTxEn, 65535), (.ikb 1, aonModeCurMode, 0), (.ikb 1, xrxSampleMaskMask, 0)])) ∧
    ((fun (s : State) => s.enabled (.ikb 1) .xrx = true ∧ s.mode (.ikb 1) ≠ .midnight ∧ s.bit (.ikb 1) (if 0 = 0 then xrxCtrlTxEn else xrxCtrlRxEn) 15 = true ∧ 3 < 4) (Wit.st [(.ikb 1, hdrBlkCtrlEnable .xrx, 1), (.ikb 1, xrxCtrlTxEn, 65535), (.ikb 1, aonModeCurMode, 0), (.ikb 1, xrxSampleMaskMask, 0)])) := by
  refine ⟨?_, ?_, ?_, ?_, ?_⟩ <;> decide +kernel

theorem test_witness_LaunchSlots :
    ((fun s : State => s.enabled (.ikb 0) .launch = true ∧ 15 < slotCount (.ikb 0) ∧ s.slotFree (.ikb 0) 15 = true) (Wit.st [(.ikb 0, hdrBlkCtrlEnable .launch, 1)])) ∧
    ((fun s : State => s.enabled (.wdie 0) .launch = true ∧ 23 < slotCount (.wdie 0)) (Wit.st [(.wdie 0, hdrBlkCtrlEnable .launch, 1)])) ∧
    ((fun (u : Chip) (slot : Nat) (s : State) => slot < slotCount u ∧ s.rd u (launchSlotCtrlState slot) = 1 ∧ s.enabled u .launch = true ∧ s.slotInstant u slot (s.rd u (launchSlotCtrlBase slot)) ≤ s.timeIn u (s.rd u (launchSlotCtrlBase slot)) ∧ baseNs (s.rd u (launchSlotCtrlBase slot)) (s.timeIn u (s.rd u (launchSlotCtrlBase slot)) - s.slotInstant u slot (s.rd u (launchSlotCtrlBase slot))) ≤ 20 ∧ baseNs (s.rd u (launchSlotCtrlBase slot)) (s.timeIn u (s.rd u (launchSlotCtrlBase slot)) - s.slotInstant u slot (s.rd u (launchSlotCtrlBase slot))) ≤ s.rd u launchLateLimitUs * us ∧ fireKey (s.rd u (launchSlotCtrlAction slot)) (s.rd u (launchSlotArgArg slot)) = none) (.wdie 1) 23 (Wit.st [(.wdie 1, hdrBlkCtrlEnable .launch, 1), (.wdie 1, launchSlotCtrlState 23, 1), (.wdie 1, launchSlotCtrlAction 23, 5)])) ∧
    ((fun s : State => s.enabled (.ikb 0) .launch = true ∧ s.rd (.ikb 0) (pulseEnd 3) ≤ s.now + 1) (Wit.st [(.ikb 0, hdrBlkCtrlEnable .launch, 1)])) ∧
    ((fun s : State => s.rd (.ikb 0) (pulseEnd 3) ≠ 0 ∧ s.rd (.ikb 0) (pulseEnd 3) ≤ s.now + 1) (Wit.st [(.ikb 0, pulseEnd 3, 1)])) ∧
    ((Wit.st [(.ikb 0, hdrBlkCtrlEnable .abft, 1)]).enabled (.ikb 0) .abft = true) ∧
    ((fun s : State => s.enabled (.ikb 0) .prism = true ∧ bitAt 65537 16 = 1 ∧ ((List.range (ruleCount (.ikb 0))).filter fun r => bitAt 65537 r = 1) ≠ []) (Wit.st [(.ikb 0, hdrBlkCtrlEnable .prism, 1)])) ∧
    ((fun (x : LModel) (s : State) => s.enabled (.wdie 0) .lens = true ∧ (s.lslot 0 (7 % 8)).staged = some x ∧ s.on (.wdie 0) lensLoadCmdBusy = false) ⟨5, 1, 0, 0, [], [], 0, 0⟩ { Wit.st [(.wdie 0, hdrBlkCtrlEnable .lens, 1)] with lensSlots := [(7, { staged := some ⟨5, 1, 0, 0, [], [], 0, 0⟩ })] }) ∧
    ((fun s : State => s.enabled (.ikb 0) .launch = true ∧ 15 < slotCount (.ikb 0)) (Wit.st [(.ikb 0, hdrBlkCtrlEnable .launch, 1)])) := by
  refine ⟨?_, ?_, ?_, ?_, ?_, ?_, ?_, ?_, ?_⟩ <;> decide +kernel

theorem test_witness_CountersAndSnapshots :
    ((fun s : State => s.enabled (.ikb 3) .cntcfg = true ∧ s.mode (.ikb 3) ≠ .midnight) (Wit.st [(.ikb 3, hdrBlkCtrlEnable .cntcfg, 1), (.ikb 3, aonModeCurMode, 0)])) ∧
    ((fun s : State => s.enabled (.ikb 3) .cntcfg = true ∧ s.mode (.ikb 3) = .midnight) (Wit.st [(.ikb 3, hdrBlkCtrlEnable .cntcfg, 1), (.ikb 3, aonModeCurMode, 3)])) ∧
    ((fun s : State => 63 % 64 ≠ 0 ∧ s.bit (.ikb 2) snapSendMaskBanks (63 % 64) = false) (Wit.st [(.ikb 2, snapSendMaskBanks, 1)])) ∧
    (64 % 64 = 0) ∧
    ((fun (p per : Nat) (s : State) => s.snapPeriod p (s.rd (.ikb p) timeCtrlBase) = some per ∧ s.enabled (.ikb p) .snap = true ∧ s.on (.ikb p) snapCtrlGenEn = true ∧ s.snapEpoch p (s.rd (.ikb p) timeCtrlBase) ≤ s.timeIn (.ikb p) (s.rd (.ikb p) timeCtrlBase) ∧ per ≠ 0 ∧ s.rd (.ikb p) genLast ≠ s.timeIn (.ikb p) (s.rd (.ikb p) timeCtrlBase) - (s.timeIn (.ikb p) (s.rd (.ikb p) timeCtrlBase) - s.snapEpoch p (s.rd (.ikb p) timeCtrlBase)) % per + 1) 2 7000 (Wit.st [(.ikb 2, hdrBlkCtrlEnable .snap, 1), (.ikb 2, aonModeCurMode, 0), (.ikb 2, snapCtrlGenEn, 1), (.ikb 2, snapPeriodNoonUs, 7), (.ikb 2, timeCtrlBase, 0), (.ikb 2, snapEpochNsNs, 0)])) ∧
    ((fun (r : SnapRec) (s : State) => look (Chip.ikb 0).code s.snap = some r ∧ r.forward = true ∧ s.on (.ikb 0) (ltlStatUp .link) = true ∧ (State.int { s with snap := drop (Chip.ikb 0).code s.snap } (.ikb 0) .snap 0).snapRoom 0 r ((State.int { s with snap := drop (Chip.ikb 0).code s.snap } (.ikb 0) .snap 0).keyDue 0 r.mask) = true) ⟨1, 0, 0, 0, 0, 0, 0, 0, 0, 0, true⟩ { Wit.st [(.ikb 0, ltlStatUp .link, 1)] with snap := [((Chip.ikb 0).code, ⟨1, 0, 0, 0, 0, 0, 0, 0, 0, 0, true⟩)] }) ∧
    ((fun (r : SnapRec) (s : State) => look (Chip.ikb 0).code s.snap = some r ∧ r.forward = false) ⟨1, 0, 0, 0, 0, 0, 0, 0, 0, 0, false⟩ { State.reset with snap := [((Chip.ikb 0).code, ⟨1, 0, 0, 0, 0, 0, 0, 0, 0, 0, false⟩)] }) := by
  refine ⟨?_, ?_, ?_, ?_, ?_, ?_, ?_⟩ <;> decide +kernel

theorem test_witness_TraceCommands :
    ((fun (r : Retire) (s : State) => (s.streamOf 0 5).sleep = false ∧ r.parity = true ∧ (s.traceRefresh 0 5).traced 0 5 = true) ⟨true, false, 64, 128, 0, true⟩ (Wit.st [(.ikb 0, hdrBlkCtrlEnable .trace, 1), (.ikb 0, traceSeqEnEn, 255), (.ikb 0, aonModeCurMode, 0)])) ∧
    ((State.streamOf { State.reset with streams := [(5, { sleep := true })] } 0 5).sleep = true) ∧
    ((fun s : State => (s.streamOf 0 5).sleep = false ∧ (s.streamOf 0 5).st = 2) { State.reset with streams := [(5, { st := 2 })] }) ∧
    ((fun s : State => (s.streamOf 0 5).sleep = true ∧ (s.streamOf 0 5).st = 4) { State.reset with streams := [(5, { st := 4, sleep := true })] }) ∧
    ((fun s : State => (s.streamOf 0 5).buf ≠ [] ∧ (s.streamOf 0 5).bufAt + 10 * us ≤ s.now) { State.reset with streams := [(5, { buf := [[3, 2]] })], now := 10000 }) ∧
    ((fun s : State => (s.streamOf 0 5).map ≠ [] ∧ (s.streamOf 0 5).mapAt + 10 * us ≤ s.now) { State.reset with streams := [(5, { map := [true] })], now := 10000 }) ∧
    (State.on State.reset (.ikb 0) traceAuthAuthLock = false) ∧
    ((fun s : State => (s.streamOf 0 5).st = 0 ∧ s.traced 0 5 = true) (Wit.st [(.ikb 0, hdrBlkCtrlEnable .trace, 1), (.ikb 0, traceSeqEnEn, 255), (.ikb 0, aonModeCurMode, 0)])) := by
  refine ⟨?_, ?_, ?_, ?_, ?_, ?_, ?_, ?_⟩ <;> decide +kernel

theorem test_witness_MarkersAndPoison :
    ((⟨7, 0, true, false, false⟩ : Marker).parity = true ∧ (⟨7, 0, true, false, false⟩ : Marker).full = false ∧ (⟨7, 0, true, false, false⟩ : Marker).reserved = false) ∧
    ((Wit.st [(.ikb 0, stepNo, 8)]).rd (.ikb 0) stepNo = 7 % 4294967296 + 1) ∧
    (State.rd State.reset (.ikb 0) stepNo ≠ 7 % 4294967296 + 1) ∧
    ((Wit.st [(.ikb 0, hdrBlkCtrlEnable .cntcfg, 1)]).enabled (.ikb 0) .cntcfg = true) ∧
    ((⟨7, 0, true, false, false⟩ : Marker).parity = true ∧ (⟨7, 0, true, false, false⟩ : Marker).full = false ∧ (⟨7, 0, true, false, false⟩ : Marker).reserved = false) ∧
    ((⟨7, 0, true, false, false⟩ : Marker).parity = true ∧ (⟨7, 0, true, false, false⟩ : Marker).full = false ∧ (⟨7, 0, true, false, false⟩ : Marker).reserved = false) ∧
    ((⟨7, 0, false, false, false⟩ : Marker).parity = false) := by
  refine ⟨?_, ?_, ?_, ?_, ?_, ?_, ?_⟩ <;> decide +kernel

theorem test_witness_TapsAndChecks :
    ((fun (b : Beat) (s : State) => s.mode (.ikb 0) ≠ .midnight ∧ b.tag < 16777216 ∧ b.gen < 65536 ∧ b.kind < 4) ⟨2, 4, 16777215, 65535, true, false, 9, true⟩ (Wit.st [(.ikb 0, aonModeCurMode, 1)])) ∧
    ((Wit.st [(.ikb 0, aonModeCurMode, 3)]).mode (.ikb 0) = .midnight) ∧
    ((fun (t : Tile) (s : State) => ((s.tilesOf 0 15).find? fun t => t.tag == 5 % 16777216) = some t ∧ t.closed = false ∧ t.dead = none ∧ t.firstAt + 100 * us ≤ s.now) ⟨1, 5, 0, 0, 0, 1, 1, 1, 0, false, false, none, none, {}, {}, {}, none, false⟩ { State.reset with now := 100000, tiles := [(15, [⟨1, 5, 0, 0, 0, 1, 1, 1, 0, false, false, none, none, {}, {}, {}, none, false⟩])] }) ∧
    ((fun (t : Tile) (s : State) => ((s.tilesOf 0 15).find? fun t => t.tag == 5 % 16777216 && t.closed && t.result.isNone && t.dead.isNone) = some t ∧ t.check ≠ 0 ∧ t.test = false ∧ t.check ≠ 3) ⟨1, 5, 0, 0, 0, 1, 1, 1, 2, false, false, none, none, { closed := true }, { closed := true }, { closed := true }, none, false⟩ { State.reset with tiles := [(15, [⟨1, 5, 0, 0, 0, 1, 1, 1, 2, false, false, none, none, { closed := true }, { closed := true }, { closed := true }, none, false⟩])] }) ∧
    ((fun (t : Tile) (s : State) => ((s.tilesOf 0 15).find? fun t => t.tag == 5 % 16777216) = some t ∧ t.check = 3 ∧ t.test = false ∧ t.closed = true ∧ t.dead = none ∧ t.lastAt + 100 * us ≤ s.now ∧ s.partner 0 15 t = none) ⟨1, 5, 0, 0, 0, 1, 1, 1, 3, false, false, none, none, { closed := true }, { closed := true }, { closed := true }, none, false⟩ { State.reset with now := 100000, tiles := [(15, [⟨1, 5, 0, 0, 0, 1, 1, 1, 3, false, false, none, none, { closed := true }, { closed := true }, { closed := true }, none, false⟩])] }) ∧
    (bitsOf 0xFFFF003B 0 3 ≤ 3 ∧ (bitAt 0xFFFF003B 3 = 0 ∨ 2 ≤ bitsOf 0xFFFF003B 0 3) ∧ bitsOf 0xFFFF003B 4 4 ≠ 0) ∧
    (bitsOf 0xFFFF0001 4 4 = 0) ∧
    (State.on State.reset (.ikb 0) abftIfcCtrlRunning = false) ∧
    ((fun s : State => s.on (.ikb 0) abftIfcCtrlPending = true ∧ s.on (.ikb 0) abftIfcCtrlRunning = false ∧ s.on (.ikb 0) abftModeFallback = false ∧ s.ifcAhead 0 = false) (Wit.st [(.ikb 0, abftIfcCtrlPending, 1)])) ∧
    ((fun s : State => s.on (.ikb 0) ifcCkptAt = true ∧ s.on (.ikb 0) abftIfcCtrlRunning = false ∧ s.rd (.ikb 0) ifcCkptAt + s.rd (.ikb 0) abftIfcTimingWaitMs * ms ≤ s.now + 1) { Wit.st [(.ikb 0, ifcCkptAt, 1)] with now := 100000000000 }) ∧
    ((fun s : State => s.on (.ikb 0) abftIfcCtrlRunning = true ∧ s.rd (.ikb 0) ifcFireAt + s.rd (.ikb 0) abftIfcTimingTimeoutMs * ms ≤ s.now) { Wit.st [(.ikb 0, abftIfcCtrlRunning, 1)] with now := 100000000000 }) ∧
    ((fun (w : WatchStep) (s : State) => s.watchOf 0 = [w] ∧ w.ended = true ∧ s.stepOpen 0 w.id = false) ⟨1, 7, true, false, []⟩ { State.reset with watch := [((Chip.ikb 0).code, [⟨1, 7, true, false, []⟩])] }) := by
  refine ⟨?_, ?_, ?_, ?_, ?_, ?_, ?_, ?_, ?_, ?_, ?_, ?_⟩ <;> decide +kernel

theorem test_witness_GovernorHandshakes :
    ((fun s : State => (s.wr (.ikb 1) govAck 1).on (.ikb 1) govReq = true ∧ s.changeOf 1 = none) (Wit.st [(.ikb 1, govReq, 1)])) ∧
    (((State.reset.wr (.ikb 1) govAck 0).on (.ikb 1) govReq = false)) ∧
    ((fun s : State => s.on (.ikb 1) govReq = true ∧ s.on (.ikb 1) govTimedOut = false ∧ s.rd (.ikb 1) govReqAt + us ≤ s.now) { Wit.st [(.ikb 1, govReq, 1)] with now := 1000 }) ∧
    ((fun s : State => s.on (.ikb 1) govReq = true ∧ s.rd (.ikb 1) govReqAt + 100 * us ≤ s.now ∧ s.on (.ikb 1) govAck = true) { Wit.st [(.ikb 1, govReq, 1), (.ikb 1, govAck, 1)] with now := 100000 }) ∧
    ((4 % 4 = 0 ∧ ((Wit.st [(.ikb 1, avsReq, 1)]).wr (.ikb 1) avsAck 1 |>.wr (.ikb 1) (cell .gov 23) 5).on (.ikb 1) avsReq = true)) ∧
    (State.on State.reset (.ikb 1) avsReq = false) ∧
    ((fun (s t : State) => s.on (.ikb 1) avsReq = true ∧ s.rd (.ikb 1) avsAt + 100 * us ≤ s.now ∧ t.changeOf 1 = none ∧ s.on (.ikb 1) avsAck = true) { Wit.st [(.ikb 1, avsReq, 1), (.ikb 1, avsAck, 1)] with now := 100000 } (State.int (State.pageErr { Wit.st [(.ikb 1, avsAck, 1)] with now := 100000 } (.ikb 1) .gov 0x0102 2) (.ikb 1) .gov 4)) ∧
    (State.changeOf State.reset 1 = none) ∧
    (State.voltChanging State.reset 1 = false) ∧
    ((fun s : State => s.on (.ikb 1) govStatHard = true ∧ s.rd (.ikb 1) hardUntil ≤ s.now ∧ s.on (.ikb 1) safeIkb = false ∧ s.on (.ikb 1) hardAwaitSample = false ∧ s.on (.ikb 1) exhausted = false) (Wit.st [(.ikb 1, govStatHard, 1)])) := by
  refine ⟨?_, ?_, ?_, ?_, ?_, ?_, ?_, ?_, ?_, ?_⟩ <;> decide +kernel

theorem test_witness_GovernorSensing :
    ((fun s : State => s.enabled (.ikb 1) .health = true ∧ s.bit (.ikb 1) healthChanEnEn 7 = true ∧ s.on (.ikb 1) hardAwaitSample = false ∧ s.mode (.ikb 1) ≠ .midnight ∧ State.bit (State.wr (State.averaged ((s.wr (.ikb 1) (healthRailNowVNow 7) 1).wr (.ikb 1) (healthRailNowINow 7) 1) 1 7 1) (.ikb 1) (healthRailStatsIPeak 7) 1) (.ikb 1) healthChanEnFaulted 7 = false) (Wit.st [(.ikb 1, hdrBlkCtrlEnable .health, 1), (.ikb 1, healthChanEnEn, 255), (.ikb 1, aonModeCurMode, 0)])) ∧
    ((-9 : Int).natAbs ≤ (-9 : Int).natAbs ∧ 8 < (-9 : Int).natAbs) ∧
    ((Wit.st [(.ikb 1, hdrBlkCtrlEnable .health, 1)]).enabled (.ikb 1) .health = true) ∧
    ((fun s : State => s.bit (.ikb 1) healthThermPresentSites 63 = true ∧ s.bit (.ikb 1) healthThermStaleSites 63 = false ∧ s.rd (.ikb 1) (siteAt 63) + ms ≤ s.now + 1) { Wit.st [(.ikb 1, healthThermPresentSites, 2 ^ 63), (.ikb 1, healthThermStaleSites, 0)] with now := 1000000 }) ∧
    ((fun (s t : State) => s.enabled (.ikb 1) .gov = true ∧ s.mode (.ikb 1) ≠ .midnight ∧ s.baseValid (.ikb 1) = true ∧ s.rd (.ikb 1) epochLast ≠ s.epochNo (.ikb 1) + 1 ∧ State.rd (State.govReport (State.wr t (.ikb 1) govStatReqIdx 3) 1 0 0) (.ikb 1) govJobJob = 0) (Wit.st [(.ikb 1, hdrBlkCtrlEnable .gov, 1), (.ikb 1, aonModeCurMode, 0), (.ikb 1, timeStatValid, 1), (.ikb 1, timeStatMerSet, 1)]) (Wit.st [(.ikb 1, hdrBlkCtrlEnable .gov, 1), (.ikb 1, aonModeCurMode, 0)])) ∧
    ((fun s : State => s.on (.ikb 1) govStatBreak = true ∧ s.on (.ikb 1) govStatPersist = false ∧ s.rd (.ikb 1) breakAt + s.persistNs 1 ≤ s.now ∧ 2 * s.quiet 1 < s.persistNs 1) { Wit.st [(.ikb 1, govStatBreak, 1), (.ikb 1, causeAt, 100000000000)] with now := 100000000000 }) ∧
    ((fun s : State => s.on (.ikb 1) govStatBreak = true ∧ s.rd (.ikb 1) govStatCurIdx = s.rd (.ikb 1) govStatJobIdx ∧ s.on (.ikb 1) govStatHard = false ∧ s.persistNs 1 ≤ s.quiet 1) { Wit.st [(.ikb 1, govStatBreak, 1), (.ikb 1, govStatCurIdx, 0), (.ikb 1, govStatJobIdx, 0)] with now := 100000000000000 }) ∧
    ((fun s : State => s.on (.ikb 1) govStatBreak = false ∧ s.on (.ikb 1) breakHold = true ∧ s.rd (.ikb 1) breakHold ≤ s.now + 1) (Wit.st [(.ikb 1, breakHold, 1)])) ∧
    ((fun (c : JobCfg) (s : State) => s.jobOf 5 = some c ∧ c.rootOf 0 = s.ownCoord ∧ c.point < max c.kind2 (33 % 32)) ⟨5, 1, 0, 1, 1, 1, [], 0, [], [], [], [], 0, [], 0⟩ { State.reset with jobs := [⟨5, 1, 0, 1, 1, 1, [], 0, [], [], [], [], 0, [], 0⟩] }) ∧
    ((fun s : State => s.locked (.ikb 1) .optab = false ∧ s.entryBusy 1 (33 % 32) = false ∧ bitAt 0xFFFF007F 7 = 0) State.reset) ∧
    ((fun s : State => s.on (endChip 5 true) (ltlStatUp (endBlk 5 true)) = true ∧ s.on (endChip 5 true) (verBad (endBlk 5 true)) = false) (Wit.st [(.ikb 5, ltlStatUp .link, 1)])) := by
  refine ⟨?_, ?_, ?_, ?_, ?_, ?_, ?_, ?_, ?_, ?_, ?_⟩ <;> decide +kernel

theorem test_witness_LinkFrames :
    ((Wit.st [(.wdie 0, ltlStatUp (.ltl 5), 1)]).on (endChip 5 false) (ltlStatUp (endBlk 5 false)) = true) ∧
    ((Wit.st [(.wdie 0, ltlStatUp (.ltl 5), 1)]).on (endChip 5 false) (ltlStatUp (endBlk 5 false)) = true) ∧
    ((Wit.st [(.ikb 5, hdrBlkCtrlEnable .link, 1)]).enabled (.ikb 5) .link = true) ∧
    ((Wit.st [(.wdie 0, ltlStatUp (.ltl 5), 1)]).on (endChip 5 false) (ltlStatUp (endBlk 5 false)) = true) ∧
    ((fun (r : EvRec) (s : State) => s.on (endChip 5 true) (ltlStatUp (endBlk 5 true)) = true ∧ (((s.received 5 true 0x07 4).ringHeld (.ikb 5)).filter fun r => (seqAhead 3 r.seq).isSome) = [r] ∧ r.seq = 3 % 4294967296) ⟨3, 0x0F01, 0, 0, 0, 1, false, false, false, 0⟩ { Wit.st [(.ikb 5, ltlStatUp .link, 1)] with evRing := [((Chip.ikb 5).code * 33554432, ⟨3, 0x0F01, 0, 0, 0, 1, false, false, false, 0⟩)] }) ∧
    ((Wit.st [(.wdie 0, ltlStatUp (.ltl 5), 1)]).on (endChip 5 false) (ltlStatUp (endBlk 5 false)) = true) ∧
    ((fun s : State => (s.gapOf 5).missing ≠ [] ∧ (s.gapOf 5).last + 50 * us ≤ s.now ∧ (s.gapOf 5).sends < 8) { State.reset with gaps := [(5, ⟨[9], 7, 0, []⟩)], now := 50000 }) ∧
    ((fun s : State => (s.gapOf 5).missing ≠ [] ∧ (s.gapOf 5).last + 50 * us ≤ s.now ∧ 8 ≤ (s.gapOf 5).sends) { State.reset with gaps := [(5, ⟨[9], 8, 0, []⟩)], now := 50000 }) ∧
    ((fun (r : EvRec) (s : State) => s.on (dieOfPort 0) (ltlStatUp (linkOfPort 0)) = true ∧ s.on (dieOfPort 0) (verBad (linkOfPort 0)) = false ∧ ((s.wr (dieOfPort 0) (uncorrRun (linkOfPort 0)) 0).arriveLtl 0 0 32 ((evBytes r).map fun b => b.toNat)).2 = true) ⟨3, 0x0F01, 0, 0, 0, 1, false, false, false, 0⟩ (Wit.st [(.wdie 0, ltlStatUp (.ltl 0), 1)])) ∧
    ((Wit.st [(.ikb 5, ltlStatUp .link, 1)]).on (endChip 5 true) (ltlStatUp (endBlk 5 true)) = true) ∧
    ((fun (r : GovReport) (s : State) => s.reportsOf 5 = [r] ∧ r.last + 10 * us ≤ s.now ∧ r.sends < 8) ⟨1, [], 7, 0⟩ { State.reset with reports := [((Chip.ikb 5).code, [⟨1, [], 7, 0⟩])], now := 10000 }) ∧
    ((fun (s : State) => s.on (dieOfPort 0) (ltlStatUp (linkOfPort 0)) = true ∧ s.on (dieOfPort 0) (verBad (linkOfPort 0)) = false ∧ ((s.wr (dieOfPort 0) (uncorrRun (linkOfPort 0)) 0).arriveLtl 0 1 16 [0, 0, 33, 0, 0, 0]).2 = true) (Wit.st [(.wdie 0, ltlStatUp (.ltl 0), 1)])) ∧
    ((Wit.st [(.ikb 5, ltlStatUp .link, 1)]).on (endChip 5 true) (ltlStatUp (endBlk 5 true)) = true) ∧
    ((Wit.st [(.ikb 5, ltlStatUp .link, 1)]).on (endChip 5 true) (ltlStatUp (endBlk 5 true)) = true) := by
  refine ⟨?_, ?_, ?_, ?_, ?_, ?_, ?_, ?_, ?_, ?_, ?_, ?_, ?_, ?_⟩ <;> decide +kernel

theorem test_witness_LinkState :
    ((fun s : State => s.mayTrain 5 = true ∧ s.rd (.ikb 5) (ltlStatState .link) = 0) (Wit.st [(.ikb 5, hdrBlkCtrlEnable .link, 1), (.wdie 0, hdrBlkCtrlEnable (.ltl 5), 1), (.ikb 5, ltlCtrlTrainEn .link, 1), (.wdie 0, ltlCtrlTrainEn (.ltl 5), 1)])) ∧
    ((fun s : State => s.mayTrain 5 = true ∧ s.rd (.ikb 5) (ltlStatState .link) = 4 ∧ s.on (.ikb 5) (helloGot .link) = true ∧ s.on (dieOfPort 5) (helloGot (linkOfPort 5)) = true ∧ s.rd (.ikb 5) (lanesOk .link) = 3 ∧ s.oneLaneWanted 5 = false) (Wit.st [(.ikb 5, hdrBlkCtrlEnable .link, 1), (.wdie 0, hdrBlkCtrlEnable (.ltl 5), 1), (.ikb 5, ltlCtrlTrainEn .link, 1), (.wdie 0, ltlCtrlTrainEn (.ltl 5), 1), (.ikb 5, ltlStatState .link, 4), (.ikb 5, helloGot .link, 1), (.wdie 0, helloGot (.ltl 5), 1), (.ikb 5, lanesOk .link, 3), (.ikb 5, aonModeCurMode, 0)])) ∧
    ((Wit.st [(.ikb 5, ltlStatState .link, 4)]).rd (endChip 5 true) (ltlStatState (endBlk 5 true)) = 4) ∧
    ((fun s : State => 1 ≤ s.rd (.ikb 5) (ltlStatState .link) ∧ s.rd (.ikb 5) (ltlStatState .link) ≤ 4 ∧ s.rd (.ikb 5) (trainAt .link) + 10 * ms ≤ s.now) { Wit.st [(.ikb 5, ltlStatState .link, 4)] with now := 10000000 }) ∧
    ((fun s : State => s.on (dieOfPort 5) (upDue (linkOfPort 5)) = true ∧ (s.linkUpDie 5).on (.ikb 5) (upDue .link) = true) (Wit.st [(.wdie 0, upDue (.ltl 5), 1), (.ikb 5, upDue .link, 1), (.wdie 0, linkSeen (.ltl 5), 1)])) ∧
    ((Wit.st [(.wdie 0, ltlStatUp (.ltl 5), 1)]).endUp 5 false = true) ∧
    ((fun s : State => s.endUp 5 true = true ∧ s.rd (.ikb 5) (goodbyeSent .link) = 0) (Wit.st [(.ikb 5, ltlStatUp .link, 1)])) ∧
    ((Wit.st [(.wdie 0, ltlStatUp (.ltl 5), 1)]).on (endChip 5 false) (ltlStatUp (endBlk 5 false)) = true) ∧
    ((Wit.st [(.ikb 5, ltlStatUp .link, 1)]).on (endChip 5 true) (ltlStatUp (endBlk 5 true)) = true) ∧
    ((Wit.st [(.ikb 5, ltlStatState .link, 5)]).rd (.ikb 5) (ltlStatState .link) = 5) ∧
    ((fun s : State => s.rd (.ikb 5) (ltlStatState .link) = 6 ∧ s.rd (.ikb 5) (ltlStatLaneUsed .link) = 1) (Wit.st [(.ikb 5, ltlStatState .link, 6), (.ikb 5, ltlStatLaneUsed .link, 1)])) ∧
    ((Wit.st [(.ikb 5, ltlStatUp .link, 1)]).on (endChip 5 true) (ltlStatUp (endBlk 5 true)) = true ∧ 16 ≤ 16) ∧
    ((fun s : State => s.rd (.ikb 5) (widthPend .link) = 1 ∧ s.rd (dieOfPort 5) (widthPend (linkOfPort 5)) = 1 ∧ s.rd (.ikb 5) (ltlStatState .link) = 5) (Wit.st [(.ikb 5, widthPend .link, 1), (.wdie 0, widthPend (.ltl 5), 1), (.ikb 5, ltlStatState .link, 5)])) ∧
    ((fun s : State => s.mode (.ikb 5) = .midnight ∧ s.on (.ikb 5) (ltlStatUp .link) = true ∧ s.txWaiting (.ikb 5) .link = []) (Wit.st [(.ikb 5, aonModeCurMode, 3), (.ikb 5, ltlStatUp .link, 1)])) ∧
    ((fun s : State => s.on (.ikb 5) (lowPower .link) = true ∧ s.rd (.ikb 5) (refreshAt .link) + ms ≤ s.now + 1) { Wit.st [(.ikb 5, lowPower .link, 1)] with now := 1000000 }) ∧
    ((fun s : State => s.enabled (.ikb 5) .link = true ∧ s.rd (.ikb 5) (ltlShedCfgUpPct .link) * 65536 ≤ 100 * s.txHeld (.ikb 5) .link ∧ s.rd (.ikb 5) coderShedLocal < 5) (Wit.st [(.ikb 5, hdrBlkCtrlEnable .link, 1), (.ikb 5, ltlShedCfgUpPct .link, 0)])) := by
  refine ⟨?_, ?_, ?_, ?_, ?_, ?_, ?_, ?_, ?_, ?_, ?_, ?_, ?_, ?_, ?_, ?_⟩ <;> decide +kernel

theorem test_witness_PrismRules :
    ((fun s : State => s.on (.wdie 1) prismStatAuth = true ∧ 15 < ruleCount (.wdie 1)) (Wit.st [(.wdie 1, prismStatAuth, 1)])) ∧
    (State.on State.reset (.ikb 1) prismStatAuth = false) ∧
    ((fun s : State => s.on (.ikb 1) prismStatAuth = true ∧ 3 < ruleCount (.ikb 1)) (Wit.st [(.ikb 1, prismStatAuth, 1)])) ∧
    ((Wit.st [(.ikb 1, prismStatAuth, 1)]).on (.ikb 1) prismStatAuth = true) ∧
    ((fun s : State => s.on (.ikb 1) (prismRuleArmWinOpen 3) = true ∧ s.rd (.ikb 1) (prismWinEnd 3) ≠ 0 ∧ s.rd (.ikb 1) (prismWinEnd 3) ≤ s.now + 1) (Wit.st [(.ikb 1, prismRuleArmWinOpen 3, 1), (.ikb 1, prismWinEnd 3, 1)])) := by
  refine ⟨?_, ?_, ?_, ?_, ?_⟩ <;> decide +kernel

theorem test_witness_MergeCommands :
    ((Wit.st [(.wdie 0, hdrBlkCtrlEnable .merge, 1), (.wdie 0, pwrStatMode, 0)]).mergeOn 0 = true) ∧
    ((fun (d : Nat) (f : FabricFrame) (s : State) => s.mergeOn d = true ∧ ((s.jobOf f.hdr.job).any fun c => (c.feedFor (mhdrOf f.body)).any fun feed => (s.instFor c feed (mhdrOf f.body).set (mhdrOf f.body).op (mhdrOf f.body).sub (mhdrOf f.body).tag).2.any fun i => !i.sent) = true ∧ headerBad (mhdrOf f.body) (f.body.drop 32) = false ∧ (mhdrOf f.body).chunks = 1) 0 { hdr := { kind := 1, job := 5 }, body := [1, 0, 0, 16, 0, 0, 0, 0, 0, 0, 0, 0, 0, 0, 0, 0, 0, 0, 0, 0, 16] ++ List.replicate 27 0 } { Wit.st [(.wdie 0, hdrBlkCtrlEnable .merge, 1), (.wdie 0, pwrStatMode, 0)] with jobs := [⟨5, 1, 0, 1, 1, 1, [], 0, [⟨0, 0, 0, 2, 0, false, false, 0, 0, 0, 100⟩], [], [], [], 0, [], 0⟩], insts := [⟨5, 0, 1, 0, 0, 0, 0, ⟨0, 0, 0, 2, 0, false, false, 0, 0, 0, 100⟩, .sumI 0, 0, [], 1, 1, 0, none, 0, 0, 0, false, false, false, 0, []⟩] }) ∧
    ((fun (d : Nat) (f : FabricFrame) (s : State) => s.mergeOn d = true ∧ ((s.jobOf f.hdr.job).any fun c => (c.feedFor (mhdrOf f.body)).isSome && ((s.sendDownTree d c (mhdrOf f.body).set (f.deadline.getD (mhdrOf f.body).deadline) f.body).findInst c.job (mhdrOf f.body).set (mhdrOf f.body).op (mhdrOf f.body).sub (mhdrOf f.body).tag).isNone) = true ∧ headerBad (mhdrOf f.body) (f.body.drop 32) = false ∧ (mhdrOf f.body).chunks = 1) 0 { hdr := { kind := 2, job := 5 }, body := [1, 1, 0, 16, 0, 0, 0, 0, 0, 0, 0, 0, 0, 0, 0, 0, 0, 0, 0, 0, 16] ++ List.replicate 27 0 } { Wit.st [(.wdie 0, hdrBlkCtrlEnable .merge, 1), (.wdie 0, pwrStatMode, 0)] with jobs := [⟨5, 1, 0, 1, 1, 1, [], 0, [⟨0, 0, 0, 2, 0, false, false, 0, 0, 0, 100⟩], [], [], [], 0, [], 0⟩] }) ∧
    ((fun (i : Inst) (s : State) => s.instAt 0 3 = some i ∧ s.mergeOn 0 = true ∧ i.sent = false ∧ i.parent ≠ none ∧ i.forwardAt ≤ s.timeIn (.wdie 0) i.base) ⟨5, 0, 1, 0, 0, 0, 3, ⟨0, 0, 0, 2, 0, false, false, 0, 0, 0, 100⟩, .sumI 0, 0, [], 1, 1, 0, some 1, 0, 0, 0, false, false, false, 0, []⟩ { Wit.st [(.wdie 0, hdrBlkCtrlEnable .merge, 1), (.wdie 0, pwrStatMode, 0)] with insts := [⟨5, 0, 1, 0, 0, 0, 3, ⟨0, 0, 0, 2, 0, false, false, 0, 0, 0, 100⟩, .sumI 0, 0, [], 1, 1, 0, some 1, 0, 0, 0, false, false, false, 0, []⟩] }) ∧
    ((fun (i : Inst) (s : State) => s.instAt 0 3 = some i ∧ s.mergeOn 0 = true ∧ i.sent = false ∧ i.parent = none ∧ i.members ≤ i.included) ⟨5, 0, 1, 0, 0, 0, 3, ⟨0, 0, 0, 2, 0, false, false, 0, 0, 0, 100⟩, .sumI 0, 1, [], 1, 1, 0, none, 0, 0, 0, false, false, false, 0, []⟩ { Wit.st [(.wdie 0, hdrBlkCtrlEnable .merge, 1), (.wdie 0, pwrStatMode, 0)] with insts := [⟨5, 0, 1, 0, 0, 0, 3, ⟨0, 0, 0, 2, 0, false, false, 0, 0, 0, 100⟩, .sumI 0, 1, [], 1, 1, 0, none, 0, 0, 0, false, false, false, 0, []⟩] }) ∧
    ((fun (i : Inst) (s : State) => s.instAt 0 3 = some i ∧ i.sent = true ∧ i.lingerAt ≤ s.now ∧ i.seen = true) ⟨5, 0, 1, 0, 0, 0, 3, ⟨0, 0, 0, 2, 0, false, false, 0, 0, 0, 100⟩, .sumI 0, 1, [], 1, 1, 0, none, 0, 0, 0, true, true, false, 0, []⟩ { State.reset with insts := [⟨5, 0, 1, 0, 0, 0, 3, ⟨0, 0, 0, 2, 0, false, false, 0, 0, 0, 100⟩, .sumI 0, 1, [], 1, 1, 0, none, 0, 0, 0, true, true, false, 0, []⟩] }) := by
  refine ⟨?_, ?_, ?_, ?_, ?_, ?_⟩ <;> decide +kernel

theorem test_witness_JobStarts :
    ((fun (s t : State) => s.enabled (.wdie 0) .merge = true ∧ t.findRun 5 = none ∧ (parseCfg t.cfgBytes).any (fun c => c.job == 5) = true) { Wit.st [(.wdie 0, hdrBlkCtrlEnable .merge, 1)] with dram := [(0, 5), (4, 1), (128, 5), (133, 2)] } (((({ Wit.st [(.wdie 0, hdrBlkCtrlEnable .merge, 1)] with dram := [(0, 5), (4, 1), (128, 5), (133, 2)] } : State).wr (.wdie 0) mergeJsCmdOp 1).wr (.wdie 0) mergeJsCmdJob 5))) ∧
    ((fun (s t : State) => s.enabled (.wdie 0) .merge = true ∧ t.findRun 5 = none ∧ parseCfg t.cfgBytes = none) (Wit.st [(.wdie 0, hdrBlkCtrlEnable .merge, 1)]) (((Wit.st [(.wdie 0, hdrBlkCtrlEnable .merge, 1)]).wr (.wdie 0) mergeJsCmdOp 1).wr (.wdie 0) mergeJsCmdJob 5)) ∧
    ((fun (c : JobCfg) (s : State) => s.enabled (.wdie 0) .merge = true ∧ s.findRun 5 = none ∧ s.jobOf 5 = some c) ⟨5, 1, 0, 1, 1, 1, [], 0, [], [], [], [], 0, [], 0⟩ { Wit.st [(.wdie 0, hdrBlkCtrlEnable .merge, 1)] with jobs := [⟨5, 1, 0, 1, 1, 1, [], 0, [], [], [], [], 0, [], 0⟩] }) ∧
    ((fun (r : JsRun) (s : State) => s.findRun 5 = some r ∧ r.phase = 1 ∧ r.goAt + s.rd (.wdie 0) mergeJsTimingDeadlineUs * us ≤ s.now) { job := 5, bid := 9, phase := 1, goAt := 0, cfg := ⟨5, 1, 0, 1, 1, 1, [], 0, [], [], [], [], 0, [], 0⟩ } { State.reset with now := 1000000000000, jsRuns := [{ job := 5, bid := 9, phase := 1, goAt := 0, cfg := ⟨5, 1, 0, 1, 1, 1, [], 0, [], [], [], [], 0, [], 0⟩ }] }) ∧
    ((fun (r : JsRun) (b : Bcast) (s : State) => s.findRun 5 = some r ∧ r.phase = 2 ∧ r.instant ≤ s.timeIn (.wdie 0) r.base + baseUs r.base 100 ∧ s.findBcast r.bid 2 = some b ∧ b.done = true ∧ b.status = 0) { job := 5, bid := 9, phase := 2, goAt := 0, cfg := ⟨5, 1, 0, 1, 1, 1, [], 0, [], [], [], [], 0, [], 0⟩ } { bid := 9, kind := 2, sender := none, instant := 0, bytes := [], done := true } { State.reset with jsRuns := [{ job := 5, bid := 9, phase := 2, goAt := 0, cfg := ⟨5, 1, 0, 1, 1, 1, [], 0, [], [], [], [], 0, [], 0⟩ }], bcasts := [{ bid := 9, kind := 2, sender := none, instant := 0, bytes := [], done := true }] }) ∧
    ((fun (b : Bcast) (s : State) => s.mergeOn 0 = true ∧ s.findBcast 9 2 = some b ∧ (b.kids.any fun k => k.coord == 7 && !k.reported) = true ∧ b.sender ≠ none) { bid := 9, kind := 2, sender := some 1, instant := 0, bytes := [], kids := [{ coord := 7, sentAt := 0 }] } { Wit.st [(.wdie 0, hdrBlkCtrlEnable .merge, 1), (.wdie 0, pwrStatMode, 0)] with bcasts := [{ bid := 9, kind := 2, sender := some 1, instant := 0, bytes := [], kids := [{ coord := 7, sentAt := 0 }] }] }) ∧
    ((fun (s : State) => (s.jobStage.any fun j => j.cfg.bid == 5 * 65536 && j.instant.isNone && j.at' + 2 * s.rd (.wdie 0) mergeJsTimingDeadlineUs * us ≤ s.now) = true) { State.reset with now := 1000000000000, jobStage := [{ cfg := ⟨5, 1, 0, 1, 1, 1, [], 0, [], [], [], [], 0, [], 0⟩, at' := 0 }] }) ∧
    ((fun (r : JsRun) (b : Bcast) (s : State) => s.findRun 5 = some r ∧ r.phase = 4 ∧ r.last + ms ≤ s.now ∧ s.findBcast r.bid 4 = some b) { job := 5, bid := 9, phase := 4, goAt := 0, cfg := ⟨5, 1, 0, 1, 1, 1, [], 0, [], [], [], [], 0, [], 0⟩ } { bid := 9, kind := 4, sender := none, instant := 0, bytes := [] } { State.reset with now := 1000000, jsRuns := [{ job := 5, bid := 9, phase := 4, goAt := 0, cfg := ⟨5, 1, 0, 1, 1, 1, [], 0, [], [], [], [], 0, [], 0⟩ }], bcasts := [{ bid := 9, kind := 4, sender := none, instant := 0, bytes := [] }] }) := by
  refine ⟨?_, ?_, ?_, ?_, ?_, ?_, ?_, ?_⟩ <;> decide +kernel

theorem test_witness_Broadcasts :
    ((fun (s : State) => s.mergeOn 0 = true ∧ s.findBcast 9 1 = none) (Wit.st [(.wdie 0, hdrBlkCtrlEnable .merge, 1), (.wdie 0, pwrStatMode, 0)])) ∧
    ((fun (b : Bcast) (s : State) => s.mergeOn 0 = true ∧ s.findBcast 9 1 = some b) { bid := 9, kind := 1, sender := none, instant := 0, bytes := [] } { Wit.st [(.wdie 0, hdrBlkCtrlEnable .merge, 1), (.wdie 0, pwrStatMode, 0)] with bcasts := [{ bid := 9, kind := 1, sender := none, instant := 0, bytes := [] }] }) ∧
    ((fun (s : State) => s.mergeOn 0 = true ∧ s.findBcast 9 2 = none) (Wit.st [(.wdie 0, hdrBlkCtrlEnable .merge, 1), (.wdie 0, pwrStatMode, 0)])) ∧
    ((fun (s : State) => s.mergeOn 0 = true ∧ s.findBcast 9 3 = none) (Wit.st [(.wdie 0, hdrBlkCtrlEnable .merge, 1), (.wdie 0, pwrStatMode, 0)])) ∧
    ((fun (s : State) => s.mergeOn 0 = true ∧ s.findBcast 9 4 = none) (Wit.st [(.wdie 0, hdrBlkCtrlEnable .merge, 1), (.wdie 0, pwrStatMode, 0)])) ∧
    ((fun (b : Bcast) (s : State) => s.mergeOn 0 = true ∧ s.findBcast 9 1 = some b) { bid := 9, kind := 1, sender := none, instant := 0, bytes := [] } { Wit.st [(.wdie 0, hdrBlkCtrlEnable .merge, 1), (.wdie 0, pwrStatMode, 0)] with bcasts := [{ bid := 9, kind := 1, sender := none, instant := 0, bytes := [] }] }) ∧
    ((fun (b : Bcast) (k : BKid) (s : State) => s.mergeOn 0 = true ∧ s.findBcast 9 1 = some b ∧ (b.kids.find? fun k => k.coord == 7) = some k ∧ k.acked = false ∧ k.reported = false ∧ k.lost = false ∧ k.sentAt + s.rd (.wdie 0) mergeJsTimingHopTimeoutUs * us * ((s.pathHops 7 k.path).getD 1) ≤ s.now ∧ (s.pathHops 7 (k.path + 1)).isSome = true) { bid := 9, kind := 1, sender := none, instant := 0, bytes := [], kids := [{ coord := 7, sentAt := 0 }] } { coord := 7, sentAt := 0 } { Wit.st [(.wdie 0, hdrBlkCtrlEnable .merge, 1), (.wdie 0, pwrStatMode, 0)] with now := 1000000000000, bcasts := [{ bid := 9, kind := 1, sender := none, instant := 0, bytes := [], kids := [{ coord := 7, sentAt := 0 }] }] }) := by
  refine ⟨?_, ?_, ?_, ?_, ?_, ?_, ?_⟩ <;> decide +kernel

theorem test_witness_LensCommands :
    ((fun s : State => s.enabled (.wdie 1) .lens = true ∧ s.on (.wdie 1) lensLoadCmdBusy = false) (Wit.st [(.wdie 1, pwrStatMode, 0), (.wdie 1, hdrBlkCtrlEnable .lens, 1)])) ∧
    ((fun s : State => s.enabled (.wdie 1) .lens = true ∧ s.on (.wdie 1) lensLoadCmdBusy = true) (Wit.st [(.wdie 1, hdrBlkCtrlEnable .lens, 1), (.wdie 1, lensLoadCmdBusy, 1)])) ∧
    ((fun (e : LoadFail) (s : State) => s.enabled (.wdie 1) .lens = true ∧ s.on (.wdie 1) lensLoadCmdBusy = true ∧ s.mode (.wdie 1) ≠ .midnight ∧ s.loadImage 1 (s.rd (.wdie 1) loadAddr) = .inr e) { result := 5 } { Wit.st [(.wdie 1, pwrStatMode, 0), (.wdie 1, hdrBlkCtrlEnable .lens, 1), (.wdie 1, lensLoadCmdBusy, 1)] with poisoned := [dieAddr 1 0 / 64] }) ∧
    ((fun s : State => s.enabled (.wdie 1) .lens = true ∧ s.mode (.wdie 1) ≠ .midnight) (Wit.st [(.wdie 1, pwrStatMode, 0), (.wdie 1, hdrBlkCtrlEnable .lens, 1)])) ∧
    ((fun (b : LBatch) (s : State) => s.enabled (.wdie 1) .lens = true ∧ s.mode (.wdie 1) ≠ .midnight ∧ s.stopped 1 = false ∧ s.closedOf 1 = [b] ∧ (s.poisoned.find? fun x => decide (dieAddr 1 b.model.treesAt / 64 ≤ x) && decide (x ≤ (dieAddr 1 b.model.treesAt + 3080 * b.model.trees - 1) / 64)) = none) ⟨2, 1, ⟨7, 1, 0, 1, [0], [], 0, 0⟩, 256, 100, 0, []⟩ { Wit.st [(.wdie 1, pwrStatMode, 0), (.wdie 1, hdrBlkCtrlEnable .lens, 1)] with lensClosed := [(1, [⟨2, 1, ⟨7, 1, 0, 1, [0], [], 0, 0⟩, 256, 100, 0, []⟩])] }) ∧
    ((fun s : State => s.enabled (.wdie 1) .lens = true ∧ s.closedOf 1 = []) (Wit.st [(.wdie 1, pwrStatMode, 0), (.wdie 1, hdrBlkCtrlEnable .lens, 1)])) ∧
    ((fun (l : LSlot) (s : State) => s.enabled (.wdie 1) .lens = true ∧ s.lslot 1 (10 % 8) = l ∧ l.held.isSome = true ∧ l.firedAt + max 1 (s.rd (.wdie 1) lensLingerMs) * ms ≤ s.now ∧ (((s.closeBatches 1 fun c => c.slot == 2 && c.gen != l.gen).closedOf 1).any fun c => c.slot == 2 && c.gen != l.gen) = false) { held := some ⟨7, 1, 0, 1, [0], [], 0, 0⟩ } { Wit.st [(.wdie 1, pwrStatMode, 0), (.wdie 1, hdrBlkCtrlEnable .lens, 1)] with lensSlots := [(10, { held := some ⟨7, 1, 0, 1, [0], [], 0, 0⟩ })], now := 10000000000 }) ∧
    ((fun s : State => look 1 s.lensExport = some (0, [[7]]) ∧ (3 = 2 * 1 + 1) ∧ s.rd (dieOfOpt 2) (portsRoleRole 0) ≠ 2 ∧ s.rd (dieOfOpt 3) (portsRoleRole 1) = 2 ∧ s.on (dieOfOpt 3) (portsStatUp 1) = true) { Wit.st [(.wdie 1, portsRoleRole 1, 2), (.wdie 1, portsStatUp 1, 1), (.wdie 1, portsRoleRole 0, 1)] with lensExport := [(1, (0, [[7]]))] }) ∧
    (15 < 16) ∧
    (15 < 16) ∧
    (15 < 16 ∧ 1 ≤ bitsOf 0x10100 0 9 ∧ bitsOf 0x10100 0 9 ≤ 256) ∧
    (15 < 16 ∧ (bitsOf 0x10101 0 9 = 0 ∨ 256 < bitsOf 0x10101 0 9)) ∧
    (0 < 16 ∧ (bitsOf 0x10000 0 9 = 0 ∨ 256 < bitsOf 0x10000 0 9)) ∧
    (15 < 16 ∧ (bitsOf 0x1110001 16 8 = 3 ∨ bitsOf 0x1110001 16 8 = 4 ∨ bitsOf 0x1110001 16 8 = 0x11)) := by
  refine ⟨?_, ?_, ?_, ?_, ?_, ?_, ?_, ?_, ?_, ?_, ?_, ?_, ?_, ?_⟩ <;> decide +kernel

theorem test_witness_DriftCommands :
    (State.enabled (Wit.st [(.wdie 1, hdrBlkCtrlEnable .drift, 1)]) (.wdie 1) .drift = true) ∧
    ((fun (u : Chip) (s : State) => s.enabled u .drift = true ∧ (fgt 0 (s.rd u driftEKK) || !fgt (s.rd u driftEHH) 0 || [s.rd u driftEKK, s.rd u driftEHH, s.rd u driftERefRef, s.rd u driftEZthrZthr].any fIsNaN) = true) (.wdie 1) (Wit.st [(.wdie 1, hdrBlkCtrlEnable .drift, 1), (.wdie 1, driftEHH, 0)])) ∧
    ((fun (u : Chip) (s : State) => s.enabled u .drift = true ∧ (fgt 0 (s.rd u driftEKK) || !fgt (s.rd u driftEHH) 0 || [s.rd u driftEKK, s.rd u driftEHH, s.rd u driftERefRef, s.rd u driftEZthrZthr].any fIsNaN) = false) (.wdie 1) (Wit.st [(.wdie 1, hdrBlkCtrlEnable .drift, 1), (.wdie 1, driftEHH, 0x3F800000)])) ∧
    (State.enabled (Wit.st [(.wdie 1, hdrBlkCtrlEnable .drift, 1)]) (.wdie 1) .drift = true) := by
  refine ⟨?_, ?_, ?_, ?_⟩ <;> decide +kernel

theorem test_witness_FaultChannels :
    (State.on State.reset (.ikb 1) (hdrErrFirstValid .snap) = false ∧ 6 % 4 ≠ 3) ∧
    ((fun s : State => s.on (.ikb 1) (hdrErrFirstValid .snap) = true ∧ 1 % 4 < s.rd (.ikb 1) (hdrErrCtrlSeverity .snap)) (Wit.st [(.ikb 1, hdrErrFirstValid .snap, 1), (.ikb 1, hdrErrCtrlSeverity .snap, 2)])) ∧
    ((fun s : State => s.on (.ikb 1) fatalAt = true ∧ s.rd (.ikb 1) fatalAt + ms ≤ s.now + 1) { Wit.st [(.ikb 1, fatalAt, 1)] with now := 1000000 }) ∧
    ((fun s : State => s.enabled (.wdie 1) .ras = true ∧ s.rd (.wdie 1) (rasChannelStateState 9) = 0) (Wit.st [(.wdie 1, hdrBlkCtrlEnable .ras, 1)])) ∧
    (0x10 ≤ 0x17 ∧ 0x17 < 0x18 ∧ State.enabled (Wit.st [(.wdie 1, hdrBlkCtrlEnable .ras, 1)]) (.wdie 1) .ras = true) ∧
    ((fun (e : Episode) (s : State) => s.episodeOf (.wdie 1) 9 = some e ∧ s.rd (.wdie 1) (rasChannelStateState 9) = 1 ∧ s.retryDue (.wdie 1) e e.retries ≤ s.now ∧ s.chanUsed (.wdie 1) 9 = true) ⟨0, 5, 0, false, false, 2, 0⟩ { (Wit.st [(.wdie 1, rasChannelStateState 9, 1)]).setEpisode (.wdie 1) 9 (some ⟨0, 5, 0, false, false, 2, 0⟩) with now := 100000000 }) ∧
    ((fun (e : Episode) (s : State) => s.episodeOf (.wdie 1) 9 = some e ∧ s.rd (.wdie 1) (rasChannelStateState 9) = 2 ∧ e.failedAt + sec ≤ s.now ∧ s.chanUsed (.wdie 1) 9 = true) ⟨0, 5, 0, false, false, 3, 0⟩ { (Wit.st [(.wdie 1, rasChannelStateState 9, 2)]).setEpisode (.wdie 1) 9 (some ⟨0, 5, 0, false, false, 3, 0⟩) with now := 1000000000 }) ∧
    (chanExists (.ikb 1) 0x2F = true ∧ State.rd State.reset (.ikb 1) (rasChannelStateState 0x2F) ≠ 4 ∧ chanTap (.ikb 1) 0x2F = false) ∧
    (chanExists (.ikb 1) 0x1F = true ∧ State.rd State.reset (.ikb 1) (rasChannelStateState 0x1F) ≠ 4 ∧ chanTap (.ikb 1) 0x1F = true) ∧
    (chanExists (.ikb 1) 0x1F = true ∧ (Wit.st [(.ikb 1, rasChannelStateState 0x1F, 3)]).rd (.ikb 1) (rasChannelStateState 0x1F) = 3) ∧
    (chanExists (.ikb 1) 0x1F = true ∧ State.rd State.reset (.ikb 1) (rasChannelStateState 0x1F) ≠ 3) ∧
    (chanExists (.wdie 1) 9 = true ∧ (Wit.st [(.wdie 1, authStatClear, 1)]).on (.wdie 1) authStatClear = true ∧ (Wit.st [(.wdie 1, authStatClear, 1)]).rd (.wdie 1) (rasChannelStateState 9) ≠ 4) ∧
    (chanExists (.wdie 1) 9 = true ∧ (Wit.st [(.wdie 1, authStatClear, 1), (.wdie 1, rasChannelStateState 9, 4)]).on (.wdie 1) authStatClear = true ∧ (Wit.st [(.wdie 1, authStatClear, 1), (.wdie 1, rasChannelStateState 9, 4)]).rd (.wdie 1) (rasChannelStateState 9) = 4) ∧
    (chanExists (.wdie 1) 9 = true ∧ State.on State.reset (.wdie 1) authStatClear = false) ∧
    (chanExists (.wdie 1) 0x17 = true) := by
  refine ⟨?_, ?_, ?_, ?_, ?_, ?_, ?_, ?_, ?_, ?_, ?_, ?_, ?_, ?_, ?_⟩ <;> decide +kernel

theorem test_witness_EventsAndBlackBox :
    (bitsOf 0x10005 16 16 ≠ 0) ∧
    (bitsOf 0x5 16 16 = 0) ∧
    (State.on State.reset (.wdie 1) authStatClear = false) ∧
    ((fun s : State => s.on (.wdie 1) authStatClear = true ∧ s.rd (.wdie 1) evrCtrlScope = 0) (Wit.st [(.wdie 1, authStatClear, 1)])) ∧
    (State.rd { State.reset with now := 1000000000 } (.wdie 0) bbxFirstAt + max 1 (State.rd { State.reset with now := 1000000000 } (.wdie 0) bbxCtrlFlushMs) * ms ≤ 1000000000) ∧
    (1 ≠ 0) ∧
    ((fun s : State => s.bbxPages = [[]] ∧ s.on (.wdie 0) bbxStatNorOk = true ∧ s.on (.wdie 0) bbxStatLgBusy = false) { Wit.st [(.wdie 0, bbxStatNorOk, 1)] with bbxPages := [[]] }) ∧
    (State.bbxPages State.reset = []) ∧
    ((Wit.st [(.wdie 0, bbxOverSec, 3)]).rd (.wdie 0) bbxOverSec ≠ 0) ∧
    ((fun s : State => s.on (.wdie 0) bbxStatLgBusy = true ∧ bitAt (s.rd (.wdie 0) lgCause ||| s.rd (.wdie 0) lgSeen) 1 = 0 ∧ bitAt (s.rd (.wdie 0) lgCause ||| s.rd (.wdie 0) lgSeen) 2 = 0) (Wit.st [(.wdie 0, bbxStatLgBusy, 1), (.wdie 0, lgCause, 1)])) ∧
    ((fun s : State => s.on (.wdie 0) bbxStatLgBusy = true ∧ bitAt (s.rd (.wdie 0) lgCause ||| s.rd (.wdie 0) lgSeen) 1 = 1) (Wit.st [(.wdie 0, bbxStatLgBusy, 1), (.wdie 0, lgCause, 2)])) ∧
    ((fun s : State => s.on (.wdie 0) bbxStatLgBusy = true ∧ bitAt (s.rd (.wdie 0) lgCause ||| s.rd (.wdie 0) lgSeen) 1 = 0 ∧ bitAt (s.rd (.wdie 0) lgCause ||| s.rd (.wdie 0) lgSeen) 2 = 1) (Wit.st [(.wdie 0, bbxStatLgBusy, 1), (.wdie 0, lgCause, 4)])) := by
  refine ⟨?_, ?_, ?_, ?_, ?_, ?_, ?_, ?_, ?_, ?_, ?_, ?_⟩ <;> decide +kernel

theorem test_witness_WatchdogAndNor :
    ((Wit.st [(.ikb 2, rasWdogCtrlEn, 1)]).on (.ikb 2) rasWdogCtrlEn = true) ∧
    (State.on State.reset (.ikb 2) rasWdogCtrlEn = false) ∧
    (State.locked State.reset (.ikb 2) .ras = false ∧ 10 ≤ bitsOf 0xA0001 16 16) ∧
    ((fun s : State => s.on (.ikb 2) rasWdogCtrlEn = true ∧ s.rd (.ikb 2) wdogFrom + s.rd (.ikb 2) rasWdogCtrlPeriodMs * ms / 2 ≤ s.now) { Wit.st [(.ikb 2, rasWdogCtrlEn, 1)] with now := 500000000 }) ∧
    ((fun s : State => s.on (.ikb 2) rasWdogCtrlEn = true ∧ s.rd (.ikb 2) wdogFrom + s.rd (.ikb 2) rasWdogCtrlPeriodMs * ms ≤ s.now) { Wit.st [(.ikb 2, rasWdogCtrlEn, 1)] with now := 1000000000 }) ∧
    ((Wit.st [(.wdie 0, nvmCmdBusy, 1)]).on (.wdie 0) nvmCmdBusy = true) ∧
    ((fun s : State => s.on (.wdie 0) nvmCmdBusy = false ∧ nvmValid 0 (s.rd (.wdie 0) nvmAddrAddr) (s.rd (.wdie 0) nvmLenBytes) = true) (Wit.st [(.wdie 0, nvmLenBytes, 7)])) ∧
    ((fun s : State => s.on (.wdie 0) nvmCmdBusy = false ∧ nvmValid 1 (s.rd (.wdie 0) nvmAddrAddr) (s.rd (.wdie 0) nvmLenBytes) = true ∧ (0x2800000 ≤ s.rd (.wdie 0) nvmAddrAddr ∨ s.on (.wdie 0) authStatUpdate = true)) (Wit.st [(.wdie 0, nvmLenBytes, 256), (.wdie 0, nvmAddrAddr, 0x2800000)])) ∧
    ((fun s : State => s.on (.wdie 0) nvmCmdBusy = false ∧ nvmValid 2 (s.rd (.wdie 0) nvmAddrAddr) (s.rd (.wdie 0) nvmLenBytes) = true ∧ (0x2800000 ≤ s.rd (.wdie 0) nvmAddrAddr ∨ s.on (.wdie 0) authStatUpdate = true)) (Wit.st [(.wdie 0, nvmLenBytes, 70000), (.wdie 0, nvmAddrAddr, 0x2800000)])) ∧
    ((fun s : State => s.on (.wdie 0) nvmCmdBusy = false ∧ nvmValid 2 (s.rd (.wdie 0) nvmAddrAddr) (s.rd (.wdie 0) nvmLenBytes) = true ∧ s.rd (.wdie 0) nvmAddrAddr < 0x2800000 ∧ s.on (.wdie 0) authStatUpdate = false) (Wit.st [(.wdie 0, nvmLenBytes, 256)])) ∧
    ((Wit.st [(.wdie 0, nvmCmdBusy, 1)]).on (.wdie 0) nvmCmdBusy = true) ∧
    ((Wit.st [(.wdie 0, nvmCmdBusy, 1)]).on (.wdie 0) nvmCmdBusy = true) := by
  refine ⟨?_, ?_, ?_, ?_, ?_, ?_, ?_, ?_, ?_, ?_, ?_, ?_⟩ <;> decide +kernel

theorem test_witness_CoreCommands :
    ((fun s : State => s.enabled (.ikb 1) .core = true ∧ 1 < coreCount (.ikb 1) ∧ s.coreState (.ikb 1) 1 = 1 ∧ s.on (.ikb 1) (coreCoreCtrlUseNext 1) = false ∧ s.imageAt (.ikb 1) false = some ([], []) ∧ look (hashKey (.ikb 1) false) s.imgHash = some (sha384 (([] : List Nat).take ((compOf []).codeLen + (compOf []).dataLen))) ∧ s.ifacesAgree (.ikb 1) (compOf []) = true) { Wit.st [(.ikb 1, hdrBlkCtrlEnable .core, 1), (.ikb 1, aonModeCurMode, 0), (.ikb 1, coreCoreStatState 0, 1), (.ikb 1, coreCoreStatState 1, 1)] with imgHash := [(hashKey (.ikb 1) false, sha384 [])] }) ∧
    ((fun s : State => s.enabled (.ikb 1) .core = true ∧ 1 < coreCount (.ikb 1) ∧ s.coreState (.ikb 1) 1 = 1 ∧ s.on (.ikb 1) (coreCoreCtrlUseNext 1) = false ∧ s.imageAt (.ikb 1) false = some ([], []) ∧ look (hashKey (.ikb 1) false) s.imgHash = none) (Wit.st [(.ikb 1, hdrBlkCtrlEnable .core, 1), (.ikb 1, aonModeCurMode, 0), (.ikb 1, coreCoreStatState 1, 1)])) ∧
    ((fun s : State => s.enabled (.ikb 1) .core = true ∧ 1 < coreCount (.ikb 1) ∧ s.coreRuns (.ikb 1) 1 = true ∧ 1 < 2) (Wit.st [(.ikb 1, hdrBlkCtrlEnable .core, 1), (.ikb 1, coreCoreStatState 1, 2)])) ∧
    (State.enabled (Wit.st [(.ikb 1, hdrBlkCtrlEnable .core, 1)]) (.ikb 1) .core = true ∧ coreCount (.ikb 1) ≤ 2) ∧
    ((fun s : State => s.enabled (.ikb 1) .core = true ∧ 1 < coreCount (.ikb 1) ∧ s.coreState (.ikb 1) 1 = 1) (Wit.st [(.ikb 1, hdrBlkCtrlEnable .core, 1), (.ikb 1, coreCoreStatState 1, 1)])) ∧
    ((fun s : State => s.enabled (.ikb 1) .core = true ∧ s.coreState (.ikb 1) 1 ≠ 1) (Wit.st [(.ikb 1, hdrBlkCtrlEnable .core, 1), (.ikb 1, coreCoreStatState 1, 2)])) ∧
    ((fun s : State => s.enabled (.ikb 1) .core = true ∧ 1 < coreCount (.ikb 1) ∧ s.coreState (.ikb 1) 1 = 0) (Wit.st [(.ikb 1, hdrBlkCtrlEnable .core, 1), (.ikb 1, coreCoreStatState 1, 0)])) ∧
    ((fun s : State => s.enabled (.ikb 1) .core = true ∧ s.coreState (.ikb 1) 1 ≠ 0) (Wit.st [(.ikb 1, hdrBlkCtrlEnable .core, 1), (.ikb 1, coreCoreStatState 1, 2)])) ∧
    ((fun s : State => s.enabled (.wdie 1) .core = true ∧ s.on (.wdie 1) coreNextStatVerified = true ∧ ((s.kin (.wdie 1)).all fun v => (List.range 4).all fun c => !s.coreRuns v c || s.on v (coreOnNext c)) = true ∧ look (hashKey (.wdie 1) true) s.imgHash = some 7) { Wit.st [(.wdie 1, hdrBlkCtrlEnable .core, 1), (.wdie 1, coreNextStatVerified, 1), (.pkg, pkgSizeDiePresent, 0), (.wdie 1, coreCoreStatState 0, 1), (.wdie 1, coreCoreStatState 1, 1), (.wdie 1, coreCoreStatState 2, 1), (.wdie 1, coreCoreStatState 3, 1)] with imgHash := [(hashKey (.wdie 1) true, 7)] }) ∧
    (State.enabled (Wit.st [(.wdie 1, hdrBlkCtrlEnable .core, 1)]) (.wdie 1) .core = true) := by
  refine ⟨?_, ?_, ?_, ?_, ?_, ?_, ?_, ?_, ?_, ?_⟩ <;> decide +kernel

theorem test_witness_MailboxAuthCommands :
    ((fun s : State => s.enabled (.ikb 1) .mbox = true ∧ 15 < mboxCount (.ikb 1) ∧ s.rxOf (.ikb 1) 15 = .takes ∧ (s.mbox (.ikb 1) 15).length < 8) (Wit.st [(.ikb 1, hdrBlkCtrlEnable .mbox, 1), (.ikb 1, mboxMboxCfgRx 15, 6)])) ∧
    ((fun s : State => s.enabled (.ikb 1) .mbox = true ∧ 15 < mboxCount (.ikb 1) ∧ s.rxOf (.ikb 1) 15 = .takes ∧ 8 ≤ (s.mbox (.ikb 1) 15).length) { Wit.st [(.ikb 1, hdrBlkCtrlEnable .mbox, 1), (.ikb 1, mboxMboxCfgRx 15, 6)] with mboxes := [(mboxKey (.ikb 1) 15, List.replicate 8 ⟨0, 0, 0⟩)] }) ∧
    ((fun s : State => s.enabled (.ikb 1) .mbox = true ∧ 15 < mboxCount (.ikb 1) ∧ s.rxOf (.ikb 1) 15 = .off) (Wit.st [(.ikb 1, hdrBlkCtrlEnable .mbox, 1), (.ikb 1, mboxMboxCfgRx 15, 1), (.ikb 1, coreCoreStatState 1, 0)])) ∧
    (State.enabled (Wit.st [(.ikb 1, hdrBlkCtrlEnable .mbox, 1)]) (.ikb 1) .mbox = true) ∧
    ((fun s : State => s.enabled (.ikb 1) .auth = true ∧ s.on (.ikb 1) authStatBusy = false) (Wit.st [(.ikb 1, hdrBlkCtrlEnable .auth, 1)])) ∧
    ((fun s : State => s.enabled (.ikb 1) .auth = true ∧ s.on (.ikb 1) authStatBusy = true) (Wit.st [(.ikb 1, hdrBlkCtrlEnable .auth, 1), (.ikb 1, authStatBusy, 1)])) ∧
    ((fun s : State => s.enabled (.wdie 1) .auth = true ∧ s.on (.wdie 1) authStatBusy = true) (Wit.st [(.wdie 1, hdrBlkCtrlEnable .auth, 1), (.wdie 1, authStatBusy, 1)])) ∧
    ((fun s : State => s.enabled (.ikb 1) .auth = true ∧ s.on (.ikb 1) authStatBusy = false) (Wit.st [(.ikb 1, hdrBlkCtrlEnable .auth, 1)])) ∧
    ((fun s : State => s.enabled (.wdie 0) .auth = true ∧ s.on (.wdie 0) authStatBusy = false) (Wit.st [(.wdie 0, hdrBlkCtrlEnable .auth, 1)])) ∧
    (State.enabled (Wit.st [(.ikb 1, hdrBlkCtrlEnable .auth, 1)]) (.ikb 1) .auth = true) ∧
    ((fun s : State => s.on (.ikb 1) authStatClear = true ∧ s.rd (.ikb 1) (grantEnd 1) ≤ s.rd (.ikb 1) rasFaultSecSec + 1 ∧ s.on (.ikb 1) authStatUpdate = false ∧ s.on (.ikb 1) authStatPrism = false ∧ (s.grantOff (.ikb 1) 1 0).on (.ikb 1) authStatUpdate = false ∧ (s.grantOff (.ikb 1) 1 0).on (.ikb 1) authStatPrism = false) (Wit.st [(.ikb 1, authStatClear, 1), (.ikb 1, grantEnd 1, 1)])) ∧
    (State.on State.reset (.ikb 1) authStatClear = false ∧ State.on State.reset (.ikb 1) authStatUpdate = false ∧ State.on State.reset (.ikb 1) authStatPrism = false) := by
  refine ⟨?_, ?_, ?_, ?_, ?_, ?_, ?_, ?_, ?_, ?_, ?_, ?_⟩ <;> decide +kernel

theorem test_witness_BackgroundWork :
    ((fun (s t : State) => s.enabled (.ikb 1) .core = true ∧ t.rd (.ikb 1) coreBgCfgBgPct * 100 < 100 * 90) (Wit.st [(.ikb 1, hdrBlkCtrlEnable .core, 1)]) ((State.inc (Wit.st [(.ikb 1, hdrBlkCtrlEnable .core, 1)]) (.ikb 1) (coreCoreBusyCycles 1) 95).inc (.ikb 1) (coreCoreBgCycles 1) 90)) ∧
    ((fun (s t : State) => s.enabled (.ikb 1) .core = true ∧ 100 * 0 ≤ t.rd (.ikb 1) coreBgCfgBgPct * 100) (Wit.st [(.ikb 1, hdrBlkCtrlEnable .core, 1)]) State.reset) ∧
    ((Wit.st [(.ikb 1, coreCoreStatState 1, 2)]).coreRuns (.ikb 1) 1 = true) ∧
    ((fun s : State => s.on (.wdie 1) scrubCtrlPatrolEn = true ∧ s.on (.wdie 1) scrubProgressPaused = false ∧ s.enabled (.wdie 1) .scrub = true ∧ s.now ≤ s.rd (.wdie 1) patrolAt + s.rd (.wdie 1) scrubPatrolPeriodH * 3600 * sec) (Wit.st [(.wdie 1, scrubCtrlPatrolEn, 1), (.wdie 1, hdrBlkCtrlEnable .scrub, 1)])) ∧
    (State.enabled (Wit.st [(.wdie 1, hdrBlkCtrlEnable .scrub, 1)]) (.wdie 1) .scrub = true) ∧
    (State.enabled (Wit.st [(.ikb 1, hdrBlkCtrlEnable .core, 1)]) (.ikb 1) .core = true) ∧
    ((fun (x : Nat) (s : State) => s.rd (dieOfPort 9) (loadFailed (linkOfPort 9)) = x ∧ x ≠ 0 ∧ x + 10 * sec ≤ s.now + 1) 1 { Wit.st [(dieOfPort 9, loadFailed (linkOfPort 9), 1)] with now := 10000000000 }) := by
  refine ⟨?_, ?_, ?_, ?_, ?_, ?_, ?_⟩ <;> decide +kernel

theorem test_witness_PageControls :
    ((pagesOf (.ikb 1)).contains .aon = true ∧ State.gated State.reset (.ikb 1) .aon = false) ∧
    ((pagesOf (.ikb 1)).contains .aon = true ∧ State.gated State.reset (.ikb 1) .aon = false) ∧
    ((pagesOf (.ikb 1)).contains .aon = true ∧ State.gated State.reset (.ikb 1) .aon = false) ∧
    ((pagesOf (.ikb 1)).contains .lens = false) := by
  refine ⟨?_, ?_, ?_, ?_⟩ <;> decide +kernel

theorem test_witness_RegisterReads :
    ((pagesOf (.ikb 1)).contains .aon = true ∧ State.gated State.reset (.ikb 1) .aon = false) ∧
    ((pagesOf (.ikb 1)).contains .snap = true ∧ State.gated (Wit.st [(.ikb 1, vikbOff, 1)]) (.ikb 1) .snap = true) ∧
    ((pagesOf (.ikb 1)).contains .lens = false) ∧
    ((pagesOf (.ikb 1)).contains .aon = true ∧ State.gated State.reset (.ikb 1) .aon = false) ∧
    ((fun (g : Reg) (f : Fld) => regAt (.ikb 1) .snap 0x120 = some g ∧ g.wide = true ∧ g.fields = [f] ∧ f.lo = 0 ∧ g.word = 0 ∧ deadBody (.ikb 1) .snap 0x120 = false) ⟨true, 0, [snapSendMaskBanks]⟩ snapSendMaskBanks) ∧
    ((fun (g : Reg) (f : Fld) (s : State) => regAt (.ikb 1) .snap 0x124 = some g ∧ g.wide = true ∧ g.fields = [f] ∧ f.lo = 0 ∧ g.word ≠ 0 ∧ deadBody (.ikb 1) .snap 0x124 = false ∧ (s.readField (.ikb 1) .snap 0 f).2.latchOf (.ikb 1) 0 (f.key (.ikb 1)) = some 9) ⟨true, 1, [snapSendMaskBanks]⟩ snapSendMaskBanks (State.reset.setLatch (.ikb 1) 0 (some (snapSendMaskBanks.key (.ikb 1), 9)))) ∧
    ((fun (g : Reg) (f : Fld) (s : State) => regAt (.ikb 1) .snap 0x124 = some g ∧ g.wide = true ∧ g.fields = [f] ∧ f.lo = 0 ∧ g.word ≠ 0 ∧ deadBody (.ikb 1) .snap 0x124 = false ∧ (s.readField (.ikb 1) .snap 0 f).2.latchOf (.ikb 1) 0 (f.key (.ikb 1)) = none) ⟨true, 1, [snapSendMaskBanks]⟩ snapSendMaskBanks State.reset) := by
  refine ⟨?_, ?_, ?_, ?_, ?_, ?_, ?_⟩ <;> decide +kernel

theorem test_witness_RegisterWrites :
    ((pagesOf (.ikb 1)).contains .aon = true ∧ State.gated State.reset (.ikb 1) .aon = false) ∧
    ((pagesOf (.ikb 1)).contains .snap = true ∧ State.gated (Wit.st [(.ikb 1, vikbOff, 1)]) (.ikb 1) .snap = true) ∧
    (bodyAt ≤ 0x100 ∧ (Wit.st [(.ikb 1, hdrBlkStatResetBusy .snap, 1)]).on (.ikb 1) (hdrBlkStatResetBusy .snap) = true) ∧
    ((pagesOf (.ikb 1)).contains .aon = true ∧ State.gated State.reset (.ikb 1) .aon = false) ∧
    ((fun (u : Chip) (s : State) => s.on u (hdrBlkStatResetBusy .snap) = false ∧ deadBody u .snap 0x120 = false ∧ s.ignoredWrite u .snap 0x120 0 7 = none ∧ (regAt u .snap 0x120).map (fun g => (g.pair, g.word)) = some (true, 0)) (.ikb 1) State.reset) ∧
    ((fun (u : Chip) (s : State) => s.on u (hdrBlkStatResetBusy .snap) = false ∧ deadBody u .snap 0x124 = false ∧ s.ignoredWrite u .snap 0x124 0 7 = none ∧ (regAt u .snap 0x124).map (fun g => (g.pair, g.word)) = some (true, 1) ∧ look (reqKey u 0) s.buffers = some (snapSendMaskBanks.key u, 5)) (.ikb 1) { State.reset with buffers := [(reqKey (.ikb 1) 0, (snapSendMaskBanks.key (.ikb 1), 5))] }) ∧
    ((fun (u : Chip) (s : State) => s.on u (hdrBlkStatResetBusy .snap) = false ∧ deadBody u .snap 0x124 = false ∧ s.ignoredWrite u .snap 0x124 0 7 = none ∧ (regAt u .snap 0x124).map (fun g => (g.pair, g.word)) = some (true, 1) ∧ look (reqKey u 0) s.buffers = none) (.ikb 1) State.reset) ∧
    ((fun (u : Chip) (f : Fld) (s : State) => f.acc = .rwl ∧ s.locked u .cntcfg = true ∧ s.regBad u .cntcfg 0x300 5 = false ∧ s.fieldBad u .cntcfg f (bitsOf 5 f.lo f.w) = false) (.ikb 1) (fld .cntcfg 0x300 0 6 .rwl (.c 0) .wrap) (Wit.st [(.ikb 1, hdrLockLocked .cntcfg, 1)])) := by
  refine ⟨?_, ?_, ?_, ?_, ?_, ?_, ?_, ?_⟩ <;> decide +kernel

theorem test_witness_PortsAndProxies :
    (31 % 16 = 15 ∧ 0x4000C % 262144 % 4 = 0) ∧
    (7 % 16 ≠ 15 ∨ 8 % 262144 % 4 ≠ 0) ∧
    (15 % 16 ≠ 15 ∨ 6 % 262144 % 4 ≠ 0) ∧
    ((fun (t : Option Answer) => t.isSome = true ∧ 8 % 0x4000000 % 4 = 0) (State.accessBar0 State.reset (8 % 0x4000000) false (4 == 8) 0)) ∧
    (2 ≠ 4 ∧ 2 ≠ 8 ∧ 0xFFFFFF % 0x4000000 < 0x1000000) ∧
    ((Wit.st [(dieOfPort 9, ltlStatUp (linkOfPort 9), 1)]).on (dieOfPort 9) (ltlStatUp (linkOfPort 9)) = true) ∧
    (State.on State.reset (dieOfPort 9) (ltlStatUp (linkOfPort 9)) = false) ∧
    ((fun s : State => s.on (endChip 1 true) (ltlStatUp (endBlk 1 true)) = true ∧ (s.received 1 true 0x40 12).pllWait 1 (0x2000 % 262144) = false) (Wit.st [(.ikb 1, ltlStatUp .link, 1)])) ∧
    ((fun (q : ProxyReq) (s : State) => s.on (endChip 1 false) (ltlStatUp (endBlk 1 false)) = true ∧ ((s.received 1 false 0x41 10).proxiesOf 1).find? (fun q => q.tag == 5 % 256 && q.sentAt != 0) = some q) ⟨0, 5, false, false, 64, 0, 1, false⟩ ((Wit.st [(endChip 1 false, ltlStatUp (endBlk 1 false), 1)]).setProxies 1 [⟨0, 5, false, false, 64, 0, 1, false⟩])) ∧
    ((fun (s : State) => s.on (endChip 1 false) (ltlStatUp (endBlk 1 false)) = true ∧ ((s.received 1 false 0x41 10).proxiesOf 1).find? (fun q => q.tag == 5 % 256 && q.sentAt != 0) = none) (Wit.st [(endChip 1 false, ltlStatUp (endBlk 1 false), 1)])) ∧
    ((Wit.st [(endChip 1 false, ltlStatUp (endBlk 1 false), 1)]).on (endChip 1 false) (ltlStatUp (endBlk 1 false)) = true) ∧
    (((State.proxiesOf { State.setProxies State.reset 1 [⟨0, 5, false, false, 64, 0, 1, false⟩] with now := 20000 } 1).any fun q => q.sentAt != 0 && decide (q.sentAt + 20 * us ≤ 20000 + 1)) = true) ∧
    ((fun (s : State) => s.on (endChip 1 true) (ltlStatUp (endBlk 1 true)) = true ∧ s.on (endChip 1 true) (verBad (endBlk 1 true)) = false ∧ ((s.received 1 true 0x78 (4 + 2)).bufWrite 1 (64 / 64 * 64) [1, 2]).rd (dieOfPort 1) (loadStep (linkOfPort 1)) ≠ 1) (Wit.st [(.ikb 1, ltlStatUp .link, 1)])) := by
  refine ⟨?_, ?_, ?_, ?_, ?_, ?_, ?_, ?_, ?_, ?_, ?_, ?_, ?_⟩ <;> decide +kernel

theorem test_witness_BusAndHotSwap :
    (State.reset.field.running = true ∧ State.reset.field.busLow = false) ∧
    ((fun s : State => s.field.running = true ∧ s.field.busLow = true ∧ s.field.hsOn = true) { State.reset with field := { busLow := true } }) ∧
    (State.reset.field.running = true) ∧
    (State.reset.field.running = true) ∧
    ((fun s : State => s.field.running = true ∧ s.field.hsOn = false) { State.reset with field := { hsOn := false } }) ∧
    ((fun s : State => s.field.running = true ∧ s.field.openAt ≠ 0 ∧ s.field.retries < 3 ∧ s.field.openAt + 5 * sec ≤ s.now + 1) { State.reset with field := { hsOn := false, openAt := 1, retries := 2 }, now := 5000000000 }) ∧
    ((fun s : State => s.field.running = true ∧ s.field.offAt ≠ 0 ∧ s.field.offAt + 10 * ms ≤ s.now + 1) { State.reset with field := { offAt := 1 }, now := 10000000 }) ∧
    ((fun s : State => s.field.running = true ∧ s.field.offOpenAt ≠ 0 ∧ s.field.onAfter ≠ 0 ∧ s.field.offOpenAt + s.field.onAfter * sec ≤ s.now + 1) { State.reset with field := { hsOn := false, offOpenAt := 1, onAfter := 2 }, now := 2000000000 }) ∧
    ((fun s : State => s.field.running = true ∧ s.field.capturing = true) { State.reset with field := { capturing := true } }) ∧
    ((fun s : State => s.field.running = true ∧ s.field.suppAt + sec ≤ s.now) { State.reset with now := 1000000000 }) ∧
    ((fun s : State => s.field.running = true ∧ s.field.version ≠ 0) { State.reset with field := { version := 3 } }) := by
  refine ⟨?_, ?_, ?_, ?_, ?_, ?_, ?_, ?_, ?_, ?_, ?_⟩ <;> decide +kernel

theorem test_witness_FieldSensing :
    (State.reset.field.running = true) ∧
    ((fun s : State => s.field.running = true ∧ s.field.enabled 15 = true ∧ s.field.stuckS 15 ≠ 0 ∧ (s.alarmOf 15).stuck = false ∧ (s.alarmOf 15).activeAt ≠ 0 ∧ (s.alarmOf 15).activeAt + s.field.stuckS 15 * sec ≤ s.now + 1) { State.reset with field := { cfg := [(0x23C, 0x1010A)], alarms := [(15, { activeAt := 1, state := true })] }, now := 1000000000 }) ∧
    ((fun s : State => s.field.running = true ∧ s.field.chatAt + sec ≤ s.now) { State.reset with now := 1000000000 }) ∧
    (State.reset.field.running = true ∧ 7 < 8) ∧
    (State.reset.field.running = true ∧ 7 < 8) ∧
    ((fun (f : BarFrame) (s : State) => s.barAlive false = true ∧ f.bad = false ∧ (s.barEnd false).up = true) ⟨false, 3, 0, [], false⟩ { State.reset with barHost := { up := true } }) ∧
    ((fun (f : BarFrame) (s : State) => s.barAlive true = true ∧ f.bad = false ∧ (s.barEnd true).up = true) ⟨false, 3, 0, [], false⟩ { State.reset with field := { link := { up := true } } }) ∧
    ((fun (f : BarFrame) (s : State) => s.barAlive false = true ∧ f.bad = false ∧ (s.barEnd false).up = true ∧ f.seq % 65536 = (s.barEnd false).rx) ⟨false, 65539, 0, [], false⟩ { State.reset with barHost := { up := true, rx := 3 } }) ∧
    (nth [0, 1, 7, 0] 0 = 0 ∧ nth [0, 1, 7, 0] 1 = 1) ∧
    ((fun s : State => s.on (.wdie 0) barCmdBusy = true ∧ s.rd (.wdie 0) cmdOp = nth [3, 1] 0) (Wit.st [(.wdie 0, barCmdBusy, 1), (.wdie 0, cmdOp, 3)])) := by
  refine ⟨?_, ?_, ?_, ?_, ?_, ?_, ?_, ?_, ?_, ?_⟩ <;> decide +kernel

theorem test_witness_BarrierLink :
    (State.barAlive State.reset true = true ∧ (State.barEnd State.reset true).up = false) ∧
    (State.barAlive State.reset true = true ∧ (State.barEnd State.reset true).up = false ∧ (State.barEnd State.reset true).helloAt = 0) ∧
    ((fun s : State => s.barAlive true = true ∧ (s.barEnd true).unacked ≠ [] ∧ (s.barEnd true).ackAt + 200 * us ≤ s.now) { State.reset with field := { link := { up := true, unacked := [⟨18, 4, [], 1⟩] } }, now := 200000 }) ∧
    ((fun s : State => s.barAlive true = true ∧ (s.barEnd true).up = true ∧ (s.barEnd true).lastRx + 10 * ms ≤ s.now) { State.reset with field := { link := { up := true } }, now := 10000000 }) ∧
    ((fun (f : BarFrame) (s : State) => s.barAlive true = true ∧ f.bad = false ∧ (s.barEnd true).up = true ∧ f.seq % 65536 = (s.barEnd true).rx ∧ fOffsets.contains (num2 f.payload 0) = true) ⟨false, 3, 0, [0x88, 0x02], false⟩ { State.reset with field := { link := { up := true, rx := 3 } } }) ∧
    ((fun (f : BarFrame) (s : State) => s.barAlive true = true ∧ f.bad = false ∧ (s.barEnd true).up = true ∧ f.seq % 65536 = (s.barEnd true).rx) ⟨false, 3, 0, [], false⟩ { State.reset with field := { link := { up := true, rx := 3 } } }) ∧
    ((fun (f : BarFrame) (s : State) => s.barAlive true = true ∧ f.bad = false ∧ (s.barEnd true).up = true ∧ f.seq % 65536 = (s.barEnd true).rx ∧ num4 f.payload 0 % 16 = 0 ∧ num4 f.payload 0 < 82432) ⟨false, 3, 0, [0xF0, 0x41, 1, 0], false⟩ { State.reset with field := { link := { up := true, rx := 3 } } }) ∧
    ((fun (f : BarFrame) (s : State) => s.barAlive true = true ∧ f.bad = false ∧ (s.barEnd true).up = true ∧ f.seq % 65536 = (s.barEnd true).rx) ⟨false, 3, 0, [], false⟩ { State.reset with field := { link := { up := true, rx := 3 } } }) ∧
    (fOffsets.contains 0x288 = true) ∧
    ((fun s : State => s.on (.wdie 0) barCmdBusy = true ∧ s.rd (.wdie 0) cmdAt + 100 * ms ≤ s.now) { Wit.st [(.wdie 0, barCmdBusy, 1)] with now := 100000000 }) := by
  refine ⟨?_, ?_, ?_, ?_, ?_, ?_, ?_, ?_, ?_, ?_⟩ <;> decide +kernel

theorem test_witness_PackageStarts :
    (9 ≠ 0) ∧
    (0x5355 ≠ 0x5354) ∧
    ((fun s : State => s.on (.wdie 1) fatalAt = true ∧ s.rd (.wdie 1) fatalAt + 5 * ms ≤ s.now + 1 ∧ s.on (.wdie 0) bbxStatLgBusy = false) { Wit.st [(.wdie 1, fatalAt, 1)] with now := 5000000 }) ∧
    ((Wit.st [(.pkg, pkgStartStatWarmOk, 0)]).on .pkg pkgStartStatWarmOk = false) ∧
    (State.forcedReason (Wit.st [(.pkg, pkgStartStatWarmOk, 1)]) 1 = none) ∧
    ((fun s : State => s.startReady = true ∧ s.rd .pkg pkgStartStatKind = 4 ∧ (((List.range s.dies).foldl (State.dramUp true) (s.norFound true)).bootSource true).1.isSome = true) { Wit.st [(.pkg, pkgStartStatKind, 4), (.pkg, pkgSizeDiePresent, 1), (.wdie 0, clkWSrcStatPllLock, 1), (.wdie 0, pwrStatSafe, 0)] with dram := ([0x4C, 0x4D, 0x46, 0x57, 1, 1] ++ List.replicate 26 0 ++ [56, 176, 96, 167, 81, 172, 150, 56, 76, 217, 50, 126, 177, 177, 227, 106, 33, 253, 183, 17, 20, 190, 7, 67, 76, 12, 199, 191, 99, 246, 225, 218, 39, 78, 222, 191, 231, 111, 101, 251, 213, 26, 210, 241, 72, 152, 185, 91]).zipIdx.map fun (e : Nat × Nat) => (e.2, BitVec.ofNat 8 e.1) }) ∧
    ((fun s : State => s.startReady = true ∧ s.rd .pkg pkgStartStatKind = 4) (Wit.st [(.pkg, pkgStartStatKind, 4), (.pkg, pkgSizeDiePresent, 1), (.wdie 0, clkWSrcStatPllLock, 1), (.wdie 0, pwrStatSafe, 0)])) ∧
    ((fun s : State => s.on .pkg pkgStartStatDone = true ∧ s.rd .pkg startDoneAt + max 1 (s.rd .pkg pkgWarmRunCfgRunS) * sec ≤ s.now + 1) { Wit.st [(.pkg, pkgStartStatDone, 1)] with now := 10000000000000 }) ∧
    ((fun s : State => s.on .pkg pkgStartStatDone = false ∧ s.on (.wdie 1) clkWSrcStatXtalReady = false ∧ s.rd .pkg startAt + 50 * ms ≤ s.now) { Wit.st [(.pkg, pkgStartStatDone, 0), (.wdie 1, clkWSrcStatXtalReady, 0)] with now := 50000000 }) ∧
    ((fun s : State => s.on .pkg pkgStartStatDone = false ∧ s.on (.wdie 1) clkWSrcStatXtalReady = true ∧ s.on (.wdie 1) clkWSrcStatPllLock = false ∧ s.rd .pkg (pllTries 1) < 3) (Wit.st [(.pkg, pkgStartStatDone, 0), (.wdie 1, clkWSrcStatXtalReady, 1), (.wdie 1, clkWSrcStatPllLock, 0)])) ∧
    (State.locked State.reset (.wdie 1) .torus = false) := by
  refine ⟨?_, ?_, ?_, ?_, ?_, ?_, ?_, ?_, ?_, ?_, ?_⟩ <;> decide +kernel

theorem test_witness_IkbResets :
    (evrSeqNext.code < 4294967296 ∧ evrSeqNext.key (.ikb 1) ≠ authNonceNonce.key (.ikb 1)) ∧
    (State.on State.reset (.ikb 1) aonPwrStatOffOk = false) ∧
    ((Wit.st [(.ikb 1, aonPwrStatOffOk, 1)]).on (.ikb 1) aonPwrStatOffOk = true) ∧
    ((fun s : State => s.on (.ikb 1) vikbOff = true ∧ s.on (.ikb 1) aonPwrStatOffOk = false) (Wit.st [(.ikb 1, vikbOff, 1)])) ∧
    ((fun s : State => s.on (.ikb 1) vikbOff = true ∧ s.on (.ikb 1) aonPwrStatOffOk = true ∧ s.on (.ikb 1) retainedSet = true) (Wit.st [(.ikb 1, vikbOff, 1), (.ikb 1, aonPwrStatOffOk, 1), (.ikb 1, retainedSet, 1)])) := by
  refine ⟨?_, ?_, ?_, ?_, ?_⟩ <;> decide +kernel

theorem test_witness_StepRunsFront :
    State.reset.pending = [] := by
  decide +kernel

theorem test_witness_ResetValues :
    (Blk.aon ∈ ikbBlks) ∧
    (31 < 32) := by
  refine ⟨?_, ?_⟩ <;> decide +kernel

theorem test_witness_KeepsQueue :
    ∃ t, exec (.timeReacquire (.ikb 0)) State.reset = .next t := ⟨_, rfl⟩

theorem test_witness_StoresKept :
    Safety.mayStore (.timeReacquire (.ikb 0)) = false ∧ ∃ t, exec (.timeReacquire (.ikb 0)) State.reset = .next t := ⟨rfl, _, rfl⟩

theorem test_witness_MemoryLaws :
    (memWf 0#8 [(3, 5#8), (7, 1#8)] = true) ∧
    (memWf 0#8 [(3, 5#8), (7, 1#8)] = true) := by
  refine ⟨?_, ?_⟩ <;> decide +kernel

theorem test_witness_TopK :
    (1 ≤ 2 ∧ 2 ≤ 64 ∧ 1 ≤ 1 ∧ (([(9, 4), (9, 2), (5, 7)] : List (Nat × Nat)).map (·.2)).Nodup) ∧
    (1 ≤ 64 ∧ 64 ≤ 64 ∧ 0 ≤ 1 ∧ ((([(9, 4)] : List (Nat × Nat)) ++ [(9, 2), (5, 7)]).map (fun e : Nat × Nat => e.2)).Nodup) := by
  refine ⟨?_, ?_⟩ <;> decide +kernel

theorem test_witness_CrossFeatures :
    ((fun (fs : List LFeat) => (fs[2]?).map (·.op) = some 4 ∧ (fs[0]?).map (·.op) = some 0 ∧ (fs[1]?).map (·.op) = some 0) [⟨0, 0, false, 0, 0, 0, 0, 1065353216, 0, [], 0⟩, ⟨0, 0, false, 1, 0, 0, 0, 1065353216, 0, [], 0⟩, ⟨4, 0, false, 0, 0, 0, 1, 0, 0, [], 4⟩]) ∧
    (featOk 0 [⟨0, 0, false, 0, 0, 0, 0, 0, 0, [], 0⟩] 4 ⟨4, 0, false, 0, 0, 0, 0, 0, 0, [], 4⟩ = true) ∧
    ((([⟨4, 0, false, 0, 0, 0, 1, 0, 0, [], 4⟩] : List LFeat)[0]?).map (·.op) = some 4) := by
  refine ⟨?_, ?_, ?_⟩ <;> decide +kernel

theorem test_witness_GatedPages :
    ((pagesOf (.ikb 0)).contains .abft = true ∧ State.reset.clocked (.ikb 0) .abft = false) ∧
    ((fld .abft 0x100 0 1 .rw (.c 0)).key (.ikb 0) ≠ clkIBlkEnEn.key (.ikb 0)) := by
  refine ⟨?_, ?_⟩ <;> decide +kernel

theorem test_witness_OrderFree :
    ((([(3, 1, false), (3, 0, true)] : List (Nat × Nat × Bool)).map (·.2.1)).Nodup ∧ ([(3, 1, false), (3, 0, true)] : List (Nat × Nat × Bool)).isPerm [(3, 0, true), (3, 1, false)] = true) ∧
    (((([(3, 1, false)] : List (Nat × Nat × Bool)) ++ [(3, 0, true)]).map (fun e : Nat × Nat × Bool => e.2.1)).Nodup) := by
  refine ⟨?_, ?_⟩ <;> decide +kernel

theorem test_witness_StepKeepsInv :
    Memory.wf State.reset = true ∧ State.reset.pending.all (·.wf State.reset.size) = true ∧ step State.reset = .next State.reset.tick := ⟨by decide, by decide, rfl⟩

theorem test_witness_RunsAreSafe :
    Memory.wf { State.reset with pending := [.timeReacquire (.ikb 0)] } = true ∧ ([Instr.timeReacquire (.ikb 0)].all (·.wf PkgSize.wfk8)) = true := by
  decide +kernel
end

section
/-! The state's frame and the state after reset: O50, O48, O49. The shared fact of O50 is `exec_wrapped`: every command's
meaning stands under the one of `keeping` and `storeless` that Safety.mayStore picks, so a fact about these two is a fact
about every command. -/

namespace Sys2Proof.Proofs.Scope

open Sys2Proof Sys2Proof.Machine Sys2Proof.Laws

/-! ## What the effect of a command leaves -/

/-- Everything that `keeping` can answer. -/
theorem keeping_eq_next_iff {s t : State} {o : Out'} : keeping s o = .next t ↔ ∃ x, o = .next x ∧ t = s.keep x := by
  cases o with
  | next x => simp [eq_comm]
  | fault r => cases r
  | refused r => simp [keeping]

/-- Everything that `storeless` can answer. -/
theorem storeless_eq_next_iff {s t : State} {o : Out'} :
    storeless s o = .next t ↔ ∃ x, o = .next x ∧ t = s.keepStores x := by
  cases o with
  | next x => simp [eq_comm]
  | fault r => cases r
  | refused r => simp [storeless]

/-- The meaning of a command is `keeping` of something when Safety.mayStore names it, and `storeless` of something when
it does not. -/
theorem exec_wrapped (c : Instr) (s : State) :
    ∃ o, exec c s = bif Safety.mayStore c then keeping s o else storeless s o := by
  cases c <;> (dsimp only [exec, Safety.mayStore, cond]; exact ⟨_, rfl⟩)

/-- A next state is `keep` or `keepStores` of the state before, as Safety.mayStore says. -/
theorem exec_eq_next {c : Instr} {s t : State} (h : exec c s = .next t) :
    ∃ x, t = bif Safety.mayStore c then s.keep x else s.keepStores x := by
  obtain ⟨o, ho⟩ := exec_wrapped c s
  rw [ho] at h
  cases hm : Safety.mayStore c with
  | true =>
    rw [hm] at h
    obtain ⟨x, -, rfl⟩ := keeping_eq_next_iff.1 h
    exact ⟨x, rfl⟩
  | false =>
    rw [hm] at h
    obtain ⟨x, -, rfl⟩ := storeless_eq_next_iff.1 h
    exact ⟨x, rfl⟩

/-- Settles O50: both `keep` and `keepStores` give back the queue, the package size and the time of the state before. -/
theorem keepsQueue : Obligations.KeepsQueue := by
  intro c s t h
  obtain ⟨x, rfl⟩ := exec_eq_next h
  cases Safety.mayStore c with
  | true => simp
  | false => simp

/-! ## The state after reset -/

/-- No field is listed after reset, so each reads its reset value (spec 00 R20). -/
theorem rd_reset (u : Chip) (f : Fld) : State.reset.rd u f = f.reset .wfk8 u := rfl

/-- A field of a register at an offset within the page holds its block's number. -/
theorem blkCode_fld {b : Blk} {off lo w : Nat} {acc : Acc} {rst : Rst} {ovf : Ovf} (ho : off < 65536) (hl : lo < 32) :
    (fld b off lo w acc rst ovf).blkCode = b.code := by
  unfold Fld.blkCode fld
  dsimp only
  omega

/-- After reset a page of an IKB is enabled as spec 04 R128 says of its number. -/
theorem enabled_reset_ikb (p : Nat) (b : Blk) :
    State.reset.enabled (.ikb p) b = (enableAtReset true b.code % 2 != 0) := by
  have hb : (hdrBlkCtrlEnable b).blkCode = b.code := blkCode_fld (by decide) (by decide)
  rw [← hb]
  rfl

/-- The numbers of spec 04 R128 are those of the ten pages that it names, among the pages of an IKB. -/
theorem enableAtReset_ikbBlks : ∀ b ∈ ikbBlks, (enableAtReset true b.code % 2 != 0) =
    [Blk.top, .clk, .aon, .time, .launch, .cntcfg, .evr, .core, .link, .auth].contains b := by decide

/-- After reset each part runs at its nominal addend: 4 ns on an IKB, 20 ns on a W-die (spec 05 R144). -/
theorem addend_reset (u : Chip) : State.reset.addend u = nominalAddend u := by
  have hhi : State.reset.rd u timeAddendHiAdd = (if u.isIkb then 4 else 20) % 256 := rfl
  have hlo : State.reset.rd u timeAddendLoAdd = 0 := rfl
  unfold State.addend nominalAddend
  rw [hhi, hlo]
  cases u.isIkb with
  | true => rfl
  | false => rfl

/-- A field of `w` bits whose reset value rises by `step` with its index reads `base + step * k` when that fits. -/
theorem rd_reset_lin {u : Chip} {f : Fld} {base step : Nat} (hf : f.rst = .lin base step)
    (hw : base + step * f.idx < 2 ^ f.w) : State.reset.rd u f = base + step * f.idx := by
  rw [rd_reset, Fld.reset, hf, Rst.eval, Nat.mod_eq_of_lt hw]

/-- After reset pair k of bank 0 selects the lines 2k and 2k + 1 (spec 06 R184). -/
theorem baseSel_reset (p : Nat) {k : Nat} (hk : k < 32) :
    State.reset.rd (.ikb p) (cntBaseSelSelLo k) = 2 * k ∧ State.reset.rd (.ikb p) (cntBaseSelSelHi k) = 2 * k + 1 := by
  have hlo : State.reset.rd (.ikb p) (cntBaseSelSelLo k) = 0 + 2 * k :=
    rd_reset_lin rfl (show 0 + 2 * k < 1024 by omega)
  have hhi : State.reset.rd (.ikb p) (cntBaseSelSelHi k) = 1 + 2 * k :=
    rd_reset_lin rfl (show 1 + 2 * k < 1024 by omega)
  omega

/-- Settles O48: no field, byte, command or record is listed after reset, so each reads what its table or its memory
gives. -/
theorem resetValues : Obligations.ResetValues := by
  unfold Obligations.ResetValues
  refine ⟨rd_reset, ?enable, ?addend, ?select, ?dram, ?empty⟩
  case enable =>
    intro p b hb
    rw [enabled_reset_ikb, enableAtReset_ikbBlks b hb]
  case addend => exact fun p d => ⟨addend_reset (.ikb p), addend_reset (.wdie d)⟩
  case select => exact fun p _ hk => baseSel_reset p hk
  case dram => exact fun _ => rfl
  case empty => exact ⟨rfl, rfl, rfl, rfl, rfl, rfl, rfl, rfl⟩

/-- Settles O49: the memories and the queue are empty after reset. -/
theorem resetKeepsInv : Obligations.ResetKeepsInv := by
  unfold Obligations.ResetKeepsInv Safety.Inv
  have hmem : Memory.wf State.reset = true := by
    unfold Memory.wf
    rw [Bool.and_eq_true, Bool.and_eq_true]
    exact ⟨⟨memNil_wf, memNil_wf⟩, memNil_wf⟩
  exact ⟨hmem, List.all_nil⟩

end Sys2Proof.Proofs.Scope
end

section
/-! The PKGROUTE page and the swaps of ROUTE and PORTS (O1), frames received through the spine (O2), frames in the torus
and the port roles (O3). Each function of the model that a clause turns on has a lemma for the branch that the clause
describes; what settles a clause is that lemma under the command's `storeless` or `keeping`. -/

namespace Sys2Proof.Proofs.Topology

open Sys2Proof Sys2Proof.Machine Sys2Proof.Laws

section RouteTable

variable {s t : State}

/-! ## The PKGROUTE page (spec 01 R46) -/

/-- ADD of a valid flat entry `e` for which there is room. -/
theorem routeAdd_of_room {e : Xlat} (he : xlatOf s.eEntry 0 = e) (hflat : e.flat = true) (hvalid : bitAt s.eEntry 41 = 1)
    (hjob : e.job = 0) (hkey : e.key ≠ 0xFFFFFF)
    (hroom : s.entriesAfter (put e.key (some e) s.flatStage) s.natStaged ≤ s.rd .pkg pkgrTblCapEntries) :
    s.routeAdd = (State.stagedCount { s with flatStage := put e.key (some e) s.flatStage }).routeResult 0 := by
  have hok : ¬ (!e.flat || bitAt s.eEntry 41 = 0 || e.job ≠ 0 || e.key = 0xFFFFFF) = true := by
    simp [hflat, hvalid, hjob, hkey]
  unfold State.routeAdd
  dsimp only
  rw [he, if_neg hok, if_neg (Nat.not_lt.2 hroom)]

/-- REMOVE of a key held in the table stages its removal. -/
theorem routeRemove_held {k : Nat} (hk : (xlatOf s.eEntry 0).key = k)
    (hheld : (s.xlat.any fun e => e.flat && e.key == k) = true) :
    s.routeRemove = (State.stagedCount { s with flatStage := put k none s.flatStage }).routeResult 0 := by
  unfold State.routeRemove
  rw [hk]
  simp [hheld]

/-- REMOVE of a key that is staged alone drops what is staged. -/
theorem routeRemove_staged {k : Nat} (hk : (xlatOf s.eEntry 0).key = k)
    (hheld : (s.xlat.any fun e => e.flat && e.key == k) = false)
    (hstaged : ((look k s.flatStage).any fun c => c.isSome) = true) :
    s.routeRemove = (State.stagedCount { s with flatStage := drop k s.flatStage }).routeResult 0 := by
  unfold State.routeRemove
  rw [hk]
  simp [hheld, hstaged]

/-- LOOKUP of an entry that die 0 finds. -/
theorem routeLookup_found {e x : Xlat} (he : xlatOf s.eEntry 0 = e) (hname : e.flat = true ∨ e.job ≠ 0)
    (hfound : s.translate 0 e.job e.key e.flat = (some x, t)) :
    s.routeLookup = ((t.setEEntry x.bits).wr .pkg pkgrEIndexIdx x.index).routeResult 0 := by
  have hnamed : ¬ (!e.flat && e.job = 0) = true := by simpa [Classical.or_iff_not_imp_left] using hname
  unfold State.routeLookup
  dsimp only
  rw [he, if_neg hnamed, hfound]

/-- REWRITE of a valid entry of the generation in force, at an index within the table. -/
theorem routeRewrite_valid {i : Nat} (hi : s.rd .pkg pkgrEIndexIdx = i)
    (hgen : (xlatOf s.eEntry i).gen = s.rd .pkg pkgrGenInForce) (hcap : i < s.rd .pkg pkgrTblCapEntries)
    (hvalid : bitAt s.eEntry 41 = 1) :
    s.routeRewrite = ((List.range s.dies).foldl (fun (t : State) d => t.unpoison (lineOf (t.entryAddr d i)))
      (State.storeEntry { s with xlat := (s.xlat.filter fun x => x.index != i) ++ [xlatOf s.eEntry i] } i
        s.eEntry)).routeResult 0 := by
  have hok : ¬ ((xlatOf s.eEntry i).gen ≠ s.rd .pkg pkgrGenInForce || s.rd .pkg pkgrTblCapEntries ≤ i) = true := by
    simp [hgen, hcap]
  unfold State.routeRewrite
  dsimp only
  rw [hi, if_neg hok, if_pos hvalid]

/-! ## The ROUTE swap (spec 01 R46, 10 R297) -/

/-- A ROUTE swap with no job staged or leaving is a swap of the flat changes alone. -/
theorem swapRoute_flat (hstage : s.jobStage = []) (hdel : s.natDel = []) :
    s.swapRoute = (List.range (8 * s.dies)).foldl (fun (t : State) p => t.jobFollow s p)
      ((State.stagedCount { (s.flatStage.foldl (fun (t : State) c => match c.2 with
          | some e => t.enterXlat (s.rd .pkg pkgrStagedGen) e
          | none => t.leaveXlat fun e => e.flat && e.key == c.1) s) with
        flatStage := [], jobStage := [], natDel := [] }).wr .pkg pkgrGenInForce (s.rd .pkg pkgrStagedGen)) := by
  unfold State.swapRoute
  dsimp only
  rw [hstage, hdel]
  rfl

end RouteTable

/-- Settles O1, each clause by the branch of the function that its hypotheses select. -/
theorem routeTableCommands : Obligations.RouteTableCommands := by
  unfold Obligations.RouteTableCommands
  refine ⟨?add, ?removeHeld, ?removeStaged, ?lookup, ?discard, ?rewrite, ?swapRoute, ?swapPorts⟩
  case add =>
    intro s hflat hvalid hjob hkey hroom
    rw [exec_pkgrouteAdd, execPkgrouteAdd, routeAdd_of_room rfl hflat hvalid hjob hkey hroom, storeless_next]
  case removeHeld =>
    intro s hheld
    rw [exec_pkgrouteRemove, execPkgrouteRemove, routeRemove_held rfl hheld, storeless_next]
  case removeStaged =>
    intro s hheld hstaged
    rw [exec_pkgrouteRemove, execPkgrouteRemove, routeRemove_staged rfl hheld hstaged, storeless_next]
  case lookup =>
    intro s t x hname hfound
    rw [exec_pkgrouteLookup, execPkgrouteLookup, routeLookup_found rfl hname hfound, storeless_next]
  case discard =>
    intro s
    rw [exec_pkgrouteDiscardStaged, execPkgrouteDiscardStaged, storeless_next]
  case rewrite =>
    intro s hgen hcap hvalid
    rw [exec_pkgrouteRewrite, execPkgrouteRewrite, routeRewrite_valid rfl hgen hcap hvalid, keeping_next]
  case swapRoute =>
    intro s hstage hdel
    rw [exec_tableSwapRoute, execTableSwapRoute, keeping_next]
    exact congrArg (fun t => Host.Outcome.next (s.keep t)) (swapRoute_flat hstage hdel)
  case swapPorts =>
    intro d s
    rw [exec_tableSwapPorts, execTableSwapPorts, storeless_next]

section SpineFlows

variable {s : State}

/-! ## Flows through the spine (spec 01 R41, R43) -/

/-- A sequence lies at itself, not behind. -/
theorem seqAhead_self (q : Nat) : seqAhead q q = some 0 := by
  simp [seqAhead]

/-- The first frame held is delivered when it has the next SEQ. -/
theorem deliverRun_next (n : Nat) {r : RxFlow} {f : FabricFrame} {rest : List (Nat × FabricFrame)}
    (hheld : r.held = (r.next, f) :: rest) :
    State.deliverRun (n + 1) r s =
      State.deliverRun n { r with next := (r.next + 1) % 2 ^ 32, held := rest, last := s.now, windowAt := 0 }
        (s.emit (.delivered 0 f.hdr f.body)) := by
  rw [State.deliverRun, hheld]
  simp

/-- The window of a flow that holds nothing and has none open is not due. -/
theorem windowDue_empty {r : RxFlow} (hheld : r.held = []) (hat : r.windowAt = 0) (hframes : 0 < s.rd .pkg windowFrames) :
    s.windowDue r = false := by
  unfold State.windowDue
  rw [hheld, hat]
  simpa [Nat.pos_iff_ne_zero] using hframes

/-- A started flow that holds nothing delivers a frame with the next SEQ. -/
theorem flowFrame_next {source : Nat} {f : FabricFrame} {r : RxFlow} (hflow : s.rxFlow source f.hdr.flow = some r)
    (hstarted : r.started = true) (hheld : r.held = []) (hseq : f.hdr.seq = r.next) (hframes : 0 < s.rd .pkg windowFrames) :
    s.flowFrame source f = (s.emit (.delivered 0 f.hdr f.body)).setRxFlow
      { r with next := (r.next + 1) % 2 ^ 32, held := [], last := s.now, windowAt := 0 } := by
  have hnew : ¬ (r.held.any fun e => e.1 == f.hdr.seq) = true := by simp [hheld]
  have hrunning : ¬ (!r.started) = true := by simp [hstarted]
  have hinTurn : ¬ (seqAhead r.next f.hdr.seq).isNone = true := by simp [hseq, seqAhead_self]
  unfold State.flowFrame
  dsimp only
  rw [hflow, Option.getD_some, if_neg hnew, if_neg hrunning, if_neg hinTurn, hheld, hseq, insertHeld, List.length_nil,
    deliverRun_next 0 (r := { r with held := [(r.next, f)] }) rfl, State.deliverRun, if_neg]
  exact ne_true_of_eq_false (windowDue_empty rfl rfl hframes)

end SpineFlows

/-- Settles O2: a frame in its turn passes the checks of R41 one by one, and the other clauses are the commands' own
conditions. -/
theorem spineFlowCommands : Obligations.SpineFlowCommands := by
  unfold Obligations.SpineFlowCommands
  refine ⟨?delivered, ?aged, ?window, ?closed, ?freed⟩
  case delivered =>
    intro P source frame r s hup hrole haged hflow hstarted hheld hseq _ hframes
    rw [exec_spineFrameReceive, execSpineFrameReceive, storeless_next,
      ← flowFrame_next hflow hstarted hheld hseq hframes]
    simp [hup, hrole, haged]
  case aged =>
    intro P source frame s hup hrole haged
    simp [execSpineFrameReceive, hup, hrole, haged]
  case window =>
    intro source flow r s hflow hdue
    simp [execReorderWindowClose, hflow, hdue]
  case closed =>
    intro source flow r s hflow hsilent
    simp [execSpineFlowClose, hflow, hsilent]
  case freed =>
    intro d id f s hfind hsilent
    rw [exec_flowIdFree, execFlowIdFree, hfind, storeless_next]
    simp only [if_pos hsilent]

section FabricHops

variable {s t : State}

/-! ## Frames that enter the fabric (spec 01 R31) -/

/-- A request's frame to a rank of a job that translates is addressed and sent. -/
theorem ingress_request_found {d job key q : Nat} {frame : FabricFrame} {e : Xlat} (hjob : job ≠ 0)
    (hfound : s.translate d job key false = (some e, t)) :
    s.ingress d true false job key q frame =
      t.torusSend d q ⟨{ frame.hdr with job := job, rank := key, dieIndex := e.dieIndex, dst := e.x + 64 * e.y + 4096 * e.z },
        frame.body, frame.deadline, frame.about⟩ := by
  simp [State.ingress, hjob, hfound]

/-- A request's frame to a rank of a job that does not translate is counted and answered with an error. -/
theorem ingress_request_untranslatable {d job key q : Nat} {frame : FabricFrame} (hjob : job ≠ 0)
    (hnone : s.translate d job key false = (none, t)) :
    s.ingress d true false job key q frame = (t.inc .pkg pkgrCnt0ReqUntrans).respond .pkg 0 true 1 := by
  simp [State.ingress, hjob, hnone]

/-! ## Queues, PEER_ID and roles (spec 10 R308, R309, R311) -/

/-- The head of a queue whose NEIGHBOUR port is not usable takes its next hop again; a CONTROL frame (KIND 5) does not. -/
theorem reroute_neighbour {P q : Nat} {f : EgFrame} (hhead : (s.queueOf P q).head? = some f)
    (husable : s.portUsable P = false) (hrole : s.portRole P = 1) (hkind : f.frame.hdr.kind ≠ 5) :
    s.reroute P q = (s.setQueue P q (s.queueOf P q).tail).takeHop (P / 2) q f.frame f.cells true := by
  simp [State.reroute, hhead, husable, hrole, hkind]

/-- A role that is not refused is staged. -/
theorem stageRole_ok {P value : Nat}
    (h : s.roleRefused P (bitsOf value 8 2) (bitsOf value 10 2) (bitsOf value 12 1) = false) :
    s.stageRole P value = ((s.wr (dieOfOpt P) (portsRoleNext (P % 2)) (bitsOf value 8 2)).wr (dieOfOpt P)
      (portsRoleNextDim (P % 2)) (bitsOf value 10 2)).wr (dieOfOpt P) (portsRoleNextSign (P % 2)) (bitsOf value 12 1) := by
  simp [State.stageRole, h]

/-- A role that is refused is logged. -/
theorem stageRole_refused {P value : Nat}
    (h : s.roleRefused P (bitsOf value 8 2) (bitsOf value 10 2) (bitsOf value 12 1) = true) :
    s.stageRole P value = s.pageErr (dieOfOpt P) .ports 0x0100 1 := by
  simp [State.stageRole, h]

end FabricHops

/-- Settles O3: the TORUS page is enabled in the clauses that ask for it, and each clause's conditions are those of the
command. -/
theorem fabricHopCommands : Obligations.FabricHopCommands := by
  unfold Obligations.FabricHopCommands
  refine ⟨?sent, ?untranslatable, ?arrival, ?badFcs, ?reroute, ?peerSend, ?peerReceive, ?peerTimeout, ?roleStaged, ?roleRefused⟩
  case sent =>
    intro d job key q frame e s t hjob hfound
    rw [exec_fabricFrameIngress, execFabricFrameIngress, ingress_request_found hjob hfound, storeless_next]
  case untranslatable =>
    intro d job key q frame s t hjob hnone
    rw [exec_fabricFrameIngress, execFabricFrameIngress, ingress_request_untranslatable hjob hnone, storeless_next]
  case arrival =>
    intro P inq frame s hup husable hmode hon
    simp [execFabricFrameArrival, hup, husable, hmode, ifOn_on _ _ _ _ hon]
  case badFcs =>
    intro P inq frame s hup
    simp [execFabricFrameArrival, hup]
  case reroute =>
    intro P q f s hon hhead husable hrole hkind
    rw [exec_fabricFrameReroute, execFabricFrameReroute, ifOn_on _ _ _ _ hon, storeless_next,
      reroute_neighbour hhead husable hrole hkind]
  case peerSend =>
    intro P s hon hrole hup hjoined
    simp [execPeerIdSend, ifOn_on _ _ _ _ hon, hrole, hup, hjoined]
  case peerReceive =>
    intro P tray coord size s hon hup hrole
    simp [execPeerIdReceive, ifOn_on _ _ _ _ hon, hrole, hup]
  case peerTimeout =>
    intro P s husable hsilent
    simp [execPeerIdTimeout, husable, hsilent]
  case roleStaged =>
    intro P value s hok
    rw [exec_portRoleStage, execPortRoleStage, stageRole_ok hok, storeless_next]
  case roleRefused =>
    intro P value s hrefused
    rw [exec_portRoleStage, execPortRoleStage, stageRole_refused hrefused, storeless_next]

end Sys2Proof.Proofs.Topology
end

section
/-! Every command completes (O52) and every run is safe (O59). That a step keeps the invariant is assembled from three
facts: a command always answers, it keeps the memories' canonical form, and it leaves the queue and the package size. -/

namespace Sys2Proof.Proofs.Runs

open Sys2Proof Sys2Proof.Machine Sys2Proof.Laws Sys2Proof.Proofs.Scope

/-! ## Every command completes -/

/-- An outcome is a next state. -/
def Answers (o : Out') : Prop := ∃ t, o = .next t

theorem answers_next (s : State) : Answers (.next s) := ⟨s, rfl⟩

theorem answers_keeping (s : State) {o : Out'} (h : Answers o) : Answers (keeping s o) := by
  obtain ⟨t, rfl⟩ := h
  exact answers_next (s.keep t)

theorem answers_storeless (s : State) {o : Out'} (h : Answers o) : Answers (storeless s o) := by
  obtain ⟨t, rfl⟩ := h
  exact answers_next (s.keepStores t)

/-- Every command answers: under the wrapper of its meaning, `storeless` or `keeping`, each branch of the meaning is a next
state, so the splits below end in `answers_next` alone. -/
theorem exec_answers (c : Instr) (s : State) : Answers (exec c s) := by
  cases c <;> (dsimp only [exec]; first | refine answers_storeless s ?_ | refine answers_keeping s ?_) <;>
    with_reducible repeat' first | exact answers_next _ | split | dsimp only

/-- Settles O52: every branch of every meaning is a next state. -/
theorem neverStops : Obligations.NeverStops := exec_answers

/-! ## What a step keeps -/

/-- A command that may store keeps the memories in canonical form. -/
theorem exec_mayStore_keepsStores {c : Instr} {s : State} (hc : Safety.mayStore c = true) (h : Stores s) :
    OutStores (exec c s) := by
  cases c with
  | pkgrouteRewrite => exact keeps_execPkgrouteRewrite h
  | tableSwapRoute => exact keeps_execTableSwapRoute h
  | tableSwapCodec => exact keeps_execTableSwapCodec h
  | rcRead => exact keeps_execRcRead h
  | lowWordRead => exact keeps_execLowWordRead h
  | highWordRead => exact keeps_execHighWordRead h
  | lowWordWrite => exact keeps_execLowWordWrite h
  | highWordWrite => exact keeps_execHighWordWrite h
  | regPortRequest => exact keeps_execRegPortRequest h
  | pcieBar0Access => exact keeps_execPcieBar0Access h
  | registerWrite => exact keeps_execRegisterWrite h
  | modeTransitionDone => exact keeps_execModeTransitionDone h
  | launchFire => exact keeps_execLaunchFire h
  | ltlGovReport => exact keeps_execLtlGovReport h
  | ltlProxyReq => exact keeps_execLtlProxyReq h
  | dramReadError => exact keeps_execDramReadError h
  | bar2Access => exact keeps_execBar2Access h
  | pcieFlr => exact keeps_execPcieFlr h
  | codecRowTake => exact keeps_execCodecRowTake h
  | codecEncode => exact keeps_execCodecEncode h
  | codecDecode => exact keeps_execCodecDecode h
  | codecSave => exact keeps_execCodecSave h
  | codecRestore => exact keeps_execCodecRestore h
  | mergeContribution => exact keeps_execMergeContribution h
  | mergePartialReceive => exact keeps_execMergePartialReceive h
  | mergeRootFinalise => exact keeps_execMergeRootFinalise h
  | mergeResultDown => exact keeps_execMergeResultDown h
  | jsStart => exact keeps_execJsStart h
  | jsEnd => exact keeps_execJsEnd h
  | bcastStartReceive => exact keeps_execBcastStartReceive h
  | bcastCommitReceive => exact keeps_execBcastCommitReceive h
  | bcastAbortReceive => exact keeps_execBcastAbortReceive h
  | bcastEndReceive => exact keeps_execBcastEndReceive h
  | bcastHopTimeout => exact keeps_execBcastHopTimeout h
  | jsReportReceive => exact keeps_execJsReportReceive h
  | jsDeadline => exact keeps_execJsDeadline h
  | jsCommitCheck => exact keeps_execJsCommitCheck h
  | lensBatchScored => exact keeps_execLensBatchScored h
  | evrClear => exact keeps_execEvrClear h
  | bbxPageProgrammed => exact keeps_execBbxPageProgrammed h
  | lastGaspDone => exact keeps_execLastGaspDone h
  | wdogExpire => exact keeps_execWdogExpire h
  | nvmRead => exact keeps_execNvmRead h
  | nvmProgram => exact keeps_execNvmProgram h
  | nvmErase => exact keeps_execNvmErase h
  | busLow => exact keeps_execBusLow h
  | busRestored => exact keeps_execBusRestored h
  | busOv => exact keeps_execBusOv h
  | hsFault => exact keeps_execHsFault h
  | busCaptureFreeze => exact keeps_execBusCaptureFreeze h
  | alarmSample => exact keeps_execAlarmSample h
  | alarmStuck => exact keeps_execAlarmStuck h
  | alarmChatter => exact keeps_execAlarmChatter h
  | fieldSuppressed => exact keeps_execFieldSuppressed h
  | rtdSample => exact keeps_execRtdSample h
  | fanTach => exact keeps_execFanTach h
  | barrierHeartbeat => exact keeps_execBarrierHeartbeat h
  | barrierAlarm => exact keeps_execBarrierAlarm h
  | barrierMramData => exact keeps_execBarrierMramData h
  | barrierCfgWriteFrame => exact keeps_execBarrierCfgWriteFrame h
  | barrierRearm => exact keeps_execBarrierRearm h
  | barrierMramClear => exact keeps_execBarrierMramClear h
  | barrierHsOff => exact keeps_execBarrierHsOff h
  | barrierFwStart => exact keeps_execBarrierFwStart h
  | startWarm => exact keeps_execStartWarm h
  | startCold => exact keeps_execStartCold h
  | hostPowerUp => exact keeps_execHostPowerUp h
  | pciePerst => exact keeps_execPciePerst h
  | packageStartDone => exact keeps_execPackageStartDone h
  | hostSupplyFall => exact keeps_execHostSupplyFall h
  | fieldSideReset => exact keeps_execFieldSideReset h
  | packageFatalTimeout => exact keeps_execPackageFatalTimeout h
  | _ => exact absurd hc Bool.false_ne_true

/-- Every command keeps the memories in canonical form. -/
theorem exec_keepsStores (c : Instr) {s : State} (h : Stores s) : OutStores (exec c s) := by
  cases hc : Safety.mayStore c with
  | true => exact exec_mayStore_keepsStores hc h
  | false =>
    obtain ⟨o, ho⟩ := exec_wrapped c s
    rw [ho, hc]
    exact out_storeless h

/-- What every operation of a fold leaves as it was, the fold leaves. -/
theorem foldl_leaves {α β γ : Type} {g : β → γ} {f : β → α → β} (hf : ∀ b a, g (f b a) = g b) (l : List α) (b : β) :
    g (l.foldl f b) = g b := by
  induction l generalizing b with
  | nil => rfl
  | cons a r ih => rw [List.foldl_cons, ih, hf]

/-- The queue and the package size of a state: of what the invariant reads, what the passing of time leaves. -/
def queueAndSize (s : State) : List Instr × PkgSize := (s.pending, s.size)

@[simp] theorem queueAndSize_wr (s : State) (u : Chip) (f : Fld) (v : Nat) : queueAndSize (s.wr u f v) = queueAndSize s := rfl
@[simp] theorem queueAndSize_setLtc (s : State) (u : Chip) (l : Ltc) : queueAndSize (s.setLtc u l) = queueAndSize s := rfl
@[simp] theorem queueAndSize_setMer (s : State) (u : Chip) (m : Meridian) : queueAndSize (s.setMer u m) = queueAndSize s := rfl

theorem queueAndSize_tickWdie (s : State) (d : Nat) : queueAndSize (s.tickWdie d) = queueAndSize s := by
  simp only [State.tickWdie, apply_ite queueAndSize, queueAndSize_wr, queueAndSize_setMer, queueAndSize_setLtc, ite_self]

theorem queueAndSize_tickIkb (s : State) (p : Nat) : queueAndSize (s.tickIkb p) = queueAndSize s := by
  simp only [State.tickIkb, apply_ite queueAndSize, queueAndSize_setMer, queueAndSize_setLtc, ite_self]

/-- The passing of 20 ns leaves the queue and the package size. -/
theorem queueAndSize_tick (s : State) : queueAndSize s.tick = queueAndSize s :=
  (foldl_leaves queueAndSize_tickIkb _ _).trans (foldl_leaves queueAndSize_tickWdie _ _)

theorem inv_iff {s : State} : Safety.Inv s ↔ Stores s ∧ s.pending.all (·.wf s.size) = true :=
  ⟨fun ⟨hmem, hq⟩ => ⟨⟨hmem⟩, hq⟩, fun ⟨hmem, hq⟩ => ⟨hmem.wf, hq⟩⟩

theorem tick_keepsInv {s : State} (h : Safety.Inv s) : Safety.Inv s.tick := by
  obtain ⟨hmem, hq⟩ := inv_iff.1 h
  obtain ⟨hpend, hsize⟩ := Prod.mk.inj (queueAndSize_tick s)
  exact inv_iff.2 ⟨keeps_tick hmem, by rwa [hpend, hsize]⟩

/-- A command taken from the front of the queue leaves the rest of the queue well formed. -/
theorem exec_front_keepsInv {s t : State} {c : Instr} {rest : List Instr} (h : Safety.Inv s) (hp : s.pending = c :: rest)
    (ht : exec c { s with pending := rest } = .next t) : Safety.Inv t := by
  obtain ⟨hmem, hq⟩ := inv_iff.1 h
  obtain ⟨hpend, hsize, -⟩ := keepsQueue c _ t ht
  rw [hp, List.all_cons, Bool.and_eq_true] at hq
  refine inv_iff.2 ⟨(exec_keepsStores c (stores_mk.2 hmem)).of ht, ?_⟩
  rw [hpend, hsize]
  exact hq.2

/-- From a state of the invariant a step answers a next state of it. -/
theorem step_keepsInv {s : State} (h : Safety.Inv s) : ∃ t, step s = .next t ∧ Safety.Inv t := by
  cases hp : s.pending with
  | nil => exact ⟨s.tick, step_idle s hp, tick_keepsInv h⟩
  | cons c rest =>
    obtain ⟨t, ht⟩ := exec_answers c { s with pending := rest }
    exact ⟨t, (step_front s c rest hp).trans ht, exec_front_keepsInv h hp ht⟩

/-- Settles O59, by induction on the number of steps. -/
theorem runsAreSafe : Obligations.RunsAreSafe := by
  intro n
  induction n with
  | zero => exact fun s h => ⟨s, rfl, h⟩
  | succ n ih =>
    intro s h
    obtain ⟨t, ht, hinv⟩ := step_keepsInv h
    obtain ⟨x, hrun, hx⟩ := ih t hinv
    refine ⟨x, ?_, hx⟩
    rw [Safety.run, ht]
    exact hrun

end Sys2Proof.Proofs.Runs
end

section
/-! Control, event and report frames of an LTL (O23). A frame that reaches an end whose link is up acts by the lemma of
`State.recv` or `State.recvTele` that fits its class; what remains of a clause is the branch of the frame's own effect. -/

namespace Sys2Proof.Proofs.LinkFrames

open Sys2Proof Sys2Proof.Machine Sys2Proof.Laws

section Effects

variable {s t : State} {p : Nat}

/-- A telemetry frame that the ingest buffer takes frees its flits and has its effect (spec 09 R273). -/
theorem recvTele_taken {ty kind len : Nat} {body : List Nat} {act : State → State}
    (hup : s.on (dieOfPort p) (ltlStatUp (linkOfPort p)) = true)
    (hver : s.on (dieOfPort p) (verBad (linkOfPort p)) = false)
    (htaken : (s.wr (dieOfPort p) (uncorrRun (linkOfPort p)) 0).arriveLtl p kind len body = (t, true)) :
    s.recvTele p ty kind len body act = act (t.wr (dieOfPort p) (rxFreed (linkOfPort p) (frameClass ty))
      ((t.rd (dieOfPort p) (rxFreed (linkOfPort p) (frameClass ty)) + flitsOf len) % 65536)) := by
  simp [State.recvTele, hup, hver, htaken]

/-- A report that is due for its repeat is sent again and counted (spec 09 R277). -/
theorem repeatReport_due {r : GovReport} (hreports : s.reportsOf p = [r]) (hdue : r.last + 10 * us ≤ s.now)
    (hsends : r.sends < 8) :
    s.repeatReport p r =
      (s.setReports p [{ r with sends := r.sends + 1, last := s.now }]).sendUpAs p 0x10 true (r.fseq :: r.body) := by
  simp [State.repeatReport, hreports, hdue, hsends]

/-- An open gap asks again, or gives its records up after the eighth send, once 50 us have passed (spec 09 R276). -/
theorem execResendRepeat_due (hmissing : (s.gapOf p).missing ≠ []) (hdue : (s.gapOf p).last + 50 * us ≤ s.now) :
    execResendRepeat p s = .next (s.keepStores
      (if (s.gapOf p).sends < 8 then s.resend p else s.loseEvents p (s.gapOf p).missing)) := by
  simp [execResendRepeat, hmissing, hdue]

end Effects

/-- Settles O23: each frame by what its reception does at an end that is up. -/
theorem linkFrames : Obligations.LinkFrames := by
  unfold Obligations.LinkFrames
  refine ⟨?credit, ?creditUp, ?creditDown, ?status, ?statusSend, ?irqState, ?resend, ?ringLost, ?gapAsks, ?gapLost,
    ?events, ?ack, ?reportRepeats, ?report, ?levelCmd, ?keyframe⟩
  case credit =>
    intro p totals s hup
    simp [execLtlCredit, hup]
  case creditUp => exact fun _ _ => rfl
  case creditDown => exact fun _ _ => rfl
  case status =>
    intro p last irq s hup
    rw [exec_ltlStatus, execLtlStatus, recv_served _ _ _ _ _ _ hup (.inl rfl), storeless_next]
  case statusSend =>
    intro p s hon
    simp only [exec_statusSend, execStatusSend, ifOn_on _ _ _ _ hon, storeless_next]
  case irqState =>
    intro p levels s hup
    rw [exec_ltlIrqState, execLtlIrqState, recv_served _ _ _ _ _ _ hup (.inl rfl), storeless_next]
  case resend =>
    intro p seq r rs s hup hheld hseq
    rw [exec_ltlResend, execLtlResend, recv_served _ _ _ _ _ _ hup (.inl rfl), storeless_next]
    simp only [hheld, if_pos hseq]
  case ringLost =>
    intro p oldest s hup
    rw [exec_ltlRingLost, execLtlRingLost, recv_served _ _ _ _ _ _ hup (.inl rfl), storeless_next]
  case gapAsks =>
    intro p s hmissing hdue hsends
    rw [exec_resendRepeat, execResendRepeat_due hmissing hdue, if_pos hsends]
  case gapLost =>
    intro p s hmissing hdue hsends
    rw [exec_resendRepeat, execResendRepeat_due hmissing hdue, if_neg (Nat.not_lt.2 hsends)]
  case events =>
    intro p r s t hup hver htaken
    have hbody : ([r].map fun r => (evBytes r).map fun b => b.toNat).flatten = (evBytes r).map fun b => b.toNat :=
      List.append_nil _
    simp only [exec_ltlEvents, execLtlEvents, hbody, List.length_singleton, Nat.mul_one, recvTele_taken hup hver htaken,
      storeless_next]
    rfl
  case ack =>
    intro p fseq s hup
    rw [exec_ltlAck, execLtlAck, recv_served _ _ _ _ _ _ hup (.inl rfl), storeless_next]
    rfl
  case reportRepeats =>
    intro p r s hreports hdue hsends
    rw [exec_govReportRepeat, execGovReportRepeat, storeless_next, hreports, List.foldl_cons, List.foldl_nil,
      repeatReport_due hreports hdue hsends]
  case report =>
    intro p fseq body s t hup hver htaken
    rw [exec_ltlGovReport, execLtlGovReport, recvTele_taken hup hver htaken, keeping_next]
    rfl
  case levelCmd =>
    intro p level s hup
    rw [exec_ltlLevelCmd, execLtlLevelCmd, recv_served _ _ _ _ _ _ hup (.inl rfl), storeless_next]
  case keyframe =>
    intro p s hup
    rw [exec_ltlKeyframeReq, execLtlKeyframeReq, recv_served _ _ _ _ _ _ hup (.inl rfl), storeless_next]

end Sys2Proof.Proofs.LinkFrames
end

section
/-! Page errors, the faults of channels and what the RAS page does with a channel (O31): one lemma per branch of an
operation, and each clause its command's operation under `storeless`. -/

namespace Sys2Proof.Proofs.Faults

open Sys2Proof Sys2Proof.Machine Sys2Proof.Laws

section Channels

variable {s : State} {u : Chip} {k : Nat}

/-! ## Page errors (spec 02 R54, 15 R438) -/

/-- The first error of a page, of a severity below 3, is captured. -/
theorem pageErr_first {b : Blk} {code sev info : Nat} (hfirst : s.on u (hdrErrFirstValid b) = false) (hsev : sev ≠ 3) :
    s.pageErr u b code sev info =
      (((((s.wr u (hdrErrFirstCode b) code).wr u (hdrErrFirstValid b) 1).wr u (hdrErrFirstInfoInfo b) info).wr
        u (hdrErrCtrlSeverity b) sev).intErr u b).event u b 0x0F01 sev
        (pay [(code, 0), (sev, 16), (s.rd u (hdrErrCtrlNested b), 18), (info % 4294967296, 32),
              (s.rd u (hdrErrNextCountCount b), 64)]) := by
  simp [State.pageErr, hfirst, hsev]

/-- A later error of severity 0, or of one below 3 and below the capture's, is counted. -/
theorem pageErr_later {b : Blk} {code sev info : Nat} (hlater : s.on u (hdrErrFirstValid b) = true)
    (hsev : sev = 0 ∨ (sev ≠ 3 ∧ sev < s.rd u (hdrErrCtrlSeverity b))) :
    s.pageErr u b code sev info = (s.inc u (hdrErrNextCountCount b)).wr u (hdrErrCtrlNested b) 1 := by
  have hfatal : sev ≠ 3 := by omega
  have hbelow : 1 ≤ sev → sev < s.rd u (hdrErrCtrlSeverity b) := by omega
  simpa [State.pageErr, hlater, hfatal] using fun h1 h2 => absurd (hbelow h1) (Nat.not_lt.2 h2)

/-! ## Faults and retries (spec 15 R442) -/

/-- A fault in OK of a W-die's channel of no fixed class opens an episode. -/
theorem chanFault_opens {d cause : Nat} {unrec : Bool} (hon : s.enabled (.wdie d) .ras = true)
    (hfixed : chanFixed (.wdie d) k = false) (hok : s.rd (.wdie d) (rasChannelStateState k) = 0) :
    s.chanFault (.wdie d) k cause 0 false false unrec =
      (((s.setEpisode (.wdie d) k (some ⟨s.now, cause, 0, false, false, 0, 0⟩)).wr (.wdie d) (rasChannelStateState k) 1).wr
        (.wdie d) (rasChannelStateRetry k) 0).int (.wdie d) .ras 0 := by
  simp [State.chanFault, hon, hfixed, hok, State.senseFaulted, Chip.isIkb]

/-- A fault of a channel of a fixed class is classed at once. -/
theorem chanFault_fixed {cause bin : Nat} {stale inj unrec : Bool} (hon : s.enabled u .ras = true)
    (hfixed : chanFixed u k = true) :
    s.chanFault u k cause bin stale inj unrec = s.classFault u k cause bin stale inj unrec := by
  simp [State.chanFault, hon, hfixed]

/-- A fault of a channel that the W-die has. -/
theorem execChannelFault_wdie {d cause : Nat} {unrec : Bool} (hk : chanExists (.wdie d) k = true) :
    execChannelFault (.wdie d) k cause unrec s =
      .next (s.keepStores (s.chanFault (.wdie d) k cause 0 false false unrec)) := by
  simp [execChannelFault, hk]

/-- A retry that is due of a channel in an episode is made. -/
theorem execChannelRetry_due {ok : Bool} {e : Episode} (he : s.episodeOf u k = some e)
    (hstate : s.rd u (rasChannelStateState k) = 1) (hdue : s.retryDue u e e.retries ≤ s.now) (hused : s.chanUsed u k = true) :
    execChannelRetry u k ok s = .next (s.keepStores (s.chanRetry u k e ok)) := by
  simp [execChannelRetry, he, hstate, hdue, hused]

/-- A FAILED channel's retry that succeeds a second after the failure returns it to OK. -/
theorem execChannelFailedRetry_due {e : Episode} (he : s.episodeOf u k = some e)
    (hstate : s.rd u (rasChannelStateState k) = 2) (hdue : e.failedAt + sec ≤ s.now) (hused : s.chanUsed u k = true) :
    execChannelFailedRetry u k true s = .next (s.keepStores (s.chanRecovered u k (s.now - e.failedAt))) := by
  simp [execChannelFailedRetry, he, hstate, hdue, hused]

/-! ## The commands of a channel (spec 15 R443 to R448) -/

/-- RETIRE of a channel that is not retired; a tap of an engine takes the STATE alone. -/
theorem rasRetire_exists (hk : chanExists u k = true) (hstate : s.rd u (rasChannelStateState k) ≠ 4) :
    s.rasRetire u k = if chanTap u k then
      ((((s.setEpisode u k none).wr u (rasChannelStateState k) 4).inc u rasStatRetiredN).int u .ras 1)
      else s.retireChan u k := by
  simp [State.rasRetire, hk, hstate]

/-- COND_DONE of a channel that exists. -/
theorem rasCondDone_exists (hk : chanExists u k = true) :
    s.rasCondDone u k = if s.rd u (rasChannelStateState k) = 3 then
      (((s.setWindow u k {}).showCounts u k).wr u (rasChannelStateCondBound k) 1).chanRecovered u k 0
      else s.pageErr u .ras 0x0101 1 := by
  simp [State.rasCondDone, hk]

/-- CLEAR of a channel that exists under a grant of scope CLEAR, a retired one unretired first. -/
theorem rasClear_granted (hk : chanExists u k = true) (hgrant : s.on u authStatClear = true) :
    s.rasClear u k = ((((State.setEpisode (if s.rd u (rasChannelStateState k) = 4 then
        (s.unretire u k).wr u rasStatRetiredN (s.rd u rasStatRetiredN - 1) else s) u k none).setWindow u k {}).showCounts
        u k).wr u (rasChannelStateCondBound k) 0).wr u (rasChannelStateState k) 0 := by
  simp [State.rasClear, hk, hgrant]

/-- CLEAR of a channel that exists without a grant is refused. -/
theorem rasClear_unauth (hk : chanExists u k = true) (hgrant : s.on u authStatClear = false) :
    s.rasClear u k = s.pageErr u .ras 0x0100 1 := by
  simp [State.rasClear, hk, hgrant]

end Channels

/-- Settles O31: each command by the branch of its operation that the clause describes. -/
theorem faultChannels : Obligations.FaultChannels := by
  unfold Obligations.FaultChannels
  refine ⟨?first, ?later, ?warmStart, ?opens, ?dram, ?retry, ?failedRetry, ?retire, ?retireTap, ?condDone, ?condRefused,
    ?clear, ?clearRetired, ?clearRefused, ?preload⟩
  case first =>
    intro u b code sev info s hfirst hsev
    rw [exec_pageError, execPageError, pageErr_first hfirst hsev, storeless_next]
  case later =>
    intro u b code sev info s hlater hsev
    rw [exec_pageError, execPageError, pageErr_later hlater hsev, storeless_next]
  case warmStart =>
    intro p s hat hdue
    simp [execFatalWarmStart, hat, hdue]
  case opens =>
    intro d k cause unrec s hk hon hok
    have hexists : chanExists (.wdie d) k = true := by simp [chanExists, hk]
    have hlow : ¬ 0x10 ≤ k := by omega
    have hfixed : chanFixed (.wdie d) k = false := by simp [chanFixed, Chip.isIkb, hlow]
    rw [exec_channelFault, execChannelFault_wdie hexists, chanFault_opens hon hfixed hok]
  case dram =>
    intro d k cause unrec s hlo hhi hon
    have hexists : chanExists (.wdie d) k = true := by simp [chanExists, hlo, hhi]
    have hfixed : chanFixed (.wdie d) k = true := by simp [chanFixed, Chip.isIkb, hlo, hhi]
    rw [exec_channelFault, execChannelFault_wdie hexists, chanFault_fixed hon hfixed]
  case retry =>
    intro u k ok e s he hstate hdue hused
    rw [exec_channelRetry, execChannelRetry_due he hstate hdue hused, State.chanRetry]
  case failedRetry =>
    intro u k e s he hstate hdue hused
    rw [exec_channelFailedRetry, execChannelFailedRetry_due he hstate hdue hused]
  case retire =>
    intro u k s hk hstate htap
    rw [exec_rasRetire, execRasRetire, rasRetire_exists hk hstate, if_neg (ne_true_of_eq_false htap), storeless_next]
  case retireTap =>
    intro u k s hk hstate htap
    rw [exec_rasRetire, execRasRetire, rasRetire_exists hk hstate, if_pos htap, storeless_next]
  case condDone =>
    intro u k s hk hstate
    rw [exec_rasCondDone, execRasCondDone, rasCondDone_exists hk, if_pos hstate, storeless_next]
  case condRefused =>
    intro u k s hk hstate
    rw [exec_rasCondDone, execRasCondDone, rasCondDone_exists hk, if_neg hstate, storeless_next]
  case clear =>
    intro u k s hk hgrant hstate
    rw [exec_rasClear, execRasClear, rasClear_granted hk hgrant, if_neg hstate, storeless_next]
  case clearRetired =>
    intro u k s hk hgrant hstate
    rw [exec_rasClear, execRasClear, rasClear_granted hk hgrant, if_pos hstate, storeless_next]
  case clearRefused =>
    intro u k s hk hgrant
    rw [exec_rasClear, execRasClear, rasClear_unauth hk hgrant, storeless_next]
  case preload =>
    intro u k s hk
    simp [execRasPreload, State.rasPreload, hk]

end Sys2Proof.Proofs.Faults
end

section
/-! Accesses to register pages (O37, O38), the register port, BAR0 and proxied accesses (O40). What an access does is
decided by its page: the window has it or not, it is gated or not; one lemma for each of these cases serves every command
that names a page. -/

namespace Sys2Proof.Proofs.Registers

open Sys2Proof Sys2Proof.Machine Sys2Proof.Laws

section Accesses

variable {s : State} {u : Chip} {b : Blk} {off r v : Nat}

/-! ## Controls of a page (spec 02 R52 to R66) -/

/-- A page that answers takes a write, its domain woken. -/
theorem onPage_live {act : State → State} (hpage : (pagesOf u).contains b = true) (hlive : s.gated u b = false) :
    s.onPage u b act = act (s.wakeFor u b) := by
  unfold State.onPage
  rw [if_neg]
  rw [hpage, hlive]
  exact Bool.false_ne_true

/-- A gated page, or one that the window has not, is unchanged by a write. -/
theorem onPage_dead {act : State → State} (hdead : (pagesOf u).contains b = false ∨ s.gated u b = true) :
    s.onPage u b act = s := by
  unfold State.onPage
  rw [if_pos]
  rcases hdead with hpage | hgated
  · rw [hpage]
    rfl
  · rw [hgated, Bool.or_true]

/-- An effect that changes nothing leaves the whole state. -/
theorem keepStores_self (s : State) : s.keepStores s = s := rfl

/-- A write of 0 to a vector's control word clears its mask bit (spec 02 R66). -/
theorem msixWrite_unmask (k : Nat) :
    s.msixWrite (16 * k + 12) 0 = State.unmasked { s with msixTable := put (16 * k + 12) 0 s.msixTable } k := by
  have hword : (16 * k + 12) % 16 = 12 := by omega
  have hvector : (16 * k + 12) / 16 = k := by omega
  simp [State.msixWrite, hword, hvector]

/-! ## Reads of a page (spec 02 R53, R59, Table 2.4) -/

/-- A word read of a page that answers. -/
theorem accessPage_read_live {secure : Bool} (hpage : (pagesOf u).contains b = true) (hlive : s.gated u b = false) :
    s.accessPage u b off r false false v secure =
      ⟨false, ((s.wakeFor u b).readWord u b off r).1, ((s.wakeFor u b).readWord u b off r).2⟩ := by
  unfold State.accessPage
  rw [hpage, hlive]
  rfl

/-- An access to a gated page reads 0 and changes nothing. -/
theorem accessPage_gated {write wide secure : Bool} (hpage : (pagesOf u).contains b = true) (hgated : s.gated u b = true) :
    s.accessPage u b off r write wide v secure = ⟨false, 0, s⟩ := by
  unfold State.accessPage
  rw [hpage, hgated]
  rfl

/-- An access to a page that the window has not is recorded as lost. -/
theorem accessPage_absent {write wide secure : Bool} (hpage : (pagesOf u).contains b = false) :
    s.accessPage u b off r write wide v secure = s.lost u (pageNo u b * 4096 + off) write := by
  unfold State.accessPage
  rw [hpage]
  rfl

/-- A lost access is answered with an error. -/
theorem lost_err (addr : Nat) (write : Bool) : (s.lost u addr write).err = true := by
  cases u with
  | ikb p => rfl
  | wdie d => rfl
  | pkg => rfl

/-- The answer to a lost access holds no data. -/
theorem lost_give (addr : Nat) (write : Bool) :
    (s.lost u addr write).give u r write = (s.lost u addr write).state.answer u r write true 0 := by
  unfold Answer.give
  rw [lost_err, if_pos rfl]

/-! ## Words of 64-bit registers (spec 02 R57) -/

/-- A word of a 64-bit register of one field is a half of what the field reads. -/
theorem readWord_wide {g : Reg} {f : Fld} (hreg : regAt u b off = some g) (hwide : g.wide = true) (hfields : g.fields = [f])
    (hlo : f.lo = 0) (hbody : deadBody u b off = false) (htime : b ≠ .time) (hcore : b ≠ .core) :
    s.readWord u b off r =
      (s.readField u b r f).2.readHalf u b r off (f.key u) g.word (s.readField u b r f).1 := by
  simp [State.readWord, hbody, htime, hcore, hreg, hwide, hfields, State.readFields, hlo]

/-- A low word is the low half, its high half latched. -/
theorem readHalf_low (key : Nat) :
    s.readHalf u b r off key 0 v = (v % 4294967296, s.setLatch u r (some (key, v / 4294967296))) := rfl

/-- A high word after its low word is the latched one. -/
theorem readHalf_latched {key word h : Nat} (hword : word ≠ 0) (hlatch : s.latchOf u r key = some h) :
    s.readHalf u b r off key word v = (h, s.setLatch u r none) := by
  unfold State.readHalf
  rw [if_neg hword, hlatch]

/-- A high word without its low word is the live one, with LATCH_ORPHAN. -/
theorem readHalf_orphan {key word : Nat} (hword : word ≠ 0) (hlatch : s.latchOf u r key = none) :
    s.readHalf u b r off key word v =
      (v / 4294967296, (s.setLatch u r none).pageErr u b 0x0005 0 (accessInfo u r off false)) := by
  unfold State.readHalf
  rw [if_neg hword, hlatch]

end Accesses

/-- Settles O37: the page's own case by `onPage_live` and `onPage_dead`, MSI-X by `msixWrite_unmask`. -/
theorem pageControls : Obligations.PageControls := by
  unfold Obligations.PageControls
  refine ⟨?softReset, ?softResetDone, ?errClear, ?lock, ?values, ?dead, ?unmask, ?enable⟩
  case softReset =>
    intro u b r s hpage hlive
    rw [exec_softReset, execSoftReset, onPage_live hpage hlive, storeless_next]
  case softResetDone => exact fun _ _ _ => rfl
  case errClear => exact fun _ _ _ => rfl
  case lock =>
    intro u b s hpage hlive
    rw [exec_lockSet, execLockSet, onPage_live hpage hlive, storeless_next]
  case values =>
    intro u b value s hpage hlive
    rw [exec_freezeWrite, execFreezeWrite, exec_intForce, execIntForce, exec_intRawClear, execIntRawClear]
    simp only [onPage_live hpage hlive, storeless_next, and_self]
  case dead =>
    intro u b r value s hdead
    rw [exec_softReset, execSoftReset, exec_lockSet, execLockSet, exec_freezeWrite, execFreezeWrite, exec_intForce,
      execIntForce, exec_intRawClear, execIntRawClear]
    simp only [onPage_dead hdead, storeless_next, keepStores_self, and_self]
  case unmask =>
    intro v s
    rw [exec_msixUnmask, execMsixUnmask]
    simp only [msixWrite_unmask, storeless_next]
  case enable => exact fun _ => rfl

/-- Settles O38: a read by the case of its page, a word of a 64-bit register by which half it is and what is latched. -/
theorem registerReads : Obligations.RegisterReads := by
  unfold Obligations.RegisterReads
  refine ⟨?live, ?gated, ?absent, ?halves, ?wide⟩
  case live =>
    intro u b off r s hpage hlive
    rw [exec_rcRead, execRcRead, accessPage_read_live hpage hlive, keeping_next]
    rfl
  case gated =>
    intro u b off r s hpage hgated
    rw [exec_rcRead, execRcRead, accessPage_gated hpage hgated, keeping_next]
    rfl
  case absent =>
    intro u b off r s hpage
    rw [exec_rcRead, execRcRead, accessPage_absent hpage, lost_give, keeping_next]
  case halves =>
    intro u b off r s hpage hlive
    rw [exec_lowWordRead, execLowWordRead, exec_highWordRead, execHighWordRead, accessPage_read_live hpage hlive,
      accessPage_read_live hpage hlive, keeping_next, keeping_next]
    exact ⟨rfl, rfl⟩
  case wide =>
    intro u b off r g f s hreg hwide hfields hlo hbody htime hcore
    rw [readWord_wide hreg hwide hfields hlo hbody htime hcore]
    refine ⟨fun hword => ?_, fun h hword hlatch => readHalf_latched hword hlatch, readHalf_orphan⟩
    rw [hword, readHalf_low]

section Ports

variable {s : State} {p addr data : Nat} {write wide : Bool}

/-! ## The register port and BAR0 (spec 02 R59, 03 R86) -/

/-- A request of right parity for a whole aligned word. -/
theorem execRegPortRequest_word {be : Nat} {secure : Bool} (hbe : be % 16 = 15) (halign : addr % 262144 % 4 = 0) :
    execRegPortRequest p addr write be data true true secure s = .next (s.keep
      ((s.accessIkb p (addr % 262144) 0 write false data secure).give (.ikb p) 0 write)) := by
  simp [execRegPortRequest, hbe, halign, Answer.give, State.answer, Chip.isIkb]

/-- A request of right parity that is not a whole aligned word is lost. -/
theorem execRegPortRequest_lost {be : Nat} {secure : Bool} (hpart : be % 16 ≠ 15 ∨ addr % 262144 % 4 ≠ 0) :
    execRegPortRequest p addr write be data true true secure s = .next (s.keep
      ((s.lost (.ikb p) (addr % 262144) write).state.respond (.ikb p) 0 true 0)) := by
  have hlost : (decide (be % 16 ≠ 15) || decide (addr % 262144 % 4 ≠ 0)) = true := by
    rwa [Bool.or_eq_true, decide_eq_true_eq, decide_eq_true_eq]
  unfold execRegPortRequest
  dsimp only
  rw [if_neg (by simp), if_neg (by simp), if_pos hlost, keeping_next]

/-- A PCIe access of 4 or 8 aligned bytes outside the proxy windows. -/
theorem execPcieBar0Access_window {len : Nat} {a : Answer} (hlen : len = 4 ∨ len = 8)
    (halign : addr % 0x4000000 % len = 0) (ha : s.accessBar0 (addr % 0x4000000) write (len == 8) data = some a) :
    execPcieBar0Access write addr len data s = .next (s.keep (a.give (.wdie 0) 0 write)) := by
  have hwhole : ¬ ((decide (len ≠ 4) && decide (len ≠ 8)) || decide (addr % 0x4000000 % len ≠ 0)) = true := by
    simp only [Bool.or_eq_true, Bool.and_eq_true, decide_eq_true_eq]
    omega
  unfold execPcieBar0Access
  dsimp only
  rw [if_neg hwhole, ha, keeping_next, Answer.give]

/-- A PCIe access of another length to the package's own pages is lost. -/
theorem execPcieBar0Access_lost {len : Nat} (hnot4 : len ≠ 4) (hnot8 : len ≠ 8) (hpkg : addr % 0x4000000 < 0x1000000) :
    execPcieBar0Access write addr len data s = .next (s.keep
      ((s.lost .pkg (addr % 0x4000000 % 4194304) write).state.answer (.wdie 0) 0 write true 0)) := by
  have hbelow : ¬ 0x1000000 ≤ addr % 0x4000000 := by omega
  simp [execPcieBar0Access, hnot4, hnot8, hbelow]

/-! ## Proxied accesses (spec 02 R71, 09 R283) -/

/-- A proxied access joins the port's while the link is up. -/
theorem proxy_up {r : Nat} (hup : s.on (dieOfPort p) (ltlStatUp (linkOfPort p)) = true) :
    s.proxy p r write wide addr data = (s.setProxies p (s.proxiesOf p ++
      [⟨r, freeTag (s.proxiesOf p), write, wide, addr, data, 0, false⟩])).proxyPump p := by
  simp [State.proxy, hup]

/-- A proxied access fails at once while the link is down. -/
theorem proxy_down {r : Nat} (hdown : s.on (dieOfPort p) (ltlStatUp (linkOfPort p)) = false) :
    s.proxy p r write wide addr data =
      s.proxyFailed p ⟨r, freeTag (s.proxiesOf p), write, wide, addr, data, 0, false⟩ := by
  simp [State.proxy, hdown]

end Ports

/-- Settles O40: the ports by what they do with a whole word or another, a frame of the proxy as any frame served. -/
theorem portsAndProxies : Obligations.PortsAndProxies := by
  unfold Obligations.PortsAndProxies
  refine ⟨?word, ?badParity, ?lost, ?bar0, ?bar0Lost, ?proxyUp, ?proxyDown, ?request, ?response, ?late, ?wait, ?timeout,
    ?load⟩
  case word =>
    intro p addr data be write secure s hbe halign
    rw [exec_regPortRequest, execRegPortRequest_word hbe halign]
    rfl
  case badParity => exact fun _ _ _ _ _ _ _ _ => rfl
  case lost =>
    intro p addr be data write secure s hpart
    rw [exec_regPortRequest, execRegPortRequest_lost hpart]
    rfl
  case bar0 =>
    intro addr len data write a s hlen halign ha
    rw [exec_pcieBar0Access, execPcieBar0Access_window hlen halign ha]
    rfl
  case bar0Lost =>
    intro addr len data write s hnot4 hnot8 hpkg
    rw [exec_pcieBar0Access, execPcieBar0Access_lost hnot4 hnot8 hpkg]
  case proxyUp =>
    intro p r addr value write wide s hup
    rw [exec_proxyAccess, execProxyAccess, proxy_up hup, storeless_next]
  case proxyDown =>
    intro p r addr value write wide s hdown
    rw [exec_proxyAccess, execProxyAccess, proxy_down hdown, storeless_next]
  case request =>
    intro p tag addr data write wide s hup hpll
    rw [exec_ltlProxyReq, execLtlProxyReq, recv_served _ _ _ _ _ _ hup (.inr rfl), keeping_next]
    simp only [hpll, Bool.false_eq_true, if_false]
  case response =>
    intro p tag data err q s hup hfound
    rw [exec_ltlProxyRsp, execLtlProxyRsp, recv_served _ _ _ _ _ _ hup (.inr rfl), storeless_next]
    simp only [hfound]
  case late =>
    intro p tag data err s hup hnone
    rw [exec_ltlProxyRsp, execLtlProxyRsp, recv_served _ _ _ _ _ _ hup (.inr rfl), storeless_next]
    simp only [hnone]
  case wait =>
    intro p tag s hup
    rw [exec_ltlProxyWait, execLtlProxyWait, recv_served _ _ _ _ _ _ hup (.inr rfl), storeless_next]
  case timeout =>
    intro p s late hlate
    rw [exec_proxyTimeout]
    unfold execProxyTimeout
    dsimp only
    rw [if_pos hlate, storeless_next]
  case load =>
    intro p off bytes s hup hver
    dsimp only
    intro hstep
    simp only [exec_ltlLoad, execLtlLoad, recv_up _ _ _ _ _ _ hup hver, storeless_next, decide_eq_false hstep,
      Bool.false_and, Bool.false_eq_true, if_false]

end Sys2Proof.Proofs.Registers
end

section
/-! Counters and snapshots (O17), refuted: the snapshot generator of the model waits for a valid EPOCH, a condition that
the statement leaves out. -/

namespace Sys2Proof.Proofs.Counters

open Sys2Proof Sys2Proof.Machine Sys2Proof.Laws

section Generator

variable {s : State} {p : Nat}

/-- In the LTC base an EPOCH_NS of a second or more never compares as a time (spec 05 R163): the generator does
nothing. -/
theorem execSnapGenerator_invalidEpoch (hbase : s.rd (.ikb p) timeCtrlBase = 0)
    (hepoch : 1000000000 ≤ s.rd (.ikb p) snapEpochNsNs) : execSnapGenerator p s = .next (s.keepStores s) := by
  unfold execSnapGenerator
  dsimp only
  rw [hbase]
  cases s.snapPeriod p 0 with
  | none => rfl
  | some per => simp [Nat.not_lt.2 hepoch]

/-- A capture with no read-out in progress begins one (spec 06 R187). -/
theorem capture_begins {markId base : Nat} {late launched genToo forward : Bool}
    (hidle : look (Chip.ikb p).code s.snap = none) :
    look (Chip.ikb p).code (s.capture p markId late launched genToo base forward).snap ≠ none := by
  simp [State.capture, hidle]

/-- An instant reached in time, with no MARK near and no read-out in progress, begins a read-out (spec 06 R185, R188). -/
theorem genInstant_begins {b t per lag : Nat} (htime : lag ≤ s.rd (.ikb p) launchLateLimitUs * us)
    (hmark : s.markNear p b t = false) (hidle : look (Chip.ikb p).code s.snap = none) :
    look (Chip.ikb p).code (s.genInstant p b t per lag).snap ≠ none := by
  simp only [State.genInstant, Nat.not_lt.2 htime, hmark, hidle, Option.isSome_none, Bool.and_false, Bool.false_eq_true,
    if_false]
  exact capture_begins hidle

end Generator

/-- An IKB in Noon in the LTC base, its generator enabled, at 1 s; EPOCH_NS holds 10^9, which fits its 30 bits. -/
def epochOfOneSecond : State :=
  { (((State.reset.wr (.ikb 0) aonModeCurMode 0).wr (.ikb 0) (hdrBlkCtrlEnable .snap) 1).wr (.ikb 0) timeCtrlBase 0).wr
      (.ikb 0) snapEpochNsNs 1000000000 with ltc := [((Chip.ikb 0).code, { sec := 1 })] }

/-- Refutes O17: with EPOCH_NS of 10^9 ns the statement's generator begins a read-out, the model's does nothing.
(Spec 05 R163 calls such a value invalid; the statement is about every state and does not exclude it.) -/
theorem not_countersAndSnapshots : ¬ Obligations.CountersAndSnapshots := by
  unfold Obligations.CountersAndSnapshots
  rintro ⟨-, -, -, -, hgenerator, -⟩
  have hclaimed := hgenerator 0 1000000 epochOfOneSecond (by decide) (by decide) (by decide) (by decide) (by decide)
    (by decide)
  rw [exec_snapGenerator, execSnapGenerator_invalidEpoch (by decide) (by decide)] at hclaimed
  have hsnap := congrArg State.snap (Host.Outcome.next.inj hclaimed)
  rw [keepStores_snap, keepStores_snap] at hsnap
  refine genInstant_begins ?_ ?_ ?_ (congrArg (look (Chip.ikb 0).code) hsnap).symm
  · decide
  · decide
  · rfl

end Sys2Proof.Proofs.Counters
end

section
/-! Markers of the job runtime, poison indications and the poisoned table (O19). A marker's way through the intake is
one lemma of `State.marker` per outcome; what remains of a clause is the marker's own effect. -/

namespace Sys2Proof.Proofs.Markers

open Sys2Proof Sys2Proof.Machine Sys2Proof.Laws

section Intake

variable {s : State} {p : Nat} {m : Marker} {act : State → State}

/-- A sound marker that meets room and is of a known kind has its effect (spec 03 R84, R106). -/
theorem marker_taken (hparity : m.parity = true) (hroom : m.full = false) (hkind : m.reserved = false) :
    s.marker p m act = act s := by
  simp [State.marker, hparity, hroom, hkind]

/-- A marker with bad parity is counted and told, whatever its effect would be (spec 03 R84). -/
theorem marker_badParity (hparity : m.parity = false) :
    s.marker p m act = (s.markerLost p snapMarkersParity).event (.ikb p) .snap 0x0301 1 0 := by
  simp [State.marker, hparity]

/-- PHASE sets the phase while the counters' page is enabled (spec 06 R182). -/
theorem phaseMark_enabled {phase : Nat} (hon : s.enabled (.ikb p) .cntcfg = true) :
    s.phaseMark p phase = (s.wr (.ikb p) cntStepStatPhase phase).wr (.ikb p) cntStepStatPhaseValid 1 := by
  rw [State.phaseMark, ifOn_on _ _ _ _ hon]

end Intake

/-- Settles O19: each marker by its way through the intake, STEP_END by whether the open step is its own. -/
theorem markersAndPoison : Obligations.MarkersAndPoison := by
  unfold Obligations.MarkersAndPoison
  refine ⟨?stepBegin, ?stepEnd, ?orphan, ?phase, ?ckptBegin, ?ckptEnd, ?badParity, ?poison, ?clearAll⟩
  case stepBegin =>
    intro p m s hparity hroom hkind
    rw [exec_markerStepBegin, execMarkerStepBegin, marker_taken hparity hroom hkind, storeless_next, State.stepBegin]
  case stepEnd =>
    intro p m s hparity hroom hkind hopen
    rw [exec_markerStepEnd, execMarkerStepEnd, marker_taken hparity hroom hkind, storeless_next, State.stepEnd,
      if_pos hopen]
  case orphan =>
    intro p m s hparity hroom hkind hother
    rw [exec_markerStepEnd, execMarkerStepEnd, marker_taken hparity hroom hkind, storeless_next, State.stepEnd,
      if_neg hother]
  case phase =>
    intro p m s hparity hroom hkind hon
    rw [exec_markerPhase, execMarkerPhase, marker_taken hparity hroom hkind, storeless_next, phaseMark_enabled hon]
  case ckptBegin =>
    intro p m s hparity hroom hkind
    rw [exec_markerCkptBegin, execMarkerCkptBegin, marker_taken hparity hroom hkind, storeless_next, State.ckptBegin]
  case ckptEnd =>
    intro p m s hparity hroom hkind
    rw [exec_markerCkptEnd, execMarkerCkptEnd, marker_taken hparity hroom hkind, storeless_next]
  case badParity =>
    intro p m s hparity
    rw [exec_markerPhase, execMarkerPhase, marker_badParity hparity, storeless_next]
  case poison => exact fun _ _ _ _ => rfl
  case clearAll => exact fun _ _ => rfl

end Sys2Proof.Proofs.Markers
end

section
/-! Beats and tiles of the checksum taps, in-field checks and watch reports (O20). Each lemma states one branch of an
operation: what a command does when the conditions of its rule hold. -/

namespace Sys2Proof.Proofs.Taps

open Sys2Proof Sys2Proof.Machine Sys2Proof.Laws

section Tiles

variable {s : State} {p n tag : Nat} {b : Beat} {t : Tile}

/-! ## Beats and tiles (spec 06 R91, R92, 07 R220, R227) -/

/-- A beat whose fields fit the tap's wires is taken as it is. -/
theorem execTapBeat_awake (hawake : s.mode (.ikb p) ≠ .midnight) (htag : b.tag < 16777216) (hgen : b.gen < 65536)
    (hkind : b.kind < 4) : execTapBeat p n b s = .next (s.keepStores ((s.countBeat p n).beat p n b)) := by
  simp [execTapBeat, hawake, Nat.mod_eq_of_lt htag, Nat.mod_eq_of_lt hgen, Nat.mod_eq_of_lt hkind]

/-- In Midnight a beat is recorded as activity alone (spec 04 R133). -/
theorem execTapBeat_midnight (hmidnight : s.mode (.ikb p) = .midnight) :
    execTapBeat p n b s = .next (s.keepStores (s.midnightActivity p 0 n .abft)) := by
  simp [execTapBeat, hmidnight]

/-- A tile that nothing has ended and that stays open is dropped as a breach (spec 03 R92). -/
theorem execTileTimeout_breach (hfound : ((s.tilesOf p n).find? fun t => t.tag == tag % 16777216) = some t)
    (hopen : t.closed = false) (hlive : t.dead = none) (hdue : t.firstAt + 100 * us ≤ s.now) :
    execTileTimeout p n tag s = .next (s.keepStores
      ((s.setTiles p n (dropTile t.id (s.tilesOf p n))).breach p n t 0x5)) := by
  simp [execTileTimeout, hfound, hopen, hlive, hdue]

/-- The check of a closed tile outside Redundancy ends the tile with its result (spec 07 R220). -/
theorem execTileCheckDone_single
    (hfound : ((s.tilesOf p n).find? fun t =>
      t.tag == tag % 16777216 && t.closed && t.result.isNone && t.dead.isNone) = some t)
    (hcheck : t.check ≠ 0) (htest : t.test = false) (hsingle : t.check ≠ 3) :
    execTileCheckDone p n tag s = .next (s.keepStores
      (((s.free 32).2.free 32).2.endTile p n t
        (((s.free 32).2.free 32).2.checkTile p n t (s.free 32).1 ((s.free 32).2.free 32).1))) := by
  simp [execTileCheckDone, hfound, hcheck, htest, hsingle]

/-- A copy left without a partner is committed unchecked, with NO_PAIR (spec 07 R227). -/
theorem execRedundancyNoPair_alone (hfound : ((s.tilesOf p n).find? fun t => t.tag == tag % 16777216) = some t)
    (hpair : t.check = 3) (htest : t.test = false) (hclosed : t.closed = true) (hlive : t.dead = none)
    (hdue : t.lastAt + 100 * us ≤ s.now) (halone : s.partner p n t = none) :
    execRedundancyNoPair p n tag s = .next (s.keepStores
      ((((s.setTiles p n (dropTile t.id (s.tilesOf p n))).inc (.ikb p) (abftEngPairNoPair n)).commitTile p n t).unchecked
        p n tag t.gen 0x9 t.hold)) := by
  simp [execRedundancyNoPair, hfound, hpair, htest, hclosed, hlive, hdue, halone]

end Tiles

section Checks

variable {s : State} {p value k digest : Nat}

/-! ## The mode and the in-field check (spec 07 R229, R233 to R236) -/

/-- A mode of a known CHECK, a HOLD that CHECK allows and a SAMPLE_N other than 0 is taken (spec 07 R229). -/
theorem abftModeWrite_taken (hcheck : bitsOf value 0 3 ≤ 3) (hhold : bitAt value 3 = 0 ∨ 2 ≤ bitsOf value 0 3)
    (hsample : bitsOf value 4 4 ≠ 0) :
    s.abftModeWrite p value =
      ((((s.wr (.ikb p) abftModeCheck (bitsOf value 0 3)).wr (.ikb p) abftModeHold (bitAt value 3)).wr
        (.ikb p) abftModeSampleN (bitsOf value 4 4)).wr (.ikb p) abftModeEngEn (bitsOf value 16 16)).effUpdate p := by
  have haccepted : ¬ (decide (3 < bitsOf value 0 3) || (decide (bitAt value 3 = 1) && decide (bitsOf value 0 3 < 2)) ||
      decide (bitsOf value 4 4 = 0)) = true := by
    simp only [Bool.or_eq_true, Bool.and_eq_true, decide_eq_true_eq]
    omega
  rw [State.abftModeWrite, if_neg haccepted]

/-- A mode of SAMPLE_N 0 is refused (spec 07 R229). -/
theorem abftModeWrite_sampleZero (hsample : bitsOf value 4 4 = 0) :
    s.abftModeWrite p value = s.pageErr (.ikb p) .abft 0x0100 1 := by
  simp [State.abftModeWrite, hsample]

/-- An expected digest is written while no check runs (spec 07 R233). -/
theorem ifcExpect_idle (hidle : s.on (.ikb p) abftIfcCtrlRunning = false) :
    s.ifcExpect p k digest = s.wr (.ikb p) (abftIfcExpectDigest (k % 256)) digest := by
  simp [State.ifcExpect, hidle]

/-- The deadline in PENDING puts the fallback in force (spec 07 R236). -/
theorem execIfcDeadline_missed (hpending : s.on (.ikb p) abftIfcCtrlPending = true)
    (hidle : s.on (.ikb p) abftIfcCtrlRunning = false) (hnormal : s.on (.ikb p) abftModeFallback = false)
    (hpast : s.ifcAhead p = false) :
    execIfcDeadline p s = .next (s.keepStores ((s.setFallback p 1).event (.ikb p) .abft 0x0709 1
      (pay [(if s.on (.ikb p) ifcFired then s.rd (.ikb p) abftIfcDescDesc else 0, 0),
            (s.rd (.ikb p) abftIfcDlSecLoSec + 4294967296 * s.rd (.ikb p) abftIfcDlSecHiSec, 32)]))) := by
  simp [execIfcDeadline, hpending, hidle, hnormal, hpast]

/-- WAIT_MS after CKPT_BEGIN without a check the checkpoint is released (spec 07 R236). -/
theorem execIfcWaitExpiry_due (hckpt : s.on (.ikb p) ifcCkptAt = true) (hidle : s.on (.ikb p) abftIfcCtrlRunning = false)
    (hdue : s.rd (.ikb p) ifcCkptAt + s.rd (.ikb p) abftIfcTimingWaitMs * ms ≤ s.now + 1) :
    execIfcWaitExpiry p s = .next (s.keepStores ((s.wr (.ikb p) ifcCkptAt 0).ifcRelease p)) := by
  simp [execIfcWaitExpiry, hckpt, hidle, hdue]

/-- A check that still runs TIMEOUT_MS after the fire is incomplete (spec 07 R236). -/
theorem execIfcTimeout_due (hrunning : s.on (.ikb p) abftIfcCtrlRunning = true)
    (hdue : s.rd (.ikb p) ifcFireAt + s.rd (.ikb p) abftIfcTimingTimeoutMs * ms ≤ s.now) :
    execIfcTimeout p s = .next (s.keepStores (s.ifcIncomplete p)) := by
  simp [execIfcTimeout, hrunning, hdue]

/-- The oldest step of the watch, ended and with no tile open, sends its reports (spec 06 R208). -/
theorem execWatchReportForm_ended {w : WatchStep} {ws : List WatchStep} (holdest : s.watchOf p = w :: ws)
    (hended : w.ended = true) (hclosed : s.stepOpen p w.id = false) :
    execWatchReportForm p s = .next (s.keepStores
      (w.entries.foldl (fun (t : State) x => t.sendReport p w x) (s.setWatch p ws))) := by
  simp [execWatchReportForm, holdest, hended, hclosed]

end Checks

/-- Settles O20: each command by the branch that the conditions of its rule select. -/
theorem tapsAndChecks : Obligations.TapsAndChecks := by
  unfold Obligations.TapsAndChecks
  refine ⟨?beat, ?midnight, ?timeout, ?checkDone, ?noPair, ?mode, ?modeRefused, ?pending, ?expect, ?deadline, ?wait,
    ?incomplete, ?report⟩
  case beat =>
    intro p n b s hawake htag hgen hkind
    rw [exec_tapBeat, execTapBeat_awake hawake htag hgen hkind]
  case midnight =>
    intro p n b s hmidnight
    rw [exec_tapBeat, execTapBeat_midnight hmidnight, State.midnightActivity]
  case timeout =>
    intro p n tag t s hfound hopen hlive hdue
    rw [exec_tileTimeout, execTileTimeout_breach hfound hopen hlive hdue]
  case checkDone =>
    intro p n tag t s hfound hcheck htest hsingle
    rw [exec_tileCheckDone, execTileCheckDone_single hfound hcheck htest hsingle]
  case noPair =>
    intro p n tag t s hfound hpair htest hclosed hlive hdue halone
    rw [exec_redundancyNoPair, execRedundancyNoPair_alone hfound hpair htest hclosed hlive hdue halone]
  case mode =>
    intro p value s hcheck hhold hsample
    rw [exec_abftModeWrite, execAbftModeWrite, abftModeWrite_taken hcheck hhold hsample, storeless_next]
  case modeRefused =>
    intro p value s hsample
    rw [exec_abftModeWrite, execAbftModeWrite, abftModeWrite_sampleZero hsample, storeless_next]
  case pending => exact fun _ _ _ => rfl
  case expect =>
    intro p k digest s hidle
    rw [exec_ifcExpectWrite, execIfcExpectWrite, ifcExpect_idle hidle, storeless_next]
  case deadline =>
    intro p s hpending hidle hnormal hpast
    rw [exec_ifcDeadline, execIfcDeadline_missed hpending hidle hnormal hpast]
  case wait =>
    intro p s hckpt hidle hdue
    rw [exec_ifcWaitExpiry, execIfcWaitExpiry_due hckpt hidle hdue]
  case incomplete =>
    intro p s hrunning hdue
    rw [exec_ifcTimeout, execIfcTimeout_due hrunning hdue]
  case report =>
    intro p w ws s holdest hended hclosed
    rw [exec_watchReportForm, execWatchReportForm_ended holdest hended hclosed]

end Sys2Proof.Proofs.Taps
end

section
/-! What the governor senses and the points it sets (O22): conversions, temperatures, epochs, breaks, the job's point
and OPTAB entries. Each lemma states the branch of an operation that the conditions of its rule select. -/

namespace Sys2Proof.Proofs.GovernorSensing

open Sys2Proof Sys2Proof.Machine Sys2Proof.Laws

section Sensors

variable {s : State} {p : Nat}

/-! ## Rails and temperatures (spec 03 R99, 08 R245 to R247) -/

/-- The state after a conversion outside Midnight, before its checks: V_NOW, I_NOW, the average and the peak (spec 08
R245, R246). -/
def sensed (s : State) (p k v i : Nat) : State :=
  let t := (s.wr (.ikb p) (healthRailNowVNow k) v).wr (.ikb p) (healthRailNowINow k) i
  (t.averaged p k i).wr (.ikb p) (healthRailStatsIPeak k) (max (t.rd (.ikb p) (healthRailStatsIPeak k)) i)

/-- A conversion of an enabled, sound channel outside Midnight passes the three checks (spec 08 R245 to R250). -/
theorem execSenseConversion_checked {r vcode icode v i : Nat} (hv : v = vcode % 4096 * 1200 / 4096)
    (hi : i = icode % 4096 * s.rd (.ikb p) (healthRailScaleScale (r % 8)) * 15 / 131072)
    (hon : s.enabled (.ikb p) .health = true) (hchan : s.bit (.ikb p) healthChanEnEn (r % 8) = true)
    (hstarted : s.on (.ikb p) hardAwaitSample = false) (hawake : s.mode (.ikb p) ≠ .midnight)
    (hsound : (sensed s p (r % 8) v i).bit (.ikb p) healthChanEnFaulted (r % 8) = false) :
    execSenseConversion p r vcode icode s = .next (s.keepStores
      ((((sensed s p (r % 8) v i).lowCheck p (r % 8) v).windowCheck p (r % 8) v).hardCheck p (r % 8) i)) := by
  subst hv hi
  unfold sensed at hsound ⊢
  simp [execSenseConversion, hon, hchan, hstarted, hawake, hsound]

/-- A voltage offset beyond 8 codes, and no smaller than the current's, is the channel's fault (spec 08 R247). -/
theorem execAdcOffsetCal_voltage {r : Nat} {voltage current : Int} (hworse : current.natAbs ≤ voltage.natAbs)
    (hbeyond : 8 < voltage.natAbs) :
    execAdcOffsetCal p r voltage current s = .next (s.keepStores
      (s.senseFault p (r % 8) 0x0809 (pay [(r % 8, 0), (0, 8), (ofSigned voltage 16, 16)]))) := by
  simp [execAdcOffsetCal, Nat.not_lt.2 hworse, hbeyond]

/-- A sound thermal sample refreshes its site (spec 03 R99). -/
theorem execThermSample_sound {site code : Nat} (hon : s.enabled (.ikb p) .health = true) :
    execThermSample p site code true s = .next (s.keepStores
      ((((s.wr (.ikb p) (siteCode (site % 64)) (code % 4096)).wr (.ikb p) (siteAt (site % 64)) (s.now + 1)).clrB
        (.ikb p) healthThermStaleSites (site % 64)).thermUpdate p)) := by
  simp [execThermSample, hon]

/-- A present site without a refresh for 1 ms becomes stale (spec 03 R99). -/
theorem execThermSiteStale_due {site : Nat} (hpresent : s.bit (.ikb p) healthThermPresentSites (site % 64) = true)
    (hfresh : s.bit (.ikb p) healthThermStaleSites (site % 64) = false)
    (hdue : s.rd (.ikb p) (siteAt (site % 64)) + ms ≤ s.now + 1) :
    execThermSiteStale p site s = .next (s.keepStores
      (((s.setB (.ikb p) healthThermStaleSites (site % 64)).int (.ikb p) .health 2).thermUpdate p)) := by
  simp [execThermSiteStale, hpresent, hfresh, hdue]

end Sensors

section Points

variable {s : State} {p : Nat}

/-! ## Epochs and breaks (spec 08 R256 to R260) -/

/-- The state after an epoch's request is formed (spec 08 R256): the soft caps first, then the request as REQ_IDX. -/
def requested (s : State) (p : Nat) : State :=
  let t := (s.wr (.ikb p) epochLast (s.epochNo (.ikb p) + 1)).softCaps p
  (t.wr (.ikb p) govStatReqIdx (t.request p)).govReport p 0 (t.rd (.ikb p) govStatCause)

/-- A new epoch of a part in no job applies its own request (spec 08 R256, R258). -/
theorem execGovEpoch_local (hon : s.enabled (.ikb p) .gov = true) (hawake : s.mode (.ikb p) ≠ .midnight)
    (hbase : s.baseValid (.ikb p) = true) (hnew : s.rd (.ikb p) epochLast ≠ s.epochNo (.ikb p) + 1)
    (halone : (requested s p).rd (.ikb p) govJobJob = 0) :
    execGovEpoch p s = .next (s.keepStores ((requested s p).localRule p
      (((s.wr (.ikb p) epochLast (s.epochNo (.ikb p) + 1)).softCaps p).request p))) := by
  unfold requested at halone ⊢
  simp [execGovEpoch, hon, hawake, hbase, hnew, halone]

/-- A break open for PERSIST_US with a recent cause persists (spec 08 R260). -/
theorem execBreakPersist_due (hopen : s.on (.ikb p) govStatBreak = true) (hyoung : s.on (.ikb p) govStatPersist = false)
    (hdue : s.rd (.ikb p) breakAt + s.persistNs p ≤ s.now) (hrecent : 2 * s.quiet p < s.persistNs p) :
    execBreakPersist p s = .next (s.keepStores (s.breakPersists p)) := by
  simp [execBreakPersist, hopen, hyoung, hdue, hrecent]

/-- A break at the job's point without a cause for PERSIST_US closes and is reported (spec 08 R259). -/
theorem execBreakClose_quiet (hopen : s.on (.ikb p) govStatBreak = true)
    (hpoint : s.rd (.ikb p) govStatCurIdx = s.rd (.ikb p) govStatJobIdx) (hsoft : s.on (.ikb p) govStatHard = false)
    (hquiet : s.persistNs p ≤ s.quiet p) :
    execBreakClose p s = .next (s.keepStores
      (let t := (s.wr (.ikb p) govStatBreak 0).wr (.ikb p) govStatPersist 0
       ((t.govReport p 3 (s.rd (.ikb p) govStatCause)).wr (.ikb p) govStatCause 0).wr (.ikb p) breakHold
         (s.now + s.rd (.ikb p) govBreakCfgRaiseHoldMs * ms + 1))) := by
  simp [execBreakClose, hopen, hpoint, hsoft, hquiet]

/-- RAISE_HOLD_MS after a close the break's request ends (spec 08 R260). -/
theorem execRaiseHoldExpiry_due (hclosed : s.on (.ikb p) govStatBreak = false) (hheld : s.on (.ikb p) breakHold = true)
    (hdue : s.rd (.ikb p) breakHold ≤ s.now + 1) :
    execRaiseHoldExpiry p s = .next (s.keepStores
      ((s.wr (.ikb p) govStatBreakIdx 0).wr (.ikb p) breakHold 0)) := by
  simp [execRaiseHoldExpiry, hclosed, hheld, hdue]

/-- The root of a job launches a persisted point above the job's (spec 08 R260). -/
theorem persistAtRoot_raises {job index : Nat} {c : JobCfg} (hjob : s.jobOf job = some c)
    (hroot : c.rootOf 0 = s.ownCoord) (habove : c.point < max c.kind2 (index % 32)) :
    s.persistAtRoot job index =
      (s.setJob { c with kind2 := max c.kind2 (index % 32) }).launchPoint { c with kind2 := max c.kind2 (index % 32) }
        (max c.kind2 (index % 32)) c.lowerLead := by
  unfold State.persistAtRoot
  dsimp only
  rw [hjob]
  dsimp only
  rw [if_neg (fun hother => hother hroot), if_pos habove]

/-! ## OPTAB entries (spec 08 R252) -/

/-- POINT of a free entry is written, VALID 0, whatever its frequency (spec 08 R252). -/
theorem optabWrite_point {r i value : Nat} (hunlocked : s.locked (.ikb p) .optab = false)
    (hfree : s.entryBusy p i = false) (hinvalid : bitAt value 7 = 0) :
    s.optabWrite p r i 0 value =
      (((s.wr (.ikb p) (optabEntryPointFsel i) value).wr (.ikb p) (optabEntryPointValid i) 0).wr (.ikb p)
        (optabEntryPointFreqMhz i) (bitsOf value 16 16)).pointCheck p := by
  simp [State.optabWrite, hunlocked, hfree, hinvalid]

end Points

/-- Settles O22: each command by the branch that the conditions of its rule select, JOB_IDX as a frame received by an end
that is up. -/
theorem governorSensing : Obligations.GovernorSensing := by
  unfold Obligations.GovernorSensing
  refine ⟨?conversion, ?calibration, ?sample, ?stale, ?epoch, ?persists, ?closes, ?raiseHold, ?root, ?entry, ?jobIdx⟩
  case conversion =>
    intro p r vcode icode s u k v i t w hon hchan hstarted hawake hsound
    rw [exec_senseConversion]
    exact execSenseConversion_checked rfl rfl hon hchan hstarted hawake hsound
  case calibration =>
    intro p r voltage current s hworse hbeyond
    rw [exec_adcOffsetCal, execAdcOffsetCal_voltage hworse hbeyond]
  case sample =>
    intro p site code s hon
    rw [exec_thermSample, execThermSample_sound hon]
  case stale =>
    intro p site s hpresent hfresh hdue
    rw [exec_thermSiteStale, execThermSiteStale_due hpresent hfresh hdue]
  case epoch =>
    intro p s t w hon hawake hbase hnew halone
    rw [exec_govEpoch]
    exact execGovEpoch_local hon hawake hbase hnew halone
  case persists =>
    intro p s hopen hyoung hdue hrecent
    rw [exec_breakPersist, execBreakPersist_due hopen hyoung hdue hrecent]
  case closes =>
    intro p s hopen hpoint hsoft hquiet
    rw [exec_breakClose, execBreakClose_quiet hopen hpoint hsoft hquiet]
  case raiseHold =>
    intro p s hclosed hheld hdue
    rw [exec_raiseHoldExpiry, execRaiseHoldExpiry_due hclosed hheld hdue]
  case root =>
    intro job index c s hjob hroot habove
    rw [exec_govPersistAtRoot, execGovPersistAtRoot, persistAtRoot_raises hjob hroot habove, storeless_next]
  case entry =>
    intro p r i value s hunlocked hfree hinvalid
    rw [exec_optabWrite, execOptabWrite, Nat.zero_mod, optabWrite_point hunlocked hfree hinvalid, storeless_next]
  case jobIdx =>
    intro p idx apply s hup hver
    rw [exec_ltlJobIdx, execLtlJobIdx, recv_up _ _ _ _ _ _ hup hver, storeless_next]

end Sys2Proof.Proofs.GovernorSensing
end

section
/-! Resets of an IKB (O45), refuted: when VIKB falls its outputs are held at 0 (spec 03 R79), and the model tells of each
one that stood at 1; the next state that the statement gives tells of no pin. -/

namespace Sys2Proof.Proofs.IkbResets

open Sys2Proof Sys2Proof.Machine Sys2Proof.Laws Sys2Proof.Proofs.Runs

section Pins

variable {s s0 : State} {p : Nat}

/-- Dropping a link to idle tells of nothing. -/
theorem linkIdle_out : (s.linkIdle p).out = s.out := by
  have hend : ∀ (t : State) (u : Chip) (b : Blk), (t.endIdle u b).out = t.out := by
    intro t u b
    unfold State.endIdle
    dsimp only
    split
    · rfl
    · rfl
  rw [State.linkIdle, hend, hend]

section PinFollow

variable {c was now : Nat} {name : String}

/-- A pin's change is told. -/
theorem pinFollow_told (hchanged : was ≠ now) : .pin c name now ∈ (s.pinFollow c name was now).out := by
  simp [State.pinFollow, hchanged, State.emit]

/-- Following a pin takes back nothing that was told. -/
theorem mem_pinFollow {o : Out} (ho : o ∈ s.out) : o ∈ (s.pinFollow c name was now).out := by
  unfold State.pinFollow
  split
  · exact ho
  · exact List.mem_cons_of_mem _ ho

/-- Following a pin writes no field. -/
theorem pinFollow_on (u : Chip) (f : Fld) : (s.pinFollow c name was now).on u f = s.on u f := by
  unfold State.pinFollow
  split
  · rfl
  · rfl

end PinFollow

/-- Following the PULSE lines and GOV_HARD writes no field. -/
theorem pinsFollow_on (u : Chip) (f : Fld) : (s.pinsFollow s0 p).on u f = s.on u f := by
  unfold State.pinsFollow
  dsimp only
  rw [foldl_leaves (g := fun t : State => t.on u f) (fun _ _ => pinFollow_on u f), pinFollow_on]

/-- A request that stood at the fall of VIKB is told to be 0 (spec 03 R79). -/
theorem requestsFollow_govReq (hwasOn : s0.on (.ikb p) vikbOff = false) (hreq : s0.rd (.ikb p) govReq ≠ 0)
    (hoff : s.on (.ikb p) vikbOff = true) : .pin (Chip.ikb p).code "GOV_REQ" 0 ∈ (s.requestsFollow s0 p).out := by
  unfold State.requestsFollow
  simp only [hwasOn, hoff, Bool.false_eq_true, if_false, if_true]
  exact mem_pinFollow (pinFollow_told hreq)

/-- The next state of VIKB's fall, with GOV_REQ at 1 before, tells that GOV_REQ is 0. -/
theorem exec_vikbPgFall_govReq (hwasOn : s.on (.ikb p) vikbOff = false) (hreq : s.rd (.ikb p) govReq ≠ 0) :
    ∃ t, exec (.vikbPgFall p) s = .next t ∧ .pin (Chip.ikb p).code "GOV_REQ" 0 ∈ t.out := by
  refine ⟨_, rfl, ?_⟩
  rw [keepStores_out]
  refine requestsFollow_govReq hwasOn hreq ?_
  rw [pinsFollow_on]
  simp [State.on, vikbOff, cell, fld]

end Pins

/-- Refutes O45: with a request standing, GOV_REQ 1, and VIKB_OFF_OK 0, VIKB's fall tells that GOV_REQ is 0, and the
statement's next state tells of nothing. -/
theorem not_ikbResets : ¬ Obligations.IkbResets := by
  unfold Obligations.IkbResets
  rintro ⟨-, -, -, hfall, -⟩
  have hclaimed := hfall 0 (State.reset.wr (.ikb 0) govReq 1) (by decide)
  obtain ⟨t, hexec, htold⟩ :=
    exec_vikbPgFall_govReq (s := State.reset.wr (.ikb 0) govReq 1) (p := 0) (by decide) (by decide)
  rw [hclaimed] at hexec
  rw [← Host.Outcome.next.inj hexec, keepStores_out, wr_out, linkIdle_out, wr_out, wr_out] at htold
  exact List.not_mem_nil htold

end Sys2Proof.Proofs.IkbResets
end

section
/-! The Codec's configuration, tables and ring tail, and the blocks of its contexts (O10): what closes, codes and stages
them. Each lemma states the branch of an operation that the conditions of its rule select. -/

namespace Sys2Proof.Proofs.CodecSetup

open Sys2Proof Sys2Proof.Machine Sys2Proof.Laws

section Blocks

variable {s : State} {d k slot : Nat} {c : Ctx} {b : CtxBlock}

/-! ## Configuration and tables (spec 12 R350, R357) -/

/-- CFG of template `k` lies at 0x200 + 16 k, beyond the other registers, and an accepted word sets the template
(spec 12 R350). -/
theorem codecConfig_template {value : Nat} (hk : k < 8) (hok : cfgOk (kindOfTemplate k) value = true) :
    s.codecConfig d (0x200 + 16 * k) value = s.setTemplate d k value := by
  have hbeyond : ∀ off < 0x200, 0x200 + 16 * k ≠ off := by omega
  have hinside : 0x200 + 16 * k < 0x280 := by omega
  have hcfg : (0x200 + 16 * k) % 16 = 0 := by omega
  simp [State.codecConfig, hbeyond, hinside, hcfg, hok]

/-- A word of a writable table goes to the staged copy (spec 12 R357). -/
theorem execCodecTableWrite_staged {word value : Nat} (hfirst : 1 ≤ k) (hlast : k < 16) (hword : word < 10) :
    execCodecTableWrite d k word value s = .next (s.keepStores (s.wr (.wdie d) (codecTableLenLen k word) value)) := by
  simp [execCodecTableWrite, hfirst, hlast, hword]

/-! ## Rows and blocks (spec 12 R347, R348, R365) -/

/-- An open block that has waited CLOSE_MS closes (spec 12 R348). -/
theorem execCodecBlockTimeout_due (hctx : s.ctxAt (ctxKey d slot) = some c) (hopen : c.cod.opened = some b)
    (hdue : b.at' + s.rd (.wdie d) codecTimingCloseMs * ms ≤ s.now) :
    execCodecBlockTimeout d slot s =
      .next (s.keepStores (s.setCtx (ctxKey d slot) { c with cod := closeBlock c.cod })) := by
  have hover : (c.cod.opened.any fun b => b.at' + s.rd (.wdie d) codecTimingCloseMs * ms ≤ s.now) = true := by
    rw [hopen, Option.any_some, decide_eq_true hdue]
  simp only [execCodecBlockTimeout, hctx, hover, if_true, storeless_next]

/-- The oldest closed block leaves its context's queue. -/
theorem popClosed_cons {r : List CtxBlock} (hctx : s.ctxAt k = some c) (hclosed : c.cod.closed = b :: r) :
    s.popClosed k = some (b, s.setCtx k { c with cod := { c.cod with closed := r } }) := by
  simp [State.popClosed, hctx, hclosed]

/-- Out of Midnight a context's oldest closed block is coded (spec 12 R365). -/
theorem blockDone_awake {r : List CtxBlock} (hawake : (s.mode (.wdie (k / 512)) == .midnight) = false)
    (hctx : s.ctxAt k = some c) (hclosed : c.cod.closed = b :: r) :
    s.blockDone k = (s.setCtx k { c with cod := { c.cod with closed := r } }).codeOne k b false := by
  simp [State.blockDone, hawake, hctx, popClosed_cons hctx hclosed]

/-- The enabled Codec of a running part looks for a block to code. -/
theorem execCodecBlockDone_running (hruns : s.stopped d = false) (hon : s.enabled (.wdie d) .codec = true) :
    execCodecBlockDone d slot s = .next (s.keepStores (s.blockDone (ctxKey d slot))) := by
  simp [execCodecBlockDone, hruns, ifOn_on _ _ _ _ hon]

/-- The enabled Codec takes the next frame as a row of its context, and waiting frames use the room (spec 12 R347,
R348). -/
theorem codecTake_next {f : IngFrame} (hon : s.enabled (.wdie d) .codec = true) (hnext : s.nextFrame d = some f) :
    s.codecTake d =
      (((s.setIngest d ((s.ingestOf d).erase f)).takeRow f.ctx f).admitWaiting d, some f) := by
  simp [State.codecTake, hon, hnext]

/-- The row taken goes on to Lens and to the step-time value. -/
theorem execCodecRowTake_next {f : IngFrame} (hruns : s.stopped d = false) (hon : s.enabled (.wdie d) .codec = true)
    (hnext : s.nextFrame d = some f) (hctx : s.ctxAt f.ctx = some c) :
    execCodecRowTake d s = .next (s.keep
      (((((s.setIngest d ((s.ingestOf d).erase f)).takeRow f.ctx f).admitWaiting d).sampleRow f.ctx c f).stepValue
        f.ctx f)) := by
  simp [execCodecRowTake, hruns, codecTake_next hon hnext, hctx]

/-! ## Buffers of Midnight (spec 04 R135) -/

/-- 128 staged records wake DRAM, however old the first is (spec 04 R135). -/
theorem execMidnightBufferFlush_full (hfull : 128 ≤ (s.stagedOf (.wdie d)).length) :
    execMidnightBufferFlush d s = .next (s.keepStores (s.dramWake d)) := by
  simp [execMidnightBufferFlush, hfull]

/-- 32 KiB of staged HEALTH blocks wake DRAM (spec 04 R135). -/
theorem execHealthBufferFlush_full (hfull : 32768 ≤ rawBytes (s.healthOf d)) :
    execHealthBufferFlush d s = .next (s.keepStores (s.dramWake d)) := by
  simp [execHealthBufferFlush, hfull]

/-! ## Draining (spec 11 R320) -/

/-- A DRAINING context of which the ingest buffer holds no frame is sealed and freed (spec 11 R320). -/
theorem execCtxDrainDone_processed (hctx : s.ctxAt (ctxKey d slot) = some c) (hdraining : c.state = 2)
    (hnone : ((s.ingestOf d).any fun f => f.ctx == ctxKey d slot) = false) :
    execCtxDrainDone d slot s = .next (s.keepStores
      ((s.sealCtx (ctxKey d slot) (s.mode (.wdie d) == .midnight)).delCtx (ctxKey d slot))) := by
  simp only [execCtxDrainDone, hctx, hdraining, hnone, Bool.not_false, decide_true, Bool.and_true, if_true,
    storeless_next]

end Blocks

/-- Settles O10: each command by the branch that the conditions of its rule select; the swap and the ring tail take
their operands without a condition. -/
theorem codecSetup : Obligations.CodecSetup := by
  unfold Obligations.CodecSetup
  refine ⟨?template, ?table, ?swap, ?ringTail, ?timeout, ?code, ?row, ?records, ?health, ?drain⟩
  case template =>
    intro d k value s hk hok
    rw [exec_codecConfigWrite, execCodecConfigWrite, codecConfig_template hk hok, storeless_next]
  case table =>
    intro d k word value s hfirst hlast hword
    rw [exec_codecTableWrite, execCodecTableWrite_staged hfirst hlast hword]
  case swap =>
    intro d instant s
    rw [exec_tableSwapCodec, execTableSwapCodec, keeping_next]
  case ringTail =>
    intro d value s
    rw [exec_codecRingTailWrite, execCodecRingTailWrite, storeless_next]
  case timeout =>
    intro d slot c b s hctx hopen hdue
    rw [exec_codecBlockTimeout, execCodecBlockTimeout_due hctx hopen hdue]
  case code =>
    intro d slot b r c s hruns hon hawake hctx hclosed
    rw [exec_codecBlockDone, execCodecBlockDone_running hruns hon, blockDone_awake hawake hctx hclosed]
  case row =>
    intro d f c s hruns hon hnext hctx
    rw [exec_codecRowTake, execCodecRowTake_next hruns hon hnext hctx]
  case records =>
    intro d s hfull
    rw [exec_midnightBufferFlush, execMidnightBufferFlush_full hfull]
  case health =>
    intro d s hfull
    rw [exec_healthBufferFlush, execHealthBufferFlush_full hfull]
  case drain =>
    intro d slot c s hctx hdraining hnone
    rw [exec_ctxDrainDone, execCtxDrainDone_processed hctx hdraining hnone]

end Sys2Proof.Proofs.CodecSetup
end

section
/-! One step and the passing of 20 ns (O46). -/

namespace Sys2Proof.Proofs.Steps

open Sys2Proof Sys2Proof.Machine Sys2Proof.Laws Sys2Proof.Proofs.Runs

@[simp] theorem setMer_now (s : State) (u : Chip) (m : Meridian) : (s.setMer u m).now = s.now := rfl

theorem now_tickWdie (s : State) (d : Nat) : (s.tickWdie d).now = s.now := by
  simp only [State.tickWdie, apply_ite State.now, wr_now, setMer_now, setLtc_now, ite_self]

theorem now_tickIkb (s : State) (p : Nat) : (s.tickIkb p).now = s.now := by
  simp only [State.tickIkb, apply_ite State.now, setMer_now, setLtc_now, ite_self]

/-- The parts' clocks leave the tray's time, which is 20 ns on. -/
theorem now_tick (s : State) : s.tick.now = s.now + 20 :=
  (foldl_leaves now_tickIkb _ _).trans (foldl_leaves now_tickWdie _ _)

/-- Settles O46: a step by what stands at the front of the queue, a tick by what the clocks of the parts leave. -/
theorem stepRunsFront : Obligations.StepRunsFront := by
  unfold Obligations.StepRunsFront
  refine ⟨?front, step_idle, ?tick⟩
  case front => exact fun c rest s => step_front _ c rest rfl
  case tick =>
    intro s
    obtain ⟨hpending, hsize⟩ := Prod.mk.inj (queueAndSize_tick s)
    exact ⟨now_tick s, hpending, hsize⟩

end Sys2Proof.Proofs.Steps
end

section
/-! TSYNC and ECHO, and the tagging of fabric digests (O15). A frame of the exchange is a CONTROL frame at an end that is
up; a digest has one lemma per branch of the intake that its conditions select. -/

namespace Sys2Proof.Proofs.TimeExchange

open Sys2Proof Sys2Proof.Machine Sys2Proof.Laws

section Digests

variable {s : State} {p port dir digest gap : Nat} (hon : s.enabled (.ikb p) .xrx = true)
  (hawake : s.mode (.ikb p) ≠ .midnight)
  (hport : s.bit (.ikb p) (if dir = 0 then xrxCtrlTxEn else xrxCtrlRxEn) port = true)
include hon hawake hport

/-- A digest of a port in XRX.CTRL less than 4 ns after the one before it is counted in SPACING (spec 05 R172). -/
theorem execXrxDigest_crowded (hgap : gap < 4) :
    execXrxDigest p port dir digest gap true s = .next (s.keepStores
      ((s.wr (.ikb p) (goodSince port) (s.now + 1)).inc (.ikb p) xrxUntaggedSpacing)) := by
  simp [execXrxDigest, hon, hawake, hport, hgap]

/-- A digest of a port in XRX.CTRL that SAMPLE_MASK and SAMPLE_MATCH select, with room in the queue, is recorded
(spec 05 R171, R172). -/
theorem execXrxDigest_recorded (hgap : 4 ≤ gap)
    (hmatch : digest &&& s.rd (.ikb p) xrxSampleMaskMask =
      s.rd (.ikb p) xrxSampleMatchMatch &&& s.rd (.ikb p) xrxSampleMaskMask)
    (hroom : (s.tagsOf p).length < 256) (hlevel : s.rd (.ikb p) coderShedLevel < 5) :
    execXrxDigest p port dir digest gap true s = .next (s.keepStores (State.drainTags 1 p
      (((s.wr (.ikb p) (goodSince port) (s.now + 1)).inc (.ikb p) xrxRecordedCount).setTags p (s.tagsOf p ++
        [⟨digest, port, dir, s.on (.ikb p) timeStatFleetLock, s.on (.ikb p) timeStatLocalLock,
          s.tagStamp p port dir⟩])))) := by
  simp [execXrxDigest, hon, hawake, hport, hmatch, Nat.not_lt.2 hgap, Nat.not_le.2 hroom, Nat.not_le.2 hlevel]

end Digests

/-- Settles O15: TSYNC and ECHO are served whatever the peer's version, and a digest is counted or recorded by its
spacing. -/
theorem timeExchangeAndTags : Obligations.TimeExchangeAndTags := by
  unfold Obligations.TimeExchangeAndTags
  refine ⟨?send, ?tsync, ?echo, ?recorded, ?crowded⟩
  case send =>
    intro d s hon
    rw [exec_tsyncSend, execTsyncSend, ifOn_on _ _ _ _ hon, storeless_next]
  case tsync =>
    intro p f s hup
    rw [exec_tsyncReceive, execTsyncReceive, recv_served _ _ _ _ _ _ hup (.inl rfl), storeless_next]
  case echo =>
    intro p seq valid lock t3 s hup
    rw [exec_echoReceive, execEchoReceive, recv_served _ _ _ _ _ _ hup (.inl rfl), storeless_next]
  case recorded =>
    intro p port dir digest gap s hon hawake hport hgap hmatch hroom hlevel
    rw [exec_xrxDigest, execXrxDigest_recorded hon hawake hport hgap hmatch hroom hlevel]
  case crowded =>
    intro p port dir digest gap s hon hawake hport hgap
    rw [exec_xrxDigest, execXrxDigest_crowded hon hawake hport hgap]

end Sys2Proof.Proofs.TimeExchange
end

section
/-! Byte memories (O53), and what a step keeps of them and of the queue (O58). That equal contents are equal lists rests on
one fact: the lowest address that a canonical memory lists reads there as no unlisted byte does. -/

namespace Sys2Proof.Proofs.Memories

open Sys2Proof Sys2Proof.Machine Sys2Proof.Laws Sys2Proof.Proofs.Runs

section Reads

variable {d b : BitVec 8} {k a lo hi : Nat} {m n : List Host.Cell}

@[simp] theorem memRead_cons_same : memRead d ((k, b) :: m) k = b := by simp [memRead, look]

theorem memRead_cons_ne (h : a ≠ k) : memRead d ((k, b) :: m) a = memRead d m a := by simp [memRead, look, h]

/-- Below every address that is listed a memory reads as an unlisted byte. -/
theorem memRead_below (h : ∀ x ∈ m, a < x.1) : memRead d m a = d := by
  induction m with
  | nil => rfl
  | cons e r ih =>
    obtain ⟨he, hr⟩ := List.forall_mem_cons.1 h
    exact (memRead_cons_ne (Nat.ne_of_lt he)).trans (ih hr)

/-- What a list of bytes written from `a` on reads as. -/
theorem memRead_memWriteList (bs : List (BitVec 8)) (a x : Nat) (m : List Host.Cell) :
    memRead d (memWriteList d bs a m) x = if a ≤ x then (bs[x - a]?).getD (memRead d m x) else memRead d m x := by
  induction bs generalizing a m with
  | nil => simp [memWriteList]
  | cons b r ih =>
    rw [memWriteList, ih]
    rcases Nat.lt_trichotomy x a with hx | rfl | hx
    · rw [if_neg (by omega), if_neg (by omega), memRead_memWrite_ne _ _ _ (by omega)]
    · rw [if_neg (by omega), if_pos (Nat.le_refl x), memRead_memWrite_same, Nat.sub_self, List.getElem?_cons_zero,
        Option.getD_some]
    · rw [if_pos (by omega), if_pos (by omega), memRead_memWrite_ne _ _ _ (by omega),
        show x - a = x - (a + 1) + 1 by omega, List.getElem?_cons_succ]

/-- Removing a range of keys leaves what is listed outside it. -/
theorem look_dropRange_out {α : Type} (l : List (Nat × α)) (h : ¬ (lo ≤ k ∧ k < hi)) :
    look k (dropRange lo hi l) = look k l := by
  induction l with
  | nil => rfl
  | cons e r ih =>
    obtain ⟨j, v⟩ := e
    unfold dropRange at *
    rw [List.filter_cons]
    split
    · rw [look, look, ih]
    · next hdropped =>
      have hne : k ≠ j := by
        rintro rfl
        exact h (by simpa using hdropped)
      rw [look, if_neg hne, ih]

/-- What a memory reads as after a range is erased. -/
theorem memRead_dropRange (m : List Host.Cell) :
    memRead d (dropRange lo hi m) a = if lo ≤ a ∧ a < hi then d else memRead d m a := by
  unfold memRead
  split
  · next h => rw [look_dropRange_in m h.1 h.2, Option.getD_none]
  · next h => rw [look_dropRange_out m h]

end Reads

section Canonical

variable {d : BitVec 8} {e f : Host.Cell} {m n : List Host.Cell}

/-- A canonical memory reads otherwise than one that lists only addresses above its first. -/
theorem memRead_ne_of_above (h : memWf d (e :: m) = true) (habove : ∀ x ∈ n, e.1 < x.1) :
    memRead d (e :: m) e.1 ≠ memRead d n e.1 := by
  obtain ⟨hlisted, -, -⟩ := memWf_cons.1 h
  rw [memRead_below habove]
  exact fun heq => hlisted (memRead_cons_same.symm.trans heq)

/-- Canonical memories that read the same do not begin at different addresses. -/
theorem head_not_lt (hm : memWf d (e :: m) = true) (hn : memWf d (f :: n) = true)
    (hread : ∀ a, memRead d (e :: m) a = memRead d (f :: n) a) : ¬ e.1 < f.1 := by
  intro hlt
  obtain ⟨-, hrising, -⟩ := memWf_cons.1 hn
  refine memRead_ne_of_above hm (List.forall_mem_cons.2 ⟨hlt, ?_⟩) (hread e.1)
  exact fun x hx => Nat.lt_trans hlt (hrising x hx)

/-- Canonical memories that read the same and begin with entries at one address begin with one entry, and the rests read
the same. -/
theorem tail_reads {k : Nat} {b c : BitVec 8} (hm : memWf d ((k, b) :: m) = true) (hn : memWf d ((k, c) :: n) = true)
    (hread : ∀ a, memRead d ((k, b) :: m) a = memRead d ((k, c) :: n) a) :
    b = c ∧ ∀ a, memRead d m a = memRead d n a := by
  obtain ⟨-, hmk, -⟩ := memWf_cons.1 hm
  obtain ⟨-, hnk, -⟩ := memWf_cons.1 hn
  refine ⟨by simpa using hread k, fun a => ?_⟩
  by_cases ha : a = k
  · rw [ha, memRead_below hmk, memRead_below hnk]
  · rw [← memRead_cons_ne ha, hread a, memRead_cons_ne ha]

/-- Canonical memories that read the same at every address are the same list. -/
theorem memWf_ext (hm : memWf d m = true) (hn : memWf d n = true) (hread : ∀ a, memRead d m a = memRead d n a) :
    m = n := by
  induction m generalizing n with
  | nil =>
    cases n with
    | nil => rfl
    | cons f r => exact absurd (hread f.1).symm (memRead_ne_of_above hn (List.forall_mem_nil _))
  | cons e q ih =>
    cases n with
    | nil => exact absurd (hread e.1) (memRead_ne_of_above hm (List.forall_mem_nil _))
    | cons f r =>
      have hkey : e.1 = f.1 := Nat.le_antisymm (Nat.le_of_not_lt (head_not_lt hn hm fun a => (hread a).symm))
        (Nat.le_of_not_lt (head_not_lt hm hn hread))
      obtain ⟨k, b⟩ := e
      obtain ⟨k', c⟩ := f
      obtain rfl : k = k' := hkey
      obtain ⟨rfl, htail⟩ := tail_reads hm hn hread
      obtain ⟨-, -, hq⟩ := memWf_cons.1 hm
      obtain ⟨-, -, hr⟩ := memWf_cons.1 hn
      rw [ih hq hr htail]

end Canonical

/-- Settles O53: reads after a write and after an erase, the form that both keep, and the extensionality of the form. -/
theorem memoryLaws : Obligations.MemoryLaws := by
  unfold Obligations.MemoryLaws
  refine ⟨?written, ?kept, ?ext⟩
  case written => exact fun _ => memRead_memWriteList
  case kept => exact fun _ bs a lo hi m h => ⟨dropRange_wf lo hi (memWriteList_wf bs a h), fun _ => memRead_dropRange m⟩
  case ext => exact fun _ _ _ => memWf_ext

/-- Settles O58: a step has one outcome, and it is the next state that `step_keepsInv` gives. -/
theorem stepKeepsInv : Obligations.StepKeepsInv := by
  unfold Obligations.StepKeepsInv
  intro s t hinv ht
  obtain ⟨x, hx, hkept⟩ := step_keepsInv hinv
  obtain rfl : t = x := Host.Outcome.next.inj (ht.symm.trans hx)
  exact hkept

end Sys2Proof.Proofs.Memories
end

section
/-! D2D links, election, DRAM and BAR2 of the package (O4). Each lemma states the branch of an operation that the
conditions of its rule select. -/

namespace Sys2Proof.Proofs.Package

open Sys2Proof Sys2Proof.Machine Sys2Proof.Laws

section Dies

variable {s : State} {d : Nat}

/-! ## Election and exclusion (spec 10 R295, R296) -/

/-- An election in which not one die alone is strapped primary leaves no die present. -/
theorem elect_noPrimary {straps : List Nat} {failed : Nat} (hnone : (straps.countP fun x => x == 0) ≠ 1) :
    s.elect straps failed = (List.range s.dies).foldl (fun (t : State) d => (t.wr (.wdie d) squelched 1).linksIdle d)
      ((s.wr .pkg pkgSizeDiePresent 0).wr (.wdie 0) d2dStatPrimary 0) := by
  simp [State.elect, hnone]

/-- A present die other than 0 that has had no path for 10 ms is excluded. -/
theorem execDiePathLoss_lost (hother : d ≠ 0) (hpresent : s.present d = true) (hlost : s.rd (.wdie d) pathLostAt ≠ 0)
    (hdue : s.rd (.wdie d) pathLostAt - 1 + 10 * ms ≤ s.now) :
    execDiePathLoss d s = .next (s.keepStores (s.excludeDie d 2)) := by
  simp [execDiePathLoss, hother, hpresent, hlost, hdue]

/-! ## DRAM (spec 10 R299, R302) -/

/-- A corrected error of a line that is not remembered is counted, and the line and its time are kept. -/
theorem dramError_first {addr cls : Nat} {check : Bool} (hnew : look (lineOf (dieAddr d addr)) s.corrected = none) :
    s.dramError d addr cls false check false =
      State.inc { s with corrected := put (lineOf (dieAddr d addr)) s.now s.corrected } (.wdie d) dramcEccCorrCount := by
  simp [State.dramError, hnew]

/-- A cap other than that of class 3 is taken, with its HARD bit, when the caps then sum to no more than the limit. -/
theorem writeCap_within {k value : Nat} (hclass : k ≠ 3)
    (hsum : s.capSum (.wdie d) - s.rd (.wdie d) (dramcBwCapCap k) + bitsOf value 0 16 ≤
      capLimit (popCount 8 (s.keptChannels (.wdie d)))) :
    s.writeCap d k value = (s.wr (.wdie d) (dramcBwCapCap k) (bitsOf value 0 16)).wr (.wdie d) (dramcBwCapHard k)
      (bitAt value 16) := by
  simp [State.writeCap, Nat.not_lt.2 hsum, hclass]

end Dies

/-- A frame for the die where it stands crosses no link. -/
@[simp] theorem cross_self (n d : Nat) (s : State) : State.cross n d d s = s := by
  cases n with
  | zero => rfl
  | succ n => rw [State.cross, if_pos rfl]

section Window

variable {s : State} {addr len data : Nat} (hwindow : addr + len ≤ 68719476736)
  (hbase : s.rd (.wdie 0) pcieBar2BaseGib = 0) (hdies : 0 < s.dies) (hpresent : s.present 0 = true) (hlen : 0 < len)
  (hcap : addr + len ≤ s.rd (.wdie 0) dramcCapGib * 1073741824)
include hwindow hbase hdies hpresent hlen hcap

/-! ## BAR2 (spec 10 R316) -/

/-- A write through the window at base 0, within die 0's capacity, stores its bytes and clears the poison of the lines that
it fills. -/
theorem bar2_write :
    s.bar2 true addr len data false =
      (linesOf addr len).foldl (fun (t : State) l => if addr ≤ l * 64 && l * 64 + 64 ≤ addr + len then t.unpoison l else t)
        (State.dramStore (bytesLE len data) addr s) := by
  have hdie : addr / 68719476736 = 0 := by omega
  have hend : ¬ s.rd (.wdie 0) dramcCapGib * 1073741824 ≤ addr + len - 1 := by omega
  simp [State.bar2, hbase, hdie, hend, Nat.not_lt.2 hwindow, Nat.not_le.2 hdies, hpresent]

/-- A read through the window at base 0, within die 0's capacity, of lines without poison answers the bytes. -/
theorem bar2_read (hclean : s.poisoned = []) :
    s.bar2 false addr len data false = s.respond (.wdie 0) 0 false (s.dramNum len addr) := by
  have hdie : addr / 68719476736 = 0 := by omega
  have hend : ¬ s.rd (.wdie 0) dramcCapGib * 1073741824 ≤ addr + len - 1 := by omega
  simp [State.bar2, hbase, hdie, hend, Nat.not_lt.2 hwindow, Nat.not_le.2 hdies, hpresent, hclean]

end Window

/-- Settles O4, each clause by the branch that its hypotheses select. -/
theorem packageCommands : Obligations.PackageCommands := by
  unfold Obligations.PackageCommands
  refine ⟨?down, ?retrained, ?election, ?excluded, ?corrected, ?cap, ?base, ?write, ?read⟩
  case down =>
    intro d k s hk hup
    simp [execD2dLinkDown, hk, hup]
  case retrained =>
    intro d k s hk
    rw [exec_d2dRetrainDone, execD2dRetrainDone, if_pos hk, storeless_next, List.foldl_cons, List.foldl_cons,
      List.foldl_nil]
  case election =>
    intro straps failed s hnone
    rw [exec_electionClose, execElectionClose, elect_noPrimary hnone, storeless_next]
  case excluded =>
    intro d s hother hpresent hlost hdue
    rw [exec_diePathLoss, execDiePathLoss_lost hother hpresent hlost hdue]
  case corrected =>
    intro d addr cls owner kind check s hnew hclass
    simp [execDramReadError, dramError_first hnew, hclass]
  case cap =>
    intro d k value s hk hclass hsum
    rw [exec_dramBwCapWrite, execDramBwCapWrite, if_pos hk, writeCap_within hclass hsum, storeless_next]
  case base =>
    intro value s hfits
    rw [exec_bar2BaseWrite, execBar2BaseWrite, State.bar2Base, if_neg (Nat.not_lt.2 hfits), storeless_next]
  case write =>
    intro addr len data s hlen hwindow hbase hdies hpresent hcap
    rw [exec_bar2Access, execBar2Access, if_neg (Nat.ne_of_gt hlen), bar2_write hwindow hbase hdies hpresent hlen hcap, keeping_next]
  case read =>
    intro addr len data s hlen hwindow hbase hdies hpresent hcap hclean
    rw [exec_bar2Access, execBar2Access, if_neg (Nat.ne_of_gt hlen), bar2_read hwindow hbase hdies hpresent hlen hcap hclean,
      keeping_next]

end Sys2Proof.Proofs.Package
end

section
/-! Optical ports, their lanes and light source, and the mirror intake (O5). Each lemma states the branch of an
operation that the conditions of its rule select. -/

namespace Sys2Proof.Proofs.Optics

open Sys2Proof Sys2Proof.Machine Sys2Proof.Laws

section Engines

variable {s : State} {P d lane : Nat}

/-! ## Lanes (spec 10 R305, R306) -/

/-- A lane of a port on four lanes fails: the port goes on with the other half. -/
theorem laneFail_four (hlanes : s.rd (dieOfOpt P) (portsStatLanes (P % 2)) = 3) :
    s.laneFail P lane = ((((s.wr (dieOfOpt P) (portsStatLanes (P % 2)) 2).wr (dieOfOpt P) (portsStatDegraded (P % 2)) 1).wr
      (dieOfOpt P) (halfUsed (P % 2)) (if lane % 4 < 2 then 1 else 0)).portFault P 0x0A06).event (dieOfOpt P) .ports 0x0A06 1
        (pay [(P, 0), (if lane % 4 < 2 then 1 else 0, 4), (lane % 4, 6)]) := by
  unfold State.laneFail
  dsimp only
  simp only [hlanes]

/-- A lane of the half in use of a port on two lanes fails: the port goes down. -/
theorem laneFail_halfInUse (hlanes : s.rd (dieOfOpt P) (portsStatLanes (P % 2)) = 2)
    (hhalf : lane % 4 / 2 = s.rd (dieOfOpt P) (halfUsed (P % 2))) : s.laneFail P lane = s.optDown P 0 := by
  unfold State.laneFail
  dsimp only
  rw [hlanes]
  exact if_pos hhalf

/-- A lane's lost ring lock is counted and fails the lane. -/
theorem execRingLockLoss_locked (hlane : lane < 8) (hlocked : s.bit (.wdie d) optSweepLocked lane = true) :
    execRingLockLoss d lane s = .next (s.keepStores
      (((s.clrB (.wdie d) optSweepLocked lane).inc (.wdie d) optLockLossCount).laneFail (2 * d + lane / 4) (lane % 4))) := by
  simp [execRingLockLoss, hlane, hlocked]

/-- A lane whose sweep ends keeps its heater code. -/
theorem execOptSweepDone_swept {heater : Nat} (hlane : lane < 8) (hbusy : s.bit (.wdie d) optSweepBusy lane = true) :
    execOptSweepDone d lane heater s = .next (s.keepStores
      (((((s.clrB (.wdie d) optSweepBusy lane).setB (.wdie d) optSweepLocked lane).wr (.wdie d) (optLaneHeater lane)
        heater).wr (.wdie d) (optLaneStored lane) heater).wr (.wdie d) (optLaneStoredValid lane) 1)) := by
  simp [execOptSweepDone, hlane, hbusy]

/-! ## Ports and the light source (spec 10 R304, R309) -/

/-- A port that nothing holds down, on a part that allows four lanes, comes up on four. -/
theorem execOpticalLinkUp_four (hretired : s.on (dieOfOpt P) (portsStatRetired (P % 2)) = false)
    (hidle : s.on (dieOfOpt P) squelched = false) (hpresent : s.present (P / 2) = true) (hrole : s.portRole P ≠ 0)
    (hlit : s.bit (dieOfOpt P) optElsOutOk (P % 2) = true) (hprep : s.on (.wdie 0) optElsSwapPrep = false)
    (hallowed : s.lanesAllowed P = 3) : execOpticalLinkUp P 4 s = .next (s.keepStores (s.optUp P 3)) := by
  simp [execOpticalLinkUp, hretired, hidle, hpresent, hrole, hlit, hprep, hallowed]

/-- A write of SWAP_PREP that is 0, or on a die other than 0, starts no preparation. -/
theorem swapPrep_noStart {value : Nat} (h : d ≠ 0 ∨ value % 2 = 0) :
    s.swapPrep d value = s.wr (.wdie d) optElsSwapPrep value := by
  unfold State.swapPrep
  dsimp only
  rw [if_neg]
  rcases h with hother | hzero
  · simp [hother]
  · simp [hzero]

/-! ## Mirror intake (spec 10 R313) -/

/-- A switch listed at a row below 32 is known. -/
theorem switch_known {switch k : Nat} (hk : k < 32) (hvalid : s.on (.wdie 0) (mirrorSwitchValid k) = true)
    (hswitch : s.rd (.wdie 0) (mirrorSwitchSwitchId k) = switch) :
    ((List.range 32).any fun k => s.on (.wdie 0) (mirrorSwitchValid k) &&
      s.rd (.wdie 0) (mirrorSwitchSwitchId k) == switch) = true :=
  List.any_eq_true.2 ⟨k, List.mem_range.2 hk, by rw [hvalid, hswitch, beq_self_eq_true, Bool.and_self]⟩

/-- Samples that all hold 1 to 128 bytes are sound. -/
theorem samples_sound {samples : List MirrorSample} (h : ∀ x ∈ samples, x.data ≠ [] ∧ x.data.length ≤ 128) :
    (samples.any fun x => x.data.isEmpty || decide (128 < x.data.length)) = false := by
  refine List.any_eq_false.2 fun x hx => ?_
  obtain ⟨hdata, hlen⟩ := h x hx
  simp [hdata, hlen]

end Engines

/-- Settles O5, each clause by the branch that its hypotheses select. -/
theorem opticalCommands : Obligations.OpticalCommands := by
  unfold Obligations.OpticalCommands
  refine ⟨?down, ?up, ?dark, ?lit, ?prep, ?four, ?half, ?lock, ?sweep, ?swept, ?mirror, ?release⟩
  case down =>
    intro P s hup
    rw [exec_opticalLinkDown, execOpticalLinkDown, if_pos hup, storeless_next]
  case up =>
    intro P s hretired hidle hpresent hrole hlit hprep hallowed
    rw [exec_opticalLinkUp, execOpticalLinkUp_four hretired hidle hpresent hrole hlit hprep hallowed]
  case dark =>
    intro P s hlit
    simp only [exec_elsOutputLoss, execElsOutputLoss, if_pos hlit, storeless_next]
  case lit =>
    intro P s
    rw [exec_elsOutputRestored, execElsOutputRestored, storeless_next]
  case prep =>
    intro d value s hnoStart
    rw [exec_elsSwapPrep, execElsSwapPrep, swapPrep_noStart hnoStart, storeless_next]
  case four =>
    intro P lane s hlanes
    rw [exec_optLaneFail, execOptLaneFail, laneFail_four hlanes, storeless_next]
  case half =>
    intro P lane s hlanes hhalf
    rw [exec_optLaneFail, execOptLaneFail, laneFail_halfInUse hlanes hhalf, storeless_next]
  case lock =>
    intro d lane s hlane hlocked
    rw [exec_ringLockLoss, execRingLockLoss_locked hlane hlocked]
  case sweep =>
    intro d lanes s hon
    rw [exec_optSweepStart, execOptSweepStart, ifOn_on _ _ _ _ hon, State.sweep, storeless_next]
  case swept =>
    intro d lane heater s hlane hbusy
    rw [exec_optSweepDone, execOptSweepDone_swept hlane hbusy]
  case mirror =>
    intro P switch k samples s hon henabled hrole hsome hcount hsound hk hvalid hswitch
    have hbad : (false || samples.isEmpty || decide (64 < samples.length) || s.portRole P != 2 ||
        samples.any fun x => x.data.isEmpty || decide (128 < x.data.length)) = false := by
      simp [samples_sound hsound, hrole, hsome, hcount]
    simp only [exec_mirrorFrame, execMirrorFrame, ifOn_on _ _ _ _ hon, henabled, hbad, switch_known hk hvalid hswitch,
      Bool.not_true, Bool.false_eq_true, if_false, storeless_next]
  case release =>
    intro s hon
    rw [exec_mirrorSampleRelease, execMirrorSampleRelease, ifOn_on _ _ _ _ hon, storeless_next]

end Sys2Proof.Proofs.Optics
end

section
/-! The life of contexts, the seeds, the shedding levels and the imbalance check (O8). Each lemma states the branch of an
operation that the conditions of its rule select. -/

namespace Sys2Proof.Proofs.Contexts

open Sys2Proof Sys2Proof.Machine Sys2Proof.Laws

section Life

variable {s : State} {d slot : Nat} {c : Ctx}

/-! ## Frames, timers and moves (spec 11 R321, R326, R330) -/

/-- A frame of an open context reaches it with its stage-1 colour. -/
theorem execCtxFrameAccept_held {pre bytes : Nat} {port : Option Nat} {body : List Nat}
    (hctx : s.ctxAt (ctxKey d slot) = some c) :
    execCtxFrameAccept d slot pre bytes port body s = .next (s.keepStores
      (s.acceptFrame ⟨ctxKey d slot, c.kind, port, false, bytes, body, pre % 3, 0, 0⟩).1) := by
  rw [execCtxFrameAccept, hctx, storeless_next]

/-- A frame for a slot that holds no context is counted. -/
theorem execCtxFrameAccept_free {pre bytes : Nat} {port : Option Nat} {body : List Nat}
    (hfree : s.ctxAt (ctxKey d slot) = none) :
    execCtxFrameAccept d slot pre bytes port body s = .next (s.keepStores (s.inc (.wdie d) ctxMiscNoCtx)) := by
  rw [execCtxFrameAccept, hfree, storeless_next]

/-- A context KILLED 1 ms ago reopens. -/
theorem execCtxReopenTimer_due (hctx : s.ctxAt (ctxKey d slot) = some c) (hkilled : c.state = 3)
    (hdue : c.since + ms ≤ s.now) :
    execCtxReopenTimer d slot s = .next (s.keepStores (s.reopenCtx (ctxKey d slot))) := by
  simp only [execCtxReopenTimer, hctx, hkilled, hdue, decide_true, Bool.and_self, if_true, storeless_next]

/-- A MIGRATING context that has moved is OPEN again, or DRAINING. -/
theorem execCtxMigrationDone_moving (hctx : s.ctxAt (ctxKey d slot) = some c) (hmoving : c.state = 4) :
    execCtxMigrationDone d slot s = .next (s.keepStores ((s.setCtx (ctxKey d slot)
      { c with state := if c.closing then 2 else 1, closing := false, origin := none }).admitWaiting d)) := by
  simp only [execCtxMigrationDone, hctx, if_pos hmoving, storeless_next]

/-! ## Seeds (spec 11 R326, R328) -/

/-- With no context open, a launch of CTX_SEED moves none: the staged seed takes force. -/
theorem swapCtxSeed_noCtxs (hnone : s.ctxs = []) :
    s.swapCtxSeed d =
      (s.wr (.wdie d) routeCtxSeedSeed (s.rd (.wdie d) routeCtxSeedNextSeed)).int (.wdie d) .route 1 := by
  simp only [State.swapCtxSeed, hnone, List.filter_nil, List.foldl_nil]

/-- With no sweep running and no channel pending, a launch of DRAM_SEED is applied and tells of no channel. -/
theorem swapDramSeed_noPending {beyond : Bool} (hidle : s.on (.wdie d) routeMigrateSweepBusy = false)
    (hpend : s.rd (.wdie d) dramcStatPendRetire &&& s.rd (.wdie d) dramcCapChActive = 0) :
    s.swapDramSeed d beyond =
      (((((((s.wr (.wdie d) routeDramSeedSeed (s.rd (.wdie d) routeDramSeedNextSeed)).wr (.wdie d) dramcCapChActive
        (s.keptChannels (.wdie d))).wr (.wdie d) dramcStatPendRetire 0).wr (.wdie d) dramcCapGib
          (8 * popCount 8 (s.keptChannels (.wdie d)))).wr (.wdie d) routeMigrateSweepBusy 1).wr (.wdie d)
            routeMigrateSweepPct 0).wr (.wdie d) scrubProgressPaused 1).int (.wdie d) .route 1 := by
  have hchans : ((List.range 8).filter fun c => bitAt 0 c = 1) = [] := rfl
  simp only [State.swapDramSeed, hidle, hpend, hchans, ne_eq, not_true_eq_false, decide_false, Bool.false_and,
    Bool.false_eq_true, if_false, List.foldl_nil]

/-- The end of a running sweep is shown. -/
theorem execDramSeedSweepDone_running (hbusy : s.on (.wdie d) routeMigrateSweepBusy = true) :
    execDramSeedSweepDone d s = .next (s.keepStores ((((s.wr (.wdie d) routeMigrateSweepBusy 0).wr (.wdie d)
      routeMigrateSweepPct 100).wr (.wdie d) scrubProgressPaused 0).int (.wdie d) .route 2)) := by
  rw [execDramSeedSweepDone, if_pos hbusy, storeless_next]

/-! ## Policers and levels (spec 11 R331, R334) -/

/-- The CFG word of a template takes a queue of 2 or more. -/
theorem policeWrite_templateCfg {k value : Nat} (hk : k < 8) (hqueue : 2 ≤ bitsOf value 2 3) :
    s.policeWrite d (0x200 + 16 * k) value =
      ((s.wr (.wdie d) (policeTemplateCfgAware k) (bitAt value 0)).wr (.wdie d) (policeTemplateCfgRedMark k)
        (bitAt value 1)).wr (.wdie d) (policeTemplateCfgQueue k) (bitsOf value 2 3) := by
  have htemplate : 0x200 + 16 * k < 0x300 := by omega
  have hstart : ¬ (0x200 + 16 * k < 0x200) := by omega
  have hend : ¬ (0x3A0 ≤ 0x200 + 16 * k) := by omega
  have hgap : ¬ (0x280 ≤ 0x200 + 16 * k) := by omega
  have hword : (0x200 + 16 * k) % 16 = 0 := by omega
  have hplace : (0x200 + 16 * k - 0x200) / 16 = k := by omega
  simp only [State.policeWrite, htemplate, hstart, hend, hgap, hword, hplace, hqueue, decide_true, decide_false,
    Bool.false_and, Bool.or_self, Bool.and_self, Bool.false_eq_true, if_true, if_false]

variable {p : Nat}

/-- A level below 5 goes up at the port with the most sheddable bytes once the condition has lasted TIME_UP_US. -/
theorem execLevelUpCheck_due (henabled : s.enabled (.wdie d) .police = true)
    (hauto : s.on (.wdie d) policeLevelAuto = true) (hsince : s.rd (.wdie d) upSince ≠ 0)
    (hdue : s.rd (.wdie d) upSince - 1 + s.rd (.wdie d) policeLevelTimeUpUs * us ≤ s.now)
    (hport : argMax (fun p => s.recentBytes d p) ((List.range 8).map fun n => 8 * d + n) = some p)
    (hlevel : s.rd (.wdie d) (ltlCtrlLevelCmd (linkOfPort p)) < 5) :
    execLevelUpCheck d s = .next (s.keepStores ((s.wr (.wdie d) upSince (s.now + 1)).commandLevel d p
      (s.rd (.wdie d) (ltlCtrlLevelCmd (linkOfPort p)) + 1))) := by
  simp only [execLevelUpCheck, ifOn_on _ _ _ _ henabled, hauto, hsince, hdue, hport, if_pos hlevel, ne_eq,
    not_false_eq_true, decide_true, Bool.and_self, if_true, storeless_next]

/-- The highest level goes down, unless it is 0, once the condition has lasted TIME_DOWN_MS. -/
theorem execLevelDownCheck_due (henabled : s.enabled (.wdie d) .police = true)
    (hauto : s.on (.wdie d) policeLevelAuto = true) (hsince : s.rd (.wdie d) downSince ≠ 0)
    (hdue : s.rd (.wdie d) downSince - 1 + s.rd (.wdie d) policeLevelTimeDownMs * ms ≤ s.now)
    (hport : argMax (fun p => s.rd (.wdie d) (ltlCtrlLevelCmd (linkOfPort p))) ((List.range 8).map fun n => 8 * d + n) =
      some p)
    (hlevel : 0 < s.rd (.wdie d) (ltlCtrlLevelCmd (linkOfPort p))) :
    execLevelDownCheck d s = .next (s.keepStores ((s.wr (.wdie d) downSince (s.now + 1)).commandLevel d p
      (s.rd (.wdie d) (ltlCtrlLevelCmd (linkOfPort p)) - 1))) := by
  simp only [execLevelDownCheck, ifOn_on _ _ _ _ henabled, hauto, hsince, hdue, hport, if_pos hlevel, ne_eq,
    not_false_eq_true, decide_true, Bool.and_self, if_true, storeless_next]

end Life

/-- Settles O8, each clause by the branch that its hypotheses select; with die 0 alone present, the imbalance check's runs
over the dies have one element. -/
theorem contextLife : Obligations.ContextLife := by
  unfold Obligations.ContextLife
  refine ⟨?accepted, ?counted, ?reopened, ?moved, ?ctxSeed, ?dramSeed, ?swept, ?policer, ?up, ?down, ?imbalance⟩
  case accepted =>
    intro d slot pre bytes port body c s hctx
    rw [exec_ctxFrameAccept, execCtxFrameAccept_held hctx]
  case counted =>
    intro d slot pre bytes port body s hfree
    rw [exec_ctxFrameAccept, execCtxFrameAccept_free hfree]
  case reopened =>
    intro d slot c s hctx hkilled hdue
    rw [exec_ctxReopenTimer, execCtxReopenTimer_due hctx hkilled hdue]
  case moved =>
    intro d slot c s hctx hmoving
    rw [exec_ctxMigrationDone, execCtxMigrationDone_moving hctx hmoving]
  case ctxSeed =>
    intro d s hnone
    rw [exec_tableSwapCtxSeed, execTableSwapCtxSeed, swapCtxSeed_noCtxs hnone, storeless_next]
  case dramSeed =>
    intro d beyond s hidle hpend
    rw [exec_tableSwapDramSeed, execTableSwapDramSeed, swapDramSeed_noPending hidle hpend, storeless_next]
  case swept =>
    intro d s hbusy
    rw [exec_dramSeedSweepDone, execDramSeedSweepDone_running hbusy]
  case policer =>
    intro d k value s hk hqueue
    rw [exec_policeWrite, execPoliceWrite, policeWrite_templateCfg hk hqueue, storeless_next]
  case up =>
    intro d p s henabled hauto hsince hdue hport hlevel
    rw [exec_levelUpCheck, execLevelUpCheck_due henabled hauto hsince hdue hport hlevel]
  case down =>
    intro d p s henabled hauto hsince hdue hport hlevel
    rw [exec_levelDownCheck, execLevelDownCheck_due henabled hauto hsince hdue hport hlevel]
  case imbalance =>
    intro moved s hdies _
    simp only [exec_imbalanceCheck, execImbalanceCheck, hdies, List.foldl_cons, List.foldl_nil, List.map_cons, List.map_nil,
      storeless_next]

end Sys2Proof.Proofs.Contexts
end

section
/-! The egress queues of an optical port (O9): which frame goes next, the credit, and the frames that are discarded. -/

namespace Sys2Proof.Proofs.Egress

open Sys2Proof Sys2Proof.Machine Sys2Proof.Laws

section Queues

variable {s : State} {P : Nat} {f : EgFrame}

/-! ## The scheduler (spec 11 R336) -/

/-- An eligible queue 0 goes first. -/
theorem schedule_queue0 (heligible : s.eligible P 0 = true) (hhead : (s.queueOf P 0).head? = some f) :
    s.schedule P = s.sendHead P 0 f := by
  rw [State.schedule, if_pos heligible, hhead]

/-- Queue 1 goes when it is eligible and queue 0 is not. -/
theorem schedule_queue1 (hnot : s.eligible P 0 = false) (heligible : s.eligible P 1 = true)
    (hhead : (s.queueOf P 1).head? = some f) : s.schedule P = s.sendHead P 1 f := by
  rw [State.schedule, if_neg (Bool.eq_false_iff.1 hnot), if_pos heligible, hhead]

/-! ## Credit (spec 11 R338) -/

variable (henabled : s.enabled (dieOfOpt P) .sched = true)
include henabled

/-- A credited port that is up tells the cells that it has freed in each queue's POOL. -/
theorem execOpticalCreditSend_up (hcredited : s.credited P = true) (hup : s.on (dieOfOpt P) (portsStatUp (P % 2)) = true) :
    execOpticalCreditSend P s = .next (s.keepStores (s.originate P 0
      { hdr := { kind := 5, len := 16 }, body := (List.range 8).map fun q => s.rd (dieOfOpt P) (cellsFreed (P % 2) q) })) := by
  rw [execOpticalCreditSend, ifOn_on _ _ _ _ henabled, State.sendCellCredit, if_pos (by rw [hcredited, hup]; rfl),
    storeless_next]

/-- The totals of a credit frame become the sender's credit on a credited port that is up. -/
theorem execOpticalCreditReceive_up {totals : List Nat} (hcredited : s.credited P = true)
    (hup : s.on (dieOfOpt P) (portsStatUp (P % 2)) = true) :
    execOpticalCreditReceive P totals s = .next (s.keepStores
      (((List.range 8).foldl (fun (a : State) q => a.wr (dieOfOpt P) (cellsPeer (P % 2) q) (nth totals q % 65536))
        (s.controlArrived P 16)).waitFollow P)) := by
  simp only [execOpticalCreditReceive, ifOn_on _ _ _ _ henabled, hcredited, hup, Bool.and_self, if_true, storeless_next]

/-! ## Frames that wait (spec 11 R339) -/

/-- The head of queue 2 whose wait has passed TRANSIT_WAIT_US is discarded. -/
theorem execTransitWaitTimeout_due (hhead : (s.queueOf P 2).head? = some f)
    (hwaits : s.rd (dieOfOpt P) (waitSince (P % 2) 2) ≠ 0)
    (hdue : s.rd (dieOfOpt P) (waitSince (P % 2) 2) - 1 +
      s.rd (dieOfOpt P) (schedPortPortBurstTransitWaitUs (P % 2)) * us < s.now) :
    execTransitWaitTimeout P s = .next (s.keepStores
      (((s.discardAt P 2 f).inc (dieOfOpt P) (schedPortStatsTransitDiscard (P % 2))).int (dieOfOpt P) .sched 0)) := by
  simp only [execTransitWaitTimeout, ifOn_on _ _ _ _ henabled, hhead, hwaits, hdue, ne_eq, not_false_eq_true, decide_true,
    Bool.and_self, if_true, storeless_next]

/-- The one frame of queue 1 whose deadline has passed is discarded. -/
theorem execResultDeadlineDiscard_one
    (hlate : ((s.queueOf P 1).filter fun f => f.frame.deadline.any fun d => d < (s.ltcOf (dieOfOpt P)).nsTotal) = [f]) :
    execResultDeadlineDiscard P s = .next (s.keepStores
      (((s.discardAt P 1 f).inc (dieOfOpt P) (schedPortResultDiscardCount (P % 2))).int (dieOfOpt P) .sched 1)) := by
  simp only [execResultDeadlineDiscard, ifOn_on _ _ _ _ henabled, hlate, List.foldl_cons, List.foldl_nil, storeless_next]

end Queues

/-- Settles O9, each clause by the branch that its hypotheses select. -/
theorem egressCommands : Obligations.EgressCommands := by
  unfold Obligations.EgressCommands
  refine ⟨?queued, ?queue0, ?queue1, ?told, ?credit, ?transit, ?overdue⟩
  case queued =>
    intro P q frame s henabled
    rw [exec_egressEnqueue, execEgressEnqueue, ifOn_on _ _ _ _ henabled, storeless_next]
  case queue0 =>
    intro P f s henabled heligible hhead
    rw [exec_egressTransmit, execEgressTransmit, ifOn_on _ _ _ _ henabled, schedule_queue0 heligible hhead, storeless_next]
  case queue1 =>
    intro P f s henabled hnot heligible hhead
    rw [exec_egressTransmit, execEgressTransmit, ifOn_on _ _ _ _ henabled, schedule_queue1 hnot heligible hhead,
      storeless_next]
  case told =>
    intro P s henabled hcredited hup
    rw [exec_opticalCreditSend, execOpticalCreditSend_up henabled hcredited hup]
  case credit =>
    intro P totals s henabled hcredited hup
    rw [exec_opticalCreditReceive, execOpticalCreditReceive_up henabled hcredited hup]
  case transit =>
    intro P f s henabled hhead hwaits hdue
    rw [exec_transitWaitTimeout, execTransitWaitTimeout_due henabled hhead hwaits hdue]
  case overdue =>
    intro P f s henabled hlate
    rw [exec_resultDeadlineDiscard, execResultDeadlineDiscard_one henabled hlate]

end Sys2Proof.Proofs.Egress
end

section
/-! The Codec's descriptors (O11): the one at HEAD is served when it is of the command's operation, and each operation's
outcome follows the branch that the conditions of its rule select. -/

namespace Sys2Proof.Proofs.CodecDescriptors

open Sys2Proof Sys2Proof.Machine Sys2Proof.Laws

section Descriptors

variable {s : State} {d : Nat} {x : Descr}

/-! ## The ring (spec 12 R369) -/

/-- An enabled Codec outside Midnight serves the descriptor at HEAD when it is of the operation asked for. -/
theorem serve_head {op : Nat} {act : Descr → State} (hon : s.enabled (.wdie d) .codec = true)
    (hawake : (s.mode (.wdie d) == .midnight) = false) (hhead : s.descr d = some x) (hop : x.op = op) :
    s.serve d op act = act x := by
  simp only [State.serve, hon, hawake, hhead, Bool.not_true, Bool.or_self, Bool.false_eq_true, if_false, if_pos hop]

/-- A descriptor without a state record begins with a restart (Table 12.8, STATE). -/
theorem descrState_stateless {lanes : Option Nat} (hstateless : x.state = 0) :
    s.descrState d x lanes = ({}, true, false) := by
  rw [State.descrState, if_pos hstateless]

/-! ## ENCODE and DECODE (spec 12 R369, R371) -/

/-- A stateless descriptor has no record that a poisoned line could be in. -/
theorem recordHurt_stateless (hstateless : x.state = 0) :
    (decide (x.state ≠ 0) && s.hurt d x.state (recordLen x.laneW x.lanes)) = false := by
  rw [decide_eq_false (not_not_intro hstateless), Bool.false_and]

/-- An ENCODE that breaks the rules completes INVALID. -/
theorem encodeD_invalid (hinvalid : x.invalid = true) : s.encodeD d x = s.complete d x 3 0 0 := by
  rw [State.encodeD, if_pos hinvalid]

/-- A stateless ENCODE that gains delivers the block coded from a restart. -/
theorem encodeD_stateless {r : CodedBlock} (hvalid : x.invalid = false) (hclean : s.hurt d x.src x.srcLen = false)
    (hstateless : x.state = 0)
    (hcoded : codeBlock ⟨x.path, x.level, x.pred, x.table, x.laneW, x.signed, x.mask⟩ (s.tablesInForce d)
      (s.rd (.wdie d) codecTgenGen) true false false
      (srcRows x.rows ((s.dramBytes x.srcLen (dieAddr d x.src)).map BitVec.toNat)) {} = r)
    (hgain : r.noGain = false) : s.encodeD d x = s.output d x 0 r.bytes fun t => t := by
  simp only [State.encodeD, hvalid, hclean, recordHurt_stateless hstateless, Bool.or_self,
    descrState_stateless hstateless, hcoded, hgain, if_pos hstateless, Bool.false_eq_true, if_false]

/-- A DECODE whose source holds a poisoned line completes with its output undefined. -/
theorem decodeD_poisoned (hvalid : x.invalid = false) (hpoison : s.hurt d x.src x.srcLen = true) :
    s.decodeD d x = (s.scrambleAll d (s.buffers' d x)).complete d x 5 0 0 := by
  simp only [State.decodeD, hvalid, hpoison, Bool.true_or, Bool.false_eq_true, if_false, if_true, State.descrPoison]

/-- A stateless DECODE of blocks that all decode delivers their bytes. -/
theorem decodeD_stateless {out : List Nat} {l : CodecLink} (hvalid : x.invalid = false)
    (hclean : s.hurt d x.src x.srcLen = false) (hstateless : x.state = 0)
    (hdecoded : decodeRun (s.tablesInForce d) x.signed ((s.dramBytes x.srcLen (dieAddr d x.src)).length + 1) {}
      ((s.dramBytes x.srcLen (dieAddr d x.src)).map BitVec.toNat) [] = (out, l, false)) :
    s.decodeD d x = s.output d x 0 out fun t => t := by
  simp only [State.decodeD, hvalid, hclean, recordHurt_stateless hstateless, Bool.or_self,
    descrState_stateless hstateless, List.length_map, hdecoded, if_pos hstateless, Bool.false_eq_true, if_false, if_true]

/-! ## SAVE and RESTORE (spec 12 R370) -/

variable {c : Ctx} (hreserved : x.reserved = false) (hstate : x.state ≠ 0) (hslot : x.lanes < 512)
include hreserved hstate hslot

/-- A SAVE or RESTORE that names a state record and a slot, with its reserved fields 0, is not INVALID. -/
theorem slotDescr_notInvalid : (x.reserved || decide (x.state = 0) || decide (512 ≤ x.lanes)) = false := by
  simp [hreserved, hstate, hslot]

/-- SAVE seals the slot and writes the record of what it then holds, without a COUNTER reference when there is none. -/
theorem saveD_sealed {c' : Ctx} (hctx : s.ctxAt (ctxKey d x.lanes) = some c)
    (hsealed : (s.sealCtx (ctxKey d x.lanes) false).ctxAt (ctxKey d x.lanes) = some c') (href : c'.cod.ref = none) :
    s.saveD d x =
      ((s.sealCtx (ctxKey d x.lanes) false).writeRecord d x.state (bitsOf c'.cod.cfg 0 2) (bitsOf c'.cod.cfg 13 2) c'.cod.link
        (((c'.cod.link.row1.map List.length).getD 0) % 16384) 0xFFFFFFFF).complete d x 0 0
          (recordLen (bitsOf c'.cod.cfg 13 2) (((c'.cod.link.row1.map List.length).getD 0) % 16384)) := by
  simp only [State.saveD, hctx, slotDescr_notInvalid hreserved hstate hslot, hsealed, href, Bool.false_eq_true, if_false]

/-- RESTORE of a record without a COUNTER reference loads its link; the block after it is a restart. -/
theorem restoreD_loaded {l : CodecLink} (hctx : s.ctxAt (ctxKey d x.lanes) = some c) (hclean : s.hurt d x.state 64 = false)
    (hrecord : s.readRecord d x.state (bitsOf c.cod.cfg 13 2) (c.cod.link.row1.map List.length) = some (l, 0xFFFFFFFF)) :
    s.restoreD d x =
      (s.setCtx (ctxKey d x.lanes) { c with cod := { c.cod with link := l, ref := none, restart := true } }).complete
        d x 0 0 0 := by
  simp only [State.restoreD, hctx, slotDescr_notInvalid hreserved hstate hslot, hclean, hrecord, Bool.false_eq_true, if_false,
    if_true]

end Descriptors

/-- Settles O11: the descriptor at HEAD is served, and each operation takes the branch that the clause's hypotheses
select. -/
theorem codecDescriptors : Obligations.CodecDescriptors := by
  unfold Obligations.CodecDescriptors
  refine ⟨?encode, ?invalid, ?poison, ?decode, ?save, ?restore⟩
  case encode =>
    intro d x s hon hawake hhead hop hvalid hclean hstateless _ hgain
    rw [exec_codecEncode, execCodecEncode, serve_head hon hawake hhead hop,
      encodeD_stateless hvalid hclean hstateless rfl hgain, keeping_next]
  case invalid =>
    intro d x s hon hawake hhead hop hinvalid
    rw [exec_codecEncode, execCodecEncode, serve_head hon hawake hhead hop, encodeD_invalid hinvalid, keeping_next]
  case poison =>
    intro d x s hon hawake hhead hop hvalid hpoison
    rw [exec_codecDecode, execCodecDecode, serve_head hon hawake hhead hop, decodeD_poisoned hvalid hpoison, keeping_next]
  case decode =>
    intro d x s hon hawake hhead hop hvalid hclean hstateless hdecodes
    rw [exec_codecDecode, execCodecDecode, serve_head hon hawake hhead hop,
      decodeD_stateless hvalid hclean hstateless (Prod.ext rfl (Prod.ext rfl hdecodes)), keeping_next]
  case save =>
    intro d x c c' s hon hawake hhead hop hreserved hstate hslot hctx hsealed href
    rw [exec_codecSave, execCodecSave, serve_head hon hawake hhead hop,
      saveD_sealed hreserved hstate hslot hctx hsealed href, keeping_next]
  case restore =>
    intro d x c l s hon hawake hhead hop hreserved hstate hslot hctx hclean hrecord
    rw [exec_codecRestore, execCodecRestore, serve_head hon hawake hhead hop,
      restoreD_loaded hreserved hstate hslot hctx hclean hrecord, keeping_next]

end Sys2Proof.Proofs.CodecDescriptors
end

section
/-! The reductions of Merge (O54, O57). A `Summary` says which part a list of contributions of distinct ranks makes, in
closed form: one for each operation, and its join is the append of lists. TOPK and the rank lists of DIGEST keep the first
entries of the sorted list (`firstOf`); HIST and DIGEST keep a table of cells, one for each key that occurs (`tableOf`). -/

namespace Sys2Proof.Proofs.Reductions

open Sys2Proof Sys2Proof.Machine Sys2Proof.Laws

/-! ## The first entries of a sorted list -/

section First

variable {α : Type} {le : α → α → Bool} {l m : List α}

/-- A total preorder, as sorting asks for one. -/
structure SortOrder (le : α → α → Bool) : Prop where
  total (a b : α) : (le a b || le b a) = true
  trans (a b c : α) : le a b = true → le b c = true → le a c = true

/-- No two entries of a list are tied in the order. -/
def Untied (le : α → α → Bool) (l : List α) : Prop := l.Pairwise fun a b => ¬(le a b = true ∧ le b a = true)

/-- The entries of a list are in order. -/
def InOrder (le : α → α → Bool) (l : List α) : Prop := l.Pairwise fun a b => le a b = true

/-- The first `k` entries of a list in the order. -/
def firstOf (le : α → α → Bool) (k : Nat) (l : List α) : List α := (l.mergeSort le).take k

/-- An entry put before the first one that it comes before. -/
def insertBy (le : α → α → Bool) (e : α) : List α → List α
  | [] => [e]
  | x :: q => if le e x then e :: x :: q else x :: insertBy le e q

/-- Entries put one by one into a list. -/
def insertAll (le : α → α → Bool) (a b : List α) : List α := b.foldl (fun t e => insertBy le e t) a

theorem firstOf_nil (k : Nat) : firstOf le k [] = [] := by rw [firstOf, List.mergeSort_nil, List.take_nil]

theorem firstOf_singleton {k : Nat} (hk : 1 ≤ k) (x : α) : firstOf le k [x] = [x] := by
  rw [firstOf, List.mergeSort_singleton]
  exact List.take_of_length_le hk

theorem Untied.perm (h : Untied le l) (hp : l.Perm m) : Untied le m :=
  List.Pairwise.perm h hp fun hab hba => hab hba.symm

theorem Untied.firstOf_append (h : Untied le (l ++ m)) (k : Nat) : Untied le (firstOf le k l ++ m) :=
  List.Pairwise.sublist ((List.take_sublist k _).append_right m) (h.perm ((List.mergeSort_perm l le).symm.append_right m))

/-- Only the first `k` entries of a list decide the first `k` after an insertion. -/
theorem take_insertBy (k : Nat) (e : α) (l : List α) : (insertBy le e l).take k = (insertBy le e (l.take k)).take k := by
  induction l generalizing k with
  | nil => rw [List.take_nil]
  | cons x q ih =>
    cases k with
    | zero => rw [List.take_zero, List.take_zero]
    | succ k =>
      rw [insertBy, List.take_succ_cons, insertBy]
      split
      · cases k with
        | zero => rfl
        | succ k => simp only [List.take_succ_cons, List.take_take, Nat.min_eq_left (Nat.le_succ k)]
      · rw [List.take_succ_cons, List.take_succ_cons, ih k]

/-- Only the first `k` entries of a list decide the first `k` after insertions. -/
theorem take_insertAll (k : Nat) (b : List α) (h : l.take k = m.take k) :
    (insertAll le l b).take k = (insertAll le m b).take k := by
  induction b generalizing l m with
  | nil => exact h
  | cons e b ih =>
    have hinsert : (insertBy le e l).take k = (insertBy le e m).take k := by
      rw [take_insertBy k e l, h, ← take_insertBy k e m]
    exact ih hinsert

theorem perm_insertBy (e : α) (l : List α) : (insertBy le e l).Perm (e :: l) := by
  induction l with
  | nil => exact .refl _
  | cons x q ih =>
    unfold insertBy
    split
    · exact .refl _
    · exact (ih.cons x).trans (.swap e x q)

theorem perm_insertAll (a b : List α) : (insertAll le a b).Perm (a ++ b) := by
  induction b generalizing a with
  | nil => rw [List.append_nil]; exact .refl _
  | cons e b ih =>
    have hinsert : (insertBy le e a ++ b).Perm (e :: a ++ b) := (perm_insertBy e a).append_right b
    exact ((ih _).trans hinsert).trans List.perm_middle.symm

theorem SortOrder.inOrder_insertBy (ho : SortOrder le) (e : α) (h : InOrder le l) : InOrder le (insertBy le e l) := by
  induction l with
  | nil => exact List.pairwise_singleton _ e
  | cons x q ih =>
    obtain ⟨hx, hq⟩ := List.pairwise_cons.1 h
    unfold insertBy
    split
    · next hex => exact List.pairwise_cons.2 ⟨List.forall_mem_cons.2 ⟨hex, fun y hy => ho.trans _ _ _ hex (hx y hy)⟩, h⟩
    · next hex =>
      have hxe : le x e = true := (Bool.or_eq_true_iff.1 (ho.total e x)).resolve_left hex
      refine List.pairwise_cons.2 ⟨fun y hy => ?_, ih hq⟩
      exact (List.forall_mem_cons (p := fun z => le x z = true)).2 ⟨hxe, hx⟩ y ((perm_insertBy e q).mem_iff.1 hy)

theorem SortOrder.inOrder_insertAll (ho : SortOrder le) (h : InOrder le l) (b : List α) :
    InOrder le (insertAll le l b) := by
  induction b generalizing l with
  | nil => exact h
  | cons e b ih => exact ih (ho.inOrder_insertBy e h)

theorem SortOrder.inOrder_mergeSort (ho : SortOrder le) (l : List α) : InOrder le (l.mergeSort le) :=
  List.pairwise_mergeSort ho.trans ho.total l

theorem SortOrder.inOrder_firstOf (ho : SortOrder le) (k : Nat) (l : List α) : InOrder le (firstOf le k l) :=
  (ho.inOrder_mergeSort l).sublist (List.take_sublist k _)

/-- A list without ties has one permutation in order. -/
theorem SortOrder.eq_mergeSort (ho : SortOrder le) (h : Untied le l) (hp : m.Perm l) (hm : InOrder le m) :
    m = l.mergeSort le := by
  refine List.Perm.eq_of_pairwise ?_ hm (ho.inOrder_mergeSort l) (hp.trans (List.mergeSort_perm l le).symm)
  intro a b ha hb
  have hanti : ∀ x ∈ l, ∀ y ∈ l, le x y = true → le y x = true → x = y :=
    List.Pairwise.forall_of_forall_of_flip (R := fun x y => le x y = true → le y x = true → x = y) (fun _ _ _ _ => rfl)
      (h.imp fun hxy h1 h2 => absurd ⟨h1, h2⟩ hxy) (h.imp fun hxy h1 h2 => absurd ⟨h2, h1⟩ hxy)
  exact hanti a (hp.mem_iff.1 ha) b (List.mem_mergeSort.1 hb)

theorem SortOrder.insertAll_eq (ho : SortOrder le) (h : Untied le (l ++ m)) (hl : InOrder le l) :
    insertAll le l m = (l ++ m).mergeSort le :=
  ho.eq_mergeSort h (perm_insertAll l m) (ho.inOrder_insertAll hl m)

theorem SortOrder.firstOf_perm (ho : SortOrder le) {k : Nat} (h : Untied le l) (hp : l.Perm m) :
    firstOf le k l = firstOf le k m :=
  congrArg (List.take k) (ho.eq_mergeSort (h.perm hp) ((List.mergeSort_perm l le).trans hp) (ho.inOrder_mergeSort l))

/-- What is beyond the first `k` entries of a part is not among the first `k` of the whole. -/
theorem SortOrder.firstOf_firstOf_append (ho : SortOrder le) {k : Nat} (h : Untied le (l ++ m)) :
    firstOf le k (firstOf le k l ++ m) = firstOf le k (l ++ m) := by
  have hsort : Untied le (l.mergeSort le ++ m) := h.perm ((List.mergeSort_perm l le).symm.append_right m)
  calc firstOf le k (firstOf le k l ++ m)
      = (insertAll le (firstOf le k l) m).take k :=
        (congrArg (List.take k) (ho.insertAll_eq (h.firstOf_append k) (ho.inOrder_firstOf k l))).symm
    _ = (insertAll le (l.mergeSort le) m).take k :=
        take_insertAll k m (by rw [firstOf, List.take_take, Nat.min_self])
    _ = firstOf le k (l.mergeSort le ++ m) :=
        congrArg (List.take k) (ho.insertAll_eq hsort (ho.inOrder_mergeSort l))
    _ = firstOf le k (l ++ m) := ho.firstOf_perm hsort ((List.mergeSort_perm l le).append_right m)

/-- The first entries of two lists join to the first entries of both. -/
theorem SortOrder.firstOf_join (ho : SortOrder le) {k : Nat} (h : Untied le (l ++ m)) :
    (insertAll le (firstOf le k l) (firstOf le k m)).take k =
      firstOf le k (l ++ m) := by
  have hswap : Untied le (m ++ l) := h.perm List.perm_append_comm
  have hright : Untied le (l ++ firstOf le k m) := (hswap.firstOf_append k).perm List.perm_append_comm
  calc (insertAll le (firstOf le k l) (firstOf le k m)).take k
      = firstOf le k (firstOf le k l ++ firstOf le k m) :=
        congrArg (List.take k) (ho.insertAll_eq (hright.firstOf_append k) (ho.inOrder_firstOf k l))
    _ = firstOf le k (l ++ firstOf le k m) := ho.firstOf_firstOf_append hright
    _ = firstOf le k (firstOf le k m ++ l) := ho.firstOf_perm hright List.perm_append_comm
    _ = firstOf le k (m ++ l) := ho.firstOf_firstOf_append hswap
    _ = firstOf le k (l ++ m) := ho.firstOf_perm hswap List.perm_append_comm

end First

/-! ## Parts as functions of the contributions -/

/-- A contribution: its value, its rank and its KNOWN_POISON bit. -/
abbrev Contribution := Nat × Nat × Bool

/-- The contributions of a list are of distinct ranks. -/
def DistinctRanks (l : List Contribution) : Prop := (l.map (·.2.1)).Nodup

/-- `F` gives the partial of every list of contributions of distinct ranks (spec 13 R377). -/
structure Summary (op fmt k dir : Nat) (F : List Contribution → Part) : Prop where
  empty : F [] = emptyPart op
  one (e : Contribution) : F [e] = onePart op fmt e.1 e.2.1 e.2.2
  join (l m : List Contribution) (h : DistinctRanks (l ++ m)) : joinPart op fmt k dir (F l) (F m) = F (l ++ m)
  perm (l m : List Contribution) (h : DistinctRanks l) (hp : l.Perm m) : F l = F m

section Summaries

variable {op fmt k dir : Nat} {F : List Contribution → Part} {l m : List Contribution}

theorem DistinctRanks.perm (h : DistinctRanks l) (hp : l.Perm m) : DistinctRanks m := (hp.map _).nodup_iff.1 h

theorem DistinctRanks.sublist (h : DistinctRanks m) (hs : l.Sublist m) : DistinctRanks l := (hs.map _).nodup h

theorem DistinctRanks.pairwise (h : DistinctRanks l) : l.Pairwise fun x y => x.2.1 ≠ y.2.1 := List.pairwise_map.1 h

/-- Contributions that join one by one to a partial make the partial of the longer list. -/
theorem Summary.foldl_from (hF : Summary op fmt k dir F) (h : DistinctRanks (l ++ m)) :
    m.foldl (fun p e => joinPart op fmt k dir p (onePart op fmt e.1 e.2.1 e.2.2)) (F l) = F (l ++ m) := by
  induction m generalizing l with
  | nil => rw [List.foldl_nil, List.append_nil]
  | cons e m ih =>
    have happend : l ++ e :: m = l ++ [e] ++ m := List.append_cons l e m
    rw [happend] at h ⊢
    rw [List.foldl_cons, ← hF.one e, hF.join l [e] (h.sublist (List.sublist_append_left _ m)), ih h]

/-- Contributions that join one by one make the partial of their list. -/
theorem Summary.foldl_eq (hF : Summary op fmt k dir F) (h : DistinctRanks l) :
    l.foldl (fun p e => joinPart op fmt k dir p (onePart op fmt e.1 e.2.1 e.2.2)) (emptyPart op) = F l := by
  rw [← hF.empty]
  exact hF.foldl_from (l := []) h

/-- Sums in a monoid, of appended lists. -/
theorem foldr_add_append {M : Type} {add : M → M → M} {zero : M} (hassoc : ∀ a b c, add (add a b) c = add a (add b c))
    (hleft : ∀ a, add zero a = a) (term : Contribution → M) (a : M) (l : List Contribution) :
    add (l.foldr (fun e a => add (term e) a) zero) a = l.foldr (fun e a => add (term e) a) a := by
  induction l with
  | nil => exact hleft a
  | cons e l ih => rw [List.foldr_cons, List.foldr_cons, hassoc, ih]

/-- An operation whose parts are the values of a monoid that commutes on contributions of distinct ranks has a summary:
the sum in the monoid. -/
theorem summary_of_monoid {M : Type} (part : M → Part) (term : Contribution → M) (add : M → M → M) (zero : M)
    (hassoc : ∀ a b c, add (add a b) c = add a (add b c)) (hleft : ∀ a, add zero a = a) (hright : ∀ a, add a zero = a)
    (hcomm : ∀ x y : Contribution, x.2.1 ≠ y.2.1 → add (term x) (term y) = add (term y) (term x))
    (hempty : part zero = emptyPart op) (hone : ∀ e, part (term e) = onePart op fmt e.1 e.2.1 e.2.2)
    (hjoin : ∀ a b, joinPart op fmt k dir (part a) (part b) = part (add a b)) :
    Summary op fmt k dir fun l => part (l.foldr (fun e a => add (term e) a) zero) where
  empty := hempty
  one e := by rw [List.foldr_cons, List.foldr_nil, hright, hone]
  join l m _ := by rw [hjoin, List.foldr_append, foldr_add_append hassoc hleft]
  perm l m h hp := by
    have hcomm' : ∀ x y : Contribution, x.2.1 ≠ y.2.1 →
        ∀ z, add (term y) (add (term x) z) = add (term x) (add (term y) z) := by
      intro x y hne z
      rw [← hassoc, ← hassoc, hcomm x y hne]
    have hall := List.Pairwise.forall_of_forall_of_flip
      (R := fun x y => ∀ z, add (term y) (add (term x) z) = add (term x) (add (term y) z)) (fun _ _ _ => rfl)
      (h.pairwise.imp fun hne => hcomm' _ _ hne) (h.pairwise.imp fun hne => hcomm' _ _ hne.symm)
    exact congrArg part (hp.foldr_eq' (fun x hx y hy => hall hx hy) zero)

/-! ### Sums, counts and ORs (R378, R379, R381) -/

theorem sumI_summary : ∃ F, Summary 1 fmt k dir F :=
  ⟨_, summary_of_monoid .sumI (fun e => signedOf e.1 64) (· + ·) 0 Int.add_assoc Int.zero_add Int.add_zero
    (fun _ _ _ => Int.add_comm _ _) rfl (fun _ => rfl) fun _ _ => rfl⟩

/-- The part of an FP32 sum and its counts of NaNs and infinities. -/
def sumFPart (t : Int × Nat × Nat × Nat) : Part := .sumF t.1 t.2.1 t.2.2.1 t.2.2.2

/-- What one FP32 contribution adds to the sum and the counts. -/
def sumFTerm (v : Nat) : Int × Nat × Nat × Nat :=
  match decodeIeee 23 8 v with
  | .nan => (0, 1, 0, 0)
  | .inf false => (0, 0, 1, 0)
  | .inf true => (0, 0, 0, 1)
  | .fin x => (x, 0, 0, 0)

theorem sumFPart_sumFTerm (v rank : Nat) (poison : Bool) : sumFPart (sumFTerm v) = onePart 2 fmt v rank poison := by
  unfold sumFTerm onePart
  rcases decodeIeee 23 8 v with _ | (_ | _) | x <;> rfl

/-- FP32 sums and their counts, added. -/
def sumFAdd (a b : Int × Nat × Nat × Nat) : Int × Nat × Nat × Nat :=
  (a.1 + b.1, a.2.1 + b.2.1, a.2.2.1 + b.2.2.1, a.2.2.2 + b.2.2.2)

theorem sumFAdd_assoc (a b c : Int × Nat × Nat × Nat) : sumFAdd (sumFAdd a b) c = sumFAdd a (sumFAdd b c) := by
  simp only [sumFAdd, Int.add_assoc, Nat.add_assoc]

theorem sumFAdd_comm (a b : Int × Nat × Nat × Nat) : sumFAdd a b = sumFAdd b a := by
  simp only [sumFAdd, Int.add_comm, Nat.add_comm]

theorem sumFAdd_zero (a : Int × Nat × Nat × Nat) : sumFAdd a (0, 0, 0, 0) = a := by
  simp only [sumFAdd, Int.add_zero, Nat.add_zero]

theorem sumF_summary : ∃ F, Summary 2 fmt k dir F :=
  ⟨_, summary_of_monoid sumFPart (fun e => sumFTerm e.1) sumFAdd (0, 0, 0, 0) sumFAdd_assoc
    (fun a => (sumFAdd_comm _ a).trans (sumFAdd_zero a)) sumFAdd_zero (fun _ _ _ => sumFAdd_comm _ _) rfl
    (fun _ => sumFPart_sumFTerm _ _ _) fun _ _ => rfl⟩

theorem count_summary : ∃ F, Summary 5 fmt k dir F :=
  ⟨_, summary_of_monoid .num (fun _ => 1) (· + ·) 0 Nat.add_assoc Nat.zero_add Nat.add_zero (fun _ _ _ => rfl) rfl
    (fun _ => rfl) fun _ _ => rfl⟩

theorem or_summary : ∃ F, Summary 6 fmt k dir F :=
  ⟨_, summary_of_monoid .num (fun e => e.1) (· ||| ·) 0 Nat.or_assoc Nat.zero_or Nat.or_zero (fun _ _ _ => Nat.or_comm _ _)
    rfl (fun _ => rfl) fun _ _ => rfl⟩

/-! ### Extremes (R381) -/

/-- The key by which MIN and MAX both prefer the smaller. -/
def extRank (op fmt : Nat) (a : Nat × Nat) : Int := if op = 3 then extKey fmt a.1 else -extKey fmt a.1

/-- Whether MIN or MAX prefers an entry to another: by its key, then by its rank. -/
def extBefore (op fmt : Nat) (a b : Nat × Nat) : Bool :=
  decide (extRank op fmt a < extRank op fmt b ∨ (extRank op fmt a = extRank op fmt b ∧ a.2 < b.2))

theorem extBefore_iff {a b : Nat × Nat} : extBefore op fmt a b = true ↔
    extRank op fmt a < extRank op fmt b ∨ (extRank op fmt a = extRank op fmt b ∧ a.2 < b.2) := decide_eq_true_iff

theorem extBest_eq (hop : op = 3 ∨ op = 4) (a b : Nat × Nat) :
    extBest op fmt a b = if extBefore op fmt b a then b else a := by
  simp only [extBefore_iff, extRank, extBest]
  rcases hop with rfl | rfl
  · grind
  · grind

theorem extBest_assoc (hop : op = 3 ∨ op = 4) (a b c : Nat × Nat) :
    extBest op fmt (extBest op fmt a b) c = extBest op fmt a (extBest op fmt b c) := by
  simp only [extBest_eq hop]
  by_cases hba : extBefore op fmt b a = true
  · by_cases hcb : extBefore op fmt c b = true
    · have hca : extBefore op fmt c a = true := by rw [extBefore_iff] at *; omega
      rw [if_pos hba, if_pos hcb, if_pos hca]
    · rw [if_pos hba, if_neg hcb, if_pos hba]
  · by_cases hcb : extBefore op fmt c b = true
    · rw [if_neg hba, if_pos hcb]
    · have hca : ¬extBefore op fmt c a = true := by rw [extBefore_iff] at *; omega
      rw [if_neg hba, if_neg hcb, if_neg hca, if_neg hba]

theorem extBest_comm (hop : op = 3 ∨ op = 4) {a b : Nat × Nat} (hne : a.2 ≠ b.2) :
    extBest op fmt a b = extBest op fmt b a := by
  rw [extBest_eq hop, extBest_eq hop]
  by_cases hba : extBefore op fmt b a = true
  · have hab : ¬extBefore op fmt a b = true := by rw [extBefore_iff] at *; omega
    rw [if_pos hba, if_neg hab]
  · have hab : extBefore op fmt a b = true := by rw [extBefore_iff] at *; omega
    rw [if_neg hba, if_pos hab]

theorem extJoin_assoc (hop : op = 3 ∨ op = 4) (a b c : Option (Nat × Nat)) :
    extJoin op fmt (extJoin op fmt a b) c = extJoin op fmt a (extJoin op fmt b c) := by
  cases a with
  | none => rfl
  | some a =>
    cases b with
    | none => rfl
    | some b =>
      cases c with
      | none => rfl
      | some c => exact congrArg some (extBest_assoc hop a b c)

theorem extJoin_none_right (a : Option (Nat × Nat)) : extJoin op fmt a none = a := by
  cases a with
  | none => rfl
  | some a => rfl

/-- The part of an extreme and its count of NaNs. -/
def extPart (t : Option (Nat × Nat) × Nat) : Part := .ext t.1 t.2

/-- Extremes and counts of NaNs, joined. -/
def extAdd (op fmt : Nat) (a b : Option (Nat × Nat) × Nat) : Option (Nat × Nat) × Nat :=
  (extJoin op fmt a.1 b.1, a.2 + b.2)

/-- What one contribution is to an extreme and the count of NaNs. -/
def extTerm (fmt : Nat) (e : Contribution) : Option (Nat × Nat) × Nat :=
  if fmt = 2 && fIsNaN e.1 then (none, 1) else (some (e.1, e.2.1), 0)

theorem extAdd_comm (hop : op = 3 ∨ op = 4) {x y : Contribution} (hne : x.2.1 ≠ y.2.1) :
    extAdd op fmt (extTerm fmt x) (extTerm fmt y) = extAdd op fmt (extTerm fmt y) (extTerm fmt x) := by
  have hbest : extBest op fmt (x.1, x.2.1) (y.1, y.2.1) = extBest op fmt (y.1, y.2.1) (x.1, x.2.1) := extBest_comm hop hne
  unfold extTerm extAdd
  split
  · split
    · rfl
    · rfl
  · split
    · rfl
    · exact Prod.ext (congrArg some hbest) rfl

theorem extPart_extTerm (hop : op = 3 ∨ op = 4) (e : Contribution) :
    extPart (extTerm fmt e) = onePart op fmt e.1 e.2.1 e.2.2 := by
  rcases hop with rfl | rfl
  · exact apply_ite extPart _ _ _
  · exact apply_ite extPart _ _ _

theorem ext_summary (hop : op = 3 ∨ op = 4) : ∃ F, Summary op fmt k dir F := by
  refine ⟨_, summary_of_monoid extPart (extTerm fmt) (extAdd op fmt) (none, 0) ?assoc ?left ?right
    (fun _ _ => extAdd_comm hop) ?empty (extPart_extTerm hop) fun _ _ => rfl⟩
  case assoc => exact fun a b c => Prod.ext (extJoin_assoc hop _ _ _) (Nat.add_assoc _ _ _)
  case left => exact fun a => Prod.ext rfl (Nat.zero_add _)
  case right => exact fun a => Prod.ext (extJoin_none_right _) rfl
  case empty => rcases hop with rfl | rfl <;> rfl

/-! ### TOPK (R385) -/

theorem topBefore_order (dir : Nat) : SortOrder (topBefore dir) := by
  constructor
  case total =>
    intro a b
    simp only [topBefore, Bool.or_eq_true]
    grind
  case trans =>
    intro a b c
    simp only [topBefore]
    grind

/-- An entry before another of another rank has the better value, or an equal one and the lower rank. -/
theorem topBefore_strict {a b : Nat × Nat} (h : topBefore dir a b = true) (hne : a.2 ≠ b.2) :
    (if dir = 0 then b.1 < a.1 else a.1 < b.1) ∨ (a.1 = b.1 ∧ a.2 < b.2) := by
  simp only [topBefore] at h
  grind

theorem topInsert_eq (dir : Nat) (e : Nat × Nat) (t : List (Nat × Nat)) :
    topInsert dir e t = insertBy (topBefore dir) e t := by
  induction t with
  | nil => rfl
  | cons x t ih => rw [topInsert, insertBy, ih]

theorem untied_topBefore {t : List (Nat × Nat)} (h : (t.map (·.2)).Nodup) : Untied (topBefore dir) t := by
  refine (List.pairwise_map.1 h).imp fun {x y} hne => ?_
  rintro ⟨hxy, hyx⟩
  have hlt := topBefore_strict hxy hne
  have hgt := topBefore_strict hyx hne.symm
  grind

/-- The first entries of two lists merge to the first entries of their union. -/
theorem topJoin_firstOf {t u : List (Nat × Nat)} (h : ((t ++ u).map (·.2)).Nodup) :
    topJoin k dir (firstOf (topBefore dir) k t) (firstOf (topBefore dir) k u) = firstOf (topBefore dir) k (t ++ u) := by
  rw [← (topBefore_order dir).firstOf_join (untied_topBefore h), topJoin, insertAll]
  simp only [topInsert_eq]

/-- The entries of TOPK that contributions make. -/
def topEntries (l : List Contribution) : List (Nat × Nat) := l.map fun e => (e.1, e.2.1)

theorem topEntries_append (l m : List Contribution) : topEntries (l ++ m) = topEntries l ++ topEntries m :=
  List.map_append

theorem nodup_topEntries (h : DistinctRanks l) : ((topEntries l).map (·.2)).Nodup := by
  rwa [topEntries, List.map_map]

theorem top_summary (hk : 1 ≤ k) : Summary 8 fmt k dir fun l => .top (firstOf (topBefore dir) k (topEntries l)) where
  empty := congrArg Part.top (firstOf_nil k)
  one e := congrArg Part.top (firstOf_singleton hk _)
  join l m h := by
    have hranks := nodup_topEntries h
    rw [topEntries_append] at hranks ⊢
    exact congrArg Part.top (topJoin_firstOf hranks)
  perm _ _ h hp := congrArg Part.top
    ((topBefore_order dir).firstOf_perm (untied_topBefore (nodup_topEntries h)) (hp.map _))

end Summaries

/-! ## Tables of cells -/

section Tables

variable {α : Type} {key : α → Nat} {merge : α → α → α} {L M : List α}

/-- A cell joined to a table whose keys rise: merged with the cell of its key, or put in its place. -/
def mergeInsert (key : α → Nat) (merge : α → α → α) (g : α) : List α → List α
  | [] => [g]
  | x :: q =>
    if key g < key x then g :: x :: q
    else if key g = key x then merge x g :: q
    else x :: mergeInsert key merge g q

/-- The keys of a table rise. -/
def Rising (key : α → Nat) (L : List α) : Prop := L.Pairwise fun x y => key x < key y

/-- The cell of a key. -/
def cellAt (key : α → Nat) (d : Nat) : List α → Option α
  | [] => none
  | x :: q => if key x = d then some x else cellAt key d q

/-- Two cells of one key that may be there, merged. -/
def mergeCells (merge : α → α → α) : Option α → Option α → Option α
  | some x, some y => some (merge x y)
  | none, y => y
  | x, none => x

theorem cellAt_eq_none {d : Nat} (h : ∀ x ∈ L, key x ≠ d) : cellAt key d L = none := by
  induction L with
  | nil => rfl
  | cons x q ih =>
    obtain ⟨hx, hq⟩ := List.forall_mem_cons.1 h
    rw [cellAt, if_neg hx, ih hq]

theorem Rising.cellAt_eq_some (h : Rising key L) {d : Nat} {x : α} :
    cellAt key d L = some x ↔ x ∈ L ∧ key x = d := by
  induction L with
  | nil => simp [cellAt]
  | cons y q ih =>
    obtain ⟨hy, hq⟩ := List.pairwise_cons.1 h
    rw [cellAt, List.mem_cons]
    by_cases hd : key y = d
    · grind
    · have hq' := ih hq
      grind

theorem Rising.nodup (h : Rising key L) : L.Nodup := by
  refine List.Pairwise.imp (fun hxy heq => ?_) h
  rw [heq] at hxy
  exact Nat.lt_irrefl _ hxy

/-- Tables of the same entries are the same. -/
theorem Rising.ext_mem (hL : Rising key L) (hM : Rising key M) (h : ∀ x, x ∈ L ↔ x ∈ M) : L = M :=
  List.Perm.eq_of_pairwise (fun _ _ _ _ hxy hyx => absurd hxy (Nat.lt_asymm hyx)) hL hM
    ((List.perm_ext_iff_of_nodup hL.nodup hM.nodup).2 h)

/-- Tables of the same cells are the same. -/
theorem Rising.ext (hL : Rising key L) (hM : Rising key M) (h : ∀ d, cellAt key d L = cellAt key d M) : L = M := by
  refine hL.ext_mem hM fun x => ?_
  have hx := hL.cellAt_eq_some (d := key x) (x := x)
  rw [h, hM.cellAt_eq_some] at hx
  simpa using hx.symm

theorem length_le_mergeInsert (g : α) (L : List α) : L.length ≤ (mergeInsert key merge g L).length := by
  induction L with
  | nil => exact Nat.zero_le _
  | cons x q ih =>
    unfold mergeInsert
    split
    · exact Nat.le_succ _
    · split
      · exact Nat.le_refl _
      · exact Nat.succ_le_succ ih

theorem length_le_foldl_mergeInsert (L M : List α) :
    L.length ≤ (M.foldl (fun L g => mergeInsert key merge g L) L).length := by
  induction M generalizing L with
  | nil => exact Nat.le_refl _
  | cons g M ih => exact Nat.le_trans (length_le_mergeInsert g L) (ih _)

section Insertion

variable (hkey : ∀ x y, key (merge x y) = key x)
include hkey

theorem lt_key_mergeInsert {b : Nat} {g : α} (hg : b < key g) (hL : ∀ x ∈ L, b < key x) :
    ∀ x ∈ mergeInsert key merge g L, b < key x := by
  induction L with
  | nil => simpa [mergeInsert] using hg
  | cons y q ih =>
    obtain ⟨hy, hq⟩ := List.forall_mem_cons.1 hL
    unfold mergeInsert
    split
    · exact List.forall_mem_cons.2 ⟨hg, hL⟩
    · split
      · exact List.forall_mem_cons.2 ⟨(hkey y g).symm ▸ hy, hq⟩
      · exact List.forall_mem_cons.2 ⟨hy, ih hq⟩

theorem rising_mergeInsert (h : Rising key L) (g : α) : Rising key (mergeInsert key merge g L) := by
  induction L with
  | nil => exact List.pairwise_singleton _ g
  | cons y q ih =>
    obtain ⟨hy, hq⟩ := List.pairwise_cons.1 h
    unfold mergeInsert
    split
    · next hlt => exact List.pairwise_cons.2 ⟨List.forall_mem_cons.2 ⟨hlt, fun x hx => Nat.lt_trans hlt (hy x hx)⟩, h⟩
    · split
      · exact List.pairwise_cons.2 ⟨fun x hx => (hkey y g).symm ▸ hy x hx, hq⟩
      · exact List.pairwise_cons.2 ⟨lt_key_mergeInsert hkey (by omega) hy, ih hq⟩

/-- An insertion changes the cell of its key alone. -/
theorem cellAt_mergeInsert (h : Rising key L) (g : α) (d : Nat) :
    cellAt key d (mergeInsert key merge g L) =
      if key g = d then mergeCells merge (cellAt key d L) (some g) else cellAt key d L := by
  induction L with
  | nil => rfl
  | cons y q ih =>
    obtain ⟨hy, hq⟩ := List.pairwise_cons.1 h
    unfold mergeInsert
    by_cases hlt : key g < key y
    · rw [if_pos hlt, cellAt]
      by_cases hgd : key g = d
      · have hnone : cellAt key d (y :: q) = none :=
          cellAt_eq_none (List.forall_mem_cons.2 ⟨by omega, fun x hx => by have := hy x hx; omega⟩)
        rw [if_pos hgd, if_pos hgd, hnone, mergeCells]
      · rw [if_neg hgd, if_neg hgd]
    · rw [if_neg hlt]
      by_cases heq : key g = key y
      · rw [if_pos heq, cellAt, cellAt, hkey, heq]
        by_cases hyd : key y = d
        · rw [if_pos hyd, if_pos hyd, if_pos hyd, mergeCells]
        · rw [if_neg hyd, if_neg hyd, if_neg hyd]
      · rw [if_neg heq, cellAt, cellAt, ih hq]
        by_cases hyd : key y = d
        · rw [if_pos hyd, if_pos hyd, if_neg (by omega)]
        · rw [if_neg hyd, if_neg hyd]

/-- The table of two tables: its cells are theirs, those of one key merged. -/
theorem cells_foldl_mergeInsert (hL : Rising key L) (hM : Rising key M) :
    Rising key (M.foldl (fun L g => mergeInsert key merge g L) L) ∧
      ∀ d, cellAt key d (M.foldl (fun L g => mergeInsert key merge g L) L) =
        mergeCells merge (cellAt key d L) (cellAt key d M) := by
  induction M generalizing L with
  | nil => exact ⟨hL, fun d => by cases h : cellAt key d L <;> simp [cellAt, mergeCells, h]⟩
  | cons g q ih =>
    obtain ⟨hg, hq⟩ := List.pairwise_cons.1 hM
    obtain ⟨hrising, hcells⟩ := ih (rising_mergeInsert hkey hL g) hq
    refine ⟨hrising, fun d => ?_⟩
    rw [List.foldl_cons, hcells, cellAt_mergeInsert hkey hL, cellAt]
    by_cases hd : key g = d
    · have hnone : cellAt key d q = none := cellAt_eq_none fun x hx => by have := hg x hx; omega
      rw [if_pos hd, if_pos hd, hnone]
      cases cellAt key d L with
      | none => rfl
      | some x => rfl
    · rw [if_neg hd, if_neg hd]

end Insertion

/-! ### The keys that occur -/

/-- The numbers of a list, each once, rising. -/
def risingOf (l : List Nat) : List Nat := l.foldr (fun d t => mergeInsert id (fun x _ => x) d t) []

theorem mem_mergeInsert_id {d g : Nat} {t : List Nat} :
    d ∈ mergeInsert id (fun x _ => x) g t ↔ d = g ∨ d ∈ t := by
  induction t with
  | nil => exact List.mem_cons
  | cons x q ih =>
    unfold mergeInsert
    split
    · exact List.mem_cons
    · split
      · next hgx =>
        obtain rfl : g = x := hgx
        rw [List.mem_cons, ← or_assoc, or_self]
      · rw [List.mem_cons, ih, List.mem_cons, or_left_comm]

theorem mem_risingOf {d : Nat} {l : List Nat} : d ∈ risingOf l ↔ d ∈ l := by
  induction l with
  | nil => exact Iff.rfl
  | cons g l ih => rw [risingOf, List.foldr_cons, mem_mergeInsert_id, ← risingOf, ih, List.mem_cons]

theorem rising_risingOf (l : List Nat) : Rising id (risingOf l) := by
  induction l with
  | nil => exact List.Pairwise.nil
  | cons g l ih => exact rising_mergeInsert (fun _ _ => rfl) ih g

theorem risingOf_perm {l m : List Nat} (hp : l.Perm m) : risingOf l = risingOf m :=
  (rising_risingOf l).ext_mem (rising_risingOf m) fun d => by rw [mem_risingOf, mem_risingOf, hp.mem_iff]

/-! ### The table of a list of contributions -/

section OfContributions

variable {kof : Contribution → Nat} {cell : Nat → List Contribution → α} {l m : List Contribution}

/-- The contributions of a key. -/
def keyed (kof : Contribution → Nat) (d : Nat) (l : List Contribution) : List Contribution :=
  l.filter fun e => kof e = d

/-- A cell for each key that occurs, made of the contributions of the key, by rising key. -/
def tableOf (kof : Contribution → Nat) (cell : Nat → List Contribution → α) (l : List Contribution) : List α :=
  (risingOf (l.map kof)).map fun d => cell d (keyed kof d l)

theorem keyed_append (d : Nat) (l m : List Contribution) : keyed kof d (l ++ m) = keyed kof d l ++ keyed kof d m :=
  List.filter_append _ _

theorem keyed_eq_nil {d : Nat} (h : d ∉ l.map kof) : keyed kof d l = [] :=
  List.filter_eq_nil_iff.2 fun e he hd => h (List.mem_map.2 ⟨e, he, by simpa using hd⟩)

theorem keyed_ne_nil {d : Nat} (h : d ∈ l.map kof) : keyed kof d l ≠ [] := by
  obtain ⟨e, he, rfl⟩ := List.mem_map.1 h
  exact List.ne_nil_of_mem (List.mem_filter.2 ⟨he, by simp⟩)

theorem tableOf_nil : tableOf kof cell [] = [] := rfl

theorem tableOf_singleton (e : Contribution) : tableOf kof cell [e] = [cell (kof e) [e]] := by
  have hkeyed : keyed kof (kof e) [e] = [e] := by simp only [keyed, decide_true, List.filter_cons_of_pos, List.filter_nil]
  exact congrArg (fun q => [cell (kof e) q]) hkeyed

theorem mem_tableOf {x : α} : x ∈ tableOf kof cell l ↔ ∃ d ∈ l.map kof, cell d (keyed kof d l) = x := by
  simp only [tableOf, List.mem_map (l := risingOf _), mem_risingOf]

theorem tableOf_perm (hcell : ∀ d l m, DistinctRanks l → l.Perm m → cell d l = cell d m) (h : DistinctRanks l)
    (hp : l.Perm m) : tableOf kof cell l = tableOf kof cell m := by
  rw [tableOf, tableOf, risingOf_perm (hp.map kof)]
  exact List.map_congr_left fun d _ => hcell d _ _ (h.sublist List.filter_sublist) (hp.filter _)

theorem rising_tableOf (hcell : ∀ d l, key (cell d l) = d) (l : List Contribution) :
    Rising key (tableOf kof cell l) := by
  refine List.pairwise_map.2 ((rising_risingOf _).imp fun {a b} hab => ?_)
  rwa [hcell, hcell]

theorem cellAt_tableOf (hcell : ∀ d l, key (cell d l) = d) (d : Nat) (l : List Contribution) :
    cellAt key d (tableOf kof cell l) = if d ∈ l.map kof then some (cell d (keyed kof d l)) else none := by
  by_cases h : d ∈ l.map kof
  · rw [if_pos h]
    exact (rising_tableOf hcell l).cellAt_eq_some.2 ⟨mem_tableOf.2 ⟨d, h, rfl⟩, hcell _ _⟩
  · rw [if_neg h]
    refine cellAt_eq_none fun x hx hd => ?_
    obtain ⟨d', hd', rfl⟩ := mem_tableOf.1 hx
    exact h (hd ▸ (hcell d' _).symm ▸ hd')

/-- Where cells merge to the cell of their contributions together, so do tables. -/
theorem foldl_mergeInsert_tableOf (hkey : ∀ x y, key (merge x y) = key x) (hcell : ∀ d l, key (cell d l) = d)
    (hmerge : ∀ d l m, DistinctRanks (l ++ m) → merge (cell d l) (cell d m) = cell d (l ++ m))
    (h : DistinctRanks (l ++ m)) :
    (tableOf kof cell m).foldl (fun L g => mergeInsert key merge g L) (tableOf kof cell l) = tableOf kof cell (l ++ m) := by
  obtain ⟨hrising, hcells⟩ := cells_foldl_mergeInsert hkey (rising_tableOf hcell l) (rising_tableOf (kof := kof) hcell m)
  refine hrising.ext (rising_tableOf hcell _) fun d => ?_
  have hd : DistinctRanks (keyed kof d l ++ keyed kof d m) := by
    rw [← keyed_append]
    exact h.sublist List.filter_sublist
  rw [hcells, cellAt_tableOf hcell, cellAt_tableOf hcell, cellAt_tableOf hcell, keyed_append, List.map_append]
  by_cases hl : d ∈ l.map kof
  · by_cases hm : d ∈ m.map kof
    · rw [if_pos hl, if_pos hm, if_pos (List.mem_append_left _ hl), mergeCells, hmerge d _ _ hd]
    · rw [if_pos hl, if_neg hm, if_pos (List.mem_append_left _ hl), mergeCells, keyed_eq_nil hm, List.append_nil]
      simp
  · rw [if_neg hl, keyed_eq_nil hl, List.nil_append]
    simp only [mergeCells, List.mem_append, hl, false_or]

end OfContributions

end Tables

section TableSummaries

variable {fmt k dir : Nat} {l m : List Contribution}

/-! ### HIST (R382) -/

/-- Counts of a bucket, added by saturation. -/
def bucketMerge (x y : Nat × Nat) : Nat × Nat := (x.1, min 4294967295 (x.2 + y.2))

/-- The entry of a bucket. -/
def bucketCell (b : Nat) (l : List Contribution) : Nat × Nat := (b, min 4294967295 l.length)

/-- The histogram that contributions make. -/
def histOf (l : List Contribution) : List (Nat × Nat) := tableOf (fun e => bucketOf e.1) bucketCell l

theorem look_eq_cellAt (b : Nat) (h : List (Nat × Nat)) : look b h = (cellAt Prod.fst b h).map Prod.snd := by
  induction h with
  | nil => rfl
  | cons x q ih =>
    by_cases hx : x.1 = b
    · rw [look, cellAt, if_pos hx.symm, if_pos hx, Option.map_some]
    · rw [look, cellAt, if_neg (Ne.symm hx), if_neg hx, ih]

theorem put_eq_mergeInsert {b n : Nat} (hn : n ≤ 4294967295) {h : List (Nat × Nat)} (hh : Rising Prod.fst h) :
    put b (min 4294967295 ((look b h).getD 0 + n)) h = mergeInsert Prod.fst bucketMerge (b, n) h := by
  induction h with
  | nil => simp [put, look, mergeInsert, hn]
  | cons x q ih =>
    obtain ⟨c, v⟩ := x
    obtain ⟨hc, hq⟩ := List.pairwise_cons.1 hh
    rcases Nat.lt_trichotomy b c with hlt | rfl | hgt
    · have hnone : look b ((c, v) :: q) = none := by
        rw [look_eq_cellAt, cellAt_eq_none, Option.map_none]
        exact List.forall_mem_cons.2 ⟨Nat.ne_of_gt hlt, fun x hx => Nat.ne_of_gt (Nat.lt_trans hlt (hc x hx))⟩
      rw [put, if_pos hlt, mergeInsert, if_pos hlt, hnone, Option.getD_none, Nat.zero_add, Nat.min_eq_right hn]
    · simp [put, look, mergeInsert, bucketMerge]
    · have hne : ¬b < c ∧ b ≠ c := by omega
      simp [put, look, mergeInsert, hne, ih hq]

theorem foldl_addBucket {h g : List (Nat × Nat)} (hh : Rising Prod.fst h)
    (hg : ∀ x ∈ g, x.2 ≠ 0 ∧ x.2 ≤ 4294967295) :
    g.foldl (fun l e => addBucket l e.1 e.2) h = g.foldl (fun l e => mergeInsert Prod.fst bucketMerge e l) h := by
  induction g generalizing h with
  | nil => rfl
  | cons x q ih =>
    obtain ⟨⟨hpos, hle⟩, hq⟩ := List.forall_mem_cons.1 hg
    rw [List.foldl_cons, List.foldl_cons, addBucket, if_neg hpos, put_eq_mergeInsert hle hh]
    exact ih (rising_mergeInsert (merge := bucketMerge) (fun _ _ => rfl) hh x) hq

theorem histOf_counts : ∀ x ∈ histOf l, x.2 ≠ 0 ∧ x.2 ≤ 4294967295 := by
  intro x hx
  obtain ⟨b, hb, rfl⟩ := mem_tableOf.1 hx
  have hlen := List.length_pos_iff.2 (keyed_ne_nil hb)
  simp only [bucketCell]
  omega

theorem bucketMerge_bucketCell (b : Nat) (l m : List Contribution) :
    bucketMerge (bucketCell b l) (bucketCell b m) = bucketCell b (l ++ m) := by
  refine Prod.ext rfl ?_
  simp only [bucketMerge, bucketCell, List.length_append]
  omega

theorem hist_summary : Summary 7 fmt k dir fun l => .hist (histOf l) where
  empty := congrArg Part.hist tableOf_nil
  one e := congrArg Part.hist (tableOf_singleton e)
  join l m h := by
    have hrising : Rising Prod.fst (histOf l) := rising_tableOf (fun _ _ => rfl) l
    rw [joinPart, foldl_addBucket hrising histOf_counts]
    exact congrArg Part.hist (foldl_mergeInsert_tableOf (fun _ _ => rfl) (fun _ _ => rfl)
      (fun _ _ _ _ => bucketMerge_bucketCell _ _ _) h)
  perm _ _ h hp := congrArg Part.hist
    (tableOf_perm (fun b _ _ _ hp => congrArg (fun n => (b, min 4294967295 n)) hp.length_eq) h hp)

/-! ### DIGEST (R386) -/

/-- The order of the ranks of a group. -/
def rankBefore (a b : Nat × Bool) : Bool := decide (a.1 ≤ b.1)

theorem rankBefore_order : SortOrder rankBefore := by
  constructor
  case total =>
    intro a b
    simp only [rankBefore, Bool.or_eq_true, decide_eq_true_iff]
    exact Nat.le_total a.1 b.1
  case trans =>
    intro a b c
    simp only [rankBefore, decide_eq_true_iff]
    exact Nat.le_trans

theorem rankInsert_eq (e : Nat × Bool) (t : List (Nat × Bool)) : rankInsert e t = insertBy rankBefore e t := by
  induction t with
  | nil => rfl
  | cons x t ih => simp only [rankInsert, insertBy, rankBefore, decide_eq_true_iff, ih]

/-- The ranks that contributions name, each with its KNOWN_POISON bit. -/
def ranksOf (l : List Contribution) : List (Nat × Bool) := l.map (·.2)

theorem DistinctRanks.untied_ranksOf (h : DistinctRanks l) : Untied rankBefore (ranksOf l) :=
  List.pairwise_map.2 (h.pairwise.imp fun hne hle =>
    hne (Nat.le_antisymm (of_decide_eq_true hle.1) (of_decide_eq_true hle.2)))

theorem rankJoin_firstOf (h : DistinctRanks (l ++ m)) :
    rankJoin (firstOf rankBefore 64 (ranksOf l)) (firstOf rankBefore 64 (ranksOf m)) =
      firstOf rankBefore 64 (ranksOf (l ++ m)) := by
  have hranks : ranksOf (l ++ m) = ranksOf l ++ ranksOf m := List.map_append
  have huntied : Untied rankBefore (ranksOf l ++ ranksOf m) := hranks ▸ h.untied_ranksOf
  rw [hranks, ← rankBefore_order.firstOf_join huntied, rankJoin, insertAll]
  simp only [rankInsert_eq]

/-- Groups of one digest, joined. -/
def groupMerge (x g : DGroup) : DGroup := { x with count := x.count + g.count, ranks := rankJoin x.ranks g.ranks }

/-- The group of a digest. -/
def groupCell (d : Nat) (l : List Contribution) : DGroup := ⟨d, l.length, firstOf rankBefore 64 (ranksOf l)⟩

/-- The groups that contributions make, however many. -/
def groupsOf (l : List Contribution) : List DGroup := tableOf (·.1) groupCell l

/-- Groups as a partial keeps them: none for TOO_MANY. -/
def boundGroups (t : List DGroup) : Option (List DGroup) := if 16 < t.length then none else some t

theorem groupInsert_eq (g : DGroup) (t : List DGroup) : groupInsert g t = mergeInsert DGroup.digest groupMerge g t := by
  induction t with
  | nil => rfl
  | cons x t ih => rw [groupInsert, mergeInsert, ih, groupMerge]

theorem groupMerge_groupCell {d : Nat} (h : DistinctRanks (l ++ m)) :
    groupMerge (groupCell d l) (groupCell d m) = groupCell d (l ++ m) := by
  rw [groupMerge, groupCell, groupCell, groupCell, rankJoin_firstOf h, List.length_append]

theorem groupCell_perm (d : Nat) (h : DistinctRanks l) (hp : l.Perm m) : groupCell d l = groupCell d m := by
  rw [groupCell, groupCell, hp.length_eq, rankBefore_order.firstOf_perm h.untied_ranksOf (hp.map _), ranksOf]

theorem foldl_groupInsert (h : DistinctRanks (l ++ m)) :
    (groupsOf m).foldl (fun t g => groupInsert g t) (groupsOf l) = groupsOf (l ++ m) := by
  simp only [groupInsert_eq]
  exact foldl_mergeInsert_tableOf (fun _ _ => rfl) (fun _ _ => rfl) (fun _ _ _ => groupMerge_groupCell) h

theorem groupsOf_singleton (e : Contribution) : groupsOf [e] = [⟨e.1, 1, [e.2]⟩] := by
  have hranks : firstOf rankBefore 64 (ranksOf [e]) = [e.2] := firstOf_singleton (by decide) e.2
  rw [groupsOf, tableOf_singleton, groupCell, hranks]
  rfl

theorem groupsOf_perm (h : DistinctRanks l) (hp : l.Perm m) : groupsOf l = groupsOf m :=
  tableOf_perm (fun d _ _ => groupCell_perm d) h hp

theorem length_groupsOf_left (h : DistinctRanks (l ++ m)) : (groupsOf l).length ≤ (groupsOf (l ++ m)).length := by
  rw [← foldl_groupInsert h]
  simp only [groupInsert_eq]
  exact length_le_foldl_mergeInsert _ _

theorem length_groupsOf_right (h : DistinctRanks (l ++ m)) : (groupsOf m).length ≤ (groupsOf (l ++ m)).length := by
  rw [groupsOf_perm h List.perm_append_comm]
  exact length_groupsOf_left (h.perm List.perm_append_comm)

/-- A TOO_MANY partial comes from a part of contributions with too many digests, which the whole has too. -/
theorem groupJoin_boundGroups (h : DistinctRanks (l ++ m)) :
    groupJoin (boundGroups (groupsOf l)) (boundGroups (groupsOf m)) = boundGroups (groupsOf (l ++ m)) := by
  have hl : (groupsOf l).length ≤ (groupsOf (l ++ m)).length := length_groupsOf_left h
  have hm : (groupsOf m).length ≤ (groupsOf (l ++ m)).length := length_groupsOf_right h
  by_cases hmanyL : 16 < (groupsOf l).length
  · have hmany : 16 < (groupsOf (l ++ m)).length := Nat.lt_of_lt_of_le hmanyL hl
    rw [boundGroups, if_pos hmanyL, boundGroups, boundGroups, if_pos hmany]
    rfl
  · by_cases hmanyM : 16 < (groupsOf m).length
    · have hmany : 16 < (groupsOf (l ++ m)).length := Nat.lt_of_lt_of_le hmanyM hm
      rw [boundGroups, if_neg hmanyL, boundGroups, if_pos hmanyM, boundGroups, if_pos hmany]
      rfl
    · rw [boundGroups, boundGroups, if_neg hmanyL, if_neg hmanyM, groupJoin, foldl_groupInsert h, boundGroups]

theorem digest_summary : Summary 9 fmt k dir fun l => .digest (boundGroups (groupsOf l)) where
  empty := congrArg (fun t => Part.digest (boundGroups t)) tableOf_nil
  one e := congrArg (fun t => Part.digest (boundGroups t)) (groupsOf_singleton e)
  join _ _ h := congrArg Part.digest (groupJoin_boundGroups h)
  perm _ _ h hp := congrArg (fun t => Part.digest (boundGroups t)) (groupsOf_perm h hp)

/-- Every operation of Merge has a summary. -/
theorem exists_summary (op fmt k dir : Nat) (hfirst : 1 ≤ op) (hlast : op ≤ 9) (hk : 1 ≤ k) :
    ∃ F, Summary op fmt k dir F := by
  match op, hfirst, hlast with
  | 1, _, _ => exact sumI_summary
  | 2, _, _ => exact sumF_summary
  | 3, _, _ => exact ext_summary (.inl rfl)
  | 4, _, _ => exact ext_summary (.inr rfl)
  | 5, _, _ => exact count_summary
  | 6, _, _ => exact or_summary
  | 7, _, _ => exact ⟨_, hist_summary⟩
  | 8, _, _ => exact ⟨_, top_summary hk⟩
  | 9, _, _ => exact ⟨_, digest_summary⟩

end TableSummaries

/-- Settles O57: the partial of contributions of distinct ranks is the summary of their list, which has no order and joins
as lists append. -/
theorem orderFree : Obligations.OrderFree := by
  unfold Obligations.OrderFree
  refine ⟨?order, ?merge⟩
  case order =>
    intro op fmt k dir l1 l2 hfirst hlast hk _ hdistinct hperm
    obtain ⟨F, hF⟩ := exists_summary op fmt k dir hfirst hlast hk
    have hdistinct : DistinctRanks l1 := hdistinct
    rw [hF.foldl_eq hdistinct, hF.foldl_eq (hdistinct.perm hperm), hF.perm l1 l2 hdistinct hperm]
  case merge =>
    intro op fmt k dir l1 l2 hfirst hlast hk _ hdistinct
    obtain ⟨F, hF⟩ := exists_summary op fmt k dir hfirst hlast hk
    have hdistinct : DistinctRanks (l1 ++ l2) := hdistinct
    rw [hF.foldl_eq (hdistinct.sublist (List.sublist_append_left l1 l2)),
      hF.foldl_eq (hdistinct.sublist (List.sublist_append_right l1 l2)), hF.foldl_eq hdistinct, hF.join l1 l2 hdistinct]

section Entries

variable {k dir : Nat} {l m : List (Nat × Nat)}

/-- Entries of TOPK as contributions. -/
def contributions (l : List (Nat × Nat)) : List Contribution := l.map fun e => (e.1, e.2, false)

theorem distinctRanks_contributions (h : (l.map (·.2)).Nodup) : DistinctRanks (contributions l) := by
  rwa [DistinctRanks, contributions, List.map_map]

theorem topEntries_contributions (l : List (Nat × Nat)) : topEntries (contributions l) = l := by
  rw [topEntries, contributions, List.map_map]
  exact List.map_id l

theorem foldl_top (hk : 1 ≤ k) (h : (l.map (·.2)).Nodup) :
    l.foldl (fun p e => joinPart 8 1 k dir p (onePart 8 1 e.1 e.2 false)) (emptyPart 8) =
      .top (firstOf (topBefore dir) k l) := by
  have hsum := (top_summary (fmt := 1) (dir := dir) hk).foldl_eq (distinctRanks_contributions h)
  rwa [topEntries_contributions, contributions, List.foldl_map] at hsum

/-- Each entry of the sorted list comes strictly before those after it. -/
theorem pairwise_strict (h : (l.map (·.2)).Nodup) :
    (l.mergeSort (topBefore dir)).Pairwise fun x y =>
      (if dir = 0 then y.1 < x.1 else x.1 < y.1) ∨ (x.1 = y.1 ∧ x.2 < y.2) := by
  have hranks : (l.mergeSort (topBefore dir)).Pairwise fun x y => x.2 ≠ y.2 :=
    List.pairwise_map.1 (((List.mergeSort_perm l _).map _).nodup_iff.2 h)
  exact ((topBefore_order dir).inOrder_mergeSort l).imp₂ (fun _ _ => topBefore_strict) hranks

end Entries

/-- Settles O54: the partial is the first `k` entries of the sorted contributions, and what is left out is the rest. -/
theorem topK : Obligations.TopK := by
  unfold Obligations.TopK
  refine ⟨?first, ?merge⟩
  case first =>
    intro k dir l hk _ _ hdistinct
    have hstrict := pairwise_strict (dir := dir) hdistinct
    rw [← List.take_append_drop k (l.mergeSort (topBefore dir))] at hstrict
    obtain ⟨hkept, -, hleft⟩ := List.pairwise_append.1 hstrict
    refine ⟨_, foldl_top hk hdistinct, ?length, ?mem, hkept, ?left⟩
    case length => rw [firstOf, List.length_take, List.length_mergeSort]
    case mem => exact fun x hx => List.mem_mergeSort.1 (List.mem_of_mem_take hx)
    case left =>
      intro x hx y hy hyt
      have hysort : y ∈ l.mergeSort (topBefore dir) := List.mem_mergeSort.2 hy
      rw [← List.take_append_drop k (l.mergeSort (topBefore dir))] at hysort
      exact hleft x hx y ((List.mem_append.1 hysort).resolve_left hyt)
  case merge =>
    intro k dir l1 l2 hk _ _ hdistinct
    have h1 : (l1.map (·.2)).Nodup := ((List.sublist_append_left l1 l2).map _).nodup hdistinct
    have h2 : (l2.map (·.2)).Nodup := ((List.sublist_append_right l1 l2).map _).nodup hdistinct
    rw [foldl_top hk h1, foldl_top hk h2, foldl_top hk hdistinct]
    exact congrArg Part.top (topJoin_firstOf hdistinct)

end Sys2Proof.Proofs.Reductions
end

section
/-! Job starts and ends at the root, and the broadcasts between modules (O27, O28). Each lemma states the branch of an
operation that the hypotheses of a clause select. -/

namespace Sys2Proof.Proofs.JobStart

open Sys2Proof Sys2Proof.Machine Sys2Proof.Laws

section Root

variable {s : State} {job : Nat} {c : JobCfg} {r : JsRun} {b : Bcast}

/-- START of a configuration that parses and names the job opens its run (spec 13 R397). -/
theorem jsStart_parsed {t : State} (ht : (s.wr (.wdie 0) mergeJsCmdOp 1).wr (.wdie 0) mergeJsCmdJob job = t)
    (hfree : t.findRun job = none) (hparse : parseCfg t.cfgBytes = some c) (hjob : c.job = job) :
    s.jsStart job =
      ((((((t.wr (.wdie 0) mergeJsCmdResult 0).wr (.wdie 0) mergeJsCmdBusy 1).wr (.wdie 0) mergeJsStatReports 0).wr
        (.wdie 0) mergeJsFailReason 0).wr (.wdie 0) mergeJsFailDieIndex 0).setRun
          { job := job, bid := c.bid, phase := 1, goAt := s.now, cfg := c }).rootSend
        { bid := c.bid, kind := 1, sender := none, instant := 0, bytes := t.cfgBytes } c
          (s.cfgPoisoned t.cfgBytes.length) := by
  simp only [State.jsStart, ht, hfree, hparse, hjob, Option.isSome_none, ne_eq, not_true, Bool.false_eq_true, if_false]

theorem jsStart_unparsed {t : State} (ht : (s.wr (.wdie 0) mergeJsCmdOp 1).wr (.wdie 0) mergeJsCmdJob job = t)
    (hfree : t.findRun job = none) (hparse : parseCfg t.cfgBytes = none) :
    s.jsStart job = (t.wr (.wdie 0) mergeJsCmdResult 3).pageErr (.wdie 0) .merge 0x0101 1 := by
  simp only [State.jsStart, ht, hfree, hparse, Option.isSome_none, Bool.false_eq_true, if_false]

/-- END of a job in force opens its run and sends END for its instant (spec 13 R402). -/
theorem jsEnd_inForce {t : State} {instant : Nat}
    (ht : (s.wr (.wdie 0) mergeJsCmdOp 2).wr (.wdie 0) mergeJsCmdJob job = t)
    (hinstant : s.dieTime + baseUs s.dieBase (max 200 (s.rd (.wdie 0) mergeJsLeadCommitLeadUs)) = instant)
    (hfree : t.findRun job = none) (hforce : t.jobOf job = some c) :
    s.jsEnd job =
      (((((t.wr (.wdie 0) mergeJsCmdResult 0).wr (.wdie 0) mergeJsCmdBusy 1).wr (.wdie 0) mergeJsStatReports 0).setRun
        { job := job, bid := c.bid, phase := 4, goAt := s.now, base := s.dieBase, instant := instant, last := s.now,
          cfg := c }).openBcast { bid := c.bid, kind := 4, sender := none, instant := instant, bytes := [] } (some c)
          false).bcastCheck c.bid 4 := by
  simp only [State.jsEnd, ht, hinstant, hfree, hforce, Option.isSome_none, Option.orElse_some, Bool.false_eq_true, if_false]

/-- A start whose deadline has passed is aborted (spec 13 R401). -/
theorem execJsDeadline_due (hrun : s.findRun job = some r) (hphase : r.phase = 1)
    (hdue : r.goAt + s.rd (.wdie 0) mergeJsTimingDeadlineUs * us ≤ s.now) :
    execJsDeadline job s = .next (s.keep (s.abortRun r 4 0)) := by
  simp [execJsDeadline, hrun, hphase, hdue, keeping_next]

/-- A COMMIT acknowledged by every module without a failure ends the start (spec 13 R400). -/
theorem execJsCommitCheck_acknowledged (hrun : s.findRun job = some r) (hphase : r.phase = 2)
    (hdue : r.instant ≤ s.timeIn (.wdie 0) r.base + baseUs r.base 100) (hcommit : s.findBcast r.bid 2 = some b)
    (hdone : b.done = true) (hstatus : b.status = 0) :
    execJsCommitCheck job s = .next (s.keep (s.endRun job 1 3)) := by
  simp [execJsCommitCheck, hrun, hphase, hdue, hcommit, hdone, hstatus, keeping_next]

/-- What is staged and not committed for two deadlines is discarded (spec 13 R401). -/
theorem execJsStagedExpiry_due {bid : Nat} (hstale : (s.jobStage.any fun j => j.cfg.bid == bid && j.instant.isNone &&
      j.at' + 2 * s.rd (.wdie 0) mergeJsTimingDeadlineUs * us ≤ s.now) = true) :
    execJsStagedExpiry bid s = .next (s.keepStores ((s.unstage bid).forgetBcasts bid [1])) := by
  rw [execJsStagedExpiry, if_pos hstale, storeless_next]

theorem execJsEndRepeat_due (hrun : s.findRun job = some r) (hphase : r.phase = 4) (hdue : r.last + ms ≤ s.now)
    (hend : s.findBcast r.bid 4 = some b) : execJsEndRepeat job s = .next (s.keepStores (s.endRepeat r b)) := by
  simp [execJsEndRepeat, hrun, hphase, hdue, hend, storeless_next]

end Root

section Messages

variable {s : State} {sender bid kind : Nat} {b : Bcast}

/-- Messages are received while MERGE is enabled outside Midnight (spec 13 R398). -/
theorem bcastOn_on (f : State → State) (hon : s.mergeOn 0 = true) : s.bcastOn f = f s := if_pos hon

/-- A message that the node does not hold is acknowledged, taken up and checked. -/
theorem bcastIn_new (instant : Nat) (bytes : List Nat) (cfg : Option JobCfg) (hnew : s.findBcast bid kind = none) :
    s.bcastIn sender bid kind instant bytes cfg =
      ((s.sendAck sender bid kind).openBcast
        { bid := bid, kind := kind, sender := some sender, instant := instant, bytes := bytes } cfg
          false).bcastCheck bid kind := by
  simp only [State.bcastIn, hnew, Option.isSome_none, Bool.false_eq_true, if_false]

theorem bcastIn_held (instant : Nat) (bytes : List Nat) (cfg : Option JobCfg) (hheld : s.findBcast bid kind = some b) :
    s.bcastIn sender bid kind instant bytes cfg = s.sendAck sender bid kind := by
  simp only [State.bcastIn, hheld, Option.isSome_some, if_true]

/-- A report of a child of a broadcast that this node received is noted in it. -/
theorem reportIn_child {status die acks : Nat} (hb : s.findBcast bid kind = some b)
    (hchild : (b.kids.any fun k => k.coord == sender && !k.reported) = true) (hsender : b.sender ≠ none) :
    s.reportIn sender bid kind status die acks =
      ((s.setBcast ((b.withKid sender fun k => { k with acked := true, reported := true, lost := false, acks := acks }).fail
        status die)).bcastCheck bid kind).bcastCheck bid 2 := by
  have hnotRoot : b.sender.isNone = false := by simpa [Option.isSome_iff_ne_none] using hsender
  simp only [State.reportIn, hb, hchild, hnotRoot, Bool.false_eq_true, if_true, if_false]

/-- A hop that times out is tried again on the next path of its child. -/
theorem hopTimeout_nextPath {child : Nat} {k : BKid} (hb : s.findBcast bid kind = some b)
    (hkid : (b.kids.find? fun k => k.coord == child) = some k) (hacked : k.acked = false) (hreported : k.reported = false)
    (hlost : k.lost = false)
    (hdue : k.sentAt + s.rd (.wdie 0) mergeJsTimingHopTimeoutUs * us * ((s.pathHops child k.path).getD 1) ≤ s.now)
    (hpath : (s.pathHops child (k.path + 1)).isSome = true) :
    s.hopTimeout bid kind child =
      ((s.setBcast (b.withKid child fun x => { x with path := k.path + 1, sentAt := s.now })).inc (.wdie 0)
        mergeJsStatRetries).sendMsg (b.withKid child fun x => { x with path := k.path + 1, sentAt := s.now }) child
          (k.path + 1) := by
  simp only [State.hopTimeout, hb, hkid, hacked, hreported, hlost, hpath, Nat.not_lt.2 hdue, decide_false, Bool.or_false,
    Bool.false_eq_true, if_true, if_false]

end Messages

/-- Settles O27: each command by the branch that its clause's hypotheses select. -/
theorem jobStarts : Obligations.JobStarts := by
  unfold Obligations.JobStarts
  refine ⟨?start, ?invalid, ?ends, ?deadline, ?commit, ?report, ?expiry, ?endRepeat⟩
  case start =>
    intro job c s t hon hfree hparse hjob
    rw [exec_jsStart, execJsStart, ifOn_on s _ _ _ hon, keeping_next, jsStart_parsed rfl hfree hparse hjob]
  case invalid =>
    intro job s t hon hfree hparse
    rw [exec_jsStart, execJsStart, ifOn_on s _ _ _ hon, keeping_next, jsStart_unparsed rfl hfree hparse]
  case ends =>
    intro job c s t at' hon hfree hforce
    rw [exec_jsEnd, execJsEnd, ifOn_on s _ _ _ hon, keeping_next, jsEnd_inForce rfl rfl hfree hforce]
  case deadline => exact fun _ _ _ hrun hphase hdue => execJsDeadline_due hrun hphase hdue
  case commit =>
    exact fun _ _ _ _ hrun hphase hdue hcommit hdone hstatus =>
      execJsCommitCheck_acknowledged hrun hphase hdue hcommit hdone hstatus
  case report =>
    intro sender bid kind status dieIndex acks b s hon hb hchild hsender
    rw [exec_jsReportReceive, execJsReportReceive, bcastOn_on _ hon, keeping_next, reportIn_child hb hchild hsender]
  case expiry => exact fun _ _ hstale => execJsStagedExpiry_due hstale
  case endRepeat => exact fun _ _ _ _ hrun hphase hdue hend => execJsEndRepeat_due hrun hphase hdue hend

/-- Settles O28: a message by whether the node holds it, an ACK and a hop's timeout by what they find there. -/
theorem broadcasts : Obligations.Broadcasts := by
  unfold Obligations.Broadcasts
  refine ⟨?start, ?again, ?commit, ?abort, ?ends, ?ack, ?hop⟩
  case start =>
    intro sender bid cfg s hon hnew
    rw [exec_bcastStartReceive, execBcastStartReceive, bcastOn_on _ hon, keeping_next, bcastIn_new _ _ _ hnew]
  case again =>
    intro sender bid cfg b s hon hheld
    rw [exec_bcastStartReceive, execBcastStartReceive, bcastOn_on _ hon, keeping_next, bcastIn_held _ _ _ hheld]
  case commit =>
    intro sender bid instant s hon hnew
    rw [exec_bcastCommitReceive, execBcastCommitReceive, bcastOn_on _ hon, keeping_next, bcastIn_new _ _ _ hnew]
  case abort =>
    intro sender bid s hon hnew
    rw [exec_bcastAbortReceive, execBcastAbortReceive, bcastOn_on _ hon, keeping_next, bcastIn_new _ _ _ hnew]
  case ends =>
    intro sender bid instant s hon hnew
    rw [exec_bcastEndReceive, execBcastEndReceive, bcastOn_on _ hon, keeping_next, bcastIn_new _ _ _ hnew]
  case ack =>
    intro sender bid kind b s hon hb
    rw [exec_bcastAckReceive, execBcastAckReceive, bcastOn_on _ hon, storeless_next, hb]
  case hop =>
    intro bid kind child b k s hon hb hkid hacked hreported hlost hdue hpath
    rw [exec_bcastHopTimeout, execBcastHopTimeout, bcastOn_on _ hon, keeping_next,
      hopTimeout_nextPath hb hkid hacked hreported hlost hdue hpath]

end Sys2Proof.Proofs.JobStart
end

section
/-! The features of the Lens front end and the commands of DRIFT (O55, O30). `featGroup` goes through a group of features
in passes; `featGroup_eq` says what each feature gives by itself, and the laws of CROSS features follow from it. -/

namespace Sys2Proof.Proofs.Lens

open Sys2Proof Sys2Proof.Machine Sys2Proof.Laws

section Groups

variable {r : FeatRow} {fs : List LFeat} {off i : Nat} {f g : LFeat}

/-! ## What each feature of a group gives -/

/-- The raw value x of a feature, with whether a lane is missing (spec 14 R408); none for CROSS. -/
def rawOf (r : FeatRow) (off : Nat) (f : LFeat) : Option (Nat × Bool) := if f.op = 4 then none else some (featX r f off)

/-- The y of a feature (spec 14 R410); none for CROSS. -/
def yOf (r : FeatRow) (off : Nat) (f : LFeat) : Option Nat := (rawOf r off f).map fun x => ffma f.a x.1 f.b

/-- The code of a feature by its own y (spec 14 R411), 0xFFFF where it has none. -/
def ownCode (r : FeatRow) (off : Nat) (f : LFeat) : Nat := (yOf r off f).elim 0xFFFF (featCode f.edges)

/-- The code of a feature of the group `fs`: a CROSS feature crosses the own codes of two (spec 14 R412). -/
def codeOf (r : FeatRow) (off : Nat) (fs : List LFeat) (f : LFeat) : Nat :=
  if f.op = 4 then crossCode (nth (fs.map (ownCode r off)) f.featA) (nth (fs.map (ownCode r off)) f.featB) f.mult
  else ownCode r off f

/-- A pass over a list and what an earlier pass made of it is one pass. -/
theorem map_zip_map {α β γ : Type} {l : List α} {a : α → β} {p : α × β → γ} {b : α → γ} (h : ∀ x, p (x, a x) = b x) :
    (l.zip (l.map a)).map p = l.map b := by
  rw [← List.map_prod_left_eq_zip, List.map_map]
  exact List.map_congr_left fun x _ => h x

/-- What the front end makes of a group, feature by feature. -/
theorem featGroup_eq (r : FeatRow) (fs : List LFeat) (off : Nat) : featGroup r fs off =
    { ys := fs.map (yOf r off), codes := fs.map (codeOf r off fs),
      nans := (fs.map (rawOf r off)).countP fun x => x.any fun v => fIsNaN v.1,
      missing := (fs.map (rawOf r off)).any fun x => x.any fun v => v.2 } := by
  have hraw : (fs.map fun f => if f.op = 4 then none else some (featX r f off)) = fs.map (rawOf r off) := rfl
  unfold featGroup
  dsimp only
  rw [hraw, map_zip_map (a := rawOf r off) (b := yOf r off), map_zip_map (a := yOf r off) (b := ownCode r off),
    map_zip_map (a := ownCode r off) (b := codeOf r off fs)]
  · exact fun _ => rfl
  · intro f
    rw [ownCode]
    cases yOf r off f with
    | none => rfl
    | some y => rfl
  · exact fun _ => rfl

theorem rawOf_cross (hop : f.op = 4) : rawOf r off f = none := if_pos hop

/-- A CROSS feature has no y (spec 14 R412). -/
theorem yOf_cross (hop : f.op = 4) : yOf r off f = none := by rw [yOf, rawOf_cross hop, Option.map_none]

theorem ownCode_cross (hop : f.op = 4) : ownCode r off f = 0xFFFF := by rw [ownCode, yOf_cross hop, Option.elim_none]

/-- A feature that is not CROSS has its own code in its group. -/
theorem nth_codes_of_not_cross (hg : fs[i]? = some g) (hop : g.op ≠ 4) :
    nth (featGroup r fs off).codes i = nth (fs.map (ownCode r off)) i := by
  simp [featGroup_eq, nth, hg, codeOf, hop]

theorem crossCode_eq (a b mult : Nat) :
    crossCode a b mult = if a = 0xFFFF ∨ b = 0xFFFF then 0xFFFF else min (a * mult + b) 0xFFFE := by
  simp [crossCode]

/-! ## What the scaling and edges of a CROSS feature leave -/

/-- A list read through a function does not see a replacement that the function does not. -/
theorem map_set_of_eq {α β : Type} {l : List α} {x y : α} {m : α → β} (hx : l[i]? = some x) (hm : m y = m x) :
    (l.set i y).map m = l.map m := by
  obtain ⟨hi, rfl⟩ := List.getElem?_eq_some_iff.1 hx
  rw [List.map_set, hm, ← List.getElem_map m (h := by simpa using hi), List.set_getElem_self]

/-- A group sees of a CROSS feature only what it crosses and MULT (spec 14 R412). -/
theorem featGroup_set_cross (hf : fs[i]? = some f) (hop : f.op = 4) (hop' : g.op = 4) (hA : g.featA = f.featA)
    (hB : g.featB = f.featB) (hmult : g.mult = f.mult) : featGroup r (fs.set i g) off = featGroup r fs off := by
  have hraw : rawOf r off g = rawOf r off f := by rw [rawOf_cross hop, rawOf_cross hop']
  have hy : yOf r off g = yOf r off f := by rw [yOf_cross hop, yOf_cross hop']
  have hown : ownCode r off g = ownCode r off f := by rw [ownCode_cross hop, ownCode_cross hop']
  have hcodes : codeOf r off (fs.set i g) = codeOf r off fs := by
    funext x
    rw [codeOf, codeOf, map_set_of_eq hf hown]
  have hcode : codeOf r off fs g = codeOf r off fs f := by
    rw [codeOf, codeOf, if_pos hop, if_pos hop', hA, hB, hmult]
  rw [featGroup_eq, featGroup_eq, hcodes, map_set_of_eq hf hraw, map_set_of_eq hf hy, map_set_of_eq hf hcode]

end Groups

/-- A load takes a CROSS descriptor only where both features that it names are there and are not CROSS (spec 14 R419). -/
theorem featOk_cross {n : Nat} {all : List LFeat} {v : Nat} {f : LFeat} (hop : f.op = 4) (hok : featOk n all v f = true) :
    (∃ g, all[f.featA]? = some g ∧ g.op ≠ 4) ∧ ∃ g, all[f.featB]? = some g ∧ g.op ≠ 4 := by
  simp only [featOk, Bool.and_eq_true] at hok
  obtain ⟨⟨-, hcross⟩, -⟩ := hok
  simp only [hop, bne_self_eq_false, Bool.false_or, Bool.and_eq_true, Option.any_eq_true, bne_iff_ne] at hcross
  exact hcross.1

/-- Settles O55: by what each feature of a group gives, and by the check that a load makes of a descriptor. -/
theorem crossFeatures : Obligations.CrossFeatures := by
  unfold Obligations.CrossFeatures
  refine ⟨?codes, ?load, ?scaling⟩
  case codes =>
    intro r fs off i f g h hf hop hA hopA hB hopB
    rw [nth_codes_of_not_cross hA hopA, nth_codes_of_not_cross hB hopB, ← crossCode_eq, featGroup_eq]
    simp [hf, yOf_cross hop, codeOf, hop]
  case load =>
    intro n all v f hop hok
    exact featOk_cross hop hok
  case scaling =>
    intro r fs off i a b edges f hf hop
    exact featGroup_set_cross hf hop hop rfl rfl rfl

/-- Settles O30: each command of an enabled DRIFT page by its definition, WRITE by whether its settings are refused, and
READ by what each field reads after it. -/
theorem driftCommands : Obligations.DriftCommands := by
  unfold Obligations.DriftCommands
  refine ⟨?read, ?shown, ?refused, ?stored, ?reset⟩
  case read =>
    intro d s henabled
    rw [exec_driftRead, execDriftRead, ifOn_on _ _ _ _ henabled, storeless_next]
  case shown =>
    intro d s x
    simp (disch := exact key_ne_of_code _ (by decide)) only [State.driftRead, State.driftResult, rd_wr_same, rd_wr_ne]
    exact ⟨rfl, rfl, rfl, rfl, rfl, rfl, rfl, rfl⟩
  case refused =>
    intro d s u henabled hbad
    rw [exec_driftWrite, execDriftWrite, ifOn_on _ _ _ _ henabled, State.driftWrite, if_pos hbad,
      storeless_next, State.driftResult]
  case stored =>
    intro d s u k m x y henabled hgood
    rw [exec_driftWrite, execDriftWrite, ifOn_on _ _ _ _ henabled, State.driftWrite, if_neg (Bool.eq_false_iff.1 hgood),
      storeless_next, State.driftResult]
  case reset =>
    intro d s henabled
    rw [exec_driftReset, execDriftReset, ifOn_on _ _ _ _ henabled, State.driftReset, storeless_next, State.driftResult]

end Sys2Proof.Proofs.Lens
end

section
/-! Event rings and the black box (O32): buckets and clearing, the pages that the NOR takes, the commits of the last gasp.
Each lemma states the branch of an operation that the conditions of its rule select. -/

namespace Sys2Proof.Proofs.BlackBox

open Sys2Proof Sys2Proof.Machine Sys2Proof.Laws

section Records

variable {s : State} {u : Chip} {d : Nat}

/-! ## Buckets and clearing (spec 15 R454, R457) -/

section BktCfg

variable {k value : Nat} (hk : s.rd u evrBktSelIdx = k)
include hk

/-- A BURST above 0 is taken, and the tokens held are clamped to it. -/
theorem bktCfgWrite_burst (hburst : bitsOf value 16 16 ≠ 0) :
    s.bktCfgWrite u value =
      (((s.wr u (evrRate k) (bitsOf value 0 16)).wr u (evrTokAt k) s.now).wr u (evrBurst k) (bitsOf value 16 16)).wr
        u (evrTok k) (min (s.tokensNow u k) (bitsOf value 16 16 * 1000000000)) := by
  unfold State.bktCfgWrite
  rw [hk]
  exact if_neg hburst

/-- A BURST of 0 is refused; RATE is taken and the tokens are kept. -/
theorem bktCfgWrite_noBurst (hburst : bitsOf value 16 16 = 0) :
    s.bktCfgWrite u value =
      (((s.wr u (evrRate k) (bitsOf value 0 16)).wr u (evrTokAt k) s.now).wr u (evrTok k) (s.tokensNow u k)).pageErr
        u .evr 0x0101 1 := by
  unfold State.bktCfgWrite
  rw [hk]
  exact if_pos hburst

end BktCfg

/-- CLEAR without a grant of scope CLEAR is refused. -/
theorem evrClear_unauth (hgrant : s.on u authStatClear = false) : s.evrClear u = s.pageErr u .evr 0x0100 1 := by
  simp [State.evrClear, hgrant]

/-- CLEAR of a W-die's ring under a grant: TAIL becomes HEAD and EVR_CLEARED names what the ring held. -/
theorem evrClear_wdieRing (hgrant : s.on (.wdie d) authStatClear = true) (hscope : s.rd (.wdie d) evrCtrlScope = 0) :
    s.evrClear (.wdie d) =
      ((s.wr (.wdie d) evrTailIdx (s.rd (.wdie d) evrHeadIdx)).event (.wdie d) .evr 0x0F09 1
        (pay [(0, 0), (((s.ringHeld (.wdie d)).head?.map (·.seq)).getD (s.rd (.wdie d) evrSeqNext), 32),
          (((s.ringHeld (.wdie d)).getLast?.map (·.seq)).getD (s.rd (.wdie d) evrSeqNext), 64),
          (s.rd (.wdie d) authLastTokenId % 4294967296, 96)])).int (.wdie d) .evr 2 := by
  simp [State.evrClear, hgrant, hscope, Chip.isIkb]

/-! ## Pages and commits (spec 15 R460 to R463) -/

/-- The oldest page is programmed while the NOR answers and no commit runs. -/
theorem execBbxPageProgrammed_ready {pg : List EvRec} {r : List (List EvRec)} (hpages : s.bbxPages = pg :: r)
    (hok : s.on (.wdie 0) bbxStatNorOk = true) (hidle : s.on (.wdie 0) bbxStatLgBusy = false) :
    execBbxPageProgrammed s = .next (s.keep (State.bbxAdvance
      { s with bbxPages := r,
               nor := memWriteList norDflt (pageBytes pg)
                 (bbxFirst + s.rd (.wdie 0) bbxWrPtrBlock * 65536 + s.rd (.wdie 0) bbxWrPtrPage * 256) s.nor })) := by
  simp [execBbxPageProgrammed, hpages, hok, hidle]

/-- The causes of a commit, bit by bit: the one that began it and those seen while it ran (spec 15 R461). -/
def gaspCauses (s : State) : Nat := s.rd (.wdie 0) lgCause ||| s.rd (.wdie 0) lgSeen

/-- A commit's end writes the block; FATAL goes before WATCHDOG in what follows it. -/
theorem lastGaspDone_busy (hbusy : s.on (.wdie 0) bbxStatLgBusy = true) :
    s.lastGaspDone =
      if bitAt (gaspCauses s) 1 = 1 then s.gaspCommit.warmStart 5
      else if bitAt (gaspCauses s) 2 = 1 then s.gaspCommit.warmStart 4
      else s.gaspCommit := by
  unfold State.lastGaspDone
  dsimp only
  rw [hbusy]
  rfl

end Records

/-- Settles O32: each command by the branch that its clause's conditions select. -/
theorem eventsAndBlackBox : Obligations.EventsAndBlackBox := by
  unfold Obligations.EventsAndBlackBox
  refine ⟨?summary, ?burst, ?burstZero, ?clearRefused, ?clear, ?flushDue, ?flush, ?otherDies, ?programmed, ?noPage,
    ?overrun, ?commitNow, ?committed, ?fatal, ?watchdog⟩
  case summary => exact fun _ _ => rfl
  case burst =>
    intro u value s k hburst
    rw [exec_evrBktCfgWrite, execEvrBktCfgWrite, bktCfgWrite_burst rfl hburst, storeless_next]
  case burstZero =>
    intro u value s k hburst
    rw [exec_evrBktCfgWrite, execEvrBktCfgWrite, bktCfgWrite_noBurst rfl hburst, storeless_next]
  case clearRefused =>
    intro u s hgrant
    rw [exec_evrClear, execEvrClear, evrClear_unauth hgrant, keeping_next]
  case clear =>
    intro d s u l q hgrant hscope
    rw [exec_evrClear, execEvrClear, evrClear_wdieRing hgrant hscope, keeping_next]
  case flushDue =>
    intro s hdue
    rw [exec_bbxPageFlush, execBbxPageFlush, if_pos hdue, storeless_next, State.bbxQueuePartial]
  case flush => exact fun _ => rfl
  case otherDies =>
    intro d s hd
    rw [exec_bbxFlush, execBbxFlush, exec_bbxCommitNow, execBbxCommitNow, if_neg hd, if_neg hd]
    exact ⟨rfl, rfl⟩
  case programmed =>
    intro pg r s hpages hok hidle
    rw [exec_bbxPageProgrammed, execBbxPageProgrammed_ready hpages hok hidle]
  case noPage =>
    intro s hnone
    rw [exec_bbxPageProgrammed, execBbxPageProgrammed, hnone]
    rfl
  case overrun =>
    intro s hcount
    simp only [exec_bbxOverrunSecond, execBbxOverrunSecond, if_neg hcount, storeless_next]
  case commitNow => exact fun _ => rfl
  case committed =>
    intro s hbusy hnotFatal hnotWatchdog
    rw [exec_lastGaspDone, execLastGaspDone, lastGaspDone_busy hbusy, gaspCauses, if_neg (by omega), if_neg (by omega),
      keeping_next]
  case fatal =>
    intro s hbusy hfatal
    rw [exec_lastGaspDone, execLastGaspDone, lastGaspDone_busy hbusy, gaspCauses, if_pos hfatal, keeping_next]
  case watchdog =>
    intro s hbusy hnotFatal hwatchdog
    rw [exec_lastGaspDone, execLastGaspDone, lastGaspDone_busy hbusy, gaspCauses, if_neg (by omega), if_pos hwatchdog,
      keeping_next]

end Sys2Proof.Proofs.BlackBox
end

section
/-! The control cores (O34) and their background work (O36). A command of CORE or SCRUB acts while its page is enabled;
what it then does has one lemma per operation, and a clause takes the branch that its hypotheses select. -/

namespace Sys2Proof.Proofs.Cores

open Sys2Proof Sys2Proof.Machine Sys2Proof.Laws

section Cores

variable {s : State} {u : Chip} {c : Nat}

/-! ## START, HALT and power (spec 16 R477, R488, R494) -/

section Start

variable {h body : List Nat} (hc : c < coreCount u) (hhalted : s.coreState u c = 1)
  (himage : s.imageAt u false = some (h, body))
include hc hhalted himage

/-- START of a HALTED core runs the current image if it has the verified hash and its interface agrees. -/
theorem coreStart_verified
    (hhash : look (hashKey u false) s.imgHash = some (sha384 (body.take ((compOf h).codeLen + (compOf h).dataLen))))
    (hagree : s.ifacesAgree u (compOf h) = true) :
    s.coreStart u c false = (s.coreRun u c false (compOf h) body, true) := by
  simp [State.coreStart, Nat.not_le.2 hc, hhalted, himage, hhash, hagree]

/-- START of a HALTED core is refused while no image of the part is verified. -/
theorem coreStart_unverified (hhash : look (hashKey u false) s.imgHash = none) :
    s.coreStart u c false = (s.pageErr u .core 0x0100 1, false) := by
  simp [State.coreStart, Nat.not_le.2 hc, hhalted, himage, hhash]

end Start

/-- HALT of a running core by a requester below 2, which is no core, stops it with cause 1. -/
theorem coreHalt_byNoCore {r : Nat} (hr : r < 2) (hc : c < coreCount u) (hruns : s.coreRuns u c = true) :
    s.coreHalt u r c = s.coreStop u c 1 := by
  have hikb : r ≠ 2 + c := by omega
  have hwdie : r ≠ 9 + c := by omega
  cases u with
  | ikb p => simp [State.coreHalt, Nat.not_le.2 hc, hruns, hikb]
  | wdie d => simp [State.coreHalt, Nat.not_le.2 hc, hruns, hwdie]
  | pkg => exact absurd hc (Nat.not_lt_zero c)

/-- HALT of a core that does not run, or that the part has not, is refused whoever asks. -/
theorem coreHalt_refused (r : Nat) (hstopped : coreCount u ≤ c ∨ s.coreRuns u c = false) :
    s.coreHalt u r c = s.pageErr u .core 0x0101 1 := by
  have hrefused : (decide (coreCount u ≤ c) || !s.coreRuns u c) = true := by simpa using hstopped
  exact if_pos hrefused

/-- POWER_OFF takes a HALTED core to OFF and is refused in every other state. -/
theorem corePowerOff_eq : s.corePowerOff u c =
    if coreCount u ≤ c ∨ s.coreState u c ≠ 1 then s.pageErr u .core 0x0101 1 else s.wr u (coreCoreStatState c) 0 := by
  simp [State.corePowerOff, State.coreParam]

/-- POWER_ON takes an OFF core to HALTED and is refused in every other state. -/
theorem corePowerOn_eq : s.corePowerOn u c =
    if coreCount u ≤ c ∨ s.coreState u c ≠ 0 then s.pageErr u .core 0x0101 1 else s.wr u (coreCoreStatState c) 1 := by
  simp [State.corePowerOn, State.coreParam]

/-! ## PROMOTE and core memory (spec 16 R495, R504) -/

/-- PROMOTE of a verified next image that every running core runs makes it, its interface and its hash the current ones. -/
theorem promote_verified {d x : Nat} (hverified : s.on (.wdie d) coreNextStatVerified = true)
    (hall : ((s.kin (.wdie d)).all fun v => (List.range 4).all fun c => !s.coreRuns v c || s.on v (coreOnNext c)) = true)
    (hhash : look (hashKey (.wdie d) true) s.imgHash = some x) :
    s.promote d =
      let u := Chip.wdie d
      let t := ((s.wr u coreImgCurAddr (s.rd u coreImgNextAddr)).wr u coreCurInfoIface (s.rd u coreNextInfoIface)).wr
        u coreCurInfoCompatMin (s.rd u coreNextInfoCompatMin)
      { t with imgHash := put (hashKey u false) x t.imgHash } := by
  unfold State.promote
  dsimp only
  rw [hverified, hall, hhash]
  rfl

/-- PROMOTE without a verified next image is refused. -/
theorem promote_unverified {d : Nat} (hunverified : s.on (.wdie d) coreNextStatVerified = false) :
    s.promote d = s.pageErr (.wdie d) .core 0x0101 1 := by
  simp [State.promote, State.coreParam, hunverified]

/-- A write of MEM_DATA outside the instruction memory of a running core. -/
theorem memAccess_write (value : Nat) (hidle : ((s.bankOf u).any fun c => s.coreRuns u c) = false) :
    s.memAccess u true value = (0, (s.memPut u (s.bankOf u) (value % 4294967296)).memNext u) := by
  simp [State.memAccess, hidle]

end Cores

/-- Settles O34: each command of an enabled CORE page by what its operation does in the core's state. -/
theorem coreCommands : Obligations.CoreCommands := by
  unfold Obligations.CoreCommands
  refine ⟨?start, ?startRefused, ?halt, ?haltRefused, ?off, ?offRefused, ?on, ?onRefused, ?promote, ?promoteRefused,
    ?memRead, ?memWrite⟩
  case start =>
    intro u c h body s hon hc hhalted hcurrent himage hhash hagree
    rw [exec_coreStart, execCoreStart, ifOn_on _ _ _ _ hon, hcurrent, coreStart_verified hc hhalted himage hhash hagree,
      storeless_next]
  case startRefused =>
    intro u c h body s hon hc hhalted hcurrent himage hhash
    rw [exec_coreStart, execCoreStart, ifOn_on _ _ _ _ hon, hcurrent, coreStart_unverified hc hhalted himage hhash,
      storeless_next]
  case halt =>
    intro u r c s hon hc hruns hr
    rw [exec_coreHalt, execCoreHalt, ifOn_on _ _ _ _ hon, coreHalt_byNoCore hr hc hruns, storeless_next]
  case haltRefused =>
    intro u r c s hon hstopped
    rw [exec_coreHalt, execCoreHalt, ifOn_on _ _ _ _ hon, coreHalt_refused r hstopped, storeless_next]
  case off =>
    intro u c s hon hc hhalted
    rw [exec_corePowerOff, execCorePowerOff, ifOn_on _ _ _ _ hon, corePowerOff_eq, if_neg (by omega), storeless_next]
  case offRefused =>
    intro u c s hon hother
    rw [exec_corePowerOff, execCorePowerOff, ifOn_on _ _ _ _ hon, corePowerOff_eq, if_pos hother, storeless_next]
  case on =>
    intro u c s hon hc hoff
    rw [exec_corePowerOn, execCorePowerOn, ifOn_on _ _ _ _ hon, corePowerOn_eq, if_neg (by omega), storeless_next]
  case onRefused =>
    intro u c s hon hother
    rw [exec_corePowerOn, execCorePowerOn, ifOn_on _ _ _ _ hon, corePowerOn_eq, if_pos hother, storeless_next]
  case promote =>
    intro d x s u hon hverified hall hhash
    rw [exec_corePromote, execCorePromote, ifOn_on _ _ _ _ hon, promote_verified hverified hall hhash, storeless_next]
  case promoteRefused =>
    intro d s hon hunverified
    rw [exec_corePromote, execCorePromote, ifOn_on _ _ _ _ hon, promote_unverified hunverified, storeless_next]
  case memRead => exact fun _ _ _ _ => rfl
  case memWrite =>
    intro u r value s hidle
    rw [exec_coreMemAccess, execCoreMemAccess, memAccess_write value hidle, storeless_next]

section Background

variable {s : State} {u : Chip}

/-! ## Windows, scrub and patrol (spec 16 R501 to R503) -/

section Windows

variable {c cycles busy bg : Nat} {t : State} (hon : s.enabled u .core = true)
  (ht : (s.inc u (coreCoreBusyCycles c) busy).inc u (coreCoreBgCycles c) bg = t)
include hon ht

/-- A window with more than BG_PCT of background cycles sets BG_OVER and tells the share. -/
theorem execBgWindow_over (hshare : t.rd u coreBgCfgBgPct * cycles < 100 * bg) :
    execBgWindow u c cycles busy bg s = .next (s.keepStores
      (((t.wr u (coreCoreBgctlBgOver c) 1).int u .core (4 + c)).event u .core 0x100B 1
        (pay [(c, 0), (100 * bg / cycles, 8)]))) := by
  simp only [execBgWindow, ifOn_on _ _ _ _ hon, ht, if_pos hshare, storeless_next]

/-- A window within BG_PCT adds its counts alone. -/
theorem execBgWindow_within (hshare : 100 * bg ≤ t.rd u coreBgCfgBgPct * cycles) :
    execBgWindow u c cycles busy bg s = .next (s.keepStores t) := by
  simp only [execBgWindow, ifOn_on _ _ _ _ hon, ht, if_neg (Nat.not_lt.2 hshare), storeless_next]

end Windows

/-- An uncorrectable word of a running core's memory stops the core with cause 3 and is told. -/
theorem execSramScrubError_running {core addr : Nat} {data : Bool} (hruns : s.coreRuns u core = true) :
    execSramScrubError u 3 core data addr s = .next (s.keepStores
      ((s.coreStop u core 3).event u .core 0x100A 2 (pay [(core, 0), (data.toNat, 4), (addr, 32)]))) := by
  simp [execSramScrubError, hruns]

/-- A patrol pass that runs and completes within PERIOD_H starts the next and raises its interrupt. -/
theorem execPatrolPass_inTime {d : Nat} (hpatrol : s.on (.wdie d) scrubCtrlPatrolEn = true)
    (hrunning : s.on (.wdie d) scrubProgressPaused = false) (hon : s.enabled (.wdie d) .scrub = true)
    (htime : s.now ≤ s.rd (.wdie d) patrolAt + s.rd (.wdie d) scrubPatrolPeriodH * 3600 * sec) :
    execPatrolPass d true s = .next (s.keepStores
      (((s.wr (.wdie d) patrolAt s.now).wr (.wdie d) scrubProgressPct 0).int (.wdie d) .scrub 0)) := by
  simp [execPatrolPass, hpatrol, hrunning, ifOn_on _ _ _ _ hon, Nat.not_lt.2 htime]

/-! ## Loads of an IKB (spec 18 R544) -/

/-- A load whose failure lies ten seconds back begins again. -/
theorem execIkbLoadRetry_due {p : Nat} (hfailed : s.rd (dieOfPort p) (loadFailed (linkOfPort p)) ≠ 0)
    (hdue : s.rd (dieOfPort p) (loadFailed (linkOfPort p)) + 10 * sec ≤ s.now + 1) :
    execIkbLoadRetry p s = .next (s.keepStores (s.loadBegin p)) := by
  simp [execIkbLoadRetry, hfailed, hdue]

end Background

/-- Settles O36: a window by its share of background cycles, an SRAM error by its kind, the others by the conditions of
their rules. -/
theorem backgroundWork : Obligations.BackgroundWork := by
  unfold Obligations.BackgroundWork
  refine ⟨?overPct, ?withinPct, ?ikbSram, ?wdieSram, ?ownWord, ?shared, ?patrol, ?dramRecal, ?adcRecal, ?loadRetry⟩
  case overPct =>
    intro u c cycles busy bg s t hon hover
    rw [exec_bgWindow, execBgWindow_over hon rfl hover]
  case withinPct =>
    intro u c cycles busy bg s t hon hwithin
    rw [exec_bgWindow, execBgWindow_within hon rfl hwithin]
  case ikbSram => exact fun _ _ _ _ _ => ⟨rfl, rfl⟩
  case wdieSram => exact fun _ _ _ _ _ => ⟨rfl, rfl, rfl⟩
  case ownWord =>
    intro u core data addr s hruns
    rw [exec_sramScrubError, execSramScrubError_running hruns]
  case shared => exact fun _ _ _ _ _ => rfl
  case patrol =>
    intro d s u hpatrol hrunning hon htime
    rw [exec_patrolPass, execPatrolPass_inTime hpatrol hrunning hon htime]
  case dramRecal =>
    intro d channel s hon
    rw [exec_scrubRecal, execScrubRecal, ifOn_on _ _ _ _ hon, storeless_next]
  case adcRecal =>
    intro p channel s hon
    rw [exec_adcBgRecal, execAdcBgRecal, ifOn_on _ _ _ _ hon, storeless_next]
  case loadRetry =>
    intro p s x hfailed hdue
    rw [exec_ikbLoadRetry, execIkbLoadRetry_due hfailed hdue]

end Sys2Proof.Proofs.Cores
end

section
/-! The tray bus and the hot-swap controller of the field side (O41). What the controller does needs the field side's
supply (`fieldOn_on`); each lemma then states the branch that the bus, the FET and the time select. -/

namespace Sys2Proof.Proofs.HotSwap

open Sys2Proof Sys2Proof.Machine Sys2Proof.Laws

section Bus

variable {s : State} {code : Nat}

/-! ## The bus (spec 17 R509, R514) -/

/-- BUS_LOW entered from a bus that was not low: its record without a frame of its own, the alarm frame, its capture. -/
theorem busLowAt_entered (hhigh : s.field.busLow = false) :
    s.busLowAt code =
      (State.fieldEvent { s with field := { s.field with
          busLow := true, lowAt := s.now + 1, ch0 := code % 65536, capturing := true } }
        0x1103 2 (pay [(code % 65536, 0), (s.field.hsFault.toNat, 16)]) false).alarmFrame 0x90 := by
  simp [State.busLowAt, hhigh]

/-- The bus's return with the FET on ends BUS_LOW. -/
theorem busRestored_fetOn (hlow : s.field.busLow = true) (hfet : s.field.hsOn = true) :
    s.busRestored code =
      (State.alarmFrame { s with field := { s.field with busLow := false, lowAt := 0, ch0 := code % 65536 } }
        0x10).fieldEvent 0x1104 1 ((s.now + 1 - s.field.lowAt) / ms % 4294967296) := by
  simp [State.busRestored, hlow, hfet]

/-- A capture that runs is written to the next slot, which moves on. -/
theorem capture17_running (pairs : List (Nat × Nat)) (hcapturing : s.field.capturing = true) :
    s.capture17 pairs =
      { s with mram := memWriteList mramDflt ((pairs.take 1024).map fun e => bytesLE 2 e.1 ++ bytesLE 2 e.2).flatten
                         (0x1000 + 4096 * s.field.capSlot) s.mram,
               field := { s.field with capturing := false, capSlot := (s.field.capSlot + 1) % 4 } } := by
  simp [State.capture17, hcapturing]

/-! ## The FET (spec 17 R510, R529) -/

/-- A retry of the FET is due 5 s after the fault, while fewer than three were made. -/
theorem execHsRetry_due (hon : s.field.running = true) (hopen : s.field.openAt ≠ 0) (hleft : s.field.retries < 3)
    (hdue : s.field.openAt + 5 * sec ≤ s.now + 1) :
    execHsRetry s = .next (s.keepStores
      { s with field := { s.field.closed with retries := s.field.retries + 1 } }) := by
  simp [execHsRetry, fieldOn_on _ _ hon, hopen, Nat.not_le.2 hleft, Nat.not_lt.2 hdue]

/-- The FET opens 10 ms after HS_OFF. -/
theorem execHsOffOpen_due (hon : s.field.running = true) (hoff : s.field.offAt ≠ 0)
    (hdue : s.field.offAt + 10 * ms ≤ s.now + 1) :
    execHsOffOpen s = .next (s.keepStores
      { s with field := { s.field with hsOn := false, hsPg := false, offAt := 0, offOpenAt := s.now + 1 } }) := by
  simp [execHsOffOpen, fieldOn_on _ _ hon, hoff, Nat.not_lt.2 hdue]

/-- The FET closes ON_AFTER_S after HS_OFF opened it. -/
theorem execHsOnAfter_due (hon : s.field.running = true) (hopened : s.field.offOpenAt ≠ 0) (hafter : s.field.onAfter ≠ 0)
    (hdue : s.field.offOpenAt + s.field.onAfter * sec ≤ s.now + 1) :
    execHsOnAfter s = .next (s.keepStores { s with field := s.field.closed }) := by
  simp [execHsOnAfter, fieldOn_on _ _ hon, hopened, hafter, Nat.not_lt.2 hdue]

/-! ## Records and the image's watchdog (spec 17 R518, R524) -/

/-- A second after the latest summary each code with suppressed records is told. -/
theorem execFieldSuppressed_due (hon : s.field.running = true) (hdue : s.field.suppAt + sec ≤ s.now) :
    execFieldSuppressed s = .next (s.keep (s.field.supp.foldl
      (fun (t : State) e => t.fieldEvent 0x1112 0 (pay [(e.1, 0), (e.2 % 4294967296, 16)]))
      { s with field := { s.field with supp := [], suppAt := s.now } })) := by
  simp [execFieldSuppressed, hon, Nat.not_lt.2 hdue]

end Bus

/-- Settles O41: each happening of the supplied field side by the branch that its clause's conditions select; a reset and
the fall of the host supply need no condition. -/
theorem busAndHotSwap : Obligations.BusAndHotSwap := by
  unfold Obligations.BusAndHotSwap
  refine ⟨?low, ?restored, ?overVoltage, ?fault, ?insertion, ?retry, ?offOpen, ?onAfter, ?capture, ?suppressed, ?watchdog,
    ?fieldReset, ?supplyFall⟩
  case low =>
    intro code s hon hhigh
    rw [exec_busLow, execBusLow, fieldOn_on _ _ hon, busLowAt_entered hhigh, keeping_next]
  case restored =>
    intro code s hon hlow hfet
    rw [exec_busRestored, execBusRestored, fieldOn_on _ _ hon, busRestored_fetOn hlow hfet, keeping_next]
  case overVoltage =>
    intro code s hon
    rw [exec_busOv, execBusOv, fieldOn_on _ _ hon, keeping_next]
  case fault =>
    intro cause code s hon
    rw [exec_hsFault, execHsFault, fieldOn_on _ _ hon, State.fetFault, keeping_next]
  case insertion =>
    intro s hon hopen
    rw [exec_hsInsertion, execHsInsertion, fieldOn_on _ _ hon, if_neg (ne_true_of_eq_false hopen), storeless_next]
  case retry => exact fun _ hon hopen hleft hdue => execHsRetry_due hon hopen hleft hdue
  case offOpen => exact fun _ hon hoff hdue => execHsOffOpen_due hon hoff hdue
  case onAfter => exact fun _ hon hopened hafter hdue => execHsOnAfter_due hon hopened hafter hdue
  case capture =>
    intro pairs s hon hcapturing
    rw [exec_busCaptureFreeze, execBusCaptureFreeze, fieldOn_on _ _ hon, capture17_running pairs hcapturing, keeping_next]
  case suppressed => exact fun _ hon hdue => execFieldSuppressed_due hon hdue
  case watchdog =>
    intro s hon himage
    rw [exec_fieldWatchdogExpiry, execFieldWatchdogExpiry, fieldOn_on _ _ hon, if_neg himage, storeless_next]
  case fieldReset => exact fun _ => rfl
  case supplyFall => exact fun _ => rfl

end Sys2Proof.Proofs.HotSwap
end

section
/-! Starts of the package (O44): what begins one, and as which kind; what a ready warm start does; the limits of the steps. -/

namespace Sys2Proof.Proofs.Starts

open Sys2Proof Sys2Proof.Machine Sys2Proof.Laws

section Begins

variable {s : State} {cause d : Nat}

/-! ## Causes and kinds (spec 15 R440, 18 R535, R537) -/

/-- With its key START_CTRL.WARM begins a warm start, of cause 1 over PCIe (requester 0) and 7 from a core. -/
theorem execStartWarm_eq (r key : Nat) : execStartWarm r key s = .next (s.keep
    (if key = 0x5354 then s.warmStart (if r = 0 then 1 else 7) else s.pageErr .pkg .pkg 0x0100 1)) := rfl

/-- With its key START_CTRL.COLD begins a start of kind 2. -/
theorem execStartCold_eq (key : Nat) : execStartCold key s = .next (s.keep
    (if key = 0x5354 then s.beginAs 2 1 0 none else s.pageErr .pkg .pkg 0x0100 1)) := rfl

/-- Without WARM_OK a warm start is forced cold for reason 0. -/
theorem forcedReason_notWarmOk (hwarm : s.on .pkg pkgStartStatWarmOk = false) : s.forcedReason cause = some 0 := by
  simp [State.forcedReason, hwarm]

/-- A warm start that is forced cold begins as kind 3 with its reason. -/
theorem warmStart_forced {r : Nat} (hforced : s.forcedReason cause = some r) :
    s.warmStart cause = s.beginAs 3 cause 0 (some r) := by
  rw [State.warmStart, hforced]

/-- A warm start that nothing forces cold begins as kind 4. -/
theorem warmStart_free (hfree : s.forcedReason cause = none) :
    s.warmStart cause = s.beginAs 4 cause (s.warmRun cause) none := by
  rw [State.warmStart, hfree]

/-- 5 ms after FATAL_SAFE, with no commit running, the package starts warm. -/
theorem execPackageFatalTimeout_due (hfatal : s.on (.wdie d) fatalAt = true)
    (hdue : s.rd (.wdie d) fatalAt + 5 * ms ≤ s.now + 1) (hidle : s.on (.wdie 0) bbxStatLgBusy = false) :
    execPackageFatalTimeout d s = .next (s.keep (s.warmStart 5)) := by
  simp [execPackageFatalTimeout, hfatal, hdue, hidle]

/-! ## The steps of a start (spec 18 R537 to R544) -/

/-- A ready warm start with good training values whose image is found takes it on every die and reaches DONE. -/
theorem packageStart_warm {nor copy : Bool} {chans l : List Nat} {t : State} (hready : s.startReady = true)
    (hkind : s.rd .pkg pkgStartStatKind = 4)
    (hsource : ((List.range s.dies).foldl (State.dramUp true) (s.norFound nor)).bootSource nor = (some (l, copy), t)) :
    s.packageStart nor true chans =
      ((List.range s.dies).foldl (fun (t : State) d => t.otherImage l ((s.rd .pkg modeBefore + 3) % 4) d)
        (t.takeImage 0 l copy ((s.rd .pkg modeBefore + 3) % 4))).startDone := by
  simp [State.packageStart, hready, hkind, hsource]

/-- A ready warm start whose training values fail their check begins again cold, for reason 2. -/
theorem packageStart_untrained {nor : Bool} {chans : List Nat} (hready : s.startReady = true)
    (hkind : s.rd .pkg pkgStartStatKind = 4) :
    s.packageStart nor false chans = s.beginAs 3 (s.rd .pkg pkgStartStatCause) 0 (some 2) := by
  simp [State.packageStart, hready, hkind]

/-- RUN_S after DONE with no new start WARM_RUN is cleared. -/
theorem execWarmRunExpiry_due (hdone : s.on .pkg pkgStartStatDone = true)
    (hdue : s.rd .pkg startDoneAt + max 1 (s.rd .pkg pkgWarmRunCfgRunS) * sec ≤ s.now + 1) :
    execWarmRunExpiry s = .next (s.keepStores (s.wr .pkg pkgStartStatWarmRun 0)) := by
  rw [execWarmRunExpiry, hdone, decide_eq_true hdue, Bool.and_self, if_pos rfl, storeless_next]

/-- A die without a crystal 50 ms after the start fails it at step 2. -/
theorem stepTimeout_noCrystal (hstarting : s.on .pkg pkgStartStatDone = false)
    (hcrystal : s.on (.wdie d) clkWSrcStatXtalReady = false) (hdue : s.rd .pkg startAt + 50 * ms ≤ s.now) :
    s.stepTimeout d 2 = s.startFailed 2 d 0 := by
  simp [State.stepTimeout, hstarting, hcrystal, hdue]

/-- A PLL that has not locked is tried again while fewer than three restarts were made. -/
theorem stepTimeout_pllAgain (hstarting : s.on .pkg pkgStartStatDone = false)
    (hcrystal : s.on (.wdie d) clkWSrcStatXtalReady = true) (hunlocked : s.on (.wdie d) clkWSrcStatPllLock = false)
    (hleft : s.rd .pkg (pllTries d) < 3) :
    s.stepTimeout d 3 = s.wr .pkg (pllTries d) (s.rd .pkg (pllTries d) + 1) := by
  simp [State.stepTimeout, hstarting, hcrystal, hunlocked, hleft]

end Begins

/-- Settles O44: each cause by the start that it begins, each step by the branch that its conditions select. -/
theorem packageStarts : Obligations.PackageStarts := by
  unfold Obligations.PackageStarts
  refine ⟨?warmHost, ?warmCore, ?cold, ?badKey, ?outside, ?fatal, ?forced, ?warm, ?done, ?untrained, ?expiry, ?crystal,
    ?pll, ?coord⟩
  case warmHost => exact fun _ => rfl
  case warmCore =>
    intro r s hr
    rw [exec_startWarm, execStartWarm_eq, if_pos rfl, if_neg hr]
  case cold => exact fun _ => rfl
  case badKey =>
    intro r key s hkey
    rw [exec_startWarm, execStartWarm_eq, if_neg hkey, exec_startCold, execStartCold_eq, if_neg hkey]
    exact ⟨rfl, rfl⟩
  case outside => exact fun _ => ⟨rfl, rfl, rfl⟩
  case fatal => exact fun _ _ hfatal hdue hidle => execPackageFatalTimeout_due hfatal hdue hidle
  case forced => exact fun _ _ hwarm => warmStart_forced (forcedReason_notWarmOk hwarm)
  case warm => exact fun _ _ hfree => warmStart_free hfree
  case done =>
    intro nor chans l copy s t m hready hkind hsource
    rw [exec_packageStartDone, execPackageStartDone, packageStart_warm hready hkind hsource, keeping_next]
  case untrained =>
    intro nor chans s hready hkind
    rw [exec_packageStartDone, execPackageStartDone, packageStart_untrained hready hkind, keeping_next]
  case expiry => exact fun _ hdone hdue => execWarmRunExpiry_due hdone hdue
  case crystal =>
    intro d s hstarting hcrystal hdue
    rw [exec_startStepTimeout, execStartStepTimeout, stepTimeout_noCrystal hstarting hcrystal hdue, storeless_next]
  case pll =>
    intro d s hstarting hcrystal hunlocked hleft
    rw [exec_startStepTimeout, execStartStepTimeout, stepTimeout_pllAgain hstarting hcrystal hunlocked hleft,
      storeless_next]
  case coord =>
    intro d r xyz tray s hopen
    rw [exec_torusCoordWrite, execTorusCoordWrite, if_neg (ne_true_of_eq_false hopen), storeless_next]

end Sys2Proof.Proofs.Starts
end

section
/-! Words of the command table (O47). -/

namespace Sys2Proof.Proofs.Words

open Sys2Proof Sys2Proof.Machine

/-- No row of the table has bits, so no word spells a command. -/
theorem decodeTableWord_eq_none (nbits w : Nat) : decodeTableWord nbits w = none := rfl

/-- Settles O47: a word that spells no command is not placed for the next step. -/
theorem noWord : Obligations.NoWord := by
  unfold Obligations.NoWord
  refine ⟨decodeTableWord_eq_none, ?placed⟩
  case placed =>
    intro s nbits w
    rw [State.withFetchWord, decodeTableWord_eq_none]

end Sys2Proof.Proofs.Words
end
